-- ==== Sys2Proof/Word.lean ====
section
/-! DEFINITION. The word types of the OZ1600 model: a register is 32 bits (R30), memory is addressed by bytes. -/

namespace Sys2Proof

/-- A register of a page: every register is 32 bits wide (00_scope, R36). -/
abbrev Word := BitVec 32

/-- What a write of up to eight bytes carries, the byte at its address lowest (R36). -/
abbrev Word64 := BitVec 64

/-- A byte of SRAM, DRAM, NOR or the one-time row. -/
abbrev Byte := BitVec 8

end Sys2Proof
end

