-- ==== Sys2Proof/Machine/SMap.lean ====
section
/-! DEFINITION. Sparse maps from numbers, as lists of pairs in one canonical form: keys strictly rising, no entry equal to
what an unlisted key reads as.  Memories, register cells and every numbered collection of the machine are such maps. -/

namespace Sys2Proof.Machine

/-- A sparse map: what an unlisted key reads as is the `dflt` given to each operation. -/
abbrev SMap (α : Type) := List (Nat × α)

/-- The value at key `i`. -/
def SMap.get {α : Type} (dflt : α) : SMap α → Nat → α
  | [], _ => dflt
  | (k, v) :: m, i => if k = i then v else SMap.get dflt m i

/-- The map without key `i`. -/
def SMap.del {α : Type} : SMap α → Nat → SMap α
  | [], _ => []
  | (k, v) :: m, i => if k = i then SMap.del m i else (k, v) :: SMap.del m i

/-- `(i, x)` put in its place among rising keys. -/
def SMap.ins {α : Type} : SMap α → Nat → α → SMap α
  | [], i, x => [(i, x)]
  | (k, v) :: m, i, x => if i < k then (i, x) :: (k, v) :: m else (k, v) :: SMap.ins m i x

/-- The map with key `i` holding `x`; a value equal to `dflt` is not listed. -/
def SMap.put {α : Type} [DecidableEq α] (dflt : α) (m : SMap α) (i : Nat) (x : α) : SMap α :=
  if x = dflt then SMap.del m i else SMap.ins (SMap.del m i) i x

/-- The keys rise strictly above `lo`, and no value is `dflt`. -/
def SMap.wfFrom {α : Type} [DecidableEq α] (dflt : α) : Nat → SMap α → Bool
  | _, [] => true
  | lo, (k, v) :: m => decide (lo ≤ k) && decide (v ≠ dflt) && SMap.wfFrom dflt (k + 1) m

/-- The canonical form. -/
def SMap.wf {α : Type} [DecidableEq α] (dflt : α) (m : SMap α) : Bool := SMap.wfFrom dflt 0 m

/-- The value at `i` changed by `f`. -/
def SMap.upd {α : Type} [DecidableEq α] (dflt : α) (m : SMap α) (i : Nat) (f : α → α) : SMap α :=
  SMap.put dflt m i (f (SMap.get dflt m i))

/-- The listed value at `i`, if one is listed. -/
def SMap.find {α : Type} : SMap α → Nat → Option α
  | [], _ => none
  | (k, v) :: m, i => if k = i then some v else SMap.find m i

/-- The map with `x` listed at `i`, whatever it is (for maps whose entries exist or do not). -/
def SMap.set {α : Type} (m : SMap α) (i : Nat) (x : α) : SMap α := SMap.ins (SMap.del m i) i x

/-- The listed value at `i` changed by `f`; nothing where none is listed. -/
def SMap.modify {α : Type} : SMap α → Nat → (α → α) → SMap α
  | [], _, _ => []
  | (k, v) :: m, i, f => (if k = i then (k, f v) else (k, v)) :: SMap.modify m i f

/-- Every listed value changed by `f`. -/
def SMap.mapVals {α : Type} (m : SMap α) (f : Nat → α → α) : SMap α := m.map (fun e => (e.1, f e.1 e.2))

/-- The entries whose value satisfies `p`. -/
def SMap.keep {α : Type} (m : SMap α) (p : Nat → α → Bool) : SMap α := m.filter (fun e => p e.1 e.2)

/-- How many entries satisfy `p`. -/
def SMap.count {α : Type} (m : SMap α) (p : Nat → α → Bool) : Nat := (SMap.keep m p).length

/-- The lowest number not listed, counting up from `i` with fuel `n`. -/
def SMap.fresh {α : Type} (m : SMap α) : Nat → Nat → Nat
  | 0, i => i
  | n + 1, i => if (SMap.find m i).isSome then SMap.fresh m n (i + 1) else i

end Sys2Proof.Machine
end

