-- ==== Sys2Proof/Machine/StateDram.lean ====
section
/-! DEFINITION. State of the DRAM controller: four channels of two subchannels (R374 to R395). -/

namespace Sys2Proof.Machine

/-- What a DRAM read is for, which decides what its consumer does with poisoned data (R380). -/
inductive DramUse where
  | plain
  /-- Read data of a command on its way to the host. -/
  | hostRead (ctx : Nat)
  /-- Write data of a command awaiting CRYP. -/
  | hostWrite (ctx : Nat)
  /-- A data slot of a staging area. -/
  | slot (area slot : Nat)
  /-- An accumulator of a staging area: P, or Q. -/
  | accum (area : Nat) (q : Bool)
  /-- A received codeword of a die operation. -/
  | codeword (tag : Nat)
  /-- A source of a parity job. -/
  | parity (job : Nat)
  /-- A firmware table, and whether the firmware can rebuild it. -/
  | table (rebuildable : Bool)
  /-- Data being saved to the vault. -/
  | vault
  /-- Ledger data of an audit pass. -/
  | audit
  deriving DecidableEq, Repr

/-- A request waiting in a subchannel (R383, R384).  A write waits in the write queue after its acknowledgement. -/
structure DramReq where
  port    : Nat
  write   : Bool
  /-- Address less 0x80_0000_0000. -/
  addr    : Nat
  len     : Nat
  arrived : Nat
  use     : DramUse
  deriving DecidableEq, Repr

/-- One bank of one rank of one subchannel (R385, R386). -/
structure DramBank where
  openRow   : Option Nat
  /-- The page counter, 0 to 3. -/
  ctr       : Nat
  /-- Refresh intervals postponed. -/
  postponed : Nat
  deriving DecidableEq, Repr

/-- A bank at reset: no row open, page counter 2 (R385). -/
def DramBank.reset : DramBank := { openRow := none, ctr := 2, postponed := 0 }

/-- The states of a channel (R395). -/
inductive DramState where
  | off | training | running | pause | copying | selfRefresh
  deriving DecidableEq, Repr

/-- The counts of one port on one channel (R394, R396). -/
structure DramPort where
  issued : Word
  done   : Word
  opened : Word
  latMax : Nat
  late   : Word
  deriving DecidableEq, Repr

def DramPort.reset : DramPort := { issued := 0, done := 0, opened := 0, latMax := 0, late := 0 }

/-- A retirement that runs (R392). -/
structure Retirement where
  rank    : Nat
  cause   : Nat
  started : Nat
  /-- The firmware has moved its tables below half of the installed size. -/
  moved   : Bool
  /-- Bursts copied so far, and those copied poisoned. -/
  copied   : Nat
  poisoned : Nat
  deriving DecidableEq, Repr

/-- One channel. -/
structure Chan where
  st        : DramState
  /-- Bit *r*: rank *r* retired. -/
  retired   : Nat
  usableGiB : Nat
  /-- The rank that answers the lower half of DRAM. -/
  lowRank   : Nat
  reqs      : List DramReq
  /-- A write queue that reached 48 entries is served first until it holds 16: per subchannel (R383). -/
  draining  : List Bool
  banks     : SMap DramBank
  /-- Hottest MR4 code of each subchannel × 2 + rank. -/
  temp      : List Nat
  /-- Refresh doubled, per rank; and the polls in a row at 1×. -/
  dbl       : List Bool
  calm      : List Nat
  /-- Corrected bursts this clock hour, per subchannel × 2 + rank. -/
  rankCe    : List Nat
  /-- Clock hour the counts belong to. -/
  ceHour    : Nat
  /-- Burst addresses the scrub found uncorrectable before. -/
  ueSeen    : List Nat
  /-- The next burst of the scrub, and whether this pass has reported one. -/
  scrubPos  : Nat
  scrubTold : Bool
  scrubPasses : Nat
  /-- Training failures in a row, per rank. -/
  trainFails : List Nat
  /-- The subchannel in a pause, and its step. -/
  paused    : Option Nat
  /-- Drift since the last training, ps, per subchannel. -/
  drift     : List Nat
  ports     : SMap DramPort
  /-- The error capture takes the next error (R397). -/
  armed     : Bool
  pauseMax  : Nat
  retiring  : Option Retirement
  /-- A rank that meets the retirement condition and has not started to retire, and its cause (R391, R398 event 0x06). -/
  cond      : Option (Nat × Nat)
  deriving DecidableEq, Repr

/-- A channel at reset: OFF, nothing configured (R395). -/
def Chan.reset : Chan :=
  { st := .off, retired := 0, usableGiB := 0, lowRank := 0, reqs := [], draining := [false, false], banks := [],
    temp := [0, 0, 0, 0], dbl := [false, false], calm := [0, 0], rankCe := [0, 0, 0, 0], ceHour := 0, ueSeen := [],
    scrubPos := 0, scrubTold := false, scrubPasses := 0, trainFails := [0, 0], paused := none, drift := [0, 0],
    ports := [], armed := true, pauseMax := 0, retiring := none, cond := none }

/-- The controller: its four channels by number, and the bursts stored poisoned (R379), by address ÷ 64. -/
structure Dram where
  ch     : SMap Chan
  poison : List Nat
  deriving DecidableEq, Repr

def Dram.reset : Dram := { ch := [], poison := [] }

end Sys2Proof.Machine
end

