-- ==== Sys2Proof/Types.lean ====
section
/-! DEFINITION. The names the commands carry: modes, classes, results, statuses and the facts an outside agent reports. -/

namespace Sys2Proof.Machine

/-- The operating modes (R19). -/
inductive Mode where
  | recovery | standalone | partitioned | service | peerStandby | dormant
  deriving DecidableEq, Repr

/-- The code of a mode (R19). -/
def Mode.code : Mode → Nat
  | .recovery => 0 | .standalone => 1 | .partitioned => 2 | .service => 3 | .peerStandby => 4 | .dormant => 5

/-- How an event reaches the recorder (R512). -/
inductive OfferKind where
  /-- A flag set by its source, forwarded where its enable is 1. -/
  | flag
  /-- Recorded by the firmware directly. -/
  | direct
  /-- Presented at start-up or wake with the stamp of its arising. -/
  | deferred
  deriving DecidableEq, Repr

/-- A record's time stamp, from the daisy island's counters (R511). -/
structure Stamp where
  seconds : Nat
  hours   : Nat
  cycles  : Nat
  deriving DecidableEq, Repr

/-- A serial link of the part: a sled port (R178), or a lane of the peer link. -/
inductive LinkId where
  | port (n : Nat)
  | lane (n : Nat)
  deriving DecidableEq, Repr

/-- A packet on a link (R188, R189): its HEAD fields and what its body holds.  `len` counts the BODY flits. -/
structure Pkt where
  typ  : Nat
  vc   : Nat
  len  : Nat
  /-- Byte 4 of the HEAD flit: an operation, where the type has one. -/
  op   : Nat
  /-- TAG or transaction identifier. -/
  tag  : Nat
  /-- SEQ of a burst, RESP of a management packet, attempt of a BURST_NAK. -/
  seq  : Nat
  /-- Further fields in the order of the packet's table. -/
  args : List Nat
  data : List Byte
  deriving DecidableEq, Repr

/-- What a COMPLETION tells of the die's array (R192): the time it took in µs, the result of its last operation (byte 10), and the bursts
sent (byte 11). -/
structure ArrayReport where
  us     : Nat
  last   : Nat
  bursts : Nat
  deriving DecidableEq, Repr

/-- A write of PORT_CTRL.RETRAIN: its master, and whether QUIESCE is written with it (R215). -/
structure RetrainWrite where
  master  : Nat
  quiesce : Bool
  deriving DecidableEq, Repr

/-- What a receiver finds in one received codeword (R180 to R182): the outcome of the RS decode and of the header bits, and
the 640 frame bytes. -/
structure RxFrame where
  rsOk      : Bool
  corrected : Nat
  headersOk : Bool
  bytes     : List Byte
  deriving DecidableEq, Repr

/-- What an MR4 read of a rank reports, hottest device first (R387): a rate of 1×, one within the 2× range, one beyond it, a reserved code, or
nothing. -/
inductive Mr4 where
  | single (code : Nat) | double (code : Nat) | beyond (code : Nat) | reserved (code : Nat) | unread
  deriving DecidableEq, Repr

/-- A capability record (R206, R242). -/
structure Cap where
  verMax : Nat
  verMin : Nat
  plc    : Bool
  features : Nat
  serial : Nat
  owner  : Nat
  dies   : Nat
  token  : Nat
  deriving DecidableEq, Repr

/-- Geometry of a die as its bridge reports it (R133): bits per cell, planes, bytes of a physical page, paired pages, word lines, blocks. -/
structure Geom where
  bits   : Nat
  planes : Nat
  page   : Nat
  paired : Nat
  wls    : Nat
  blocks : Nat
  deriving DecidableEq, Repr

/-- What flash answers to the reads of recovery, and how long it took. -/
structure Readout where
  /-- Journal pages that decode in one of their copies, from the first on. -/
  pages  : Nat
  /-- Segments of the image that do not decode: row, member. -/
  segs   : List (Nat × Nat)
  /-- Confirmed units that cannot be read, and unconfirmed units whose read-back is bad: zone, row, slot. -/
  unread : List (Nat × Nat × Nat)
  bad    : List (Nat × Nat × Nat)
  ms     : Nat
  deriving DecidableEq, Repr

/-- What a configuration write does. -/
inductive ConfigOp where
  /-- VF Enable with NumVFs; 0 disables every VF. -/
  | vfEnable (n : Nat)
  /-- D3hot or D0 of a function. -/
  | dState (fn : Nat) (d3 : Bool)
  | ats (fn : Nat) (on : Bool)
  | maskFn (fn : Nat) (on : Bool)
  /-- The vector mask of the MSI-X table. -/
  | maskVec (fn vec : Nat)
  /-- The link follows the host's power management: `LINK_STAT.LSTATE` 2 to 7. -/
  | linkState (l : Nat)
  deriving DecidableEq, Repr

/-- How a NOR operation ends (R462). -/
inductive NorEnd where
  | done | dieError | timeout
  deriving DecidableEq, Repr

end Sys2Proof.Machine
end

