-- ==== Sys2Proof/Machine/StateZone.lean ====
section
/-! DEFINITION. State of namespaces, zones, stripe groups and staging areas (R52 to R88). -/

namespace Sys2Proof.Machine

/-- The zone states (R56). -/
inductive ZoneState where
  | empty | implicitlyOpened | explicitlyOpened | closed | readOnly | full | offline
  deriving DecidableEq, Repr

/-- The code of a zone state (`ZONE_STATE.STATE`). -/
def ZoneState.code : ZoneState → Nat
  | .empty => 1 | .implicitlyOpened => 2 | .explicitlyOpened => 3 | .closed => 4 | .readOnly => 0xD | .full => 0xE | .offline => 0xF

/-- A zone is active while it is opened or Closed (R56). -/
def ZoneState.active : ZoneState → Bool
  | .implicitlyOpened | .explicitlyOpened | .closed => true
  | _ => false

/-- The actions of Zone Management Send (R57, R76). -/
inductive ZAction where
  | open_ | close | finish | reset | offline | setExt
  deriving DecidableEq, Repr

/-- A command that has reached ZONE and is neither committed nor abandoned, or an action that waits behind such commands. -/
inductive ZCmd where
  /-- A Write, Zone Append or Write Zeroes (R63, R64): its context, its start where it was accepted, its length in LBAs, the
  LBAs staged so far, whether it is an append, whether it has spilled (R67), and the PSN its last byte was mirrored under. -/
  | write (ctx start len staged : Nat) (append spilled : Bool) (psn : Option Nat)
  | action (ctx : Nat) (a : ZAction)
  deriving DecidableEq, Repr

/-- A stripe group: its die position, the block on each sled (0x1FFF unassigned, R83), and the sleds whose member counts as
missing for this group alone (R75, R171). -/
structure Group where
  pos    : Nat
  blocks : SMap Nat
  missing : List Nat
  deriving DecidableEq, Repr

/-- One zone. -/
structure Zone where
  st    : ZoneState
  gen   : Nat
  wp    : Nat
  /-- The staging pointer (R63). -/
  sptr  : Nat
  zdev  : Bool
  zfc   : Bool
  ext   : List Byte
  /-- The bound placement record (R77, R79). -/
  cls   : Nat
  heat  : Nat
  life  : Nat
  pace  : Nat
  dieset : Option Nat
  groups : List Group
  /-- The first staging area held. -/
  area   : Option Nat
  /-- The slice that activated it. -/
  slice  : Option Nat
  /-- The commands and actions that have reached ZONE, in order. -/
  cmds   : List ZCmd
  /-- The next data unit to program, counted over the zone (the physical pointer, R85). -/
  phys   : Nat
  /-- Units named by LOSTROW records: ROWSEQ and member (R113). -/
  lost   : List (Nat × Nat)
  /-- Device time at which it became Full (R165). -/
  fullAt : Nat
  /-- A stripe group is waited for: the position whose erases were brought forward (R83). -/
  waiting : Option Nat
  /-- It becomes Read Only once its row is padded and P and Q are programmed: the sled and the row whose program could not be replaced (R75). -/
  failing : Option (Nat × Nat)
  deriving DecidableEq, Repr

/-- A zone that has never left Empty. -/
def Zone.fresh : Zone :=
  { st := .empty, gen := 0, wp := 0, sptr := 0, zdev := false, zfc := false, ext := [], cls := 0, heat := 0, life := 0, pace := 0,
    dieset := none, groups := [], area := none, slice := none, cmds := [], phys := 0, lost := [], fullAt := 0, waiting := none, failing := none }

/-- The states of a staging area (R86). -/
inductive AreaState where
  | free | filling | programming | draining
  deriving DecidableEq, Repr

/-- A staging area with its descriptor (R85). -/
structure Area where
  st    : AreaState
  zone  : Nat
  gen   : Nat
  /-- A pair of areas (PLC). -/
  pair  : Bool
  /-- LBAs in the data slot, and the data unit it holds, counted over the zone. -/
  fill  : Nat
  unit  : Nat
  /-- The slot's unit has been folded, and its program is in flight. -/
  folded : Bool
  /-- The row the accumulators hold, and the data units folded into them. -/
  accRow : Option Nat
  accN   : Nat
  /-- Members of the row whose program is in flight or unconfirmed. -/
  flight : List Nat
  /-- A unit of the row on a missing member has been folded (R268). -/
  degraded : Bool
  /-- The slot's fold waits on PRTY. -/
  queued : Bool
  /-- The metadata of the slot's LBAs, where their format has any. -/
  metas : SMap (List Byte)
  /-- P and Q confirmed for `accRow`. -/
  pOk    : Bool
  qOk    : Bool
  /-- Reads that hold the data slot (R71). -/
  holds  : Nat
  /-- The slice it is charged to, a lending base slice included; none for the device pool. -/
  charge : Option Nat
  /-- The port whose PF borrowed it (R347). -/
  pf     : Option Nat
  deriving DecidableEq, Repr

def Area.reset : Area :=
  { st := .free, zone := 0, gen := 0, pair := false, fill := 0, unit := 0, folded := false, accRow := none, accN := 0, flight := [],
    degraded := false, queued := false, metas := [], pOk := false, qOk := false, holds := 0, charge := none, pf := none }

/-- A namespace (R52, R303, R403). -/
structure Ns where
  /-- Data sleds: 14, 10 or 6. -/
  d       : Nat
  /-- The member sleds, in the order of their member numbers (R220). -/
  members : List Nat
  plc     : Bool
  /-- Stripe groups per zone: 1, 2 or 4. -/
  groups  : Nat
  /-- Metadata bytes: 0, 8 or 64. -/
  meta_   : Nat
  /-- End-to-end protection type 0 to 3, and guard bits. -/
  pi      : Nat
  guard   : Nat
  zones   : Nat
  slot    : Nat
  /-- Controllers it is attached to, as port × 256 + function. -/
  attached : List Nat
  /-- The redundancy condition last reported: members missing, at most 3 (R27). -/
  cond    : Nat
  /-- Members under rebuild for this namespace (R28), by sled. -/
  rebuild : List Nat
  /-- The position cursor of each class (R82); 255 where unlisted. -/
  cursors : SMap Nat
  deriving DecidableEq, Repr

structure ZoneS where
  nss   : SMap Ns
  zones : SMap Zone
  areas : SMap Area
  /-- The sleds that new namespaces may use (R22): those healthy when blank start-up formatted, or those that the last layout change named;
  none while neither has fixed the set: then any adopted sled may be used (DESIGN CHOICE, log entry 63). -/
  usable : Option (List Nat)
  /-- Blank start-up has adopted sleds and waits for their answers (R25). -/
  blankOn : Bool
  deriving DecidableEq, Repr

def ZoneS.reset : ZoneS := { nss := [], zones := [], areas := [], usable := none, blankOn := false }

end Sys2Proof.Machine
end

