-- ==== Sys2Proof/Machine/StateMedia.lean ====
section
/-! DEFINITION. State of the flash media engine and of the deadline scheduler: dies, blocks, open die operations (R133 to R173);
die queues, sub-requests, reconstructions, credits and paced streams (R92 to R129).

Numbers that name a place: a die is sled × 256 + position; a block is die × 2,048 + index; a zone is NSID × 2^24 + zone index;
an open operation is port × 65,536 + TAG. -/

namespace Sys2Proof.Machine

/-- The states of a block (R160). -/
inductive BlockState where
  | erased | allocated | queued | erasing | uncertain | vault | retired | factoryBad
  deriving DecidableEq, Repr

/-- The code of a block state (`BLK_INFO.STATE`). -/
def BlockState.code : BlockState → Nat
  | .erased => 0 | .allocated => 1 | .queued => 2 | .erasing => 3 | .uncertain => 4 | .vault => 5 | .retired => 6 | .factoryBad => 7

/-- One physical block: state, mode, wear and the tracker's part of it (R136, R152, R156, R160, R162). -/
structure Block where
  st     : BlockState
  slc    : Bool
  erases : Nat
  attempts : Nat
  /-- Reads issued to the block and still open: the read pins of its group, kept member by member (R162; DEDUCED, log entry 74). -/
  pins   : Nat
  /-- The shift index of each word-line group, 0 to 7 (R152). -/
  shift  : List Nat
  /-- Bit *g*: index + 1 is tried on group *g*'s next sampling read (R152). -/
  trial  : Nat
  /-- Senses since the last erase (R156). -/
  reads  : Nat
  /-- Its program failed or timed out: it is retired when it is released (R160). -/
  bad    : Bool
  /-- Word lines confirmed (R141). -/
  confirmed : Nat
  /-- Device time at which it last became ERASED (R83). -/
  erasedAt : Nat
  deriving DecidableEq, Repr

/-- A block as adoption leaves it: UNCERTAIN, erase count 0, attempts 0 (R160). -/
def Block.fresh : Block :=
  { st := .uncertain, slc := false, erases := 0, attempts := 0, pins := 0, shift := [0, 0, 0, 0, 0, 0, 0, 0], trial := 0, reads := 0,
    bad := false, confirmed := 0, erasedAt := 0 }

/-- What a die operation is for. -/
inductive DieUse where
  /-- The direct read of a sub-request (R94). -/
  | sub (id : Nat)
  /-- A member read of a reconstruction, for member `m` of the row (R102). -/
  | member (recon m : Nat)
  /-- A sampling read of a word-line group, at its index or at index + 1 (R153). -/
  | sample (group : Nat) (next : Bool)
  /-- The expert raw read (R176). -/
  | raw
  /-- One of the twelve reads of the erased-state check (R161). -/
  | check
  /-- A read-back of an unconfirmed word line (R159). -/
  | readBack
  /-- A word-line read of a copy: member replacement, migration or rebuild. -/
  | copyRead (job wl : Nat)
  /-- The program of unit `m` of a zone's row; `m` = D for P and D + 1 for Q. -/
  | unit (zone row m : Nat)
  /-- The program of a copy's word line. -/
  | copyProg (job wl : Nat)
  /-- The program of a row's unit by the running rebuild. -/
  | rebuildProg (zone row : Nat)
  /-- A program of a vault row or of a seal, by row and member (R272). -/
  | vaultRow (row m : Nat)
  | erase
  | suspend
  | resume
  | status
  deriving DecidableEq, Repr

/-- A descriptor (R137), with what it is for. -/
structure Desc where
  op     : Nat
  sled   : Nat
  pos    : Nat
  block  : Nat
  slc    : Bool
  wl     : Nat
  page   : Nat
  planes : Nat
  senses : Nat
  shift  : Nat
  cwmask : Nat
  deadline : Nat
  tag    : Nat
  gen    : Nat
  use    : DieUse
  deriving DecidableEq, Repr

/-- What the decoder finds in one codeword (R148, R150): whether every check is satisfied, the bits corrected or the checks left
unsatisfied, the 16 bytes of the stamp, and the 4,096 data bytes with 64 metadata bytes. -/
structure CwRes where
  good  : Bool
  corrected : Nat
  unsat : Nat
  stamp : List Byte
  body  : List Byte
  deriving DecidableEq, Repr

/-- Where an open operation stands. -/
inductive OpPhase where
  /-- Sent; no COMPLETION yet. -/
  | sent
  /-- Its COMPLETION is held back for NAKed bursts (R200). -/
  | held
  /-- Its data is being decoded, hard or waiting for or in a soft slot (R148, R149). -/
  | decoding | softWait | softDecoding
  /-- Its next ladder step waits until its die, which has resumed a suspended operation meanwhile, can take it (R140, R154; DEDUCED, log entry
  78). -/
  | stepWait
  deriving DecidableEq, Repr

/-- An open operation (R173, R192). -/
structure OpenOp where
  d       : Desc
  phase   : OpPhase
  issued  : Nat
  /-- Running time so far in µs, suspended time excluded, at the last suspension (R145). -/
  ran     : Nat
  startedAt : Nat
  /-- The ladder step; the vectors of the READ steps run, each with the unsatisfied checks of its codewords; and the group's index when the
  ladder began (R154). -/
  step    : Nat
  tried   : List (Nat × SMap Nat)
  index0  : Nat
  /-- Codewords received good, and those whose burst failed three times (R200). -/
  cwGot   : Nat
  cwLost  : Nat
  /-- Bursts NAKed and not yet good or failed three times (R200). -/
  naks    : Nat
  /-- Codewords decoded good so far, by their bit of CWMASK. -/
  data    : SMap (List Byte)
  /-- Largest zero-bit count of a page it has returned (R161, R176). -/
  zeros   : Nat
  /-- RESULT, DIE_STATE and array time in µs of a COMPLETION held back. -/
  result  : Nat
  dieState : Nat
  arrayUs : Nat
  /-- Its SCHD timeout has started a forced reconstruction (R112). -/
  timedOut : Bool
  /-- When its COMMAND was transmitted, or queued while it has not been (R231). -/
  txAt     : Nat
  /-- Its deadline in full, and when its queued item was enqueued (R106, R161). -/
  due      : Nat
  queuedAt : Nat
  deriving DecidableEq, Repr

/-- The states of a die in SCHD (R99). -/
inductive DieState where
  | idle | reading | programming | erasing | suspending | progSuspended | eraseSuspended | resuming | offline
  deriving DecidableEq, Repr

def DieState.code : DieState → Nat
  | .idle => 0 | .reading => 1 | .programming => 2 | .erasing => 3 | .suspending => 4 | .progSuspended => 5
  | .eraseSuspended => 6 | .resuming => 7 | .offline => 8

/-- The kinds of a queued item (R96). -/
inductive ItemKind where
  | read | program | erase
  deriving DecidableEq, Repr

/-- An item of a die queue (R96). -/
structure QItem where
  kind  : ItemKind
  deadline : Nat
  /-- Admission or enqueue order, and the device time of it. -/
  seq   : Nat
  queuedAt : Nat
  epoch : Word
  urgent : Bool
  d     : Desc
  /-- SUSPEND was chosen for it (R101). -/
  suspends : Bool
  deriving DecidableEq, Repr

/-- What STATUS is awaited for (R144, R214). -/
inductive StatusWait where
  | none
  /-- After a SUSPEND or RESUME that did not answer. -/
  | suspend | resume
  /-- After reconciliation, until the die reports idle. -/
  | poll
  deriving DecidableEq, Repr

/-- One die: its SCHD state and queue (R96, R99), and MEDI's view of its health (R134, R169, R171). -/
structure Die where
  st     : DieState
  queue  : List QItem
  psusp  : Nat
  esusp  : Nat
  /-- The running program or erase, by open operation. -/
  running : Option Nat
  /-- The running erase is urgent. -/
  urgent : Bool
  startAt : Nat
  lastResume : Nat
  suspendedAt : Nat
  /-- The hold time of its suspension is over: it resumes once no read senses, and issues no further one (R99). -/
  holdUp : Bool
  wait   : StatusWait
  faultRun : Nat
  retired  : Bool
  /-- Factory-bad blocks that GEOM reported. -/
  factoryBad : List Nat
  geomRead : Bool
  /-- Its retirement has been asked for: by the manager (R171). -/
  retireReq : Bool
  /-- Device time of its last COMPLETION (R231), and what that said of the die's last array operation and of the bursts sent (R192). -/
  lastComp : Nat
  lastResult : Nat
  lastBursts : Nat
  /-- The die's vector table: 64 vectors, each with one signed offset for each read level, as the bridge supplied it or built in; none until
  the die has reported its geometry (R151). -/
  vectors : List (List Int)
  lowTold : Bool
  outTold : Bool
  deriving DecidableEq, Repr

def Die.reset : Die :=
  { st := .offline, queue := [], psusp := 0, esusp := 0, running := none, urgent := false, startAt := 0, lastResume := 0,
    suspendedAt := 0, holdUp := false, wait := .none, faultRun := 0, retired := false, factoryBad := [], geomRead := false, retireReq := false, lastComp := 0, lastResult := 0, lastBursts := 0, vectors := [],
    lowTold := false, outTold := false }

/-- What MEDI keeps of an adopted sled (R133, R160). -/
structure SledMedia where
  adopted : Bool
  /-- Its geometry matches one column of R133. -/
  valid   : Bool
  plc     : Bool
  ms5     : Bool
  deriving DecidableEq, Repr

def SledMedia.reset : SledMedia := { adopted := false, valid := false, plc := false, ms5 := false }

/-- What a copy of a block is made for. -/
inductive CopyKind where
  /-- A member replacement after a failed program (R74), or after a failed read-back (R159). -/
  | replace (failed : Bool)
  /-- A migration for wear (R165), or for read count (R156). -/
  | migrate (disturb : Bool)
  deriving DecidableEq, Repr

/-- A copy of one member block to another block of the same die (R74, R166). -/
structure CopyJob where
  kind  : CopyKind
  zone  : Nat
  group : Nat
  sled  : Nat
  pos   : Nat
  src   : Nat
  dst   : Nat
  /-- The word line to copy next, and how many there are. -/
  next  : Nat
  total : Nat
  /-- The row and unit whose program failed, reprogrammed at the end. -/
  unit  : Option (Nat × Nat)
  /-- The word line in hand, codeword by codeword: 4 × (4 × page + plane) + codeword.  A good read's stamp is the one that the zone map
  expects (R72), so that it is formed again unchanged. -/
  buf   : SMap (List Byte)
  deriving DecidableEq, Repr

/-- A read-back of an unconfirmed word line and of the one below (R159): pages still to decode, whether all were good, and the
program it resolves. -/
structure ReadBack where
  left  : Nat
  good  : Bool
  wl    : Nat
  use   : DieUse
  deriving DecidableEq, Repr

/-- An erased-state check under way (R161): pages read, the largest zero count, and the deadline of the erase. -/
structure EraseCheck where
  pages : Nat
  worst : Nat
  deadline : Nat
  deriving DecidableEq, Repr

/-- The raw read port (R176). -/
structure RawRead where
  busy  : Bool
  /-- DECODE as it stood at GO. -/
  decode : Bool
  done  : Bool
  indet : Bool
  fail  : Bool
  result : Nat
  zeros  : Nat
  data   : List Byte
  master : Nat
  deriving DecidableEq, Repr

def RawRead.reset : RawRead :=
  { busy := false, decode := false, done := false, indet := false, fail := false, result := 0, zeros := 0, data := [], master := 0 }

structure Media where
  sleds  : SMap SledMedia
  /-- Blocks that have changed since their sled's adoption; the others are as adoption leaves them. -/
  blocks : SMap Block
  dies   : SMap Die
  ops    : SMap OpenOp
  /-- Next TAG of each port. -/
  tags   : SMap Nat
  /-- Copies under way, and the number of the next one: no two copies ever share a number. -/
  copies : SMap CopyJob
  nextCopy : Nat
  raw    : RawRead
  /-- Erased-state checks under way, by block. -/
  checks : SMap EraseCheck
  /-- Read-backs under way, by block. -/
  readBacks : SMap ReadBack
  /-- Corrected bits of a sampling read at a group's own index, by block × 8 + group. -/
  samples : SMap Nat
  /-- Runs of blocks whose TRACK record waits for room in the ring, as die × 64 + run (R153, R280). -/
  trackLeft : List Nat
  /-- Blocks whose word line awaits its read-back until their die has reported idle (R159, R214). -/
  unconfirmed : SMap ReadBack
  /-- The sleds, by serial number, whose ADOPT is not answered, with its FORCE: where its link fails first, what came of it shows at the sled's
  next link-up (R208). -/
  cutOff : SMap Bool
  deriving DecidableEq, Repr

def Media.reset : Media :=
  { sleds := [], blocks := [], dies := [], ops := [], tags := [], copies := [], nextCopy := 0, raw := RawRead.reset, checks := [],
    readBacks := [], samples := [], trackLeft := [], unconfirmed := [], cutOff := [] }

/-- The latency classes (R92). -/
inductive Cls where
  | a | b | c
  deriving DecidableEq, Repr

def Cls.code : Cls → Nat
  | .a => 0 | .b => 1 | .c => 2

/-- The class with a code; C for any other. -/
def Cls.ofCode (n : Nat) : Cls := if n = 0 then .a else if n = 1 then .b else .c

/-- The paths of a sub-request (R101). -/
inductive Path where
  | direct | suspend | around | forced
  deriving DecidableEq, Repr

def Path.code : Path → Nat
  | .direct => 0 | .suspend => 1 | .around => 2 | .forced => 3

/-- Who reads: a slice with its generation, or the PF of a port (R10). -/
structure Requester where
  pf    : Bool
  slice : Nat
  gen   : Nat
  deriving DecidableEq, Repr

/-- A read sub-request (R94), or a paced read-ahead (R124). -/
structure Sub where
  /-- The command's context, or none for a read-ahead. -/
  ctx    : Option Nat
  stream : Option Nat
  req    : Requester
  cls    : Cls
  epoch  : Word
  deadline : Nat
  dieDeadline : Nat
  /-- The request generation of its index (R94, R111). -/
  gen    : Nat
  nsid   : Nat
  zone   : Nat
  /-- The zone's generation when it was read. -/
  zgen   : Nat
  row    : Nat
  /-- The data unit within the row. -/
  unit   : Nat
  /-- First codeword offset within the unit, and codewords. -/
  off    : Nat
  count  : Nat
  path   : Path
  hedged : Bool
  /-- Elective read-arounds are no longer considered (R113). -/
  noAround : Bool
  recon  : Option Nat
  /-- Its own read has failed: it can only be had by reconstruction (R112). -/
  ownBad : Bool
  /-- A die operation has been issued for it (R71). -/
  accessed : Bool
  /-- The stripe group it goes on reading after the zone has let it go (R71). -/
  old    : Option Group
  /-- Codewords decoded good so far, by their number within the range. -/
  got    : SMap (List Byte)
  deriving DecidableEq, Repr

/-- Whom a reconstruction serves. -/
inductive ReconFor where
  | sub (id : Nat)
  /-- A copy's word line (R74, R166). -/
  | copy (job wl : Nat)
  /-- A unit of the running rebuild (R234). -/
  | rebuild
  deriving DecidableEq, Repr

/-- A reconstruction under way: a read-around, a forced reconstruction, or one for a copy or rebuild (R107, R112, R226). -/
structure Recon where
  who   : ReconFor
  /-- The pool its credits came from; none where it uses none. -/
  pool  : Option Nat
  /-- The pool that pays for each member read that has not returned, by slot. -/
  paid  : SMap Nat
  nsid  : Nat
  zone  : Nat
  zgen  : Nat
  row   : Nat
  target : Nat
  /-- Units it needs, and the data units folded into the row when its sources were chosen (R229). -/
  need  : Nat
  folded : Nat
  /-- The stripe group it goes on reading after the zone has let it go (R71). -/
  old   : Option Group
  /-- Its job has been accepted (R227); and it has ended with reads outstanding, which are awaited for their credits alone (R107). -/
  begun : Bool
  dead  : Bool
  /-- Members asked, those whose data is good, and those that failed. -/
  asked : List Nat
  good  : List Nat
  bad   : List Nat
  /-- Page reads outstanding of each member asked, and the codewords each has delivered. -/
  wait  : SMap Nat
  got   : SMap (SMap (List Byte))
  gen   : Nat
  cls   : Cls
  req   : Requester
  epoch : Word
  deadline : Nat
  off   : Nat
  count : Nat
  /-- Waiting for pool 65 (R112). -/
  waiting : Bool
  order : Nat
  deriving DecidableEq, Repr

/-- A credit pool (R108, R110). -/
structure Pool where
  share : Nat
  avail : Nat
  held  : Nat
  refused : Word
  deriving DecidableEq, Repr

def Pool.reset : Pool := { share := 0, avail := 0, held := 0, refused := 0 }

/-- The kind of a rebuild (`REBUILD_STAT.KIND`). -/
inductive RebuildKind where
  | replacement | rejoin
  deriving DecidableEq, Repr

/-- A rebuild target (R233, R239). -/
structure Target where
  sled : Nat
  kind : RebuildKind
  deriving DecidableEq, Repr

/-- What is kept of a departed member, to judge a rejoin (R239). -/
structure Departed where
  serial : Nat
  at_    : Nat
  /-- Stripe groups written, reset or allocated while it is missing: zone × 4 + group. -/
  dirty  : List Nat
  /-- Rows whose program was unconfirmed when it was settled (R557): zone, ROWSEQ. -/
  loose : List (Nat × Nat)
  /-- It was a rebuild's target when it left: the units it had received count for nothing (R238). -/
  full : Bool
  deriving DecidableEq, Repr

/-- A paced stream (R120 to R127). -/
structure Stream where
  nsid  : Nat
  zone  : Nat
  req   : Requester
  partn : Nat
  hostPos : Nat
  readPos : Nat
  /-- Declared rate, 100 kB/s units. -/
  declared : Nat
  /-- Bytes served since the last rate update, per 10 ms over the last 100 ms, newest first. -/
  served : List Nat
  /-- Measured rate in bytes a second, target rate in hundredths of a byte a second, and the window in bytes: exact (R123). -/
  measured : Nat
  target : Nat
  window : Nat
  /-- The buffer units it holds: for each run of 16 LBAs of the zone, by LBA ÷ 16, the number of its unit in the pace pool (R122). -/
  held   : SMap Nat
  /-- The pool could not supply a unit. -/
  paused : Bool
  /-- Device time of the last host read that touched it. -/
  touched : Nat
  /-- The blocks buffered, by zone-relative LBA, each with its metadata; their ciphertext is in DRAM (R122). -/
  buf   : SMap (List Byte)
  deriving DecidableEq, Repr

/-- A sequential pattern being detected (R120). -/
structure SeqDetect where
  req   : Requester
  zone  : Nat
  endLba : Nat
  count : Nat
  deriving DecidableEq, Repr

structure Sched where
  subs    : SMap Sub
  recons  : SMap Recon
  pools   : SMap Pool
  /-- A split or a refill waits until the outgoing pools hold no credits (R109): true towards partitions. -/
  splitting : Option Bool
  streams : SMap Stream
  bufFree : Nat
  seqs    : List SeqDetect
  /-- The next admission or enqueue number, and the next number of a reconstruction. -/
  order   : Nat
  nextSub : Nat
  /-- The request generation of each sub-request index (R111). -/
  gens    : SMap Nat
  deriving DecidableEq, Repr

/-- SCHD at reset: the device pool holds 65,536 credits and the forced pool 8,192 (R108); every buffer unit is free (R128). -/
def Sched.reset : Sched :=
  { subs := [], recons := [], pools := [(64, { share := 65536, avail := 65536, held := 0, refused := 0 }),
                                        (65, { share := 8192, avail := 8192, held := 0, refused := 0 })],
    splitting := none, streams := [], bufFree := 65536, seqs := [], order := 0, nextSub := 0, gens := [] }

end Sys2Proof.Machine
end

