-- ==== Sys2Proof/Machine/StateHost.lean ====
section
/-! DEFINITION. State of HOST: ports, functions, queues, command contexts and activation (R293 to R341). -/

namespace Sys2Proof.Machine

/-- The states of a command context (R313); a FREE context is not listed. -/
inductive CtxState where
  | admitted | executing | committed
  deriving DecidableEq, Repr

/-- A descriptor of an SGL as HOST walks it (R321, R322): its type and its length in bytes. -/
inductive SglType where
  | data | bitBucket | segment | lastSegment | keyed | transport
  deriving DecidableEq, Repr

/-- A command's data pointer, as the host has laid it in memory (R320 to R322). -/
inductive DataPtr where
  /-- PRPs: whether every PRP entry's offset is a multiple of 4. -/
  | prp (aligned : Bool)
  /-- SGLs: the data descriptors in order, and the bytes the metadata SGL covers. -/
  | sgl (descs : List (SglType × Nat)) (metaBytes : Nat)
  deriving DecidableEq, Repr

/-- Protection checks a command asks for (R324): PRACT; PRCHK as guard, application tag and reference tag; and the values the
command gives for the tags, with the mask of the application tag. -/
structure PrInfo where
  act   : Bool
  guard : Bool
  app   : Bool
  ref   : Bool
  tag   : Nat
  mask  : Nat
  first : Nat
  deriving DecidableEq, Repr

/-- The parameters of a Namespace Management create (R52, R403). -/
structure NsParams where
  nsid   : Nat
  d      : Nat
  members : List Nat
  plc    : Bool
  groups : Nat
  /-- LBA format 0 to 4 (R304), and protection type 0 to 3. -/
  lbaf   : Nat
  pi     : Nat
  zones  : Nat
  deriving DecidableEq, Repr

/-- A feature that Set Features names with its value (R306). -/
inductive Feature where
  | arbitration (ab : Nat)
  | power (ps : Nat)
  | tempThreshold (kelvin : Nat) (above : Bool) (composite : Bool)
  | queues (nsq ncq : Nat)
  | coalescing (time threshold : Nat)
  | vectorConfig (vec : Nat) (disable : Bool)
  | asyncEvents (mask : Nat)
  | apst (enabled : Bool) (table : List (Nat × Nat))
  | other (fid : Nat)
  deriving DecidableEq, Repr

/-- The identifier of a feature (R306). -/
def Feature.fid : Feature → Nat
  | .arbitration _ => 1 | .power _ => 2 | .tempThreshold .. => 4 | .queues .. => 7 | .coalescing .. => 8 | .vectorConfig .. => 9
  | .asyncEvents _ => 0xB | .apst .. => 0xC | .other n => n

/-- An NVMe command (R305), as the fields of its entry give it. -/
inductive NvCmd where
  | read (slba nlb : Nat) (pr : PrInfo)
  | write (slba nlb : Nat) (pr : PrInfo)
  | writeZeroes (slba nlb : Nat) (pr : PrInfo)
  | zoneAppend (zslba nlb : Nat) (pr : PrInfo)
  | flush
  | zoneSend (slba : Nat) (act : ZAction) (all : Bool) (ext : List Byte)
  /-- Zone Management Receive: extended or not, the state filter (0 all), the partial bit, and room for descriptors. -/
  | zoneReceive (slba : Nat) (extended : Bool) (filter : Nat) (partialRpt : Bool) (room : Nat)
  | createSq (qid size cqid : Nat) (contiguous : Bool)
  | createCq (qid size vec : Nat) (ien contiguous : Bool)
  | deleteSq (qid : Nat)
  | deleteCq (qid : Nat)
  | identify (cns cntid csi : Nat)
  | getLog (lid : Nat) (rae : Bool) (off len : Nat)
  | setFeatures (f : Feature)
  | getFeatures (fid : Nat)
  | asyncEvent
  | abort (sq cid : Nat)
  | nsCreate (p : NsParams)
  | nsDelete
  | nsAttach (attach : Bool) (ctrls : List Nat)
  | virtMgmt (act cntid count : Nat)
  | fwDownload (off : Nat) (data : List Byte)
  | fwCommit (act slot : Nat)
  | sanitize (act : Nat)
  | other (opc : Nat)
  deriving DecidableEq, Repr

/-- A submission queue entry as HOST fetches it. -/
structure Sqe where
  cid   : Nat
  nsid  : Nat
  ptr   : DataPtr
  /-- PSDT is not zero. -/
  psdt  : Bool
  /-- A reserved field is not 0 or a field value not permitted: the byte and bit of the first (R316 check 3). -/
  badAt : Option (Nat × Nat)
  cmd   : NvCmd
  deriving DecidableEq, Repr

/-- A held command context (R313). -/
structure Ctx where
  fn    : Nat
  sq    : Nat
  e     : Sqe
  st    : CtxState
  /-- The stamp of R10. -/
  slice : Option Nat
  gen   : Nat
  epoch : Word
  /-- The base slice that lends a PF its context (R347). -/
  lender : Option Nat
  cls   : Cls
  admitted : Nat
  /-- Its place among all the commands fetched (R63). -/
  order  : Nat
  deadline : Nat
  /-- Its own row has run: it has been handed to ZONE, SCHD or the admin processor. -/
  begun : Bool
  /-- Status as SCT × 256 + SC, Do Not Retry, and Dword 0 and 1 of the entry. -/
  status : Nat
  dnr   : Bool
  dw0   : Nat
  /-- Marked by an SQ deletion (R326). -/
  marked : Bool
  /-- Its host DMA is complete; the data it moved or has ready (write data in, read data and structures out). -/
  dmaDone : Bool
  data  : List Byte
  /-- Blocks of a read that have arrived, decrypted, by their number within the command. -/
  got   : SMap (List Byte)
  /-- The path of the sub-request that delivered last (R132). -/
  path  : Nat
  /-- Read sub-requests that have not yet delivered. -/
  left  : Nat
  /-- The CQ was full when it first could have been posted: counted in `CPL_STALL`. -/
  stalled : Bool
  /-- A commit record of it exists (R65). -/
  recorded : Bool
  /-- The JOURNAL packet that holds its commit record, which must be acknowledged before the entry is posted (R248). -/
  psn   : Option Nat
  deriving DecidableEq, Repr

/-- A submission queue (R311, R355). -/
structure Sq where
  cq    : Nat
  size  : Nat
  head  : Nat
  tail  : Nat
  /-- A Delete I/O SQ names it: fetching has stopped, and its context, entries aborted and entries that stood. -/
  deleting : Option (Nat × Nat × Nat)
  deriving DecidableEq, Repr

/-- SQ_BIND of an I/O SQ of a VF (R355): the slice index, and HELD. -/
structure SqBind where
  index : Nat
  held  : Bool
  deriving DecidableEq, Repr

def SqBind.reset : SqBind := { index := 0, held := false }

/-- A completion queue (R311, R314). -/
structure Cq where
  size  : Nat
  head  : Nat
  tail  : Nat
  phase : Bool
  vec   : Nat
  ien   : Bool
  /-- Entries whose interrupt is held by coalescing, and the device time of the first (R306). -/
  coal  : Nat
  coalAt : Nat
  deriving DecidableEq, Repr

/-- An Error Information entry (R319). -/
structure ErrEntry where
  count : Nat
  sq    : Nat
  cid   : Nat
  status : Nat
  loc   : Option (Nat × Nat)
  lba   : Nat
  nsid  : Nat
  deriving DecidableEq, Repr

/-- An asynchronous event (R308): type, information and log page. -/
structure Aen where
  type : Nat
  info : Nat
  log  : Nat
  deriving DecidableEq, Repr

/-- One PCIe function, an NVMe controller (R297 to R311, R335 to R338). -/
structure Fn where
  /-- Enabled in configuration space. -/
  present : Bool
  /-- Bus mastering and memory space, as configuration writes set them; the power state D0 or D3hot; ATS enabled. -/
  d3     : Bool
  ats    : Bool
  /-- CC.EN, CSTS.RDY, CSTS.CFS, CSTS.SHST, CSTS.PP. -/
  en     : Bool
  rdy    : Bool
  cfs    : Bool
  shst   : Nat
  pp     : Bool
  /-- CC.EN went to 1 and RDY is waited for. -/
  wantRdy : Bool
  /-- Power state, and the last operational one. -/
  ps     : Nat
  lastPs : Nat
  /-- Device time of the last doorbell, for APST. -/
  idleAt : Nat
  allot  : Nat
  sqs    : SMap Sq
  cqs    : SMap Cq
  /-- SQ_BIND by queue number (R355). -/
  binds  : SMap SqBind
  /-- MSI-X: function mask, masked vectors and the PBA. -/
  msiMask : Bool
  masked  : List Nat
  pba     : List Nat
  feats   : List Feature
  /-- Asynchronous Events pending and not yet told. -/
  aens    : List Aen
  errs    : List ErrEntry
  errCount : Nat
  changedNs : List Nat
  changedZones : List Nat
  /-- Translations cached under ATS: PASID and page. -/
  atc     : List (Nat × Nat)
  /-- A CC.EN write to 0, or a reset, taken in step 3 of an activation, waits for step 4 (R334): 1 CC.EN, 2 FLR, 3 PERST_N. -/
  later   : Nat
  /-- Fetching has stopped for a shutdown (R331). -/
  stopping : Bool
  deriving DecidableEq, Repr

/-- A function at reset: disabled (R330). -/
def Fn.reset : Fn :=
  { present := false, d3 := false, ats := false, en := false, rdy := false, cfs := false, shst := 0, pp := false, wantRdy := false,
    ps := 0, lastPs := 0, idleAt := 0, allot := 0, sqs := [], cqs := [], binds := [], msiMask := false, masked := [], pba := [], feats := [],
    aens := [], errs := [], errCount := 0, changedNs := [], changedZones := [], atc := [], later := 0, stopping := false }

/-- One PCIe port with its functions (R293 to R301). -/
structure HPort where
  /-- `LINK_STAT`: generation, width, link state, PERST_N asserted. -/
  gen   : Nat
  width : Nat
  lstate : Nat
  perst : Bool
  /-- WAKE_N driven low. -/
  wakeN : Bool
  fns   : SMap Fn
  /-- The captured DMA error and whether the capture is armed (R340). -/
  dmaArmed : Bool
  deriving DecidableEq, Repr

/-- A port at reset: down, PERST_N not asserted (R340). -/
def HPort.reset : HPort :=
  { gen := 0, width := 0, lstate := 0, perst := false, wakeN := false, fns := [], dmaArmed := true }

/-- Where an activation without reset stands (R333, `ACT_STAT.STATE`). -/
inductive ActPhase where
  | idle | draining | swapping | resuming
  deriving DecidableEq, Repr

def ActPhase.code : ActPhase → Nat
  | .idle => 0 | .draining => 1 | .swapping => 2 | .resuming => 3

structure HostS where
  /-- The ports by number: 0 A, 1 B. -/
  ports : SMap HPort
  /-- Held contexts: port × 65,536 + context. -/
  ctxs  : SMap Ctx
  /-- The number of the next command fetched (R63). -/
  nextFetch : Nat
  act   : ActPhase
  actAt : Nat
  /-- The Firmware Commit that activates, and its slot and old version; the contexts to drain. -/
  actCtx : Nat
  actSlot : Nat
  actHeld : Nat
  actLast : Nat
  /-- The new image, header and body, as it was verified and copied into SRAM (R454); empty while no activation runs. -/
  actImage : List Byte
  /-- The recovery of R288 has completed: namespaces are attached and host I/O is admitted. -/
  recovered : Bool
  /-- Host I/O is stopped: by a freeze, an orderly stop, or a prepare step. -/
  stopped : Bool
  /-- Critical warning bits told (R307, R308). -/
  warn  : Nat
  /-- Controller-initiated telemetry snapshots taken (R308). -/
  telemetry : Nat
  deriving DecidableEq, Repr

def HostS.reset : HostS :=
  { ports := [], ctxs := [], nextFetch := 0, act := .idle, actAt := 0, actCtx := 0, actSlot := 0, actHeld := 0, actLast := 0, actImage := [], recovered := false,
    stopped := false, warn := 0, telemetry := 0 }

end Sys2Proof.Machine
end

