-- ==== Sys2Proof/Machine/StateFsto.lean ====
section
/-! DEFINITION. State of the firmware store: the NOR die, the one-time row, the boot and the configuration store (R432 to R463).
The NOR die and the row are held word by word, the unit that FSTO reads and programs (R436, R439). -/

namespace Sys2Proof.Machine

/-- A program or erase that runs on a bank (R433): the NOR word address it starts at, and the 64 words of a page program. -/
structure NorOp where
  erase : Bool
  addr  : Nat
  data  : List Word
  deriving DecidableEq, Repr

/-- A configuration record (R455, R456). -/
structure CfgRec where
  type : Nat
  key  : Nat
  seq  : Nat
  data : List Word
  deriving DecidableEq, Repr

/-- An event that arose in the ROM or in DORMANT and waits to be presented (R463, R489, R511). -/
structure HeldEvent where
  page   : Nat
  num    : Nat
  params : List Nat
  stamp  : Stamp
  deriving DecidableEq, Repr

structure Fsto where
  /-- `BOOT_STAT`. -/
  recovery : Bool
  cause    : Nat
  failed   : Nat
  path     : Nat
  bank     : Nat
  /-- VERSION, SVN and signing key of the running image. -/
  imgVer   : Nat
  imgSvn   : Nat
  imgKey   : Nat
  /-- The signing key of the valid board manifest. -/
  manKey   : Nat
  /-- `SLOT1_VER`, `SLOT2_VER`: 0 when the slot does not verify. -/
  slotVer  : List Nat
  nextBank : Nat
  bootOk   : Bool
  /-- The boot watchdog runs. -/
  watchdog : Bool
  /-- The operation of each bank, and the last result of its channel. -/
  op0 : Option NorOp
  op1 : Option NorOp
  result0 : Nat
  result1 : Nat
  /-- `BUSY_FAULT_ADDR` and whether it is armed. -/
  faultAddr : Nat
  armed     : Bool
  otpResult : Nat
  /-- The configuration ring in SRAM: records made and not yet on NOR, oldest first. -/
  ring    : List CfgRec
  /-- The SEQ of the next record. -/
  cfgSeq  : Nat
  /-- Sectors of the inactive slot that the running download has erased. -/
  dlErased : List Nat
  /-- TYPE of the image downloaded, once its header is written: 1 firmware, 2 manifest. -/
  dlType   : Nat
  /-- A SELECT entry was written by a commit in RECOVERY: the ROM resets within 1 s (R453). -/
  recReset : Bool
  /-- Events held until the firmware starts. -/
  held     : List HeldEvent
  /-- Power is being lost: no program or erase starts (R437). -/
  pfail    : Bool
  deriving DecidableEq, Repr

def Fsto.reset : Fsto :=
  { recovery := false, cause := 0, failed := 0, path := 0, bank := 0, imgVer := 0, imgSvn := 0, imgKey := 0, manKey := 0,
    slotVer := [0, 0], nextBank := 0, bootOk := false, watchdog := false, op0 := none, op1 := none, result0 := 0,
    result1 := 0, faultAddr := 0, armed := true, otpResult := 0, ring := [], cfgSeq := 0, dlErased := [], dlType := 0,
    recReset := false, held := [], pfail := false }

end Sys2Proof.Machine
end

