-- ==== Sys2Proof/Machine/StateSys.lean ====
section
/-! DEFINITION. State of the pages' headers and registers (R30, R38), of SYSC (R48), and of the event recorder (R510 to R522). -/

namespace Sys2Proof.Machine

/-- The header of one page (R30, R31), with what R46 needs of it. -/
structure PageHdr where
  /-- `PAGE_CTRL.EN`. -/
  en         : Bool
  /-- `PAGE_CTRL.UNLOCKED`. -/
  unlocked   : Bool
  /-- `PAGE_CTRL.LOCK`. -/
  lock       : Bool
  /-- `PAGE_STAT.PWR`: 0 running, 1 clock stopped, 2 power off, 3 waking. -/
  pwr        : Nat
  /-- The cause code a waking page records (R46): 2 from power off, 3 from a stopped clock. -/
  wakingFrom : Nat
  evtStat    : Word
  evtEn      : Word
  evtCount   : Word
  /-- The flags whose set has been forwarded to the block's interrupt and that have not been cleared since (R43); that clearing a flag ends
  it is the model's (DESIGN CHOICE, log entry 66). -/
  irq        : Word
  epochStage   : Word
  epochApplied : Word
  deriving DecidableEq, Repr

/-- A page header at reset. -/
def PageHdr.reset : PageHdr :=
  { en := true, unlocked := false, lock := false, pwr := 0, wakingFrom := 0, evtStat := 0, evtEn := 0,
    evtCount := 0, irq := 0, epochStage := 0, epochApplied := 0 }

/-- The register file: cells keyed by page × 0x1_0000 + offset, plus the selected instance × 2^26 where a register has one. -/
structure Regs where
  hdr    : SMap PageHdr
  /-- Live values. -/
  cells  : SMap Word
  /-- Shadow copies of the staged registers (R38), keyed as the live copy. -/
  shadow : SMap Word
  /-- The snapshot a commit took that some page has yet to apply (R39 step 3): what differs from the live value. -/
  snap   : SMap Word
  /-- The values of the older live epoch, for what the newest commit changed (R39 step 5). -/
  older  : SMap Word
  deriving DecidableEq, Repr

/-- The register file at reset: every register at the value its table states. -/
def Regs.reset : Regs := { hdr := [], cells := [], shadow := [], snap := [], older := [] }

/-- The DRAM record of the board manifest (R374), as its fields. -/
structure DramRecord where
  /-- 4 or 8. -/
  width    : Nat
  /-- Gbit: 8, 16, 24 or 32. -/
  density  : Nat
  ranks    : Nat
  speed    : Nat
  /-- Whether timing set, drive strengths and seeds lie in the permitted ranges. -/
  timingOk : Bool
  /-- The record's 676 bytes, by which a changed record is known (R391). -/
  raw      : List Byte
  deriving DecidableEq, Repr

/-- The board manifest in force (R445, R446, R478). -/
structure Manifest where
  valid   : Bool
  sigOk   : Bool
  version : Nat
  dram    : DramRecord
  /-- Tolerance code of each rail, in rail order (R478). -/
  rails   : List (Nat × Nat)
  /-- Fans on the board (R506). -/
  fans    : Nat
  /-- The slot power each slot offers, in 0.1 W. -/
  slotPower : Nat
  /-- The PCIE record: subsystem vendor, subsystem, SUBNQN. -/
  pcie    : List Byte
  /-- The LINKEQ record: pre-cursor, main and post-cursor tap and a zero byte for each sled port and peer lane (R178, R443). -/
  linkEq  : List Byte
  /-- Which copy was selected. -/
  copy    : Nat
  deriving DecidableEq, Repr

/-- The board manifest before one is found: nothing valid; the DRAM record is not in use. -/
def Manifest.none : Manifest :=
  { valid := false, sigOk := false, version := 0, dram := { width := 4, density := 16, ranks := 1, speed := 6400, timingOk := true, raw := [] },
    rails := [], fans := 0, slotPower := 0, pcie := [], linkEq := [], copy := 0 }

/-- The first captured fabric error (R47). -/
structure FabErr where
  addr  : Nat
  write : Bool
  cause : Nat
  master : Nat
  count : Nat
  /-- The capture takes the next error. -/
  armed : Bool
  deriving DecidableEq, Repr

/-- The service actions (R22). -/
inductive Service where
  | activation | replacement | handover | layout
  deriving DecidableEq, Repr

/-- SYSC: mode, epochs, device time, straps (R48, R49). -/
structure Sysc where
  cur    : Mode
  base   : Option Mode
  ret    : Option Mode
  /-- The service action that runs while SERVICE is current (R22). -/
  service : Option Service
  /-- `MODE.BUSY`: a transition is under way. -/
  busy   : Bool
  straps : Word
  manifest : Manifest
  epoch        : Word
  epochRetired : Word
  epochResult  : Nat
  /-- Device time in nanoseconds, 64 bits (R13). -/
  time   : Nat
  /-- The part of a nanosecond that the slew has accumulated, in units of 10^-8 ns (TIME_CTRL.SLEW). -/
  timeFrac : Nat
  /-- Bits 63:32 latched for each master that read TIME_LO (R50). -/
  hiLatch  : SMap Nat
  fabErr : FabErr
  deriving DecidableEq, Repr

/-- SYSC at reset (R48, R49): mode RECOVERY, base and return mode none, epoch 0 with none retired. -/
def Sysc.reset : Sysc :=
  { cur := .recovery, base := none, ret := none, service := none, busy := false, straps := 0, manifest := Manifest.none,
    epoch := 0, epochRetired := 0xFFFFFFFF, epochResult := 0, time := 0, timeFrac := 0, hiLatch := [],
    fabErr := { addr := 0, write := false, cause := 0, master := 0, count := 0, armed := true } }

/-- One record of the event ring (R510). -/
structure Rec where
  code     : Nat
  sev      : Nat
  folded   : Bool
  deferred : Bool
  carried  : Bool
  held     : Bool
  rep      : Nat
  stamp    : Stamp
  params   : List Word
  /-- All three of its flash copies are confirmed (R513). -/
  written  : Bool
  deriving DecidableEq, Repr

/-- One page of the flash log (R516, R517). -/
structure LogPage where
  page   : Nat
  extent : Nat
  first  : Bool
  used   : Nat
  prevSeal : List Byte
  recs   : List Rec
  /-- The blocks that hold its three copies, as die × 2,048 + block. -/
  blocks : List Nat
  deriving DecidableEq, Repr

/-- The event recorder (R513 to R519). -/
structure Evnt where
  /-- The ring, oldest first; at most 32,768 records. -/
  ring    : List Rec
  frozen  : Bool
  /-- The holding buffer of a freeze, oldest first; at most 256 records (R515). -/
  hold    : List Rec
  /-- The master that froze the ring. -/
  freezer : Nat
  /-- Device time at which the freeze began. -/
  frozenAt : Nat
  /-- The flash log is written (R516). -/
  logUp   : Bool
  /-- The next page number, over the life of the log. -/
  pageNo  : Nat
  /-- The log pages kept, oldest first. -/
  pages   : List LogPage
  /-- The three blocks of the log triple in use, as die × 2,048 + block. -/
  triple  : List Nat
  /-- A seal job is running for this extent (R519). -/
  sealing : Option Nat
  /-- The newest sealed extent, and whether any is sealed. -/
  sealedExtent : Option Nat
  sealLast : List Byte
  /-- The DROP_S counters at the last report of 0x0501 (R524). -/
  reported : List Nat
  deriving DecidableEq, Repr

/-- The event recorder at reset: an empty ring, no log. -/
def Evnt.reset : Evnt :=
  { ring := [], frozen := false, hold := [], freezer := 0, frozenAt := 0, logUp := false, pageNo := 0, pages := [],
    triple := [], sealing := none, sealedExtent := none, sealLast := List.replicate 48 0, reported := [0, 0, 0, 0] }

end Sys2Proof.Machine
end

