-- ==== Sys2Proof/Machine/StateVault.lean ====
section
/-! DEFINITION. State of VALT: the power-fail sequence, the vault image, the metadata journal and its checkpoints (R264 to R291).
What the image and the journal hold lies in flash, so it outlasts a reset; it is kept here as the records and descriptors it spells. -/

namespace Sys2Proof.Machine

/-- The states of VALT (R272). -/
inductive VState where
  | idle | freeze | save | seal | halt | parked | restore
  deriving DecidableEq, Repr

/-- The codes of `VAULT_STAT.STATE` (R272). -/
def VState.code : VState → Nat
  | .idle => 0 | .freeze => 1 | .save => 2 | .seal => 3 | .halt => 4 | .parked => 5 | .restore => 6

/-- A journal record, less its SEQ (R283).  Every record states values absolutely (R284). -/
inductive JBody where
  | pad (len : Nat)
  | commit (nsid zone gen : Nat) (append : Bool) (start len : Nat)
  | zstate (nsid zone gen : Nat) (st : ZoneState) (zfc : Bool) (cause : Nat)
  | group (nsid zone idx pos : Nat) (blocks : SMap Nat)
  | eintent (sled pos block count attempts : Nat) (slc : Bool)
  | edone (sled pos block count attempts : Nat) (slc : Bool) (result zeros : Nat)
  | retire (sled pos block reason count : Nat)
  | zde (nsid zone gen : Nat) (ext : List Byte)
  | nsdef (nsid : Nat) (create : Bool) (def_ : Ns)
  | track (sled pos first : Nat) (entries : List (List Nat))
  | lostrow (nsid zone target group rowseq : Nat)
  | ckptBegin (n : Nat)
  | ckptData (n table off : Nat) (data : List Byte)
  | ckptEnd (n seq pages : Nat)
  | jhead (next : List Nat)
  deriving DecidableEq, Repr

/-- The LEN of a record, in 16-byte units (R283). -/
def JBody.len : JBody → Nat
  | .pad n => n
  | .commit .. => 3 | .zstate .. => 2 | .group .. => 4 | .eintent .. => 2 | .edone .. => 2 | .retire .. => 2 | .zde .. => 6
  | .nsdef .. => 3 | .track .. => 16 | .lostrow .. => 2 | .ckptBegin _ => 2
  | .ckptData _ _ _ d => (28 + d.length + 15) / 16
  | .ckptEnd .. => 2 | .jhead _ => 2

/-- The TYPE of a record (R283). -/
def JBody.type : JBody → Nat
  | .pad _ => 0 | .commit .. => 1 | .zstate .. => 2 | .group .. => 3 | .eintent .. => 4 | .edone .. => 5 | .retire .. => 6
  | .zde .. => 7 | .nsdef .. => 8 | .track .. => 9 | .lostrow .. => 10 | .ckptBegin _ => 11 | .ckptData .. => 12
  | .ckptEnd .. => 13 | .jhead _ => 14

/-- A record with its sequence number and the device time it was made (R280). -/
structure JRec where
  seq  : Nat
  at_  : Nat
  body : JBody
  deriving DecidableEq, Repr

/-- A journal page on flash: its records, in order (R281). -/
structure JPage where
  recs : List JRec
  deriving DecidableEq, Repr

/-- What a complete checkpoint holds (R286): every table, and the SEQ of its CKPT_BEGIN. -/
structure Ckpt where
  num    : Nat
  begin_ : Nat
  nss    : SMap Ns
  zones  : SMap Zone
  blocks : SMap Block
  /-- Dies whose grown-bad entries show them retired (R167, R171). -/
  retired : List Nat
  deriving DecidableEq, Repr

/-- A vault image (R277, R279): its header, its seal and the content of its segments. -/
structure Image where
  num    : Nat
  cause  : Nat
  time   : Nat
  cycles : Nat
  set    : List Nat
  /-- W and data segments. -/
  width  : Nat
  rows   : Nat
  segs   : Nat
  tokens : List Nat
  sealed : Bool
  us     : Nat
  rose   : Bool
  roseMs : Nat
  opHours   : Nat
  opSeconds : Nat
  /-- What the SRAM segments and the staging extents hold: descriptors, zones' commands, journal ring, event ring, DRAM bytes. -/
  areas  : SMap Area
  zones  : SMap Zone
  ring   : List JRec
  events : List Rec
  held   : List Rec
  /-- The block table with the tracker, departed members and rebuild targets. -/
  blocks : SMap Block
  departed : SMap Departed
  targets  : List Target
  /-- The sleds that new namespaces may use (R22). -/
  usable : Option (List Nat)
  /-- The configuration ring, in SRAM like the others (R455). -/
  cfg    : List CfgRec
  mem    : SMap Byte
  deriving DecidableEq, Repr

/-- The anchor of the configuration store (R285), as VALT last wrote it. -/
structure Anchor where
  triple  : List Nat
  sealTriple : List Nat
  /-- The pool: for each sled, its vault blocks. -/
  pool    : SMap (List Nat)
  cleared : Nat
  deriving DecidableEq, Repr

def Anchor.reset : Anchor := { triple := [], sealTriple := [], pool := [], cleared := 0 }

structure Valt where
  st      : VState
  /-- The pass under way is a DORMANT entry's (cause 1) or a power failure's (0). -/
  cause   : Nat
  /-- A warm reset follows the pass at HALT, with its cause (R486). -/
  thenReset : Option Nat
  /-- Device time of the acceptance, or of the freeze at DORMANT entry. -/
  accepted : Nat
  /-- Sleds of the vault set, fixed at the end of FREEZE; those that left UP since. -/
  set     : List Nat
  left    : List Nat
  rows    : Nat
  segs    : Nat
  /-- Vault-row segments confirmed and segments whose program failed, as row × 16 + member, and seal copies confirmed. -/
  confirmed : List Nat
  lostSegs  : List Nat
  /-- PFAIL_N has been accepted during the pass, or began it (R272, R486). -/
  byPfail : Bool
  seals   : List Nat
  /-- Segments and seal copies not yet sent, as row × 16 + member or copy: they wait for the word line below, and for their die (R140, R141). -/
  toSend  : List Nat
  rose    : Bool
  roseMs  : Nat
  /-- PFAIL_N is low. -/
  pfailLow : Bool
  /-- Level of HOLDUP_OK and the device time since which it has been high. -/
  holdup   : Bool
  holdupAt : Nat
  /-- Staging has been allowed since HOLDUP_OK was high for 10 ms (R266). -/
  stageOk  : Bool
  budget   : Nat
  bset     : List Nat
  peak     : Nat
  /-- The present budget-wait episode has been told (R271). -/
  waitTold : Bool
  last     : Nat
  lastUs   : Nat
  restoreMs : Nat
  recSegs   : Nat
  /-- The newest image, complete or not. -/
  image   : Option Image
  /-- A header with a higher number than the newest seal's exists (R287). -/
  unsealedNum : Nat
  /-- The last loss of power came without a complete vault, and why (R292 event 0x2402). -/
  lossCause : Nat
  anchor  : Anchor
  /-- The journal ring, oldest first, and how many of its records are on flash pages not yet confirmed. -/
  ring    : List JRec
  nextSeq : Nat
  /-- Journal pages on flash since the anchor's checkpoint, oldest first. -/
  flash   : List JPage
  pages   : Nat
  /-- Journal triples, oldest first: their blocks, and the SEQ of their first record. -/
  triples : List (List Nat × Nat)
  /-- The successor of the newest triple (R285). -/
  nextTriple : List Nat
  /-- The checkpoint that runs: SEQ of its CKPT_BEGIN, the device time and the page count at its start, and what it writes. -/
  ckptOn  : Option (Nat × Nat × Nat)
  ckptNew : Option Ckpt
  ckptNum : Nat
  ckpt    : Option Ckpt
  hiLatch : SMap Nat
  deriving DecidableEq, Repr

/-- VALT at reset (R290): IDLE, load 1,024 segments, no image and an empty ring. -/
def Valt.reset : Valt :=
  { st := .idle, cause := 0, thenReset := none, accepted := 0, set := [], left := [], rows := 0, segs := 0, confirmed := [],
    lostSegs := [], byPfail := false, seals := [], toSend := [], rose := false, roseMs := 0, pfailLow := false, holdup := false, holdupAt := 0, stageOk := false, budget := 0,
    bset := [], peak := 1024, waitTold := false, last := 0, lastUs := 0, restoreMs := 0, recSegs := 0, image := none,
    unsealedNum := 0, lossCause := 0, anchor := Anchor.reset, ring := [], nextSeq := 0, flash := [], pages := 0, triples := [], nextTriple := [],
    ckptOn := none, ckptNew := none, ckptNum := 0, ckpt := none, hiLatch := [] }

end Sys2Proof.Machine
end

