-- ==== Sys2Proof/Syntax.lean ====
section
/-! DEFINITION. The commands: one constructor for each row of the opcode table, with what the command carries.

`master` is the number of the fabric master that makes the access (R37); host accesses through BAR2 are those of master 33.  `ctx` is a command
context, as HOST port × 65,536 + number (R312).  `port` is a HOST port and `fn` one of its functions, 0 the PF; `q` is a queue.  `sled` and `slot`
are a sled port, `pos` a die position and `block` a block of it; `tag` is a descriptor's TAG on a sled port.  `lane` is a lane of the peer link,
`link` any serial link, `xid` the transaction a management answer belongs to.  `ch` and `sub` are a DRAM channel and subchannel.  `s` is a slice, `mbox` a slice's mailbox index in its function.
`v` is the value that a register write carries.  What the outside reports, such as a reading, a measured time or the outcome of a test, is an
operand too.

The commands that carry nothing stand after the others; else the order is the table's. -/

namespace Sys2Proof

open Machine

/-- A command. -/
inductive Instr where
  /-- POR_N_RELEASE (R451): POR_N release latches the straps and starts the boot ROM sequence on core 0. -/
  | porNRelease (straps : Word) (trains : Bool)
  /-- BOOT_OK (R451): A write to FSTO.BOOT_OK marks the tally ATTEMPT entry good and stops the boot watchdog. -/
  | bootOk (master : Nat)
  /-- STARTUP_RECOVERY (R288): Start-up restores the usable vault image, replays the journal, resolves unconfirmed units, settles abandoned commands and
  admits host I/O. -/
  | startupRecovery (r : Readout)
  /-- WARM_RESET (R486): A warm reset from any of its causes resets every block except the daisy island, after a vault pass where its cause calls for one. -/
  | warmReset (cause : Nat)
  /-- MANAGER_WARM_RESET (R490): A write of RST_CTRL.WARM with CONFIRM starts a warm reset with cause 6. -/
  | managerWarmReset (v : Word) (master : Nat)
  /-- FABRIC_ACCESS_ERROR (R15): An access to an unmapped address or to a page index with no block returns 0xFFFF_FFFF or drops the write, and is
  captured and recorded. -/
  | fabricAccessError (addr : Nat) (write : Bool) (master : Nat)
  /-- UNSERVED_PAGE_ACCESS (R46): An access to a page that is powered off, clock-stopped or waking errs without waking the block; header reads are
  served from the FABRIC copy. -/
  | unservedPageAccess (page off : Nat) (write : Bool) (master : Nat)
  /-- REGISTER_WRITE (R35, R36; the upper half of `v` is the second word of an eight-byte write): A write to a register with no row of its own is applied, dropped silently, or dropped with DENIED set under the level, lock
  and staging rules. -/
  | registerWrite (page off : Nat) (v : Word64) (bytes master : Nat)
  /-- EXPERT_KEY_WRITE (R33): A write to EXPERT_KEY sets UNLOCKED for the right key word, or clears it, sets DENIED and records event 0x0002. -/
  | expertKeyWrite (page : Nat) (v : Word) (master : Nat)
  /-- EVT_FORCE_WRITE (R43): A write to EVT_FORCE sets the named flags, counts them and offers enabled ones to the recorder with zero parameters. -/
  | evtForceWrite (page : Nat) (v : Word) (master : Nat)
  /-- EVT_STAT_CLEAR (R44): A W1C write to EVT_STAT clears flags, except those that a source sets in the same cycle. -/
  | evtStatClear (page : Nat) (v same : Word) (master : Nat)
  /-- FAB_ERR_COUNT_READ (R47): A read of SYSC.FAB_ERR_COUNT returns and clears the count and re-arms the fabric error capture. -/
  | fabErrCountRead (master : Nat)
  /-- TIME_LO_READ (R50): A read of SYSC.TIME_LO latches device time bits 63:32 for the reading master. -/
  | timeLoRead (master : Nat)
  /-- TIME_LOAD (R49): A write of TIME_CTRL.LOAD loads TIME_SET into device time. -/
  | timeLoad (v : Word) (master : Nat)
  /-- EPOCH_COMMIT (R39): A write of EPOCH_CTRL.COMMIT is checked against the refusal codes, then advances the epoch and snapshots every changed shadow. -/
  | epochCommit (master : Nat)
  /-- EPOCH_APPLY_ON_DRAIN (R39): A unit with no work in flight applies a pending snapshot within 1 us of draining and sets its EPOCH_APPLIED. -/
  | epochApplyOnDrain (page : Nat)
  /-- TENANCY_ENABLE (R342): A write of TEN_CTRL.ENABLE creates the 64 partitions and their base slices, stores the base mode and enters PARTITIONED. -/
  | tenancyEnable (baseCls master : Nat)
  /-- TENANCY_DISABLE (R21): A write of TEN_CTRL.DISABLE removes the partitions and enters STANDALONE, or is refused while a slice exists or a VF is
  enabled. -/
  | tenancyDisable (master : Nat)
  /-- LAYOUT_CHANGE (R22): The manager runs a layout change in SERVICE, changing the sled set that new namespaces may use. -/
  | layoutChange (sleds master : Nat)
  /-- SQ_TAIL_DOORBELL (R337): A submission queue doorbell write makes commands due, waking a controller from PS3 or PS4 or the device from DORMANT. -/
  | sqTailDoorbell (port fn q tail : Nat) (pasid : Option Nat)
  /-- CQ_HEAD_DOORBELL (R314): A completion queue head doorbell frees CQ slots for waiting COMMITTED entries. -/
  | cqHeadDoorbell (port fn q head : Nat)
  /-- COMMAND_FETCH (R312): HOST fetches an SQ entry when a context and the tokens are available, stamps slice, generation and epoch, and runs the
  checks of R316. -/
  | commandFetch (port fn q : Nat) (e : Sqe)
  /-- CQ_ENTRY_POST (R313): A COMMITTED context writes its entry with the phase tag into a free CQ slot, signals its vector and becomes FREE. -/
  | cqEntryPost (ctx : Nat)
  /-- MSIX_UNMASK (R299): Unmasking a vector or its function sends the pending message recorded in the PBA. -/
  | msixUnmask (port fn : Nat) (vec : Option Nat)
  /-- HOST_DMA_COMPLETE (R301): A host DMA transfer for a command ends, delivering write data to the pipeline or finishing the read data to the host. -/
  | hostDmaComplete (ctx : Nat) (data : List Byte) (pages : List Nat)
  /-- DMA_ERROR (R301): A refused translation, UR, CA, poisoned completion or completion timeout ends the command's transfer as a DMA error. -/
  | dmaError (ctx kind addr : Nat)
  /-- WRITE (R63): A Write is checked against the zone's accept pointer and state and queued for staging. -/
  | write (ctx : Nat)
  /-- ZONE_APPEND (R64): A Zone Append is checked against ZCAP and queued; it receives its LBA when its data begins to enter staging. -/
  | zoneAppend (ctx : Nat)
  /-- WRITE_ZEROES (R305): A Write Zeroes follows the zone write rules and stages encrypted zeros. -/
  | writeZeroes (ctx : Nat)
  /-- READ (R94): A Read is stamped with its deadline and split into sub-requests, served from staging, a stream buffer or the die queues. -/
  | read (ctx : Nat)
  /-- FLUSH (R328): A Flush completes at once with Successful Completion. -/
  | flush (ctx : Nat)
  /-- STAGE_COMMAND (R64): When every earlier command of the zone is staged and the data slot has room, a command's data enters staging, encrypted with
  its final LBA. -/
  | stageCommand (nsid zone : Nat)
  /-- STRIPE_GROUP_ALLOCATE (R84): ZONE chooses a die position and a block on each present member for a new stripe group, or waits, or abandons the
  command with Capacity Exceeded. -/
  | stripeGroupAllocate (nsid zone : Nat)
  /-- ZONE_ACTIVATION (R59): A zone leaving Empty takes staging areas from the slice reservation and the device pool, or waits for draining areas, or
  fails with Too Many Active Zones. -/
  | zoneActivation (nsid zone : Nat)
  /-- COMMIT_RECORD (R65): Once a command is wholly staged, peer-acknowledged where paired, and all earlier commands are settled, ZONE makes its commit
  record and advances the write pointer. -/
  | commitRecord (nsid zone : Nat)
  /-- ZONE_OPEN (R57): Zone Management Send Open moves a zone to Explicitly Opened, taking staging from Empty. -/
  | zoneOpen (ctx : Nat)
  /-- ZONE_CLOSE (R57): Zone Management Send Close moves an opened zone to Closed, keeping its staging. -/
  | zoneClose (ctx : Nat)
  /-- ZONE_FINISH (R57): Zone Management Send Finish pads the current row and sets the zone Full. -/
  | zoneFinish (ctx : Nat)
  /-- ZONE_RESET (R62): Zone Management Send Reset increments the zone generation, discards staging and queues the group blocks for erase. -/
  | zoneReset (ctx : Nat)
  /-- ZONE_OFFLINE (R57): Zone Management Send Offline moves a Read Only zone to Offline and queues its blocks for erase. -/
  | zoneOffline (ctx : Nat)
  /-- SET_ZONE_DESCRIPTOR_EXTENSION (R76): Set Zone Descriptor Extension stores the 64 bytes for an Empty zone, binds the placement record and moves the
  zone to Closed. -/
  | setZoneDescriptorExtension (ctx : Nat)
  /-- ZONE_ACTION_TAKE_EFFECT (R68): A zone management action takes effect once every earlier command of the zone has been committed or abandoned, and
  its journal record is made. -/
  | zoneActionTakeEffect (nsid zone : Nat)
  /-- REPORT_ZONES (R58): Zone Management Receive Report Zones returns the zone descriptors. -/
  | reportZones (ctx : Nat)
  /-- EXTENDED_REPORT_ZONES (R76): Extended Report Zones returns the zone descriptors with their 64-byte extensions. -/
  | extendedReportZones (ctx : Nat)
  /-- CREATE_IO_SQ (R311): Create I/O SQ creates a submission queue within the function's allotment. -/
  | createIoSq (ctx : Nat)
  /-- CREATE_IO_CQ (R311): Create I/O CQ creates a completion queue within the function's allotment. -/
  | createIoCq (ctx : Nat)
  /-- DELETE_IO_SQ (R326): Delete I/O SQ stops fetching, marks every context of the SQ and aborts those not COMMITTED with status 0/08h. -/
  | deleteIoSq (ctx : Nat)
  /-- DELETE_IO_CQ (R327): Delete I/O CQ deletes the completion queue, or fails while an SQ is still attached. -/
  | deleteIoCq (ctx : Nat)
  /-- IDENTIFY (R303): Identify returns the controller, namespace and zoned structures. -/
  | identify (ctx : Nat)
  /-- GET_LOG_PAGE (R307): Get Log Page returns one of the supported log pages. -/
  | getLogPage (ctx : Nat)
  /-- SET_FEATURES (R306): Set Features sets a supported feature, including the power state, or fails with Invalid Field in Command. -/
  | setFeatures (ctx : Nat)
  /-- GET_FEATURES (R306): Get Features returns the value of a supported feature. -/
  | getFeatures (ctx : Nat)
  /-- ASYNC_EVENT_REQUEST (R308): An Asynchronous Event Request is held until one of the events of R308 completes it. -/
  | asyncEventRequest (ctx : Nat)
  /-- ABORT (R325): Abort completes successfully with not-aborted set and never aborts a command. -/
  | abort (ctx : Nat)
  /-- NAMESPACE_CREATE (R403): Namespace Management create defines a namespace, generates its key in the next slot and journals NSDEF. -/
  | namespaceCreate (ctx : Nat)
  /-- NAMESPACE_DELETE (R411): Namespace Management delete detaches the namespace, abandons its commands and crypto-erases its key. -/
  | namespaceDelete (ctx : Nat)
  /-- NAMESPACE_ATTACHMENT (R305): Namespace Attachment attaches or detaches a namespace to controllers and raises Namespace Attribute Changed. -/
  | namespaceAttachment (ctx : Nat)
  /-- VIRTUALIZATION_MANAGEMENT (R305): Virtualization Management, a PF-only command, manages the VF controller resources. -/
  | virtualizationManagement (ctx : Nat)
  /-- FIRMWARE_IMAGE_DOWNLOAD (R445): Firmware Image Download writes image data into the inactive slot, erasing each sector at its first write. -/
  | firmwareImageDownload (ctx : Nat)
  /-- FIRMWARE_COMMIT (R332): Firmware Commit verifies and places the image, or selects a slot for the next reset, writing a SELECT entry when it activates. -/
  | firmwareCommit (ctx : Nat)
  /-- ACTIVATION_WITHOUT_RESET (R333): Firmware Commit with action 3 enters SERVICE, sets CSTS.PP and stops fetching so that every held context drains. -/
  | activationWithoutReset (ctx : Nat)
  /-- SANITIZE (R412): Sanitize stores the pending record, drains held contexts, re-keys every namespace and resets every zone. -/
  | sanitize (ctx : Nat)
  /-- CONTROLLER_DISABLE (R329): CC.EN going from 1 to 0 ends every held context silently, deletes the queues and clears CSTS.RDY. -/
  | controllerDisable (port fn : Nat)
  /-- CONTROLLER_ENABLE (R329): CC.EN going from 0 to 1 sets CSTS.RDY within 2 s, or after recovery at the first enable, or under R300 for a VF. -/
  | controllerEnable (port fn iosqes iocqes asq acq : Nat)
  /-- VF_READY (R300): An enabled VF controller sets CSTS.RDY once the device is PARTITIONED and its queue allotment is free. -/
  | vfReady (port fn : Nat)
  /-- SHUTDOWN_REQUEST (R331): A CC.SHN write stops fetching, completes every held context and sets CSTS.SHST to complete. -/
  | shutdownRequest (port fn : Nat)
  /-- FUNCTION_LEVEL_RESET (R330): An FLR resets the function as a controller reset, resets its configuration space and, for a VF, resets its slices. -/
  | functionLevelReset (port fn : Nat)
  /-- PERST_N_ASSERT (R296): PERST_N assertion resets every function of its port as a controller reset, and wakes nothing. -/
  | perstNAssert (port : Nat)
  /-- PERST_N_RELEASE (R296): PERST_N release lets the port answer configuration requests within 100 ms and releases WAKE_N. -/
  | perstNRelease (port : Nat)
  /-- PCIE_LINK_UP (R294): A PCIe port completes training to the highest shared generation and width. -/
  | pcieLinkUp (port gen width : Nat)
  /-- PCIE_LINK_DOWN (R482): A PCIe port's link goes down, including the loss of its reference clock. -/
  | pcieLinkDown (port : Nat)
  /-- PCIE_LINK_RETRAIN (R340): A write of HOST.LINK_CTRL.RETRAIN retrains the port's link. -/
  | pcieLinkRetrain (port maxGen master : Nat)
  /-- APST_TRANSITION (R338): An autonomous power state transition moves an idle controller to PS3 or PS4 from the host's table. -/
  | apstTransition (port fn : Nat)
  /-- DMA_ERR_INFO_READ (R340): A read of HOST.DMA_ERR_INFO returns and clears the captured DMA error and re-arms the capture. -/
  | dmaErrInfoRead (port master : Nat)
  /-- DIE_DISPATCH (R96): An idle die takes the earliest-deadline item from its queue and issues it. -/
  | dieDispatch (sled pos : Nat)
  /-- SUSPEND_RESULT (R99): The result of a SUSPEND moves the die to a suspended state and issues its queued reads, or undoes the count. -/
  | suspendResult (sled tag result : Nat)
  /-- SUSPEND_HOLD_EXPIRY (R99): SUSP_HOLD elapsing, or the suspended operation's own deadline passing, sends RESUME. -/
  | suspendHoldExpiry (sled pos : Nat)
  /-- RESUME_RESULT (R99): The die reports running after RESUME, and the resume time is recorded. -/
  | resumeResult (sled tag result : Nat)
  /-- SUSPEND_TIMEOUT (R144): A SUSPEND or RESUME not answered within SUSP_TO makes MEDI send STATUS. -/
  | suspendTimeout (sled pos : Nat)
  /-- STATUS_TIMEOUT (R144): A STATUS not answered within SUSP_TO ends the die's operations as failed and counts a fault. -/
  | statusTimeout (sled pos : Nat)
  /-- PROGRAM_TIMEOUT (R145): A PROGRAM not ended after OP_TO.PROG of running time is handled as PROG_FAIL. -/
  | programTimeout (sled tag : Nat)
  /-- ERASE_TIMEOUT (R145): An ERASE not ended after OP_TO.ERASE of running time leaves the block UNCERTAIN. -/
  | eraseTimeout (sled tag : Nat)
  /-- MEMBER_TIMEOUT (R112): A die operation not returned within MEMBER_TO starts a forced reconstruction and counts against the sled. -/
  | memberTimeout (sled tag : Nat)
  /-- HEDGE_START (R114): A sub-request with no good result by the hedge point starts an elective read-around beside the original read. -/
  | hedgeStart (id : Nat)
  /-- DECODE_END (R154): An LDPC decode ends good or not good, satisfying the sub-request or climbing the retry ladder to its next step. -/
  | decodeEnd (sled tag : Nat) (rs : List (Nat × CwRes))
  /-- SOFT_DECODE_START (R149): A soft decode waiting for a soft slot starts when one frees. -/
  | softDecodeStart (sled tag : Nat)
  /-- COMPLETION_RECEIVE (R192): A COMPLETION from a bridge ends its open operation with its result, or is dropped as stray. -/
  | completionReceive (sled tag gen result dieState : Nat) (array : ArrayReport)
  /-- DATA_BURST_RECEIVE (R191): A received DATA burst delivers its codewords to DRAM, or is discarded and NAKed when short, long or of the wrong length. -/
  | dataBurstReceive (sled tag seq mask fmt len got : Nat) (data : List Byte)
  /-- READ_AHEAD_ISSUE (R124): While fewer bytes than the window are buffered ahead of the host position, SCHD issues the next read-ahead. -/
  | readAheadIssue (stream : Nat)
  /-- STREAM_RATE_UPDATE (R123): Every 10 ms the stream's measured rate, target rate and window are recomputed. -/
  | streamRateUpdate (stream : Nat)
  /-- STREAM_IDLE_EXPIRY (R127): A stream untouched for PACE_IDLE ends and returns its buffer units. -/
  | streamIdleExpiry (stream : Nat)
  /-- WEAR_MIGRATION_START (R165): MEDI on its own initiative starts migrating a cold, young block to the most-worn erased block below the ceiling. -/
  | wearMigrationStart (sled pos block : Nat)
  /-- READ_DISTURB_MIGRATION (R156): A block whose read count reaches the DISTURB limit is migrated once its zone is no longer active. -/
  | readDisturbMigration (sled pos block : Nat)
  /-- DIE_RETIRE_WRITE (R171): A write of MEDI.DIE_RETIRE with CONFIRM requests retirement of a die. -/
  | dieRetireWrite (master : Nat) (v : Word)
  /-- DIE_RETIREMENT (R171): Once the die's open operations have ended, every block becomes RETIRED and its groups count the member missing. -/
  | dieRetirement (sled pos : Nat)
  /-- RAW_READ (R176): A write of RAW_CTRL.GO issues a Class C raw read of the selected word line into RAW_DATA. -/
  | rawRead (master : Nat)
  /-- SLOT_INSERTION (R211): SLOT_PRSNT_N low for the debounce time makes the port read the sled record and go to POWERING or REFUSED. -/
  | slotInsertion (slot : Nat) (record : List Byte)
  /-- SLED_REMOVAL (R211): SLOT_PRSNT_N high for 1 ms deasserts SLOT_PWREN, reconciles the port and returns it to EMPTY. -/
  | sledRemoval (slot : Nat)
  /-- POWER_WAIT_EXPIRY (R211): The POWERING wait ends and the port begins training. -/
  | powerWaitExpiry (slot : Nat)
  /-- TRAIN_TRIAL_START (R204): A training trial starts at its rate by sending PRBS13Q for 2 ms. -/
  | trainTrialStart (link : LinkId)
  /-- PRBS_PHASE_END (R204): After 2 ms of PRBS13Q both sides send null frames with markers. -/
  | prbsPhaseEnd (link : LinkId)
  /-- ALIGNMENT_MARKER (R184): A marker match, or its absence at the expected position, moves the receiver's alignment between SEARCH, CANDIDATE and LOCKED. -/
  | alignmentMarker (link : LinkId) (found : Option Nat)
  /-- LOSS_OF_SIGNAL (R184): No signal on a lane for 1 us returns alignment to SEARCH and resets the link. -/
  | lossOfSignal (link : LinkId)
  /-- TRAINING_WINDOW_END (R204): The 32,768-codeword window of a trial ends with its counts of corrected symbols and uncorrectable codewords. -/
  | trainingWindowEnd (link : LinkId) (corrected : Nat) (uncorr : Bool)
  /-- TRAIN_RECEIVE (R204): A TRAIN packet from the bridge carries its verdict, and the controller answers with the final verdict. -/
  | trainReceive (link : LinkId) (ok : Bool) (count : Nat)
  /-- TRIAL_TIMEOUT (R204): A trial without PASS within TRIAL_MS fails and the next lower rate starts, or the port enters HOLD. -/
  | trialTimeout (link : LinkId)
  /-- HOLD_EXPIRY (R211): A port's hold time ends and it returns to TRAINING. -/
  | holdExpiry (link : LinkId)
  /-- FRAME_RECEIVE (R186): A received codeword is decoded, passed or discarded, accepted or NAKed, and its trailer's ACK, NAK and credit returns are taken. -/
  | frameReceive (link : LinkId) (f : RxFrame)
  /-- FRAME_TRANSMIT (R185): The transmitter sends its next frame, sequenced, replayed or null, with the current trailer. -/
  | frameTransmit (link : LinkId)
  /-- REPLAY_TIMEOUT (R187): The oldest held frame unacknowledged for TO_US is replayed, or the link resets for replay exhaustion. -/
  | replayTimeout (link : LinkId)
  /-- CREDIT_RECEIVE (R199): The one CREDIT packet of a link-up sets the four VC limits. -/
  | creditReceive (link : LinkId) (limits : List Nat)
  /-- BURST_NAK_RECEIVE (R200): A BURST_NAK from the bridge makes the controller resend the burst, or cancel the PROGRAM after the third failure. -/
  | burstNakReceive (sled tag seq attempt : Nat)
  /-- ECHO_RECEIVE (R210): An ECHO gives the round trip, and the controller sends TIME with half the round trip added. -/
  | echoReceive (link : LinkId) (t : Nat)
  /-- QUIESCED_RECEIVE (R212): QUIESCED from the bridge deasserts SLOT_PWREN and takes the port OFF, with SLOTOFF to the peer. -/
  | quiescedReceive (slot : Nat)
  /-- QUIESCE_TIMEOUT (R211): QUIESCING ends after 500 ms without QUIESCED, and the LED blinks where the peer cannot confirm. -/
  | quiesceTimeout (slot : Nat)
  /-- LINK_RESET_RECEIVE (R213): A LINK_RESET from the bridge resets the link. -/
  | linkResetReceive (link : LinkId)
  /-- LINK_RESET (R213): A link reset ends the link instance and both sides go to training. -/
  | linkReset (link : LinkId) (cause : Nat)
  /-- DIE_STATUS_POLL (R214): After reconciliation, STATUS is sent once per millisecond to each affected die until it reports idle, and it leaves OFFLINE. -/
  | dieStatusPoll (sled pos : Nat)
  /-- MANAGEMENT_TIMEOUT (R194): An unanswered management request is sent once more, and a second lapse resets the link. -/
  | managementTimeout (link : LinkId) (op xid : Nat)
  /-- CAP_RESPONSE (R206): The CAP answer sets the negotiated version and the port's path to AUTH, UNADOPTED, FOREIGN or REFUSED. -/
  | capResponse (link : LinkId) (xid : Nat) (cap : Cap)
  /-- ADOPT_RESPONSE (R208): The bridge's answer to ADOPT completes adoption, and authentication follows. -/
  | adoptResponse (slot xid status : Nat)
  /-- AUTH_RESPONSE (R207): An AUTH answer is checked with the constant-time compare and answered, or fails authentication; both directions verified
  brings the port UP. -/
  | authResponse (link : LinkId) (xid status : Nat) (mac nonce : List Byte)
  /-- GEOM_RESPONSE (R133): A GEOM answer gives the geometry and factory-bad blocks of one die position. -/
  | geomResponse (slot xid status : Nat) (geom : Geom) (bad : List Nat)
  /-- VTABLE_RESPONSE (R151): A VTABLE answer loads a die's read-level vector table. -/
  | vtableResponse (slot xid status : Nat) (vectors : List (List Int))
  /-- RELEASE_RESPONSE (R208): RELEASE answered done zeroes K_sled and moves the port to UNADOPTED without a link reset. -/
  | releaseResponse (slot xid status : Nat)
  /-- FENCE_RESPONSE (R251): A FENCE answer reports the token, lease age and holder, or the outcome of a SET or RENEW. -/
  | fenceResponse (slot xid status token leaseAge : Nat) (heldHere : Bool)
  /-- PORT_RETRAIN (R218): A write of PORT_CTRL.RETRAIN resets the link and restarts training at MAX_RATE. -/
  | portRetrain (slot : Nat) (w : RetrainWrite)
  /-- PORT_QUIESCE (R212): A write of PORT_CTRL.QUIESCE starts an orderly removal, or is ignored if it would leave a namespace three members short. -/
  | portQuiesce (slot master : Nat)
  /-- PORT_RESTORE (R211): A write of PORT_CTRL.RESTORE takes an OFF port to POWERING. -/
  | portRestore (slot master : Nat)
  /-- PORT_ENABLE_WRITE (R211): A write of PORT_CTRL.EN turns the port OFF with reconciliation, or powers it again. -/
  | portEnableWrite (slot master : Nat) (en : Bool)
  /-- SLED_RELEASE_WRITE (R208): A write of ADOPT_CTRL.RELEASE sends RELEASE, or is ignored while the sled is a namespace member. -/
  | sledReleaseWrite (slot master : Nat)
  /-- SLOT_ATTN_SAMPLE (R202): Every 10 ms the controller releases SLOT_ATTN_N for 100 us and samples it for a button press. -/
  | slotAttnSample (slot : Nat) (low : Bool)
  /-- SLOTOFF_RECEIVE (R212): A SLOTOFF from the peer deasserts this controller's SLOT_PWREN for the slot and takes its port OFF. -/
  | slotoffReceive (lane xid slot : Nat)
  /-- PROGRAM_SETTLE_TIMEOUT (R557): A program for a sled whose port has not returned to UP within 1 s is settled as confirmed under R228. -/
  | programSettleTimeout (slot : Nat)
  /-- REPLACE_START (R240): A write of PRTY.REPLACE.START begins the sled-replacement service action and enters SERVICE. -/
  | replaceStart (slot master : Nat)
  /-- HEARTBEAT_RECEIVE (R245): A HEARTBEAT from the peer updates the peer's mode, pair state and hold. -/
  | heartbeatReceive (lane mode pair role : Nat) (hold : Bool) (count : Nat)
  /-- HOLDOFF_RECEIVE (R254): HOLDOFF from the active extends the standby's heartbeat and lease timeouts by the hold time. -/
  | holdoffReceive (lane ms : Nat)
  /-- PEER_TIME_RECEIVE (R245): The standby takes the active's TIME and slews its device time to stay within 200 ns. -/
  | peerTimeReceive (lane t : Nat)
  /-- MIRROR_RECEIVE (R246): A MIRROR packet is applied in PSN order into the standby's vault region. -/
  | mirrorReceive (lane psn area off blocks zgen : Nat) (data : List Byte)
  /-- ROWEVT_RECEIVE (R246): A ROWEVT packet applies a staging-area transition, including folds with the standby's own PRTY. -/
  | rowevtReceive (lane psn area event unit rs zgen zone nsid : Nat)
  /-- JOURNAL_RECEIVE (R246): A JOURNAL packet applies the active's journal records on the standby. -/
  | journalReceive (lane psn : Nat) (recs : List JRec) (tables : Option Ckpt)
  /-- PEER_ACK_RECEIVE (R244): An ACK marks PSNs applied, allowing commit records and completions and ending RESYNC. -/
  | peerAckReceive (lane psn : Nat)
  /-- PSN_RESEND (R244): A PSN packet not covered by an ACK within RESEND is sent again on any UP lane. -/
  | psnResend (psn : Nat)
  /-- FORCE_TAKEOVER (R253): A write of PEER_CTRL.FORCE_TAKEOVER in PEER-STANDBY takes over at once. -/
  | forceTakeover (master : Nat)
  /-- HANDOVER_START (R257): A write of PEER_CTRL.HANDOVER enters SERVICE for a peer handover and drains, or is refused. -/
  | handoverStart (membersUp : Bool) (master : Nat)
  /-- HANDOVER_RECEIVE (R257): The standby runs the takeover steps and the old active enters PEER-STANDBY. -/
  | handoverReceive (lane xid : Nat)
  /-- PAIR_RECEIVE (R407): The taker unwraps and seals K_pair, stores PEER-STANDBY and answers done, or refuses. -/
  | pairReceive (lane xid pairId giver : Nat) (wrappedKey : List Byte)
  /-- KEYS_RECEIVE (R410): A KEYS message updates the standby's wrapped keys and loaded slots. -/
  | keysReceive (lane : Nat) (psn : Option Nat) (full : Bool) (gone : List Nat) (ks : List (Nat × Nat × List Byte))
  /-- PAIR_GIVE (R407): A write of PAIR_CTRL.GIVE makes this controller the giver of K_pair for pairing. -/
  | pairGive (master : Nat)
  /-- PAIR_TAKE (R407): A write of PAIR_CTRL.TAKE makes this controller the taker in pairing. -/
  | pairTake (master : Nat)
  /-- UNPAIR (R409): A write of PAIR_CTRL.UNPAIR sets the pair UNPAIRED, and on a standby zeroes its keys and makes it blank. -/
  | unpair (master : Nat)
  /-- HOLDUP_OK_CHANGE (R266): HOLDUP_OK falling stops staging; rising for 10 ms lets staging resume. -/
  | holdupOkChange (high : Bool)
  /-- JOURNAL_PAGE_WRITE (R281): A full journal page, or one FLUSH_US old, is padded and programmed to the three journal blocks. -/
  | journalPageWrite (failed : List Nat)
  /-- CHECKPOINT_START (R286): A checkpoint starts when CKPT_K × 1,024 pages have been written or CKPT_NOW is written. -/
  | checkpointStart (byWrite : Option Nat)
  /-- JSEQ_LO_READ (R290): A read of VALT.JSEQ_LO latches JSEQ_HI for the reading master. -/
  | jseqLoRead (master : Nat)
  /-- LOAD_PEAK_READ (R290): A read of VALT.LOAD_PEAK returns and resets the highest load. -/
  | loadPeakRead (master : Nat)
  /-- SLICE_CREATE (R352): A write of SLC_CTRL.CREATE checks the parameters and creates the slice, binding its PASID. -/
  | sliceCreate (s master : Nat)
  /-- SLICE_RESET (R364): A write of SLC_CTRL.RESET advances the generation, holds the slice's SQs and discards its old work. -/
  | sliceReset (s master : Nat)
  /-- SLICE_REMOVE (R366): A write of SLC_CTRL.REMOVE resets the slice and then returns its SQs, reservations and areas to the base slice. -/
  | sliceRemove (s master : Nat)
  /-- SLICE_RESIZE (R354): A write of SLC_CTRL.RESIZE grows the reservations at once or shrinks them once the holdings fall. -/
  | sliceResize (s master : Nat)
  /-- SLICE_DRAIN_COMPLETE (R364): When no work of the old generation remains, DRAINING clears and NOTICE code 0 is delivered. -/
  | sliceDrainComplete (s : Nat)
  /-- RESIZE_SHRINK_COMPLETE (R354): A pending shrink takes effect once the slice holds no more than the new amount. -/
  | resizeShrinkComplete (s : Nat)
  /-- SQ_BIND_WRITE (R355): A write of SQ_BIND binds or unbinds the SQ to a slice and clears HELD. -/
  | sqBindWrite (port fn q index : Nat)
  /-- NEGON_HELLO (R360): A HELLO message negotiates the Negon version with the firmware. -/
  | negonHello (port fn mbox : Nat) (pasid : Option Nat) (words : List Word)
  /-- NEGON_INFO (R359): An INFO message is answered with the slice's reservations and holdings. -/
  | negonInfo (port fn mbox : Nat) (pasid : Option Nat) (words : List Word)
  /-- NEGON_USER (R362): A USER message stays in the UP slot for the manager and sets the SLIC flag. -/
  | negonUser (port fn mbox : Nat) (pasid : Option Nat) (words : List Word)
  /-- NEGON_RESIZE (R359): A RESIZE message is left for the manager, who acts through R354. -/
  | negonResize (port fn mbox : Nat) (pasid : Option Nat) (words : List Word)
  /-- NEGON_STATS (R359): A STATS message is answered with the slice's fetch, discard and token counts. -/
  | negonStats (port fn mbox : Nat) (pasid : Option Nat) (words : List Word)
  /-- MAILBOX_DOWN_ACK (R357): The slice's write to dword 0 of DOWN clears DOWN FULL. -/
  | mailboxDownAck (port fn mbox : Nat) (pasid : Option Nat)
  /-- MAILBOX_UP_ACK (R362): A write of MBX_CTRL.ACK by the manager empties the UP slot. -/
  | mailboxUpAck (s master : Nat)
  /-- MAILBOX_POST (R362): A write of MBX_CTRL.POST queues the DOWN staging buffer for delivery. -/
  | mailboxPost (s master : Nat)
  /-- MAILBOX_DOWN_DELIVER (R362): When DOWN is empty, the oldest waiting reply or post is delivered, or dropped on a generation mismatch. -/
  | mailboxDownDeliver (s : Nat)
  /-- DRAM_REQUEST (R383): A port request arrives at a DRAM subchannel and ages toward its urgency. -/
  | dramRequest (reader addr len : Nat) (data : Option (List Byte)) (mergeBad : Bool) (use : DramUse)
  /-- DRAM_BURST_READ (R378): A burst read is decoded, corrected and written back, or delivered poisoned. -/
  | dramBurstRead (ch sub : Nat) (errs : List Nat)
  /-- REFRESH_DUE (R386): A same-bank refresh falls due, or is postponed while its bank holds urgent work. -/
  | refreshDue (ch : Nat) (banks : List Nat)
  /-- MR4_POLL (R387): Every POLL_US the MR4 refresh rates are read and refresh is doubled or restored. -/
  | mr4Poll (ch : Nat) (rs : List Mr4)
  /-- DQS_OSC_MEASURE (R388): Every 10 ms a short pause measures the DQS interval oscillator for drift. -/
  | dqsOscMeasure (ch sub drift ns : Nat)
  /-- RETRAIN_STEP (R388): A retraining pause runs one training step on a subchannel. -/
  | retrainStep (ch sub step ns : Nat) (failed : Option Nat)
  /-- PAGE_CLOSE_TIMEOUT (R385): An open row idle for HOLD_NS is closed. -/
  | pageCloseTimeout (ch dramBank : Nat)
  /-- PATROL_SCRUB (R381): The patrol scrub reads the next burst at lowest urgency and corrects what it finds. -/
  | patrolScrub (ch : Nat) (errs : List Nat)
  /-- RANK_RETIREMENT (R392): A rank meeting the retirement condition starts retirement and the firmware moves its upper tables. -/
  | rankRetirement (ch : Nat)
  /-- RANK_RETIRE_WRITE (R391): A write of RETIRE with CONFIRM starts retirement of the named rank. -/
  | rankRetireWrite (ch : Nat) (v : Word) (master : Nat)
  /-- RANK_COPY_START (R392): Once tables are moved, rank 0 of the channel is copied to rank 1. -/
  | rankCopyStart (ch : Nat)
  /-- RANK_COPY_DONE (R392): The last burst copied makes rank 1 answer the lower half and halves the usable size. -/
  | rankCopyDone (ch : Nat) (bad : List Nat)
  /-- DRAM_ERR_INFO_READ (R397): A read of ERR_INFO returns and clears the captured error and re-arms the capture. -/
  | dramErrInfoRead (ch master : Nat)
  /-- LAT_MAX_READ (R396): A read of LAT_MAX returns and clears the longest read latency. -/
  | latMaxRead (ch master : Nat)
  /-- PAUSE_MAX_READ (R396): A read of PAUSE_MAX returns and clears the longest pause. -/
  | pauseMaxRead (ch master : Nat)
  /-- SLOT_GENERATE (R404): SLOT_OP GENERATE puts a DRBG key into an EMPTY slot bound to SLOT_NSID. -/
  | slotGenerate (master : Nat)
  /-- SLOT_LOAD (R404): SLOT_OP LOAD unwraps a wrapped key into an EMPTY slot, or fails the wrap check. -/
  | slotLoad (master : Nat)
  /-- SLOT_EXPORT (R404): SLOT_OP EXPORT writes the 72-byte wrapped key of a LOADED slot to WRAP_ADDR. -/
  | slotExport (master : Nat)
  /-- SLOT_ZERO (R404): SLOT_OP ZERO refuses new blocks for the slot and moves it to DRAINING. -/
  | slotZero (master : Nat)
  /-- SLOT_DRAIN_COMPLETE (R404): When the last block under a DRAINING slot leaves CRYP, its key is overwritten with zeros. -/
  | slotDrainComplete (keySlot : Nat)
  /-- SEAL (R405): SLOT_OP SEAL wraps 32 bytes at WRAP_ADDR under K_kek. -/
  | sealKey (master : Nat)
  /-- UNSEAL (R405): SLOT_OP UNSEAL unwraps 40 bytes at WRAP_ADDR under K_kek. -/
  | unsealKey (master : Nat)
  /-- RANDOM (R405): SLOT_OP RANDOM writes 32 DRBG bytes to WRAP_ADDR. -/
  | random (master : Nat)
  /-- DRBG_RESEED (R401): After 2^20 requests the DRBG reseeds from the noise source. -/
  | drbgReseed (passes : Bool)
  /-- DRBG_HEALTH_FAIL (R401): A noise source health test failure makes random operations fail until a full reseed passes. -/
  | drbgHealthFail (test failures : Nat)
  /-- DGST_JOB_SUBMIT (R418): A write of JOB_SUBMIT queues a digest job, or is refused when the queue is full. -/
  | dgstJobSubmit (addr master : Nat)
  /-- DGST_PREEMPT (R418): At a block boundary, a higher-priority job or a used slice makes the running job export and requeue. -/
  | dgstPreempt (blocks : Nat)
  /-- DGST_JOB_CANCEL (R419): A write of JOB_CANCEL ends the named job with status 5. -/
  | dgstJobCancel (num master : Nat)
  /-- STANDALONE_COMPARE (R424): A write of CMP_CTRL.START compares two SRAM operands in constant time and sets CMP_RESULT. -/
  | standaloneCompare (len master : Nat)
  /-- CTX_KEY_RENEW (R422): A write of CTX_KEY_CTRL.RENEW draws a new K_ctx, making older keyed records unimportable. -/
  | ctxKeyRenew (master : Nat)
  /-- NOR_PROGRAM (R436): PROGn_CTRL GO with OP program writes 256 bytes to NOR, or refuses as WOULD_SET or PROTECTED. -/
  | norProgram (bank master : Nat)
  /-- NOR_ERASE (R438): PROGn_CTRL GO with OP erase erases one NOR sector, or refuses it as PROTECTED. -/
  | norErase (bank master : Nat)
  /-- NOR_OP_COMPLETE (R433): A NOR program or erase ends with its result and the bank stops being busy. -/
  | norOpComplete (bank : Nat) (e : NorEnd)
  /-- BANK_FAULT (R434): A read of a busy NOR bank returns 0xFFFF_FFFF, is counted and is captured. -/
  | bankFault (addr master : Nat)
  /-- BUSY_FAULT_ADDR_READ (R462): A read of BUSY_FAULT_ADDR returns the captured NOR address and re-arms the capture. -/
  | busyFaultAddrRead (master : Nat)
  /-- OTP_PROGRAM (R439): OTP_CTRL GO sets the bits of OTP_DATA in one OTP word, or refuses it by lock or range. -/
  | otpProgram (master : Nat) (dieError : Bool)
  /-- KEY_REVOKE (R441): OTP_CTRL REVOKE revokes a signing key, or refuses it for the running image or manifest. -/
  | keyRevoke (k master : Nat)
  /-- ROLLBACK_COMMIT (R440): ROLLBACK_CTRL.COMMIT raises the anti-rollback counter to the running SVN, or refuses it. -/
  | rollbackCommit (force : Bool) (master : Nat)
  /-- VOTE_WITHDRAW (R467): A block withdraws its vote before the commit, which counts as a refusal. -/
  | voteWithdraw (step : Nat)
  /-- POWR_WAKE_WRITE (R472): A write of POWR.WAKE_CTRL.WAKE wakes the device from DORMANT. -/
  | powrWakeWrite (v : Word) (master : Nat)
  /-- SMBUS_ADDRESS_MATCH (R473): The comparator matches the device address, leaves it unacknowledged and sets the wake latch. -/
  | smbusAddressMatch (addr : Nat)
  /-- PAD_HOLD_RELEASE (R477): A pad group is released once its owning block drives the held levels. -/
  | padHoldRelease (group : Nat)
  /-- PAD_HOLD_TIMEOUT (R477): A group not released within PAD_CTRL.MS is forced to the held levels and released. -/
  | padHoldTimeout (group : Nat)
  /-- RAIL_SAMPLE (R480): Every 10 us every rail is sampled, and a 100 us excursion is recorded. -/
  | railSample (mvs : List Nat)
  /-- REFERENCE_LOSS (R482): A missing crystal, PCIe or link reference resets the device or takes down links. -/
  | referenceLoss (input : Nat)
  /-- PLL_LOCK_LOSS (R482): A running PLL loses lock, followed by a reset or link loss. -/
  | pllLockLoss (pll : Nat)
  /-- AON_CALIBRATION (R481): Once a second the AON oscillator is calibrated against the crystal. -/
  | aonCalibration (ppm : Int)
  /-- SMBUS_PACKET_RECEIVE (R492): An MCTP packet on SMBus is accepted with a good PEC for NVMe-MI, or dropped. -/
  | smbusPacketReceive (src : Nat) (pecOk : Bool) (eid : Option Nat) (replies : List (List Byte))
  /-- ALERT_ACK (R492): A write of ALERT_CTRL.ACK releases SIDE_ALERT_N. -/
  | alertAck (v : Word) (master : Nat)
  /-- SENSOR_RESULT (R496): Every 1 ms the 24 sensor counts are converted and filtered, and the ladder is evaluated. -/
  | sensorResult (counts : List Nat)
  /-- DORMANT_SENSOR_RESULT (R497): In DORMANT, sensors 22 and 23 are counted every 1 s and wake the device at DORM_WAKE. -/
  | dormantSensorResult (c22 c23 : Nat)
  /-- SENSOR_RESPONSE (R502): A SENSOR answer updates the sled's temperature for the fans. -/
  | sensorResponse (slot xid status b0 b1 b2 : Nat)
  /-- FAN_UPDATE (R506): Every 100 ms the fan duty is recomputed from the curve and the ladder. -/
  | fanUpdate (rpms : List Nat)
  /-- FAN_FAILURE (R506): A fan below FAIL_RPM for 2 s at duty 30 % or more is failed and the others run at 100 %. -/
  | fanFailure (fan rpm : Nat)
  /-- BROKEN_CLR_WRITE (R498): A write of BROKEN_CLR clears the broken marks of the named sensors. -/
  | brokenClrWrite (v : Word) (master : Nat)
  /-- EVENT_OFFER (R512): An event offered to EVNT becomes a ring record, folds into an earlier one, evicts a victim, or is dropped. -/
  | eventOffer (page num : Nat) (params : List Nat) (kind : OfferKind) (stamp : Stamp)
  /-- RING_FREEZE (R515): A write of EVNT_CTRL.FREEZE freezes the ring or ends the freeze, appending the held records. -/
  | ringFreeze (v : Word) (master : Nat)
  /-- LOG_PAGE_WRITE (R516): 2,045 unwritten records, or FLUSH_MS, make EVNT program a log page to its triple. -/
  | logPageWrite (failed : List Nat)
  /-- AUDIT_NOW (R533): A write of AUDIT_CTRL.NOW strobes at once and restarts the 1 ms period. -/
  | auditNow (en : Bool) (master : Nat)
  /-- AUDIT_PASS_END (R531): An audit pass evaluates every enabled instance and records any violation. -/
  | auditPassEnd (us : Nat) (poisoned : Option (Nat × Nat))
  /-- LEDGER_AUDIT_DISABLE (R534): A write clearing a LEDGER_EN bit or AUDIT_CTRL.EN records event 0x0104. -/
  | ledgerAuditDisable (v : Option Word) (master : Nat)
  /-- VIOL_LEDGER_READ (R533): A read of VIOL_LEDGER returns the latched violation and re-arms the capture. -/
  | violLedgerRead (master : Nat)
  /-- VIOL_TIME_LO_READ (R533): A read of VIOL_TIME_LO latches VIOL_TIME_HI for the reading master. -/
  | violTimeLoRead (master : Nat)
  /-- PEER_ENABLE_WRITE (R262): A write of PEER_CTRL.EN takes the peer lanes OFF and sets the pair state UNPAIRED, or brings the lanes back. -/
  | peerEnableWrite (en : Bool) (master : Nat)
  /-- REFERENCE_APPEARS (R482): A missing crystal, PCIe or link reference returns, releasing the held warm reset or letting HOST and the links train. -/
  | referenceAppears (input : Nat) (trains : Bool)
  /-- SLOTOFF_RESPONSE (R212): The peer's done answer to SLOTOFF lets the removing controller light the slot LED steadily. -/
  | slotoffResponse (lane xid status : Nat)
  /-- QUIESCED_WAIT_EXPIRY (R212): With no peer lane UP, 10 ms after the bridge's QUIESCED the controller lights the LED steadily. -/
  | quiescedWaitExpiry (slot : Nat)
  /-- PAIR_RESPONSE (R407): The taker's done answer to PAIR makes the giver clear its pairing code, retrain the lanes under K_peer, go to SOLO and send
  KEYS. -/
  | pairResponse (lane xid status : Nat)
  /-- PEER_PROBE_RECEIVE (R245): A PROBE from the active on a peer lane is answered at once with ECHO by the standby. -/
  | peerProbeReceive (lane t : Nat)
  /-- CONFIGURATION_WRITE (R300): A PCIe configuration write, such as VF Enable or a D-state change, takes effect in configuration space and wakes the
  device from DORMANT. -/
  | configurationWrite (port : Nat) (op : ConfigOp)
  /-- INTERRUPT_COALESCING_TIMEOUT (R306): The aggregation time of Interrupt Coalescing runs out and the held MSI-X message for the completions is sent. -/
  | interruptCoalescingTimeout (port fn q : Nat)
  /-- ATS_INVALIDATE_REQUEST (R295): An ATS Invalidate Request from the host drops the cached translations it names and is answered with an invalidation
  completion. -/
  | atsInvalidateRequest (port fn pasid : Nat) (pages : List Nat)
  /-- POR_N_ASSERT (R483): POR_N going low ends every activity at once and makes a cold reset of everything except the NOR die and OTP row. -/
  | porNAssert
  /-- BOOT_WATCHDOG_EXPIRY (R451): The boot watchdog expires before BOOT_OK and resets the device as a failed boot. -/
  | bootWatchdogExpiry
  /-- STARTUP_MODE_SELECT (R21): Once the sled ports have reached UP or 1 s has passed, the reset rows choose STANDALONE, the base mode or PEER-STANDBY. -/
  | startupModeSelect
  /-- RECOVERY_COMMIT_RESET (R453): Within 1 s of a commit in RECOVERY that wrote a SELECT entry, the ROM resets the device. -/
  | recoveryCommitReset
  /-- CREDIT_POOL_SPLIT (R109): Once the outgoing pool holds no credits, the read-around credit shares are re-divided for the new mode. -/
  | creditPoolSplit
  /-- ACTIVATION_SWAP (R333): When CTX_HELD reaches 0 on every port, the images are swapped and the SELECT and ATTEMPT entries are written. -/
  | activationSwap
  /-- ACTIVATION_RESUME (R333): When the swap ends, CSTS.PP clears, fetching resumes, SERVICE ends and the Firmware Commit completes. -/
  | activationResume
  /-- ACTIVATION_DRAIN_TIMEOUT (R334): A drain not complete within ACT_LIMIT.MS abandons the activation and resumes on the old image. -/
  | activationDrainTimeout
  /-- FORCED_CREDIT_GRANT (R112): A forced reconstruction waiting for pool 65 takes its credits when the pool can supply them. -/
  | forcedCreditGrant
  /-- PRTY_JOB_START (R226): The parity engine takes the next waiting reconstruction, fold or rebuild job in priority order. -/
  | prtyJobStart
  /-- PRTY_JOB_END (R227): A PRTY job ends good, failed or discarded, delivering its reconstruction or fold. -/
  | prtyJobEnd
  /-- TRACKER_SAMPLING (R153): Every SAMPLE_DAYS, MEDI reads one page per word-line group of every block holding data and keeps the better shift index. -/
  | trackerSampling
  /-- TRACKER_CHECKPOINT (R153): Every CKPT_MIN minutes the firmware saves the read-level tracker to the journal. -/
  | trackerCheckpoint
  /-- LINK_TIME_SYNC (R210): Every 1 s the controller sends PROBE and TIME on each UP port. -/
  | linkTimeSync
  /-- SLOW_WINDOW_TICK (R232): Each second the slow-event window advances, and a sled may be demoted or restored. -/
  | slowWindowTick
  /-- REPLACE_WAIT_EXPIRY (R240): No sled reaches UP within REPLACE_WAIT of START, so the replacement is abandoned. -/
  | replaceWaitExpiry
  /-- REBUILD_ROW (R234): With a rebuild token, the rebuild reads D source units of the next row and programs the target's unit. -/
  | rebuildRow
  /-- HEARTBEAT_SEND (R245): Every PERIOD_US each controller sends HEARTBEAT on every UP peer lane. -/
  | heartbeatSend
  /-- HEARTBEAT_TIMEOUT (R247): No heartbeat for TO_MS beyond any hold takes the pair to SOLO and arms the takeover checks. -/
  | heartbeatTimeout
  /-- PEER_TIME_SYNC (R245): Every 1 ms the active sends PROBE and TIME on the lowest UP peer lane. -/
  | peerTimeSync
  /-- LEASE_RENEW (R252): Every RENEW_US the holder sends RENEW to every sled it holds. -/
  | leaseRenew
  /-- TAKEOVER_LEASE_CHECK (R253): The standby reads every sled's lease each millisecond and takes over or withholds takeover. -/
  | takeoverLeaseCheck
  /-- HANDOVER_SEND (R257): Once ACK covers every PSN, the active sends HANDOVER to the standby. -/
  | handoverSend
  /-- PAIR_CODE_EXPIRY (R408): 600 s after it was written, the pairing code is cleared. -/
  | pairCodeExpiry
  /-- PFAIL_ACCEPT (R265): PFAIL_N low for PFAIL_FILT is accepted and starts the mode's power-fail sequence. -/
  | pfailAccept
  /-- VAULT_SNAPSHOT_DONE (R272): The freeze snapshot completes, power is shed, the vault set is fixed and SAVE begins. -/
  | vaultSnapshotDone
  /-- PFAIL_N_RISE (R265): PFAIL_N rises during the sequence, which runs on and is noted in the seal. -/
  | pfailNRise
  /-- HALT_RELEASE (R265): PFAIL_N high for 10 ms after HALT releases the reset and the controller starts as after a power failure. -/
  | haltRelease
  /-- CHECKPOINT_END (R286): CKPT_END is made, the anchor updated and older journal triples released. -/
  | checkpointEnd
  /-- TOKEN_REFILL (R349): Each refill interval, every partition moves one token from SPENT back to AVAIL. -/
  | tokenRefill
  /-- DGST_JOB_SELECT (R419): DGST takes the highest-priority queued job, importing its state where needed. -/
  | dgstJobSelect
  /-- DGST_JOB_END (R419): A job's source is consumed, and it exports, pads and writes its digest, compares, or fails. -/
  | dgstJobEnd
  /-- CONFIG_RECORD_FLUSH (R455): Configuration records reach NOR within 100 ms or when the ring is half full. -/
  | configRecordFlush
  /-- CONFIG_COMPACTION (R458): With too many live sectors, the oldest is copied forward, retired and erased. -/
  | configCompaction
  /-- IDLE_TIMER_EXPIRY (R466): The idle timer expires and the DORMANT prepare phase begins. -/
  | idleTimerExpiry
  /-- PREPARE_STEP_ANSWER (R467): A block answers STOPPED or REFUSE at its prepare step, and POWR moves to the next step or rolls back. -/
  | prepareStepAnswer
  /-- PREPARE_STEP_TIMEOUT (R467): A prepare step unanswered within PREP_TO counts as a refusal with reason 6. -/
  | prepareStepTimeout
  /-- DORMANT_COMMIT (R469): The commit is taken on the daisy island, and the vault pass, link idle, self-refresh, pad hold and power gating follow. -/
  | dormantCommit
  /-- DORMANT_WAKE (R475): A latched wake source relocks the PLLs, resumes the cores, leaves self-refresh and retrains the ports. -/
  | dormantWake
  /-- WAKE_COMPLETE (R475): When member ports are UP or 40 ms have passed, the return mode resumes and SIDE starts. -/
  | wakeComplete
  /-- HOUR_TICK (R484): At each change of hour the firmware makes a BOOTCNT record. -/
  | hourTick
  /-- SMBUS_TIMEOUT (R492): SCL low for SMB_TIMING.MS makes SIDE release the bus. -/
  | smbusTimeout
  /-- LADDER_STEP_LEAVE (R503): Tj below threshold − HYST for 1 s leaves the ladder step, one step at a time. -/
  | ladderStepLeave
  /-- STOP_RESUME (R504): Tj below RESUME for 1 s resumes the device after an orderly stop, at ladder step 3. -/
  | stopResume
  /-- SLED_SENSOR_POLL (R502): Every 1 s THRM sends SENSOR to every UP sled of version 1.2 or later. -/
  | sledSensorPoll
  /-- FREEZE_TIMEOUT (R515): A freeze ends after FREEZE_CTRL.MS and records event 0x0502. -/
  | freezeTimeout
  /-- RECORDS_LOST_REPORT (R524): At most once per second, the records lost in the last second are offered as event 0x0501. -/
  | recordsLostReport
  /-- AUDIT_STROBE (R529): Every 1 ms, LEDG strobes every ledger owner to capture one consistent snapshot. -/
  | auditStrobe
  deriving DecidableEq, Repr

end Sys2Proof
end

