-- ==== Sys2Proof/Decode.lean ====
section
/-! DEFINITION. Commands spelled by words: none, since the opcode table gives its rows no bits. -/

namespace Sys2Proof

/-- The command that a word spells by the table's bits. -/
def decodeTableWord (_nbits _w : Nat) : Option Instr := none

end Sys2Proof
end

