-- ==== Sys2Proof/Machine/Bits.lean ====
section
/-! DEFINITION. Bit fields, saturation, wrapping arithmetic and byte order (little-endian, as R510 and the record layouts give it). -/

namespace Sys2Proof.Machine

/-- The `n`-bit field of `w` whose lowest bit is `lo`. -/
def fld (w : Word) (lo n : Nat) : Nat := (w.toNat / 2 ^ lo) % 2 ^ n

/-- `w` with the `n`-bit field at `lo` replaced by `v`. -/
def setFld (w : Word) (lo n v : Nat) : Word :=
  BitVec.ofNat 32 (w.toNat - fld w lo n * 2 ^ lo + (v % 2 ^ n) * 2 ^ lo)

/-- Bit `i` of `w`. -/
def bitOf (w : Word) (i : Nat) : Bool := w.getLsbD i

/-- `w` with bit `i` set. -/
def setBit (w : Word) (i : Nat) : Word := w ||| BitVec.ofNat 32 (2 ^ i)

/-- `w` with bit `i` cleared. -/
def clrBit (w : Word) (i : Nat) : Word := w &&& ~~~ (BitVec.ofNat 32 (2 ^ i))

/-- `w` with bit `i` set or cleared. -/
def putBit (w : Word) (i : Nat) (b : Bool) : Word := if b then setBit w i else clrBit w i

/-- A natural number as a 32-bit register, modulo 2^32. -/
def u32 (n : Nat) : Word := BitVec.ofNat 32 n

/-- The value `n` saturated at `m`. -/
def satAt (m n : Nat) : Nat := if n ≤ m then n else m

/-- Bit `i` of a mask held as a number. -/
def hasBit (m i : Nat) : Bool := m / 2 ^ i % 2 == 1

/-- How many of bits 0 to `n` − 1 of `m` are set. -/
def popN : Nat → Nat → Nat
  | 0, _ => 0
  | n + 1, m => m % 2 + popN n (m / 2)

/-- The number with exactly the bits in `l` set (`l` without repeats). -/
def maskOf (l : List Nat) : Nat := l.foldl (fun a i => if hasBit a i then a else a + 2 ^ i) 0

/-- `v` as `n` bytes, least significant first. -/
def leBytes : Nat → Nat → List Byte
  | 0, _ => []
  | n + 1, v => BitVec.ofNat 8 v :: leBytes n (v / 256)

/-- The number that bytes, least significant first, spell. -/
def ofLe : List Byte → Nat
  | [] => 0
  | b :: bs => b.toNat + 256 * ofLe bs

/-- Exactly `n` bytes: cut, or filled with zeros. -/
def fitBytes (n : Nat) (l : List Byte) : List Byte := (l ++ List.replicate n 0).take n

/-- Bytes `lo` to `lo + n` − 1. -/
def cut (bs : List Byte) (lo n : Nat) : List Byte := (bs.drop lo).take n

/-- `a` divided by `b`, rounded up. -/
def ceilDiv (a b : Nat) : Nat := (a + b - 1) / b

/-- The signed value of the low `n` bits of `v`. -/
def signedOf (n v : Nat) : Int :=
  let x := v % 2 ^ n
  if x < 2 ^ (n - 1) then (x : Int) else (x : Int) - 2 ^ n

/-- The 32-bit pattern of a signed value. -/
def ofSigned (i : Int) : Nat := (i % 2 ^ 32).toNat

/-- `x` put into a list that rises by `key`, after its equals. -/
def insBy {α : Type} (key : α → Nat) (x : α) : List α → List α
  | [] => [x]
  | y :: ys => if key x < key y then x :: y :: ys else y :: insBy key x ys

/-- A list in rising order of `key`, equals in their order. -/
def sortBy {α : Type} (key : α → Nat) (l : List α) : List α := l.foldl (fun a x => insBy key x a) []

end Sys2Proof.Machine
end

