-- ==== Sys2Proof/Machine/StateLink.lean ====
section
/-! DEFINITION. State of one serial link (R178 to R201, R216) and of a sled port (R202 to R219). -/

namespace Sys2Proof.Machine

/-- The receiver's alignment (R184). -/
inductive Align where
  | search | candidate | locked
  deriving DecidableEq, Repr

/-- One virtual channel in one direction (R196, R197, R216). -/
structure Vc where
  limit : Nat
  /-- Flits outstanding (transmit) or held (receive). -/
  out   : Nat
  used  : Word
  retd  : Word
  reclaimed : Word
  /-- The 12-bit credit-return counter last seen (transmit) or sent (receive). -/
  ctr   : Nat
  deriving DecidableEq, Repr

def Vc.reset : Vc := { limit := 0, out := 0, used := 0, retd := 0, reclaimed := 0, ctr := 0 }

/-- A sequenced frame held for replay (R185). -/
structure TxFrame where
  fsn   : Nat
  /-- The FLIT_MAP codes of its 19 payload flits, and their 608 bytes. -/
  kinds : List Nat
  payload : List Byte
  sentAt : Nat
  /-- Replays that have started from this frame. -/
  tries : Nat
  deriving DecidableEq, Repr

/-- The steps of a training trial (R204). -/
inductive TrialPhase where
  | idleGap | prbs | locking | counting | verdict
  deriving DecidableEq, Repr

/-- A training trial. -/
structure Trial where
  rate  : Nat
  /-- The rate of the first trial of the run (R205), and SYM_MAX as it stood when this trial began (R217). -/
  start : Nat
  symMax : Nat
  phase : TrialPhase
  startedAt : Nat
  /-- The controller's own count over the window, and whether a codeword was uncorrectable. -/
  corrected : Nat
  uncorr    : Bool
  windowDone : Bool
  /-- The other side's verdict and count, once its TRAIN has arrived. -/
  other : Option (Bool × Nat)
  deriving DecidableEq, Repr

/-- A packet being received: TYPE, VC, LEN, HEAD byte 4, the BODY flits so far, the HEAD flit and the bytes of the body. -/
structure RxPkt where
  typ : Nat
  vc  : Nat
  len : Nat
  op  : Nat
  got : Nat
  head : List Byte
  body : List Byte
  deriving DecidableEq, Repr

/-- One link, on the controller's side. -/
structure Link where
  align   : Align
  candPos : Nat
  miss    : Nat
  /-- The rate in use; 0 while down. -/
  rate    : Nat
  /-- The rate a link reset has lowered the port to; 0 where none (R205). -/
  capRate : Nat
  instanceNo : Nat
  /-- CREDIT has been received on this link instance. -/
  credited : Bool
  txFsn   : Nat
  held    : List TxFrame
  /-- The FSNs a replay has yet to resend, oldest first. -/
  replaying : List Nat
  /-- The ACK_SEQ that the last replay answered, the device time at which it began, and TO_US as it stood then, in ns (R187, R217). -/
  nakAck  : Option Nat
  nakAt   : Nat
  nakTo   : Nat
  rxFsn   : Nat
  rxAny   : Bool
  nakOut  : Bool
  txq     : List Pkt
  /-- Flits of the first packet that have entered a frame. -/
  txPos   : Nat
  rxAsm   : Option RxPkt
  /-- Packets received and not yet processed. -/
  rxq     : List RxPkt
  tx      : SMap Vc
  rx      : SMap Vc
  trial   : Option Trial
  trials  : Nat
  /-- `TRAIN_LAST`. -/
  trainLast : Word
  probeAt : Nat
  rtt     : Nat
  markers : Nat
  frames  : Nat
  /-- The transmitter's scrambler: its last 58 output bits, the newest in bit 0 (R180); and the parity so far of the codewords since the
  last marker (R183). -/
  scr     : Nat
  bip     : Nat
  fecCorr : Word
  fecUncorr : Word
  crcErr  : Word
  replays : Word
  amMiss  : Word
  lockLoss : Word
  resets  : Word
  malformed : Word
  txFrames : Word
  rxFrames : Word
  deriving DecidableEq, Repr

def Link.reset : Link :=
  { align := .search, candPos := 0, miss := 0, rate := 0, capRate := 0, instanceNo := 0, credited := false, txFsn := 0,
    held := [], replaying := [], nakAck := none, nakAt := 0, nakTo := 0, rxFsn := 0, rxAny := false, nakOut := false, txq := [],
    txPos := 0, rxAsm := none, rxq := [], tx := [], rx := [], trial := none, trials := 0, trainLast := 0, probeAt := 0,
    rtt := 0, markers := 0, frames := 0, scr := 0, bip := 0, fecCorr := 0, fecUncorr := 0, crcErr := 0, replays := 0, amMiss := 0,
    lockLoss := 0, resets := 0, malformed := 0, txFrames := 0, rxFrames := 0 }

/-- The states of a port (R211) and of a peer lane (R242). -/
inductive PortState where
  | empty | powering | training | hold | exchange | unadopted | foreign | auth | up | quiescing | off | refused
  deriving DecidableEq, Repr

/-- The code of a port state (R211). -/
def PortState.code : PortState → Nat
  | .empty => 0 | .powering => 1 | .training => 2 | .hold => 3 | .exchange => 4 | .unadopted => 5 | .foreign => 6
  | .auth => 7 | .up => 8 | .quiescing => 9 | .off => 10 | .refused => 11

/-- A management request waiting for its answer (R194). -/
structure MgmtReq where
  op   : Nat
  xid  : Nat
  args : List Nat
  data : List Byte
  /-- It has been sent a second time. -/
  again : Bool
  deriving DecidableEq, Repr

/-- A burst the receiver has NAKed (R200): TAG, SEQ, and the copies that failed. -/
structure NakBurst where
  tag  : Nat
  seq  : Nat
  tries : Nat
  deriving DecidableEq, Repr

/-- One sled port (R202 to R219). -/
structure Port where
  st      : PortState
  link    : Link
  /-- SLOT_PRSNT_N after debounce: present. -/
  prsnt   : Bool
  /-- SLOT_PWREN. -/
  pwren   : Bool
  /-- A button press is latched (`SLOT_STAT.BUTTON`), and the low samples in a row so far (R202). -/
  button  : Bool
  lows    : Nat
  /-- What the sled in the slot answers on the management pair: the 16 bytes of its record; none where nothing answers (R203). -/
  slotRec : List Byte
  /-- A sled has been taken out while no port was served: its removal is taken up at the wake (R209, R211). -/
  gone    : Bool
  /-- The port went OFF by the steps of an orderly removal (R212, R219 event 0x0C). -/
  orderly : Bool
  /-- Sled record: 0 absent, 1 valid, 2 refused (R203). -/
  recStat : Nat
  recSerial : Nat
  serial  : Nat
  verMax  : Nat
  verMin  : Nat
  verUsed : Nat
  features : Nat
  plc     : Bool
  owner   : Nat
  dies    : Nat
  /-- The fencing token CAP or FENCE reported last (R250). -/
  token   : Nat
  authFails : Nat
  authed  : Bool
  nonces  : Nat
  nc      : List Byte
  kSled   : List Byte
  mgmt    : List MgmtReq
  nextXid : Nat
  naks    : List NakBurst
  /-- ADOPT has been sent and is not answered. -/
  adopting : Bool
  adoptForce : Bool
  /-- First-time reads of this insertion have been sent (R210). -/
  firstReads : Bool
  /-- QUIESCE has been sent (R212 step 3). -/
  quiesceSent : Bool
  /-- The answer to SLOTOFF is awaited before the LED is lit (R212 step 5). -/
  slotoffWait : Bool
  /-- A VAULT packet has been sent on this link instance (R195). -/
  vaulted : Bool
  burstNakRx : Word
  burstNakTx : Word
  burstFail  : Word
  stray      : Word
  authFailCount : Word
  deriving DecidableEq, Repr

/-- A port at reset: EMPTY (R211). -/
def Port.reset : Port :=
  { st := .empty, link := Link.reset, prsnt := false, pwren := false, button := false, lows := 0, slotRec := [], gone := false, orderly := false, recStat := 0,
    recSerial := 0, serial := 0, verMax := 0, verMin := 0, verUsed := 0, features := 0, plc := false, owner := 0, dies := 0,
    token := 0, authFails := 0, authed := false, nonces := 0, nc := [], kSled := [], mgmt := [], nextXid := 0, naks := [],
    adopting := false, adoptForce := false, firstReads := false, quiesceSent := false, slotoffWait := false, vaulted := false,
    burstNakRx := 0, burstNakTx := 0, burstFail := 0, stray := 0, authFailCount := 0 }

end Sys2Proof.Machine
end

