-- ==== Sys2Proof/Machine/Wire.lean ====
section
/-! DEFINITION. What a link puts on its lane, byte for byte and bit for bit: packets (R188 to R194, R243), frames with their trailer (R181), the
scrambled and encoded codeword (R180) and the alignment marker (R183). -/

namespace Sys2Proof.Machine

/-! ## CRC-32 and the trailer (R181) -/

/-- One bit of the reflected CRC-32 of IEEE 802.3. -/
def crcBit (c : Nat) : Nat := if c % 2 = 1 then (c / 2) ^^^ 0xEDB88320 else c / 2

/-- One byte of the CRC. -/
def crcByte (c : Nat) (b : Byte) : Nat :=
  crcBit (crcBit (crcBit (crcBit (crcBit (crcBit (crcBit (crcBit ((c ^^^ b.toNat) % 2 ^ 32))))))))

/-- CRC-32 of IEEE 802.3: initial value all ones, result inverted (R181). -/
def crc32 (bs : List Byte) : Nat := (bs.foldl crcByte 0xFFFFFFFF) ^^^ 0xFFFFFFFF

/-- The trailer fields of R181. -/
def RxFrame.fsn (f : RxFrame) : Nat := ofLe (cut f.bytes 608 2) % 4096
def RxFrame.kind (f : RxFrame) : Nat := ofLe (cut f.bytes 608 2) / 4096
def RxFrame.ack (f : RxFrame) : Nat := ofLe (cut f.bytes 610 2) % 4096
def RxFrame.ackValid (f : RxFrame) : Bool := ofLe (cut f.bytes 610 2) / 4096 % 2 == 1
def RxFrame.nak (f : RxFrame) : Bool := ofLe (cut f.bytes 610 2) / 8192 % 2 == 1
def RxFrame.flitKind (f : RxFrame) (i : Nat) : Nat := ofLe (cut f.bytes 612 5) / 4 ^ i % 4
def RxFrame.crRet (f : RxFrame) (vc : Nat) : Nat := ofLe (cut f.bytes 617 6) / 4096 ^ vc % 4096
def RxFrame.crc (f : RxFrame) : Nat := ofLe (cut f.bytes 636 4)
/-- A null frame is one whose FLIT_MAP is all IDLE. -/
def RxFrame.null (f : RxFrame) : Bool := (List.range 19).all (fun i => f.flitKind i == 0)

/-- When a receiver passes a frame (R182). -/
def RxFrame.passes (f : RxFrame) : Bool :=
  f.rsOk && f.headersOk && (f.crc == crc32 (f.bytes.take 636)) && decide (f.kind ≤ 1)

/-! ## Packets as flits (R188, R190 to R194, R199, R243) -/

/-- The descriptor of a COMMAND or a VAULT packet, HEAD bytes 4 to 21 (R190), from its fields in the order of R137: POS, BLOCK, SLC, WL, PAGE,
PLANES, SENSES, SHIFT, CWMASK, DEADLINE, GEN. -/
def descBytes (op tag : Nat) (a : List Nat) : List Byte :=
  let f (i : Nat) : Nat := a.getD i 0
  leBytes 1 op ++ leBytes 1 (f 0) ++ leBytes 2 (f 1 % 8192 + 8192 * (f 2 % 2)) ++ leBytes 2 (f 3 % 1024 + 1024 * (f 4 % 8))
    ++ leBytes 1 (f 5 % 16 + 16 * (f 6 % 8)) ++ leBytes 1 (f 7 % 64) ++ leBytes 2 (f 8) ++ leBytes 4 (f 9) ++ leBytes 2 tag ++ leBytes 2 (f 10)

/-- The arguments of a CONTROL packet, HEAD bytes 8 to 15 (R193, R245, R254).  The bytes of TAG, SEQ and the attempt in BURST_NAK and CANCEL, and
of the cause in LINK_RESET, are the model's (DESIGN CHOICE, log entry 81). -/
def ctlBytes (op : Nat) (a : List Nat) : List Byte :=
  let f (i : Nat) : Nat := a.getD i 0
  if op = 1 then leBytes 1 (f 0) ++ leBytes 1 (f 1) ++ leBytes 2 0 ++ leBytes 4 (f 2)
  else if op = 2 ∨ op = 3 ∨ op = 4 then leBytes 8 (f 0)
  else if op = 5 then leBytes 2 (f 0) ++ leBytes 1 (f 1) ++ leBytes 1 (f 2)
  else if op = 6 then leBytes 2 (f 0)
  else if op = 9 then leBytes 1 (f 0)
  else if op = 10 then leBytes 1 (f 0) ++ leBytes 1 (f 1) ++ leBytes 1 (f 2) ++ leBytes 1 (f 3) ++ leBytes 4 (f 4)
  else if op = 11 then leBytes 4 (f 0)
  else []

/-- HEAD bytes 4 onward of a packet, by its TYPE. -/
def Pkt.fields (p : Pkt) : List Byte :=
  let f (i : Nat) : Nat := p.args.getD i 0
  match p.typ with
  | 1 | 7 => descBytes p.op p.tag p.args
  | 2 => leBytes 2 p.tag ++ leBytes 1 p.seq ++ leBytes 1 (f 0 % 2) ++ leBytes 2 (f 1) ++ leBytes 1 (f 2 % 8)
  | 4 => (List.range 4).flatMap (fun i => leBytes 2 (f i)) ++ leBytes 1 (f 4)
  | 5 => leBytes 1 p.op ++ leBytes 3 0 ++ ctlBytes p.op p.args
  | 6 => leBytes 1 p.op ++ leBytes 1 (p.seq % 2) ++ leBytes 2 p.tag ++ leBytes 1 (if p.seq % 2 = 1 then f 0 else 0)
  | 8 => leBytes 4 p.tag ++ leBytes 2 (f 0 % 8192) ++ leBytes 3 (f 1) ++ leBytes 1 (f 2) ++ leBytes 2 (f 3)
  | 9 => leBytes 4 p.tag ++ leBytes 2 (f 0 % 8192) ++ leBytes 1 (f 1) ++ leBytes 1 (f 2) ++ leBytes 2 (f 3) ++ leBytes 2 (f 4) ++ leBytes 4 (f 5)
      ++ leBytes 4 (f 6)
  | 10 => leBytes 4 p.tag ++ leBytes 8 (f 0)
  | 11 => leBytes 4 p.tag
  | _ => []

/-- The HEAD flit (R188). -/
def Pkt.head (p : Pkt) : List Byte := fitBytes 32 (leBytes 1 (p.typ % 16 + 16 * (p.vc % 4)) ++ leBytes 1 0 ++ leBytes 2 (p.len % 1024) ++ p.fields)

/-- Flit `i` of a packet: its HEAD, then the body, filled up with zeros. -/
def Pkt.flit (p : Pkt) (i : Nat) : List Byte := if i = 0 then p.head else fitBytes 32 (cut p.data (32 * (i - 1)) 32)

/-! ## The scrambler and the RS(544,514) code (R180) -/

/-- The bits of bytes, bit 0 of each first. -/
def bitsOf (bs : List Byte) : List Nat := bs.flatMap (fun b => (List.range 8).map (fun i => b.toNat / 2 ^ i % 2))

/-- Bits scrambled with x^58 + x^39 + 1, and the scrambler's new state. -/
def scramble : List Nat → Nat → List Nat × Nat
  | [], s => ([], s)
  | b :: bs, s =>
    let o := (b + s / 2 ^ 57 + s / 2 ^ 38) % 2
    let r := scramble bs ((2 * s + o) % 2 ^ 58)
    (o :: r.1, r.2)

/-- The blocks of a frame, `i` on: a header bit, 1 for the payload flits and 0 for the trailer, then the flit's scrambled bits. -/
def blockBits (bytes : List Byte) : Nat → Nat → Nat → List Nat × Nat
  | 0, _, s => ([], s)
  | n + 1, i, s =>
    let b := scramble (bitsOf (cut bytes (32 * i) 32)) s
    let r := blockBits bytes n (i + 1) b.2
    ((if i < 19 then 1 else 0) :: b.1 ++ r.1, r.2)

/-- A bit list as `n` symbols of `w` bits, the first bit the lowest. -/
def symbols (w : Nat) : Nat → List Nat → List Nat
  | 0, _ => []
  | n + 1, l => ((l.take w).foldr (fun b a => b + 2 * a) 0) :: symbols w n (l.drop w)

/-- Multiplication in GF(2^10) with the polynomial x^10 + x^3 + 1 (PRESUMED, as IEEE 802.3 Clause 91 has it: log entry 81). -/
def gf10Twice (a : Nat) : Nat := if a < 512 then 2 * a else (2 * a) ^^^ 0x409
def gf10Times (a b : Nat) : Nat := ((List.range 10).foldl (fun (r : Nat × Nat) i => (if hasBit b i then r.1 ^^^ r.2 else r.1, gf10Twice r.2)) (0, a)).1

/-- A polynomial, highest coefficient first, times x + `r`. -/
def polyTimes (p : List Nat) (r : Nat) : List Nat := List.zipWith (fun a b => a ^^^ gf10Times b r) (p ++ [0]) (0 :: p)

/-- The generator polynomial: 30 roots, the powers 0 to 29 of 2 (PRESUMED, log entry 81). -/
def rsGen : List Nat := ((List.range 30).foldl (fun (a : List Nat × Nat) _ => (polyTimes a.1 a.2, gf10Twice a.2)) ([1], 1)).1

/-- The 30 parity symbols of a message. -/
def rsParity (g msg : List Nat) : List Nat :=
  msg.foldl (fun reg m =>
    let fb := m ^^^ reg.headD 0
    List.zipWith (fun a b => a ^^^ gf10Times fb b) (reg.drop 1 ++ [0]) (g.drop 1)) (List.replicate 30 0)

/-- The codeword of a frame, 5,440 bits in line order, and the scrambler's new state. -/
def codewordBits (bytes : List Byte) (s : Nat) : List Nat × Nat :=
  let m := blockBits bytes 20 0 s
  (m.1 ++ (rsParity rsGen (symbols 10 514 m.1)).flatMap (fun x => (List.range 10).map (fun i => x / 2 ^ i % 2)), m.2)

/-! ## The alignment marker (R183) -/

/-- BIP-8 of a codeword added to the parity so far: bit `i` covers bit `i` of every byte. -/
def bip8 (acc : Nat) (line : List Nat) : Nat := (symbols 8 680 line).foldl (· ^^^ ·) acc

/-- The 15 bytes of a marker, with its source and rate code, its count and BIP-8. -/
def markerBytes (source rate count bip : Nat) : List Byte :=
  [0xC5, 0x3A, 0x9E, 0x21, 0x74, 0xB8] ++ leBytes 1 (rate % 4 + 4 * source) ++ [0x3A, 0xC5, 0x61, 0xDE, 0x8B, 0x47] ++ leBytes 1 count ++ leBytes 1 bip

end Sys2Proof.Machine
end

