-- ==== Sys2Proof/Machine/LinkOps.lean ====
section
/-! DEFINITION. Operations of one serial link: frames, alignment, replay, packets, credits and training trials (R180 to R205, R216). -/

namespace Sys2Proof.Machine

/-! ## Credits (R196, R197, R216) -/

/-- Available credits: the limit less what is outstanding. -/
def Vc.avail (v : Vc) : Nat := v.limit - v.out

/-- Consume `n` credits. -/
def Vc.consume (v : Vc) (n : Nat) : Vc := { v with out := v.out + n, used := v.used + u32 n }

/-- Return `n` credits. -/
def Vc.giveBack (v : Vc) (n : Nat) : Vc :=
  { v with out := v.out - n, retd := v.retd + u32 n, ctr := (v.ctr + n) % 4096 }

/-- A link reset moves what is outstanding into `CR_RECLAIMED` and sets the limit to 0 (R214). -/
def Vc.reclaim (v : Vc) : Vc :=
  { v with reclaimed := v.reclaimed + u32 v.out, out := 0, limit := 0, ctr := 0 }

def Link.txVc (l : Link) (vc : Nat) : Vc := l.tx.get Vc.reset vc
def Link.rxVc (l : Link) (vc : Nat) : Vc := l.rx.get Vc.reset vc

/-- What the controller advertises on each VC of a sled port (R196) and of a peer lane (R243). -/
def advertise (peer : Bool) (vc : Nat) : Nat :=
  if vc = 1 then 1731 else if vc = 2 then 256
  else if vc = 3 then (if peer then 512 else 128) else (if peer then 256 else 0)

/-- The processing of the first waiting packet that `p` names ends, and its buffer space is freed (R198). -/
def Link.free (l : Link) (p : RxPkt → Bool) : Link :=
  match l.rxq.find? p with
  | none => l
  | some r =>
    let n := if r.typ = 4 ∨ r.typ = 5 then 0 else r.got + 1
    { l with rxq := l.rxq.erase r
             rx := if n = 0 then l.rx else l.rx.upd Vc.reset r.vc (fun v => v.giveBack n) }

/-- A CONTROL packet. -/
def ctlPkt (op : Nat) (args : List Nat) : Pkt :=
  { typ := 5, vc := 0, len := 0, op := op, tag := 0, seq := 0, args := args, data := [] }

/-- A packet waits to be sent. -/
def Link.queue (l : Link) (p : Pkt) : Link := { l with txq := l.txq ++ [p] }

/-- A packet waits ahead of the first that has not begun and that `after` names. -/
def Link.queueBefore (l : Link) (after : Pkt → Bool) (p : Pkt) : Link :=
  let k := if l.txPos = 0 then 0 else 1
  let rest := l.txq.drop k
  { l with txq := l.txq.take k ++ rest.takeWhile (fun q => !after q) ++ p :: rest.dropWhile (fun q => !after q) }

/-- The packets that have not begun and that `p` names are given up. -/
def Link.unqueue (l : Link) (p : Pkt → Bool) : Link :=
  let k := if l.txPos = 0 then 0 else 1
  { l with txq := l.txq.take k ++ (l.txq.drop k).filter (fun q => !p q) }

/-- CREDIT and CONTROL use no credits (R193); another packet needs 1 + LEN on its VC (R197). -/
def Link.sendable (l : Link) (p : Pkt) : Bool :=
  p.typ == 4 || p.typ == 5 || (l.credited && decide (p.len + 1 ≤ (l.txVc p.vc).avail))

/-! ## Transmission (R185, R188, R197) -/

/-- The FLIT_MAP code of flit `i` of a packet of `n` flits. -/
def flitCode (i n : Nat) : Nat := if i = 0 then 1 else if i + 1 = n then 3 else 2

/-- What the payload of a frame is filled with: the FLIT_MAP codes, the flits' bytes, and the packets whose HEAD is among them. -/
structure Filled where
  kinds : List Nat
  flits : List (List Byte)
  begun : List Pkt
  link  : Link

/-- One more flit, ahead of those that follow it. -/
def Filled.cons (code : Nat) (p : Pkt) (i : Nat) (r : Filled) : Filled :=
  { r with kinds := code :: r.kinds, flits := p.flit i :: r.flits, begun := if i = 0 then p :: r.begun else r.begun }

/-- Fill up to `k` payload flits from the waiting packets: a packet that has begun goes on; otherwise the oldest sendable
packet begins, and its credits are consumed as its HEAD enters the frame. -/
def Link.fill : Nat → Link → Filled
  | 0, l => { kinds := [], flits := [], begun := [], link := l }
  | k + 1, l =>
    if l.txPos = 0 then
      match l.txq.find? l.sendable with
      | none => { kinds := [], flits := [], begun := [], link := l }
      | some p =>
        let q := l.txq.erase p
        let cost := p.typ != 4 && p.typ != 5
        let tx := if cost then l.tx.upd Vc.reset p.vc (fun v => v.consume (p.len + 1)) else l.tx
        let l' := if p.len = 0 then { l with txq := q, tx := tx } else { l with txq := p :: q, txPos := 1, tx := tx }
        (Link.fill k l').cons 1 p 0
    else
      match l.txq with
      | [] => { kinds := [], flits := [], begun := [], link := { l with txPos := 0 } }
      | p :: q =>
        let l' := if l.txPos = p.len then { l with txq := q, txPos := 0 } else { l with txPos := l.txPos + 1 }
        (Link.fill k l').cons (flitCode l.txPos (p.len + 1)) p l.txPos

/-- A frame as the transmitter sends it: FSN, whether it is null, its flit codes, the trailer's ACK_SEQ, ACK_VALID, NAK and CR_RET, and the 640
bytes of it all. -/
structure SentFrame where
  fsn   : Nat
  isNull : Bool
  kinds : List Nat
  ack   : Nat
  ackValid : Bool
  nak   : Bool
  crRet : List Nat
  bytes : List Byte
  /-- The codeword on the line, 5,440 bits (R180). -/
  line  : List Nat
  /-- The alignment marker that goes directly before it, where one is due (R183). -/
  marker : Option (List Byte)
  deriving DecidableEq, Repr

/-- A number whose digits in base 2^`w` are these, the first the lowest. -/
def packed (w : Nat) (l : List Nat) : Nat := l.foldr (fun x a => x % 2 ^ w + 2 ^ w * a) 0

/-- Frame bytes 608 to 635 (R181). -/
def trailerBytes (fsn : Nat) (isNull : Bool) (ack : Nat) (ackValid nak : Bool) (kinds crRet : List Nat) : List Byte :=
  leBytes 2 (fsn % 4096 + (if isNull then 4096 else 0)) ++ leBytes 2 (ack % 4096 + (if ackValid then 4096 else 0) + (if nak then 8192 else 0))
    ++ leBytes 5 (packed 2 kinds) ++ leBytes 6 (packed 12 crRet) ++ leBytes 13 0

/-- A frame with the current ACK_SEQ, NAK and CR_RET in its trailer and its CRC over all before it (R181, R187). -/
def Link.frame (l : Link) (source fsn : Nat) (kinds : List Nat) (payload : List Byte) : SentFrame :=
  let isNull := kinds.all (· == 0)
  let ack := (l.rxFsn + 4095) % 4096
  let crRet := [0, 1, 2, 3].map (fun vc => (l.rxVc vc).ctr)
  let body := fitBytes 608 payload ++ trailerBytes fsn isNull ack l.rxAny l.nakOut kinds crRet
  let bytes := body ++ leBytes 4 (crc32 body)
  let rate := match l.trial with | some t => t.rate | none => l.rate
  { fsn := fsn, isNull := isNull, kinds := kinds, ack := ack, ackValid := l.rxAny, nak := l.nakOut, crRet := crRet, bytes := bytes
    line := (codewordBits bytes l.scr).1
    marker := if (l.frames + 1) % 16384 = 0 then some (markerBytes source rate l.markers l.bip) else none }

/-- Frames the controller's replay buffer holds: 256 KiB of 19-flit frames (R185). -/
def replayFrames : Nat := 431

/-- What sending a frame moves on: the frame and marker counts, the scrambler, and the parity, which starts over at a marker (R180, R183). -/
def Link.sent (m : Link) (f : SentFrame) : Link :=
  let due := f.marker.isSome
  { m with frames := m.frames + 1, markers := if due then (m.markers + 1) % 256 else m.markers
           scr := (codewordBits f.bytes m.scr).2, bip := bip8 (if due then 0 else m.bip) f.line }

/-- The next frame, with the packets that begin in it: the next of a replay, a null frame while the replay buffer is full or nothing can be
sent, and else a new sequenced frame, which is held for replay. -/
def Link.transmit (l : Link) (source now : Nat) : SentFrame × List Pkt × Link :=
  let null : SentFrame := l.frame source l.txFsn [] []
  match l.replaying with
  | fsn :: rest =>
    match l.held.find? (fun h => h.fsn = fsn) with
    | some h =>
      let f := l.frame source fsn h.kinds h.payload
      let resent (x : TxFrame) : TxFrame := if x.fsn = fsn then { x with sentAt := now } else x
      (f, [], Link.sent { l with replaying := rest, held := l.held.map resent } f)
    | none => (null, [], Link.sent { l with replaying := rest } null)
  | [] =>
    if replayFrames ≤ l.held.length then (null, [], l.sent null)
    else
      let r := Link.fill 19 l
      if r.kinds.isEmpty then (null, [], l.sent null)
      else
        let f := l.frame source l.txFsn r.kinds r.flits.flatten
        let held : TxFrame := { fsn := l.txFsn, kinds := r.kinds, payload := fitBytes 608 r.flits.flatten, sentAt := now, tries := 0 }
        (f, r.begun, Link.sent { r.link with txFsn := (l.txFsn + 1) % 4096, txFrames := l.txFrames + 1, held := l.held ++ [held] } f)

/-! ## Replay (R187) -/

/-- Frames up to the one that ACK_SEQ names leave the replay buffer; an ACK_SEQ that names none held is ignored (R186). -/
def ackHeld (held : List TxFrame) (ack : Nat) : List TxFrame :=
  if held.any (fun h => h.fsn == ack) then (held.dropWhile (fun h => h.fsn != ack)).drop 1 else held

/-- A replay from the oldest held frame: not made, and `none` answered, where `limit` replays have started from it already.  A NAK with the
ACK_SEQ before that frame starts no further one for `toNs`. -/
def Link.replay (l : Link) (now toNs limit : Nat) : Option Link :=
  match l.held with
  | [] => some l
  | h :: t =>
    if limit ≤ h.tries then none
    else some { l with held := { h with tries := h.tries + 1, sentAt := now } :: t
                       replaying := l.held.map TxFrame.fsn
                       nakAck := some ((h.fsn + 4095) % 4096), nakAt := now, nakTo := toNs
                       replays := l.replays + 1 }

/-! ## Reception (R182, R186, R188, R197, R200, R201) -/

/-- Whether a HEAD breaks R189, for the packets the far side may send: the fault code of event 0x06.  A DATA burst's length is
judged by R200 instead. -/
def headFault (peer : Bool) (typ vc len : Nat) : Option Nat :=
  let row (v lo hi : Nat) : Option Nat := if vc ≠ v then some 0 else if len < lo ∨ hi < len then some 1 else none
  if peer then
    if typ = 4 ∨ typ = 5 then (if len ≠ 0 then some 1 else none)
    else if typ = 6 then row 3 0 63
    else if typ = 8 then (if len = 128 ∨ len = 256 ∨ len = 384 ∨ len = 512 then row 1 128 512 else some 1)
    else if typ = 9 then row 0 0 0
    else if typ = 10 then row 3 1 63
    else if typ = 11 then row 2 0 0
    else some 0
  else
    if typ = 2 then (if vc ≠ 1 then some 0 else none)
    else if typ = 3 then row 2 0 0
    else if typ = 4 ∨ typ = 5 then (if len ≠ 0 then some 1 else none)
    else if typ = 6 then row 3 0 63
    else some 0

/-- What a received frame leads to besides the link's own state: a reset with its cause, or a malformed packet. -/
structure RxResult where
  link  : Link
  /-- Cause code of a link reset (R219 event 0x02). -/
  cause : Option Nat
  /-- TYPE, LEN, HEAD byte 4 and fault of event 0x06. -/
  bad   : Option (Nat × Nat × Nat × Nat)

/-- One payload flit of an accepted frame. -/
def Link.takeFlit (peer : Bool) (l : Link) (code : Nat) (b : List Byte) : RxResult :=
  let ok (m : Link) : RxResult := { link := m, cause := none, bad := none }
  let malformed (t n o f : Nat) : RxResult :=
    { link := { l with malformed := l.malformed + 1 }, cause := some (if f = 3 then 4 else 3), bad := some (t, n, o, f) }
  let head (l : Link) : RxResult :=
    let typ := ofLe (cut b 0 1) % 16
    let vc := ofLe (cut b 0 1) / 16 % 4
    let len := ofLe (cut b 2 2) % 1024
    let op := ofLe (cut b 4 1)
    match headFault peer typ vc len with
    | some f => malformed typ len op f
    | none =>
      let free := typ = 4 ∨ typ = 5
      if ¬ free ∧ (l.rxVc vc).avail < len + 1 then malformed typ len op 3
      else
        let rx := if free then l.rx else l.rx.upd Vc.reset vc (fun v => v.consume 1)
        let p : RxPkt := { typ := typ, vc := vc, len := len, op := op, got := 0, head := b, body := [] }
        if len = 0 then ok { l with rx := rx, rxAsm := none, rxq := l.rxq ++ [p] }
        else ok { l with rx := rx, rxAsm := some p }
  match l.rxAsm with
  | none =>
    if code = 1 then head l else if code = 0 then ok l else malformed 0 0 0 2
  | some p =>
    if code = 2 ∨ code = 3 then
      let p' := { p with got := p.got + 1, body := p.body ++ b }
      let rx := l.rx.upd Vc.reset p.vc (fun v => v.consume 1)
      -- a burst longer than its LEN may go beyond the space advertised (R197)
      if (l.rxVc p.vc).avail = 0 then malformed p.typ p.len p.op 3
      else if code = 3 then
        if p.typ = 2 ∨ p'.got = p.len then ok { l with rx := rx, rxAsm := none, rxq := l.rxq ++ [p'] }
        else malformed p.typ p.len p.op 2
      else if p.typ = 2 ∨ p'.got < p.len then ok { l with rx := rx, rxAsm := some p' }
      else malformed p.typ p.len p.op 2
    else if p.typ = 2 then
      -- a HEAD or IDLE flit before the burst's TAIL: the burst is short (R200)
      let l' := { l with rxAsm := none, rxq := l.rxq ++ [p] }
      if code = 1 then head l' else ok l'
    else malformed p.typ p.len p.op 2

/-- The payload flits of an accepted frame in order, up to the first fault. -/
def Link.takeFlits (peer : Bool) (f : RxFrame) : List Nat → Link → RxResult
  | [], l => { link := l, cause := none, bad := none }
  | i :: is, l =>
    let r := l.takeFlit peer (f.flitKind i) (cut f.bytes (32 * i) 32)
    match r.cause with
    | some _ => r
    | none => Link.takeFlits peer f is r.link

/-- The credit returns of a passing frame; a difference above what is outstanding is a credit violation (R197). -/
def Link.takeCredits (l : Link) (f : RxFrame) : List Nat → RxResult
  | [] => { link := l, cause := none, bad := none }
  | vc :: vcs =>
    let v := l.txVc vc
    let diff := (f.crRet vc + 4096 - v.ctr) % 4096
    if v.out < diff then
      { link := { l with malformed := l.malformed + 1 }, cause := some 4, bad := some (0, 0, 0, 3) }
    else Link.takeCredits { l with tx := l.tx.put Vc.reset vc (v.giveBack diff) } f vcs

/-- A received codeword (R182, R186, R187). -/
def Link.receive (l : Link) (peer : Bool) (f : RxFrame) (now toNs limit : Nat) : RxResult :=
  let stay (m : Link) : RxResult := { link := m, cause := none, bad := none }
  if l.align ≠ .locked then stay l
  else if ¬ f.passes then
    stay { l with nakOut := true
                  fecUncorr := if f.rsOk then l.fecUncorr else l.fecUncorr + 1
                  crcErr := if f.rsOk then l.crcErr + 1 else l.crcErr }
  else
    let l1 := { l with fecCorr := l.fecCorr + u32 f.corrected
                       held := if f.ackValid then ackHeld l.held f.ack else l.held }
    let l1 := { l1 with replaying := l1.replaying.filter (fun n => l1.held.any (fun h => h.fsn == n)) }
    let again := l1.nakAck = some f.ack ∧ now < l1.nakAt + l1.nakTo
    let replayed : Option Link :=
      if f.nak ∧ ¬ again then (l1.replay now toNs limit).map (fun m => { m with nakAck := some f.ack, nakAt := now }) else some l1
    match replayed with
    | none => { link := l1, cause := some 0, bad := none }
    | some l2 =>
      let r := l2.takeCredits f (if l2.credited then [0, 1, 2, 3] else [])
      match r.cause with
      | some _ => r
      | none =>
        let l3 := r.link
        if f.null then stay l3
        else if f.fsn = l3.rxFsn then
          Link.takeFlits peer f (List.range 19)
            { l3 with rxFsn := (l3.rxFsn + 1) % 4096, rxAny := true, nakOut := false, rxFrames := l3.rxFrames + 1 }
        else if (l3.rxFsn + 4096 - 1 - f.fsn) % 4096 < 2047 then stay l3
        else stay { l3 with nakOut := true }

/-! ## Alignment (R184) -/

/-- The marker period in bits (R183). -/
def markerPeriod : Nat := 89129080

/-- A marker match at a bit position, or none at the expected position: the link, and whether a lock was lost. -/
def Link.marker (l : Link) (found : Option Nat) : Link × Bool :=
  match l.align, found with
  | .search, some p => ({ l with align := .candidate, candPos := p }, false)
  | .search, none => (l, false)
  | .candidate, some p =>
    if p = l.candPos + markerPeriod then ({ l with align := .locked, candPos := p, miss := 0 }, false) else (l, false)
  | .candidate, none => ({ l with align := .search }, false)
  | .locked, some p =>
    if p = l.candPos + markerPeriod then ({ l with candPos := p, miss := 0 }, false) else (l, false)
  | .locked, none =>
    if l.miss < 3 then ({ l with miss := l.miss + 1, amMiss := l.amMiss + 1, candPos := l.candPos + markerPeriod }, false)
    else ({ l with align := .search, lockLoss := l.lockLoss + 1 }, true)

/-! ## Link reset and training (R199, R204, R205, R213, R214) -/

/-- Credits and held flits that a reset reclaims, over every VC and direction. -/
def Link.outstanding (l : Link) : Nat :=
  ([0, 1, 2, 3].map (fun vc => (l.txVc vc).out)).sum + ([0, 1, 2, 3].map (fun vc => (l.rxVc vc).out)).sum

/-- The link's part of a reset with this cause: alignment returns to SEARCH, the replay buffer and every packet are dropped,
credits are reclaimed, and replay exhaustion or lock loss lowers the start rate one step (R205). -/
def Link.reset1 (l : Link) (cause : Nat) : Link :=
  { l with align := .search, miss := 0, rate := 0, credited := false, txFsn := 0, held := [], replaying := [], nakAck := none,
           rxFsn := 0, rxAny := false, nakOut := false, txq := [], txPos := 0, rxAsm := none, rxq := [],
           tx := l.tx.mapVals (fun _ v => v.reclaim), rx := l.rx.mapVals (fun _ v => v.reclaim), trial := none,
           capRate := if (cause = 0 ∨ cause = 1) ∧ 0 < l.rate then (if 1 < l.rate then l.rate - 1 else 1) else l.capRate,
           resets := l.resets + 1 }

/-- The start rate of R205. -/
def Link.startRate (l : Link) (maxRate : Nat) : Nat := if l.capRate = 0 then maxRate else l.capRate

/-- A trial starts at `rate`, in a run that began at `start`: PRBS13Q for 2 ms. -/
def Link.startTrial (l : Link) (start rate symMax now : Nat) : Link :=
  { l with trial := some { rate := rate, start := start, symMax := symMax, phase := .prbs, startedAt := now, corrected := 0, uncorr := false,
                           windowDone := false, other := none }
           trials := l.trials + 1, align := .search }

/-- Both sides send null frames with markers. -/
def Link.prbsEnd (l : Link) : Link := { l with trial := l.trial.map (fun t => { t with phase := .locking }) }

/-- The result of a trial in `TRAIN_LAST`: bit 7 passed, bits 6:0 corrected symbols ÷ 64, saturating. -/
def Link.noteTrial (l : Link) (rate corrected : Nat) (pass : Bool) : Link :=
  { l with trainLast := setFld l.trainLast (8 * (rate - 1)) 8 (satAt 127 (corrected / 64) + (if pass then 128 else 0)) }

/-- The final verdict, once both counts are known: PASS only when neither direction had an uncorrectable codeword and neither
counted more than SYM_MAX corrected symbols (R204). -/
def Trial.verdict (t : Trial) : Option Bool :=
  match t.windowDone, t.other with
  | true, some (ok, n) => some (ok && !t.uncorr && decide (t.corrected ≤ t.symMax) && decide (n ≤ t.symMax))
  | _, _ => none

/-- A trial has passed: the rate is in use, the link instance advances, and CREDIT is sent before any other packet (R199). -/
def Link.trained (l : Link) (peer : Bool) (t : Trial) : Link :=
  let l := l.noteTrial t.rate t.corrected true
  { l with rate := t.rate, trial := none, instanceNo := (l.instanceNo + 1) % 256
           txq := [{ typ := 4, vc := 0, len := 0, op := 0, tag := 0, seq := 0,
                     args := [advertise peer 0, advertise peer 1, advertise peer 2, advertise peer 3, (l.instanceNo + 1) % 256], data := [] }]
           rx := [0, 1, 2, 3].foldl (fun m vc => m.upd Vc.reset vc (fun v => { v with limit := advertise peer vc })) l.rx }

/-- The one CREDIT packet of a link instance sets the four limits (R199). -/
def Link.credit (l : Link) (limits : List Nat) : Link :=
  { l with credited := true
           tx := [0, 1, 2, 3].foldl (fun m vc => m.upd Vc.reset vc (fun v => { v with limit := limits.getD vc 0 })) l.tx }

end Sys2Proof.Machine
end

