-- ==== Sys2Proof/Machine/Out.lean ====
section
/-! DEFINITION. What a command makes the part send out: answers to reads, completions, messages, host data, frames and pins. -/

namespace Sys2Proof.Machine

/-- One zone descriptor of a report (R58, R76). -/
structure ZoneDesc where
  zslba : Nat
  state : Nat
  zcap  : Nat
  wp    : Nat
  zfc   : Bool
  zdev  : Bool
  ext   : List Byte
  deriving DecidableEq, Repr

/-- The figures a controller reports by Identify, Get Log Page and Get Features (R302 to R307). -/
inductive Report where
  | zones (count : Nat) (descs : List ZoneDesc)
  /-- Named fields with their values. -/
  | fields (fs : List (String × Nat))
  | errors (es : List ErrEntry)
  | list (ns : List Nat)
  deriving DecidableEq, Repr

/-- Something the part sends out. -/
inductive Out where
  /-- The word a read returns; with an error response where `err` (R15, R46). -/
  | word (w : Word) (err : Bool)
  /-- A completion queue entry (R313): port, function, CQ, SQ, CID, status (SCT × 256 + SC), DNR, phase, Dword 0. -/
  | cqe (port fn cq sq cid status : Nat) (dnr phase : Bool) (dw0 : Nat)
  /-- An MSI-X message. -/
  | msix (port fn vec : Nat)
  /-- Data written to the host for a command, under the PASID of its slice (R301). -/
  | hostData (port fn : Nat) (pasid : Option Nat) (data : List Byte)
  | report (port fn : Nat) (r : Report)
  /-- A frame on a link (R185). -/
  | frame (l : LinkId) (f : SentFrame)
  /-- A packet that a side sends as it gives a link up (R213). -/
  | packet (l : LinkId) (p : Pkt)
  /-- A message of the SMBus side to its master (R492). -/
  | smbus (data : List Byte)
  /-- An invalidation completion (R295). -/
  | invalidated (port fn : Nat)
  /-- The key words a command hands over (R405). -/
  | bytes (data : List Byte)
  /-- A DRAM burst answered to a port, and whether it is poisoned (R378). -/
  | burst (port : Nat) (data : List Byte) (poisoned : Bool)
  deriving DecidableEq, Repr

end Sys2Proof.Machine
end

