-- ==== Sys2Proof/Machine/StateCrypto.lean ====
section
/-! DEFINITION. State of CRYP and DGST (R399 to R431).  A key is the bytes it consists of; no key is ever readable (R399, R400). -/

namespace Sys2Proof.Machine

/-- The states of a key slot (R404). -/
inductive SlotState where
  | empty | loaded | draining
  deriving DecidableEq, Repr

/-- A key slot (R403, R404). -/
structure KeySlot where
  st   : SlotState
  nsid : Nat
  key  : List Byte
  /-- Blocks in CRYP under the slot. -/
  inflight : Nat
  deriving DecidableEq, Repr

def KeySlot.reset : KeySlot := { st := .empty, nsid := 0, key := [], inflight := 0 }

/-- Where pairing stands (R407, `PAIR_STAT.STATE`). -/
inductive PairPhase where
  | idle | codeHeld | exchanging
  deriving DecidableEq, Repr

/-- Where a Sanitize stands (R412): draining held contexts, or waiting for the peer to acknowledge the new key list. -/
inductive SanPhase where
  | draining | peerWait
  deriving DecidableEq, Repr

/-- A Sanitize in progress. -/
structure Sanitize where
  phase   : SanPhase
  /-- The command's context, or none where a start-up resumed it (R413). -/
  ctx     : Option Nat
  started : Nat
  resumed : Bool
  /-- The PSN after which the peer's acknowledgement completes it. -/
  psn     : Nat
  zones   : Nat
  deriving DecidableEq, Repr

structure Cryp where
  seedOk : Bool
  kKek   : List Byte
  /-- Key slot 0, loaded with K_vault from reset to reset. -/
  kVault : List Byte
  drbgOk : Bool
  /-- Requests since the last reseed (R401). -/
  drbgReqs : Nat
  /-- The words of `WRAP_KEY` and whether they have been written since reset. -/
  kPw      : List Byte
  pwLoaded : Bool
  slots    : SMap KeySlot
  /-- An operation runs (`SLOT_RESULT.BUSY`), and the slot a ZERO drains. -/
  busy     : Bool
  zeroing  : Option Nat
  result   : Nat
  /-- The slot taken last (R403). -/
  lastTaken : Nat
  kPair    : List Byte
  pairId   : Nat
  /-- The pairing code and the device time of its writing (R408). -/
  pairCode : Option (List Byte × Nat)
  pairPhase  : PairPhase
  pairResult : Nat
  give       : Bool
  take       : Bool
  san        : Option Sanitize
  deriving DecidableEq, Repr

/-- CRYP at reset, before the seed is used (R427): no key held. -/
def Cryp.reset : Cryp :=
  { seedOk := false, kKek := [], kVault := [], drbgOk := false, drbgReqs := 0, kPw := [], pwLoaded := false, slots := [],
    busy := false, zeroing := none, result := 0, lastTaken := 0, kPair := [], pairId := 0, pairCode := none,
    pairPhase := .idle, pairResult := 0, give := false, take := false, san := none }

/-- A digest job: its descriptor (R415) and how far it has come (R419). -/
structure DJob where
  num    : Nat
  addr   : Nat
  master : Nat
  alg    : Nat
  flags  : Nat
  prio   : Nat
  src    : Nat
  len    : Nat
  decl   : Nat
  state  : Nat
  out    : Nat
  /-- `JOB` as the descriptor held it when submitted: an importing job names its message's last job so (R422). -/
  prev   : Nat
  /-- A reserved descriptor bit is set. -/
  bad    : Bool
  /-- Bytes of the message consumed by this and earlier jobs. -/
  fed    : Nat
  /-- Bytes of this job's source consumed. -/
  pos    : Nat
  /-- Bytes consumed since it last started or resumed (R418). -/
  ran    : Nat
  /-- The chaining state, 200 bytes (R422). -/
  chain  : List Byte
  /-- It was preempted and imports its own exported state when next served. -/
  resuming : Bool
  deriving DecidableEq, Repr

/-- `FLAGS` of a descriptor (R415). -/
def DJob.hwpad (j : DJob) : Bool := j.flags % 2 == 1
def DJob.keyed (j : DJob) : Bool := j.flags / 2 % 2 == 1
def DJob.importing (j : DJob) : Bool := j.flags / 4 % 2 == 1
def DJob.final (j : DJob) : Bool := j.flags / 8 % 2 == 1
def DJob.compare (j : DJob) : Bool := j.flags / 16 % 2 == 1

/-- A job of the event log (R519): its source and its result are EVNT's own, and it has no descriptor. -/
def DJob.forLog (j : DJob) : Bool := j.addr == 0xFFFFFFFF

structure Dgst where
  queue   : List DJob
  running : Option DJob
  nextJob : Nat
  kCtx    : List Byte
  /-- The number given to the last submission of each master. -/
  submit  : SMap Nat
  cmpResult : Nat
  deriving DecidableEq, Repr

def Dgst.reset : Dgst := { queue := [], running := none, nextJob := 0, kCtx := [], submit := [], cmpResult := 0 }

end Sys2Proof.Machine
end

