-- ==== Sys2Proof/Machine/StatePeer.lean ====
section
/-! DEFINITION. State of the parity engine with demotion, rebuild and replacement (R224 to R240), and of the peer link with the
pair, mirroring, fencing and handover (R241 to R257). -/

namespace Sys2Proof.Machine

/-- What a PRTY job computes (R226). -/
inductive PJobKind where
  /-- A reconstruction, by its number: first class for a host read, last for a rebuild. -/
  | recon (id : Nat)
  /-- The fold of a data unit into an area's accumulators. -/
  | fold (area : Nat)
  deriving DecidableEq, Repr

/-- A job of PRTY (R226): its class in the engine's order, 0 host read, 1 fold, 2 rebuild. -/
structure PJob where
  kind  : PJobKind
  cls   : Nat
  order : Nat
  deriving DecidableEq, Repr

/-- The rebuild that runs (R233, R234). -/
structure Rebuild where
  target  : Target
  started : Nat
  total   : Nat
  done    : Nat
  lost    : Nat
  left    : Nat
  /-- The group in hand: zone, group, next row, last written row + 1; none between groups. -/
  cur     : Option (Nat × Nat × Nat × Nat)
  /-- The unit in hand waits for its reconstruction or its program. -/
  busy    : Bool
  /-- The unit to be programmed, and whether it is lost (R237). -/
  buf     : SMap (List Byte)
  gone    : Bool
  deriving DecidableEq, Repr

/-- The sled-replacement service action (R240). -/
structure Replace where
  slot  : Nat
  started : Nat
  deriving DecidableEq, Repr

structure Prty where
  jobs    : SMap PJob
  running : Option Nat
  nextJob : Nat
  /-- Slow events of each sled in 1 s buckets, newest first (R231), and calm seconds in a row (R232). -/
  slow    : SMap (List Nat)
  calm    : SMap Nat
  /-- Bit *n*: sled *n* demoted. -/
  demoted : Nat
  rebuild : Option Rebuild
  /-- Units programmed onto a rebuild's target in the last second: device time and bytes (R236). -/
  achieved : List (Nat × Nat)
  targets : List Target
  departed : SMap Departed
  replace : Option Replace
  deriving DecidableEq, Repr

def Prty.reset : Prty :=
  { jobs := [], running := none, nextJob := 0, slow := [], calm := [], demoted := 0, rebuild := none, achieved := [], targets := [],
    departed := [], replace := none }

/-- One peer lane (R241, R242). -/
structure Lane where
  st     : PortState
  link   : Link
  authed : Bool
  authFails : Nat
  nc     : List Byte
  peerSerial : Nat
  peerPair   : Nat
  verUsed : Nat
  mgmt   : List MgmtReq
  nextXid : Nat
  deriving DecidableEq, Repr

def Lane.reset : Lane :=
  { st := .off, link := Link.reset, authed := false, authFails := 0, nc := [], peerSerial := 0, peerPair := 0, verUsed := 0,
    mgmt := [], nextXid := 0 }

/-- The pair states (R247). -/
inductive PairState where
  | unpaired | solo | resync | mirrored
  deriving DecidableEq, Repr

def PairState.code : PairState → Nat
  | .unpaired => 0 | .solo => 1 | .resync => 2 | .mirrored => 3

/-- The events of a ROWEVT packet (R243). -/
inductive RowEvent where
  | bind | fold | issue | confirm | skip | release | drain | free
  deriving DecidableEq, Repr

/-- A packet of the PSN series, kept until it is acknowledged (R244). -/
structure PsnPkt where
  psn  : Nat
  pkt  : Pkt
  sentAt : Nat
  deriving DecidableEq, Repr

/-- What a packet of the PSN series asks of the receiver (R243, R246, R410). -/
inductive PeerItem where
  | mirror (area off blocks zgen : Nat) (data : List Byte)
  | rowevt (area event unit rs zgen zone nsid : Nat)
  /-- Journal records; the tables of a checkpoint, where its CKPT_DATA records are among them. -/
  | journal (recs : List JRec) (tables : Option Ckpt)
  /-- Wrapped keys, as NSID, slot and 72 bytes; the whole list, or a change of it, with the NSIDs that are gone. -/
  | keys (full : Bool) (gone : List Nat) (ks : List (Nat × Nat × List Byte))
  deriving DecidableEq, Repr

/-- Why a takeover runs (R253, R257). -/
inductive TakeoverKind where
  | auto | forced | planned
  deriving DecidableEq, Repr

/-- Where a planned handover stands (R257). -/
inductive Handover where
  | draining | sent
  deriving DecidableEq, Repr

structure Peer where
  lanes   : SMap Lane
  pair    : PairState
  /-- Controller index in the pair. -/
  index   : Nat
  /-- This controller is the standby. -/
  standby : Bool
  peerMode : Nat
  /-- The peer's pair state and ACT_HOLD, from its last heartbeat, and its device time. -/
  peerPairSt : Nat
  peerHold : Bool
  lastHb  : Nat
  hbCount : Nat
  /-- The pair was MIRRORED when the last heartbeat arrived (R253). -/
  wasMirrored : Bool
  /-- Hold time in ms that HOLDOFF has added (R254). -/
  holdMs  : Nat
  /-- A takeover is being considered: heartbeats are lost and leases are being read. -/
  checking : Bool
  lostAt  : Nat
  /-- The base mode the peer reports, to be entered at a takeover. -/
  peerBase : Option Mode
  txPsn   : Nat
  unacked : List PsnPkt
  rxPsn   : Nat
  /-- Packets held back because they came early (R244). -/
  early   : List (Nat × PeerItem)
  /-- The PSN that ends RESYNC, and the SEQ up to which the peer has the journal (R247). -/
  resyncPsn : Nat
  ackedSeq : Nat
  timeOfs : Int
  takeovers : Word
  fenceLost : Nat
  /-- Lease ages read of each adopted sled, µs (R253). -/
  leases  : SMap Nat
  /-- FENCE SETs of a takeover not yet answered, and those won. -/
  fencing : List Nat
  won     : List Nat
  /-- The takeover under way: its kind, and the device time it began. -/
  taking  : Option (TakeoverKind × Nat)
  handover : Option Handover
  handoverAt : Nat
  /-- The wrapped keys are to be sent to the new taker once a lane is UP under K_peer (R407 step 5). -/
  keysDue : Bool
  resends : Word
  txSent  : Word
  txAcked : Word
  deriving DecidableEq, Repr

/-- The peer link at reset: lanes OFF, UNPAIRED, the peer's mode unknown (R261, R262). -/
def Peer.reset : Peer :=
  { lanes := [], pair := .unpaired, index := 0, standby := false, peerMode := 7, peerPairSt := 0, peerHold := false, lastHb := 0,
    hbCount := 0, wasMirrored := false, holdMs := 0, checking := false, lostAt := 0, peerBase := none, txPsn := 0, unacked := [],
    rxPsn := 0, early := [], resyncPsn := 0, ackedSeq := 0, timeOfs := 0, takeovers := 0, fenceLost := 0, leases := [], fencing := [],
    won := [], taking := none, handover := none, handoverAt := 0, keysDue := false, resends := 0, txSent := 0, txAcked := 0 }

end Sys2Proof.Machine
end

