-- ==== Sys2Proof/Machine/StatePower.lean ====
section
/-! DEFINITION. State of POWR, CLKR and SIDE (R464 to R494), of THRM (R495 to R509) and of the audit engine LEDG (R529 to R534). -/

namespace Sys2Proof.Machine

/-- Where a DORMANT entry or a wake stands (`LEVEL.ENTRY`). -/
inductive EntryPhase where
  | none | timing | prepare | commit | waking | rollingBack
  deriving DecidableEq, Repr

/-- How far the device has come since its reset was released. -/
inductive RunPhase where
  /-- A reset is held (POR_N low, crystal missing, trip still hot, or the vault's HALT). -/
  | inReset
  /-- The ROM is resident (R453). -/
  | rom
  /-- The firmware runs and has not yet selected its mode (R21). -/
  | starting
  /-- The mode is selected and recovery has yet to run (R288). -/
  | recovering
  /-- Recovery has ended; passes of LEDG run (R530). -/
  | running
  deriving DecidableEq, Repr

/-- Why a reset is held (R482, R505, R265). -/
inductive ResetHold where
  | none | por | crystal | thermal | vault
  deriving DecidableEq, Repr

structure Powr where
  phase   : RunPhase
  entry   : EntryPhase
  /-- The prepare step asked, 1 to 12 (R467). -/
  step    : Nat
  backoff : Nat
  /-- Device time at which the running idle timer was loaded; none while it is stopped. -/
  timerAt : Option Nat
  expiredAt : Nat
  /-- `POWR.REFUSAL`. -/
  refBlock  : Nat
  refReason : Nat
  refStep   : Nat
  /-- Steps whose block has stopped, in the order they stopped. -/
  stopped   : List Nat
  /-- The wake latch, bits of R472, and the sources of the last wake. -/
  wakeLatch : Nat
  wakeSrc   : Nat
  wokeAt    : Nat
  /-- `POWR.TIMES`, 0.1 ms units. -/
  timeEntry : Nat
  timeWake  : Nat
  /-- The pad groups held, and the levels held (R476). -/
  padHeld   : Nat
  padLevel  : SMap Nat
  /-- Rail measurements: mV, excursions, and whether the excursion under way is recorded (R480). -/
  rails     : SMap (Nat × Nat × Nat)
  deriving DecidableEq, Repr

def Powr.reset : Powr :=
  { phase := .inReset, entry := .none, step := 0, backoff := 0, timerAt := Option.none, expiredAt := 0, refBlock := 0,
    refReason := 0, refStep := 0, stopped := [], wakeLatch := 0, wakeSrc := 0, wokeAt := 0, timeEntry := 0, timeWake := 0,
    padHeld := 0, padLevel := [], rails := [] }

structure Clkr where
  cause      : Nat
  vaulted    : Bool
  warmResets : Nat
  pwrCycles  : Nat
  opHours    : Nat
  opSeconds  : Nat
  /-- The core and the DRAM PLL: bits 0 and 1; the others follow their references and links. -/
  pllLock    : Nat
  losses     : Nat
  /-- Bit 0 crystal, 1 PCIe A, 2 PCIe B, 3 link. -/
  refs       : Nat
  aonPpm     : Int
  hold       : ResetHold
  /-- A warm reset to be recorded at the next start (R491), and what the trip that caused it read (R505). -/
  resetToTell : Bool
  tripToTell  : Option (Nat × Int)
  deriving DecidableEq, Repr

/-- CLKR at POR_N: cause 0, every reference running (the board brings them up first, R479), no PLL locked yet. -/
def Clkr.reset : Clkr :=
  { cause := 0, vaulted := false, warmResets := 0, pwrCycles := 0, opHours := 0, opSeconds := 0, pllLock := 0, losses := 0,
    refs := 0, aonPpm := 0, hold := .por, resetToTell := false, tripToTell := none }

structure Side where
  running  : Bool
  master   : Bool
  busy     : Bool
  eid      : Nat
  /-- SIDE_ALERT_N asserted. -/
  alert    : Bool
  wakes    : Nat
  addrNacks : Nat
  deriving DecidableEq, Repr

def Side.reset : Side := { running := false, master := false, busy := false, eid := 0, alert := false, wakes := 0, addrNacks := 0 }

/-- One temperature sensor (R496, R498); temperatures in 1/16 °C. -/
structure Sensor where
  count  : Nat
  /-- The last four results, newest first. -/
  hist   : List Int
  /-- Results in a row with an unchanged count, and off the group's median. -/
  same   : Nat
  off    : Nat
  broken : Bool
  deriving DecidableEq, Repr

def Sensor.reset : Sensor := { count := 0, hist := [], same := 0, off := 0, broken := false }

/-- One fan (R506). -/
structure Fan where
  duty   : Nat
  rpm    : Nat
  failed : Bool
  deriving DecidableEq, Repr

def Fan.reset : Fan := { duty := 0, rpm := 0, failed := false }

structure Thrm where
  sensors : SMap Sensor
  tj      : Int
  tjSensor : Nat
  step    : Nat
  tripped : Bool
  /-- Bit *c*: hot input of DRAM channel *c*. -/
  hot     : Nat
  /-- Body bytes 0 to 2 of each sled's last SENSOR answer and its device time (R502). -/
  sleds   : SMap (Nat × Nat)
  /-- Sleds whose event 0x0407 has been recorded for the present excursion. -/
  sledTold : Nat
  fans    : SMap Fan
  /-- Neighbour groups whose every member is broken. -/
  blind   : List Nat
  /-- Device time at which an orderly stop began. -/
  stoppedAt : Option Nat
  deriving DecidableEq, Repr

def Thrm.reset : Thrm :=
  { sensors := [], tj := 0, tjSensor := 0, step := 0, tripped := false, hot := 0, sleds := [], sledTold := 0,
    fans := [], blind := [], stoppedAt := none }

/-- A strobe's snapshot (R529): for every ledger instance whose identity failed at the strobe, its difference; and every
page's EVT_COUNT. -/
structure Snapshot where
  time   : Nat
  fails  : List (Nat × Nat × Int)
  counts : List (Nat × Word)
  deriving DecidableEq, Repr

structure Ledg where
  /-- The pass under way, and whether its data has been poisoned once. -/
  pass    : Option Snapshot
  poisonedOnce : Bool
  final   : Bool
  /-- The base against which R528 checks the next pass. -/
  lastCounts : List (Nat × Word)
  /-- Pages reset since the last pass. -/
  resets  : List Nat
  result  : Nat
  lastUs  : Nat
  violMask : Nat
  /-- The latched violation: ledger, instance, difference, strobe time. -/
  latched : Option (Nat × Nat × Int × Nat)
  /-- Failing and checked instances of the last pass, per ledger. -/
  info    : List (Nat × Nat)
  hiLatch : SMap Nat
  deriving DecidableEq, Repr

def Ledg.reset : Ledg :=
  { pass := none, poisonedOnce := false, final := false, lastCounts := [], resets := [], result := 0, lastUs := 0,
    violMask := 0, latched := none, info := [], hiLatch := [] }

end Sys2Proof.Machine
end

