-- ==== Sys2Proof/Machine/StateTen.lean ====
section
/-! DEFINITION. State of tenancy: partitions with their token buckets, slices, reservations and mailboxes (R342 to R373). -/

namespace Sys2Proof.Machine

/-- A partition (R344, R349). -/
structure Partition where
  avail : Nat
  spent : Nat
  lent  : Word
  borrowed : Word
  tokWait  : Word
  ctxWait  : Word
  deriving DecidableEq, Repr

def Partition.reset : Partition := { avail := 0, spent := 0, lent := 0, borrowed := 0, tokWait := 0, ctxWait := 0 }

/-- A mailbox message waiting for the DOWN slot (R362): from the manager or the firmware, the device time it was posted, and its
eight dwords. -/
structure DownMsg where
  manager : Bool
  at_   : Nat
  words : List Word
  deriving DecidableEq, Repr

/-- A slice, base slices included (R343 to R366). -/
structure Slice where
  exists_  : Bool
  draining : Bool
  removing : Bool
  /-- A REMOVE written during DRAINING waits (R365). -/
  removeWait : Bool
  /-- A pending shrink: the new contexts and areas (R354). -/
  resizing : Option (Nat × Nat)
  result   : Nat
  gen      : Nat
  pasid    : Nat
  strict   : Bool
  cls      : Cls
  resCtx   : Nat
  resArea  : Nat
  heldCtx  : Nat
  heldArea : Nat
  discard  : Word
  fetched  : Word
  /-- Generation before the reset under way, its start, and the contexts it discarded. -/
  oldGen   : Nat
  resetAt  : Nat
  resetN   : Nat
  /-- Die operations that were issued for its old work, by key and time of issue (R364). -/
  oldOps   : List (Nat × Nat)
  /-- The agreed Negon version, major × 16 + minor (R360). -/
  version  : Option Nat
  up       : List Word
  upFull   : Bool
  down     : List Word
  downFull : Bool
  /-- Messages waiting for DOWN, in the order posted. -/
  waiting  : List DownMsg
  drops    : Nat
  mbxVec   : Word
  deriving DecidableEq, Repr

def Slice.reset : Slice :=
  { exists_ := false, draining := false, removing := false, removeWait := false, resizing := none, result := 0, gen := 0, pasid := 0,
    strict := false, cls := .b, resCtx := 0, resArea := 0, heldCtx := 0, heldArea := 0, discard := 0, fetched := 0, oldGen := 0,
    resetAt := 0, resetN := 0, oldOps := [], version := none, up := [], upFull := false, down := [], downFull := false, waiting := [], drops := 0,
    mbxVec := 0 }

/-- The contexts and areas that a slice may hold: its reservation, or while a shrink is pending the new amount where that is less (R354). -/
def Slice.ctxLimit (s : Slice) : Nat := match s.resizing with | some (c, _) => min s.resCtx c | none => s.resCtx
def Slice.areaLimit (s : Slice) : Nat := match s.resizing with | some (_, a) => min s.resArea a | none => s.resArea

structure Ten where
  active : Bool
  baseCls : Cls
  parts  : SMap Partition
  slices : SMap Slice
  /-- Device time of the last refill of every partition (R349). -/
  fillAt : Nat
  /-- Ports whose PF has been told of its borrowing limit (R347). -/
  pfTold : List Nat
  deriving DecidableEq, Repr

/-- Tenancy at reset: no partition, no slice (R342). -/
def Ten.reset : Ten := { active := false, baseCls := .b, parts := [], slices := [], fillAt := 0, pfTold := [] }

end Sys2Proof.Machine
end

