-- ==== Sys2Proof/Machine/Dev.lean ====
section
/-! DEFINITION. What the silicon holds: the register file, every block's state, the memories, and what was last sent out. -/

namespace Sys2Proof.Machine

/-- What an unlisted byte of SRAM or DRAM reads as (DESIGN CHOICE, log entry 5). -/
def memDefault : Byte := 0

/-- What an unlisted NOR word reads as: erased (R432). -/
def norDefault : Word := 0xFFFFFFFF

/-- What an unlisted word of the one-time row reads as: no bit programmed (R439). -/
def otpDefault : Word := 0

/-- SRAM and DRAM: (address, byte) pairs, addresses rising, no entry equal to what an unlisted address reads as. -/
abbrev Memory := SMap Byte

/-- The canonical form of a memory. -/
def Memory.wf (m : Memory) : Bool := SMap.wf memDefault m

/-- What the silicon holds: the register file and every block's state. -/
structure Dev where
  regs  : Regs
  sysc  : Sysc
  evnt  : Evnt
  ledg  : Ledg
  powr  : Powr
  clkr  : Clkr
  side  : Side
  thrm  : Thrm
  fsto  : Fsto
  dgst  : Dgst
  cryp  : Cryp
  dram  : Dram
  host  : HostS
  ten   : Ten
  zone  : ZoneS
  sched : Sched
  media : Media
  prty  : Prty
  valt  : Valt
  peer  : Peer
  /-- The sled ports by slot (R178). -/
  ports : SMap Port
  /-- SRAM and DRAM by internal address (R14): the bytes written since power came up. -/
  mem   : Memory
  /-- The NOR die, word by word; an erased word reads 0xFFFF_FFFF (R432). -/
  nor   : SMap Word
  /-- The one-time row, word by word (R439). -/
  otp   : SMap Word
  /-- What the command under way has sent out of the part, oldest first; each command begins with none. -/
  out   : List Out
  /-- How many free values have been taken: the model's own field, which keeps one free value apart from the next. -/
  free  : Nat
  deriving DecidableEq, Repr

/-- The part right after POR_N has been asserted (R483): every register at the value its table states, no mode but RECOVERY,
nothing connected, nothing waiting. -/
def Dev.reset : Dev :=
  { regs := Regs.reset, sysc := Sysc.reset, evnt := Evnt.reset, ledg := Ledg.reset, powr := Powr.reset, clkr := Clkr.reset,
    side := Side.reset, thrm := Thrm.reset, fsto := Fsto.reset, dgst := Dgst.reset, cryp := Cryp.reset, dram := Dram.reset,
    host := HostS.reset, ten := Ten.reset, zone := ZoneS.reset, sched := Sched.reset, media := Media.reset, prty := Prty.reset,
    valt := Valt.reset, peer := Peer.reset, ports := [], mem := [], nor := [], otp := [], out := [], free := 0 }

end Sys2Proof.Machine
end

