-- ==== Sys2Proof/Machine/JournalBytes.lean ====
section
/-! DEFINITION. Journal records and journal pages as bytes (R281 to R283). -/

namespace Sys2Proof.Machine

/-- The LBA format of a namespace (R304). -/
def Ns.lbaf (n : Ns) : Nat :=
  if n.meta_ = 0 then 0 else if n.meta_ = 8 then 1 else if n.guard = 16 then 2 else if n.guard = 32 then 3 else 4

/-- Byte 21 of NSDEF: the fields of NS_GEOM (R90).  CELL, bit 8 there, is bit 7 of the byte (DESIGN CHOICE, log entry 81). -/
def Ns.geomByte (n : Ns) : Nat :=
  (if n.groups = 1 then 0 else if n.groups = 2 then 1 else 2) + 16 * (if n.d = 14 then 0 else if n.d = 10 then 1 else 2) + (if n.plc then 128 else 0)

/-- A 13-bit block index for each of the sixteen sleds, sled 0 lowest; a sled without a block has 0x1FFF (DESIGN CHOICE, log entry 81). -/
def packBlocks (m : SMap Nat) : List Byte := leBytes 26 ((List.range 16).foldr (fun s a => ((m.find s).getD 0x1FFF) % 8192 + 8192 * a) 0)

/-- The eight shift indices of a block in 6 bytes, 6 bits each, group 0 lowest (DEDUCED, log entry 81). -/
def packShift (l : List Nat) : List Byte := leBytes 6 (l.foldr (fun x a => x % 64 + 64 * a) 0)

/-- A block of a die as SLED, POS and BLOCK. -/
def blockBytes (b : Nat) : List Byte := leBytes 1 (b / 2048 / 256) ++ leBytes 1 (b / 2048 % 256) ++ leBytes 2 (b % 2048)

/-- Bytes 16 onward of a record (R283), less the zeros that fill it up. -/
def JBody.bytes : JBody → List Byte
  | .pad _ => []
  | .commit nsid zone gen append start len =>
    leBytes 4 nsid ++ leBytes 4 zone ++ leBytes 2 gen ++ [if append then 1 else 0, 0] ++ leBytes 4 start ++ leBytes 4 len
  | .zstate nsid zone gen st zfc cause =>
    leBytes 4 nsid ++ leBytes 4 zone ++ leBytes 2 gen ++ leBytes 1 st.code ++ [if zfc then 1 else 0] ++ leBytes 1 cause
  | .group nsid zone idx pos blocks => leBytes 4 nsid ++ leBytes 4 zone ++ leBytes 1 idx ++ leBytes 1 pos ++ packBlocks blocks
  | .eintent sled pos block count attempts slc =>
    leBytes 1 sled ++ leBytes 1 pos ++ leBytes 2 block ++ leBytes 2 count ++ leBytes 1 attempts ++ [if slc then 1 else 0]
  | .edone sled pos block count attempts slc result zeros =>
    leBytes 1 sled ++ leBytes 1 pos ++ leBytes 2 block ++ leBytes 2 count ++ leBytes 1 attempts ++ [if slc then 1 else 0]
      ++ leBytes 1 result ++ [0] ++ leBytes 2 zeros
  | .retire sled pos block reason count => leBytes 1 sled ++ leBytes 1 pos ++ leBytes 2 block ++ leBytes 1 reason ++ [0] ++ leBytes 2 count
  | .zde nsid zone gen ext => leBytes 4 nsid ++ leBytes 4 zone ++ leBytes 2 gen ++ fitBytes 64 ext
  | .nsdef nsid create n =>
    leBytes 4 nsid ++ [if create then 1 else 0] ++ leBytes 1 n.geomByte ++ leBytes 1 n.lbaf ++ leBytes 1 n.pi ++ leBytes 4 n.zones
      ++ leBytes 2 (maskOf n.members) ++ leBytes 2 n.slot
  | .track sled pos first entries => leBytes 1 sled ++ leBytes 1 pos ++ leBytes 2 first ++ [0, 0] ++ entries.flatMap packShift
  | .lostrow nsid zone target g rowseq =>
    leBytes 4 nsid ++ leBytes 4 zone ++ leBytes 1 target ++ leBytes 1 g ++ leBytes 2 rowseq
  | .ckptBegin n => leBytes 4 n
  | .ckptData n table off data => leBytes 4 n ++ leBytes 1 table ++ leBytes 3 0 ++ leBytes 4 off ++ data
  | .ckptEnd n seq pages => leBytes 4 n ++ leBytes 8 seq ++ leBytes 4 pages
  | .jhead next => next.flatMap blockBytes

/-- A record (R282): its header with the CRC-32 over bytes 0 to 11 and 16 to the end, and its fields filled up with zeros. -/
def JRec.bytes (r : JRec) : List Byte :=
  let head := leBytes 1 r.body.type ++ leBytes 1 r.body.len ++ leBytes 2 0 ++ leBytes 8 r.seq
  let body := fitBytes (16 * r.body.len - 16) r.body.bytes
  head ++ leBytes 4 (crc32 (head ++ body)) ++ body

/-- The 64 KiB of a journal page (R281). -/
def JPage.bytes (p : JPage) : List Byte := fitBytes 65536 (p.recs.flatMap JRec.bytes)

/-- The stamp of a vault, seal, journal or log page (R278, R517). -/
def vaultStamp (nsid num row j w plane : Nat) : List Byte :=
  leBytes 4 nsid ++ leBytes 4 num ++ leBytes 4 row ++ leBytes 1 j ++ leBytes 1 w ++ leBytes 1 plane ++ leBytes 1 1

/-- The stamp of a journal page's copy: the SEQ of its first record (R278). -/
def JPage.stamp (p : JPage) (copy : Nat) : List Byte :=
  let seq := (p.recs.head?.map JRec.seq).getD 0
  vaultStamp 0xFFFFFFFD (seq % 2 ^ 32) (seq / 2 ^ 32) copy 0 0

end Sys2Proof.Machine
end

