-- ==== Sys2Proof/Machine/RegTable.lean ====
section
/-! DEFINITION. The registers of every page: the register and field tables of the chapters, one row per register, with the
reset value the spec states, the bits an accepted write stores, the bits that act when written 1 and read 0, and the bits a
written 1 clears.  Offsets of 0x800 and above are the expert region (R30); a staged register has a shadow (R38). -/

namespace Sys2Proof.Machine

/-- One register of a page: `n` words of 32 bits from offset `off`. -/
structure RegDesc where
  name   : String
  off    : Nat
  n      : Nat
  /-- The value at reset; 0 for a write-only register, which reads 0. -/
  reset  : Nat
  /-- The bits an accepted write stores (RW, RWX). -/
  wmask  : Nat
  /-- The bits that act when 1 is written and store nothing (W1S, WO). -/
  act    : Nat
  /-- The bits a written 1 clears (W1C). -/
  w1c    : Nat
  staged : Bool
  /-- The offset of the register that selects the instance shown; 0 for none. -/
  sel    : Nat
  deriving DecidableEq, Repr

/-- The registers of SYSC (R48). -/
def regs_sysc : List RegDesc := [
  ⟨"CHIP_ID", 0x100, 1, 0x1600A100, 0x0, 0x0, 0x0, false, 0x0⟩,
  ⟨"MODE", 0x104, 1, 0x770, 0x0, 0x0, 0x0, false, 0x0⟩,
  ⟨"STRAPS", 0x108, 1, 0x0, 0x0, 0x0, 0x0, false, 0x0⟩,
  ⟨"MANIFEST", 0x10C, 1, 0x0, 0x0, 0x0, 0x0, false, 0x0⟩,
  ⟨"EPOCH", 0x110, 1, 0x0, 0x0, 0x0, 0x0, false, 0x0⟩,
  ⟨"EPOCH_RETIRED", 0x114, 1, 0xFFFFFFFF, 0x0, 0x0, 0x0, false, 0x0⟩,
  ⟨"EPOCH_CTRL", 0x118, 1, 0x0, 0x0, 0x1, 0x0, false, 0x0⟩,
  ⟨"EPOCH_RESULT", 0x11C, 1, 0x0, 0x0, 0x0, 0x0, false, 0x0⟩,
  ⟨"TIME_LO", 0x120, 1, 0x0, 0x0, 0x0, 0x0, false, 0x0⟩,
  ⟨"TIME_HI", 0x124, 1, 0x0, 0x0, 0x0, 0x0, false, 0x0⟩,
  ⟨"FAB_ERR_ADDR_LO", 0x128, 1, 0x0, 0x0, 0x0, 0x0, false, 0x0⟩,
  ⟨"FAB_ERR_ADDR_HI", 0x12C, 1, 0x0, 0x0, 0x0, 0x0, false, 0x0⟩,
  ⟨"FAB_ERR_INFO", 0x130, 1, 0x0, 0x0, 0x0, 0x0, false, 0x0⟩,
  ⟨"FAB_ERR_COUNT", 0x134, 1, 0x0, 0x0, 0x0, 0x0, false, 0x0⟩,
  ⟨"TIME_SET_LO", 0x800, 1, 0x0, 0xFFFFFFFF, 0x0, 0x0, false, 0x0⟩,
  ⟨"TIME_SET_HI", 0x804, 1, 0x0, 0xFFFFFFFF, 0x0, 0x0, false, 0x0⟩,
  ⟨"TIME_CTRL", 0x808, 1, 0x0, 0xFFFF0000, 0x1, 0x0, false, 0x0⟩]

/-- The registers of LEDG (R532). -/
def regs_ledg : List RegDesc := [
  ⟨"AUDIT_CTRL", 0x100, 1, 0x1, 0x1, 0x100, 0x0, false, 0x0⟩,
  ⟨"AUDIT_STAT", 0x104, 1, 0x0, 0x0, 0x0, 0x0, false, 0x0⟩,
  ⟨"PASSES", 0x108, 1, 0x0, 0x0, 0x0, 0x0, false, 0x0⟩,
  ⟨"VIOL_COUNT", 0x10C, 1, 0x0, 0x0, 0x0, 0x0, false, 0x0⟩,
  ⟨"VIOL_MASK", 0x110, 1, 0x0, 0x0, 0x0, 0x0, false, 0x0⟩,
  ⟨"VIOL_LEDGER", 0x114, 1, 0x0, 0x0, 0x0, 0x0, false, 0x0⟩,
  ⟨"VIOL_DIFF", 0x118, 1, 0x0, 0x0, 0x0, 0x0, false, 0x0⟩,
  ⟨"VIOL_TIME_LO", 0x11C, 1, 0x0, 0x0, 0x0, 0x0, false, 0x0⟩,
  ⟨"VIOL_TIME_HI", 0x120, 1, 0x0, 0x0, 0x0, 0x0, false, 0x0⟩,
  ⟨"LEDGER_SEL", 0x124, 1, 0x0, 0x1F, 0x0, 0x0, false, 0x0⟩,
  ⟨"LEDGER_INFO", 0x128, 1, 0x0, 0x0, 0x0, 0x0, false, 0x0⟩,
  ⟨"SKIPPED", 0x12C, 1, 0x0, 0x0, 0x0, 0x0, false, 0x0⟩,
  ⟨"LEDGER_EN", 0x800, 1, 0x3FFFF, 0x3FFFF, 0x0, 0x0, false, 0x0⟩]

/-- The registers of POWR (R487). -/
def regs_powr : List RegDesc := [
  ⟨"LEVEL", 0x100, 1, 0x3, 0x0, 0x0, 0x0, false, 0x0⟩,
  ⟨"IDLE_CTRL", 0x104, 1, 0x1388, 0xFFFF, 0x0, 0x0, false, 0x0⟩,
  ⟨"IDLE_STAT", 0x108, 1, 0x0, 0x0, 0x0, 0x0, false, 0x0⟩,
  ⟨"STAY", 0x10C, 1, 0x0, 0x1, 0x0, 0x0, false, 0x0⟩,
  ⟨"WAKE_CTRL", 0x110, 1, 0x0, 0x0, 0x1, 0x0, false, 0x0⟩,
  ⟨"REFUSAL", 0x114, 1, 0x0, 0x0, 0x0, 0x0, false, 0x0⟩,
  ⟨"PREPARES", 0x118, 1, 0x0, 0x0, 0x0, 0x0, false, 0x0⟩,
  ⟨"ENTRIES", 0x11C, 1, 0x0, 0x0, 0x0, 0x0, false, 0x0⟩,
  ⟨"REFUSALS", 0x120, 1, 0x0, 0x0, 0x0, 0x0, false, 0x0⟩,
  ⟨"WAKE_SRC", 0x124, 1, 0x0, 0x0, 0x0, 0x0, false, 0x0⟩,
  ⟨"TIMES", 0x128, 1, 0x0, 0x0, 0x0, 0x0, false, 0x0⟩,
  ⟨"PAD_HELD", 0x12C, 1, 0x0, 0x0, 0x0, 0x0, false, 0x0⟩,
  ⟨"RAIL_SEL", 0x130, 1, 0x0, 0x7, 0x0, 0x0, false, 0x0⟩,
  ⟨"RAIL_STAT", 0x134, 1, 0x0, 0x0, 0x0, 0x0, false, 0x0⟩,
  ⟨"CAP1", 0x800, 1, 0x1424, 0xFFFF, 0x0, 0x0, false, 0x0⟩,
  ⟨"CAP2", 0x804, 1, 0x810, 0xFFFF, 0x0, 0x0, false, 0x0⟩,
  ⟨"PREP_TO", 0x808, 1, 0x64, 0xFF, 0x0, 0x0, false, 0x0⟩,
  ⟨"PAD_CTRL", 0x80C, 1, 0xA, 0x1FF, 0x0, 0x0, false, 0x0⟩]

/-- The registers of CLKR (R490). -/
def regs_clkr : List RegDesc := [
  ⟨"RST_CAUSE", 0x100, 1, 0x0, 0x0, 0x0, 0x0, false, 0x0⟩,
  ⟨"WARM_RESETS", 0x104, 1, 0x0, 0x0, 0x0, 0x0, false, 0x0⟩,
  ⟨"PWR_CYCLES", 0x108, 1, 0x0, 0x0, 0x0, 0x0, false, 0x0⟩,
  ⟨"OP_HOURS", 0x10C, 1, 0x0, 0x0, 0x0, 0x0, false, 0x0⟩,
  ⟨"OP_SECONDS", 0x110, 1, 0x0, 0x0, 0x0, 0x0, false, 0x0⟩,
  ⟨"PLL_STAT", 0x114, 1, 0x0, 0x0, 0x0, 0x0, false, 0x0⟩,
  ⟨"LINK_PLL", 0x118, 1, 0x0, 0x0, 0x0, 0x0, false, 0x0⟩,
  ⟨"REF_STAT", 0x11C, 1, 0x0, 0x0, 0x0, 0x0, false, 0x0⟩,
  ⟨"AON_CAL", 0x120, 1, 0x0, 0x0, 0x0, 0x0, false, 0x0⟩,
  ⟨"CLK_SEL", 0x124, 1, 0x0, 0x3FF, 0x0, 0x0, false, 0x0⟩,
  ⟨"CLK_STAT", 0x128, 1, 0x0, 0x0, 0x0, 0x0, false, 0x0⟩,
  ⟨"RST_CTRL", 0x800, 1, 0x0, 0x80000000, 0x1, 0x0, false, 0x0⟩]

/-- The registers of THRM (R507). -/
def regs_thrm : List RegDesc := [
  ⟨"TJ", 0x100, 1, 0x0, 0x0, 0x0, 0x0, false, 0x0⟩,
  ⟨"LADDER_STAT", 0x104, 1, 0x0, 0x0, 0x0, 0x0, false, 0x0⟩,
  ⟨"BROKEN", 0x108, 1, 0x0, 0x0, 0x0, 0x0, false, 0x0⟩,
  ⟨"SENS_SEL", 0x10C, 1, 0x0, 0x1F, 0x0, 0x0, false, 0x0⟩,
  ⟨"SENS_VAL", 0x110, 1, 0x0, 0x0, 0x0, 0x0, false, 0x0⟩,
  ⟨"DRAM_HOT", 0x114, 1, 0x0, 0x0, 0x0, 0x0, false, 0x0⟩,
  ⟨"SLED_SEL", 0x118, 1, 0x0, 0xF, 0x0, 0x0, false, 0x0⟩,
  ⟨"SLED_TEMP", 0x11C, 1, 0x0, 0x0, 0x0, 0x0, false, 0x0⟩,
  ⟨"FAN_SEL", 0x120, 1, 0x0, 0x3, 0x0, 0x0, false, 0x0⟩,
  ⟨"FAN_STAT", 0x124, 1, 0x0, 0x0, 0x0, 0x0, false, 0x0⟩,
  ⟨"STEP_UPS", 0x128, 1, 0x0, 0x0, 0x0, 0x0, false, 0x0⟩,
  ⟨"STOPS", 0x12C, 1, 0x0, 0x0, 0x0, 0x0, false, 0x0⟩,
  ⟨"LADDER_T", 0x800, 1, 0x6E6A6764, 0xFFFFFFFF, 0x0, 0x0, false, 0x0⟩,
  ⟨"LADDER_CTRL", 0x804, 1, 0x5F0003, 0xFF07FF, 0x0, 0x0, false, 0x0⟩,
  ⟨"LIMITS", 0x808, 1, 0x3C5064, 0xFFFFFF, 0x0, 0x0, false, 0x0⟩,
  ⟨"SENS_CTRL", 0x80C, 1, 0xF0301, 0xFFFF01, 0x0, 0x0, false, 0x0⟩,
  ⟨"FAN_CURVE", 0x810, 1, 0x145A3C1E, 0xFFFFFFFF, 0x0, 0x0, false, 0x0⟩,
  ⟨"FAN_CTRL", 0x814, 1, 0x3E8, 0x807FFFFF, 0x0, 0x0, false, 0x0⟩,
  ⟨"BROKEN_CLR", 0x818, 1, 0x0, 0x0, 0xFFFFFF, 0x0, false, 0x0⟩,
  ⟨"DORM_WAKE", 0x81C, 1, 0x55, 0xFF, 0x0, 0x0, false, 0x0⟩]

/-- The registers of EVNT (R522). -/
def regs_evnt : List RegDesc := [
  ⟨"EVNT_CTRL", 0x100, 1, 0x1, 0x101, 0x0, 0x0, false, 0x0⟩,
  ⟨"EVNT_STAT", 0x104, 1, 0x0, 0x0, 0x0, 0x0, false, 0x0⟩,
  ⟨"RING_FILL", 0x108, 1, 0x0, 0x0, 0x0, 0x0, false, 0x0⟩,
  ⟨"OFFERED", 0x10C, 1, 0x0, 0x0, 0x0, 0x0, false, 0x0⟩,
  ⟨"NEW_RECS", 0x110, 1, 0x0, 0x0, 0x0, 0x0, false, 0x0⟩,
  ⟨"FOLDED", 0x114, 1, 0x0, 0x0, 0x0, 0x0, false, 0x0⟩,
  ⟨"DROPPED", 0x118, 1, 0x0, 0x0, 0x0, 0x0, false, 0x0⟩,
  ⟨"DROP_S0_S3", 0x11C, 4, 0x0, 0x0, 0x0, 0x0, false, 0x0⟩,
  ⟨"CARRIED", 0x12C, 1, 0x0, 0x0, 0x0, 0x0, false, 0x0⟩,
  ⟨"LOG_PAGES", 0x130, 1, 0x0, 0x0, 0x0, 0x0, false, 0x0⟩,
  ⟨"LOG_STAT", 0x134, 1, 0x0, 0x0, 0x0, 0x0, false, 0x0⟩,
  ⟨"SEAL_EXTENT", 0x138, 1, 0x0, 0x0, 0x0, 0x0, false, 0x0⟩,
  ⟨"SEAL_LAST0_11", 0x13C, 12, 0x0, 0x0, 0x0, 0x0, false, 0x0⟩,
  ⟨"RD_BASE", 0x16C, 1, 0x0, 0x7FFF, 0x0, 0x0, false, 0x0⟩,
  ⟨"FOLD_CTRL", 0x800, 1, 0x3E8, 0xFFFF, 0x0, 0x0, false, 0x0⟩,
  ⟨"LOG_CFG", 0x804, 1, 0x3E83040, 0xFFFF31FF, 0x0, 0x0, false, 0x0⟩,
  ⟨"FREEZE_CTRL", 0x808, 1, 0x64, 0xFFFF, 0x0, 0x0, false, 0x0⟩,
  ⟨"RING_WIN", 0x1000, 1024, 0xFFFFFFFF, 0x0, 0x0, 0x0, false, 0x0⟩]

/-- The registers of FSTO (R461). -/
def regs_fsto : List RegDesc := [
  ⟨"BOOT_STAT", 0x100, 1, 0x0, 0x0, 0x0, 0x0, false, 0x0⟩,
  ⟨"IMG_VER", 0x104, 1, 0x0, 0x0, 0x0, 0x0, false, 0x0⟩,
  ⟨"IMG_SVN", 0x108, 1, 0x0, 0x0, 0x0, 0x0, false, 0x0⟩,
  ⟨"SLOT1_VER", 0x10C, 1, 0x0, 0x0, 0x0, 0x0, false, 0x0⟩,
  ⟨"SLOT2_VER", 0x110, 1, 0x0, 0x0, 0x0, 0x0, false, 0x0⟩,
  ⟨"NEXT_BANK", 0x114, 1, 0x0, 0x0, 0x0, 0x0, false, 0x0⟩,
  ⟨"BOOT_OK", 0x118, 1, 0x0, 0x0, 0x1, 0x0, false, 0x0⟩,
  ⟨"BANK_STAT", 0x11C, 1, 0x0, 0x0, 0x0, 0x0, false, 0x0⟩,
  ⟨"BUSY_FAULTS", 0x120, 1, 0x0, 0x0, 0x0, 0x0, false, 0x0⟩,
  ⟨"BUSY_FAULT_ADDR", 0x124, 1, 0x0, 0x0, 0x0, 0x0, false, 0x0⟩,
  ⟨"CFG_STAT", 0x128, 1, 0x0, 0x0, 0x0, 0x0, false, 0x0⟩,
  ⟨"WIN_BASE", 0x12C, 1, 0x0, 0x1FF8000, 0x0, 0x0, false, 0x0⟩,
  ⟨"PROG0_ADDR", 0x800, 1, 0x0, 0xFFFFFF, 0x0, 0x0, false, 0x0⟩,
  ⟨"PROG0_CTRL", 0x804, 1, 0x0, 0x3, 0x80000000, 0x0, false, 0x0⟩,
  ⟨"PROG0_STAT", 0x808, 1, 0x0, 0x0, 0x0, 0x0, false, 0x0⟩,
  ⟨"PROG1_ADDR", 0x810, 1, 0x0, 0xFFFFFF, 0x0, 0x0, false, 0x0⟩,
  ⟨"PROG1_CTRL", 0x814, 1, 0x0, 0x3, 0x80000000, 0x0, false, 0x0⟩,
  ⟨"PROG1_STAT", 0x818, 1, 0x0, 0x0, 0x0, 0x0, false, 0x0⟩,
  ⟨"OTP_ADDR", 0x820, 1, 0x0, 0xFF, 0x0, 0x0, false, 0x0⟩,
  ⟨"OTP_DATA", 0x824, 1, 0x0, 0xFFFFFFFF, 0x0, 0x0, false, 0x0⟩,
  ⟨"OTP_CTRL", 0x828, 1, 0x0, 0x30000, 0xC0000000, 0x0, false, 0x0⟩,
  ⟨"ROLLBACK_CTRL", 0x82C, 1, 0x0, 0x1, 0x80000000, 0x0, false, 0x0⟩,
  ⟨"CFG_CTRL", 0x830, 1, 0x8, 0x3F, 0x0, 0x0, false, 0x0⟩,
  ⟨"WDOG_CTRL", 0x834, 1, 0x5A, 0xFFFF, 0x0, 0x0, false, 0x0⟩,
  ⟨"PROG0_BUF", 0x1000, 64, 0xFFFFFFFF, 0xFFFFFFFF, 0x0, 0x0, false, 0x0⟩,
  ⟨"PROG1_BUF", 0x1100, 64, 0xFFFFFFFF, 0xFFFFFFFF, 0x0, 0x0, false, 0x0⟩,
  ⟨"OTP_READ", 0x2000, 256, 0x0, 0x0, 0x0, 0x0, false, 0x0⟩,
  ⟨"NOR_WIN", 0x8000, 8192, 0x0, 0x0, 0x0, 0x0, false, 0x0⟩]

/-- The registers of DGST (R429). -/
def regs_dgst : List RegDesc := [
  ⟨"JOB_SUBMIT", 0x100, 1, 0x0, 0x0, 0x3FFFFC0, 0x0, false, 0x0⟩,
  ⟨"SUBMIT_RESULT", 0x104, 1, 0x0, 0x0, 0x0, 0x0, false, 0x0⟩,
  ⟨"ENG_STAT", 0x108, 1, 0x0, 0x0, 0x0, 0x0, false, 0x0⟩,
  ⟨"JOB_CANCEL", 0x10C, 1, 0x0, 0x0, 0xFFFFFFFF, 0x0, false, 0x0⟩,
  ⟨"CMP_CTRL", 0x110, 1, 0x0, 0x7F, 0x80000000, 0x0, false, 0x0⟩,
  ⟨"CMP_A", 0x114, 1, 0x0, 0x3FFFFFF, 0x0, 0x0, false, 0x0⟩,
  ⟨"CMP_B", 0x118, 1, 0x0, 0x3FFFFFF, 0x0, 0x0, false, 0x0⟩,
  ⟨"CMP_RESULT", 0x11C, 1, 0x0, 0x0, 0x0, 0x0, false, 0x0⟩,
  ⟨"JOBS_SUBMITTED", 0x120, 1, 0x0, 0x0, 0x0, 0x0, false, 0x0⟩,
  ⟨"JOBS_DONE", 0x124, 1, 0x0, 0x0, 0x0, 0x0, false, 0x0⟩,
  ⟨"JOBS_FAILED", 0x128, 1, 0x0, 0x0, 0x0, 0x0, false, 0x0⟩,
  ⟨"PREEMPTS", 0x12C, 1, 0x0, 0x0, 0x0, 0x0, false, 0x0⟩,
  ⟨"KIB_HASHED", 0x130, 1, 0x0, 0x0, 0x0, 0x0, false, 0x0⟩,
  ⟨"SLICE_CTRL", 0x800, 1, 0x100, 0xFFFF, 0x0, 0x0, false, 0x0⟩,
  ⟨"CTX_KEY_CTRL", 0x804, 1, 0x0, 0x1, 0x0, 0x0, false, 0x0⟩]

/-- The registers of CRYP (R426). -/
def regs_cryp : List RegDesc := [
  ⟨"CRYP_STAT", 0x100, 1, 0x0, 0x0, 0x0, 0x0, false, 0x0⟩,
  ⟨"SLOT_SEL", 0x104, 1, 0x1, 0x1FFF, 0x0, 0x0, false, 0x0⟩,
  ⟨"SLOT_NSID", 0x108, 1, 0x0, 0xFFFFFFFF, 0x0, 0x0, false, 0x0⟩,
  ⟨"SLOT_STAT", 0x10C, 1, 0x0, 0x0, 0x0, 0x0, false, 0x0⟩,
  ⟨"SLOT_OP", 0x110, 1, 0x0, 0x0, 0x7, 0x0, false, 0x0⟩,
  ⟨"SLOT_RESULT", 0x114, 1, 0x0, 0x0, 0x0, 0x0, false, 0x0⟩,
  ⟨"WRAP_ADDR", 0x118, 1, 0x0, 0x3FFFFF8, 0x0, 0x0, false, 0x0⟩,
  ⟨"SLOTS", 0x11C, 1, 0x1FFF, 0x0, 0x0, 0x0, false, 0x0⟩,
  ⟨"ENC_BLOCKS", 0x120, 1, 0x0, 0x0, 0x0, 0x0, false, 0x0⟩,
  ⟨"DEC_BLOCKS", 0x124, 1, 0x0, 0x0, 0x0, 0x0, false, 0x0⟩,
  ⟨"KEY_ERR", 0x128, 1, 0x0, 0x0, 0x0, 0x0, false, 0x0⟩,
  ⟨"PAIR_STAT", 0x12C, 1, 0x0, 0x0, 0x0, 0x0, false, 0x0⟩,
  ⟨"WRAP_KEY0_7", 0x800, 8, 0x0, 0x0, 0xFFFFFFFF, 0x0, false, 0x0⟩,
  ⟨"PAIR_CODE0_3", 0x820, 4, 0x0, 0x0, 0xFFFFFFFF, 0x0, false, 0x0⟩,
  ⟨"PAIR_CTRL", 0x830, 1, 0x0, 0x0, 0x7, 0x0, false, 0x0⟩]

/-- The registers of SIDE (R493). -/
def regs_side : List RegDesc := [
  ⟨"SMB_ADDR", 0x100, 1, 0x0, 0x0, 0x0, 0x0, false, 0x0⟩,
  ⟨"SMB_CTRL", 0x104, 1, 0x1, 0x11, 0x0, 0x0, false, 0x0⟩,
  ⟨"MCTP_EID", 0x108, 1, 0x0, 0x0, 0x0, 0x0, false, 0x0⟩,
  ⟨"ALERT_CTRL", 0x10C, 1, 0x3, 0x3, 0x100, 0x0, false, 0x0⟩,
  ⟨"SMB_STAT", 0x110, 1, 0x0, 0x0, 0x0, 0x0, false, 0x0⟩,
  ⟨"RX_PKTS", 0x114, 1, 0x0, 0x0, 0x0, 0x0, false, 0x0⟩,
  ⟨"TX_PKTS", 0x118, 1, 0x0, 0x0, 0x0, 0x0, false, 0x0⟩,
  ⟨"PEC_ERR", 0x11C, 1, 0x0, 0x0, 0x0, 0x0, false, 0x0⟩,
  ⟨"TIMEOUTS", 0x120, 1, 0x0, 0x0, 0x0, 0x0, false, 0x0⟩,
  ⟨"ADDR_NACKS", 0x124, 1, 0x0, 0x0, 0x0, 0x0, false, 0x0⟩,
  ⟨"WAKES", 0x128, 1, 0x0, 0x0, 0x0, 0x0, false, 0x0⟩,
  ⟨"SMB_TIMING", 0x800, 1, 0x1E, 0xFF, 0x0, 0x0, false, 0x0⟩]

/-- The registers of HOST (R339). -/
def regs_host : List RegDesc := [
  ⟨"PORT_CFG", 0x100, 1, 0x0, 0x0, 0x0, 0x0, false, 0x0⟩,
  ⟨"LINK_STAT", 0x104, 1, 0x0, 0x0, 0x0, 0x0, false, 0x0⟩,
  ⟨"LINK_CTRL", 0x108, 1, 0x5, 0x7, 0x100, 0x0, false, 0x0⟩,
  ⟨"PCI_ID", 0x10C, 1, 0x16001F5C, 0x0, 0x0, 0x0, false, 0x0⟩,
  ⟨"FN_SEL", 0x110, 1, 0x0, 0x7F, 0x0, 0x0, false, 0x0⟩,
  ⟨"FN_STAT", 0x114, 1, 0x0, 0x0, 0x0, 0x0, false, 0x0⟩,
  ⟨"FN_QP", 0x118, 1, 0x0, 0x0, 0x0, 0x0, false, 0x0⟩,
  ⟨"FN_CTX", 0x11C, 1, 0x0, 0x0, 0x0, 0x0, false, 0x0⟩,
  ⟨"CTX_TOTAL", 0x120, 1, 0x0, 0x0, 0x0, 0x0, false, 0x0⟩,
  ⟨"CTX_FREE", 0x124, 1, 0x0, 0x0, 0x0, 0x0, false, 0x0⟩,
  ⟨"CTX_HELD", 0x128, 1, 0x0, 0x0, 0x0, 0x0, false, 0x0⟩,
  ⟨"CMD_FETCHED", 0x12C, 1, 0x0, 0x0, 0x0, 0x0, false, 0x0⟩,
  ⟨"CMD_POSTED", 0x130, 1, 0x0, 0x0, 0x0, 0x0, false, 0x0⟩,
  ⟨"CMD_SILENT", 0x134, 1, 0x0, 0x0, 0x0, 0x0, false, 0x0⟩,
  ⟨"SQDEL_ABORTED", 0x138, 1, 0x0, 0x0, 0x0, 0x0, false, 0x0⟩,
  ⟨"SQDEL_STOOD", 0x13C, 1, 0x0, 0x0, 0x0, 0x0, false, 0x0⟩,
  ⟨"ABORT_CMDS", 0x140, 1, 0x0, 0x0, 0x0, 0x0, false, 0x0⟩,
  ⟨"SGL_SHORT", 0x144, 1, 0x0, 0x0, 0x0, 0x0, false, 0x0⟩,
  ⟨"DMA_ERR", 0x148, 1, 0x0, 0x0, 0x0, 0x0, false, 0x0⟩,
  ⟨"DMA_ERR_ADDR_LO", 0x14C, 1, 0x0, 0x0, 0x0, 0x0, false, 0x0⟩,
  ⟨"DMA_ERR_ADDR_HI", 0x150, 1, 0x0, 0x0, 0x0, 0x0, false, 0x0⟩,
  ⟨"DMA_ERR_INFO", 0x154, 1, 0x0, 0x0, 0x0, 0x0, false, 0x0⟩,
  ⟨"CPL_STALL", 0x158, 1, 0x0, 0x0, 0x0, 0x0, false, 0x0⟩,
  ⟨"ACT_STAT", 0x15C, 1, 0x0, 0x0, 0x0, 0x0, false, 0x0⟩,
  ⟨"ACT_LIMIT", 0x800, 1, 0x96, 0xFF, 0x0, 0x0, false, 0x0⟩]

/-- The registers of PART (R368). -/
def regs_part : List RegDesc := [
  ⟨"TEN_CTRL", 0x100, 1, 0x100, 0x300, 0x3, 0x0, false, 0x0⟩,
  ⟨"TEN_STAT", 0x104, 1, 0x0, 0x0, 0x0, 0x0, false, 0x0⟩,
  ⟨"TOK_FILL", 0x108, 1, 0xC8, 0x3FF, 0x0, 0x0, false, 0x0⟩,
  ⟨"TOK_DEPTH", 0x10C, 1, 0x2580320, 0xFFFFFFFF, 0x0, 0x0, false, 0x0⟩,
  ⟨"PF_LIMIT", 0x110, 1, 0x20000400, 0xFFFF1FFF, 0x0, 0x0, false, 0x0⟩,
  ⟨"PF_HELD_A", 0x114, 1, 0x0, 0x0, 0x0, 0x0, false, 0x0⟩,
  ⟨"PF_HELD_B", 0x118, 1, 0x0, 0x0, 0x0, 0x0, false, 0x0⟩,
  ⟨"PART_SEL", 0x120, 1, 0x0, 0x3F, 0x0, 0x0, false, 0x0⟩,
  ⟨"P_CTX", 0x124, 1, 0x0, 0x0, 0x0, 0x0, false, 0x0⟩,
  ⟨"P_AREAS", 0x128, 1, 0x0, 0x0, 0x0, 0x0, false, 0x0⟩,
  ⟨"P_TOK", 0x12C, 1, 0x0, 0x0, 0x0, 0x0, false, 0x0⟩,
  ⟨"P_LENT", 0x130, 1, 0x0, 0x0, 0x0, 0x0, false, 0x0⟩,
  ⟨"P_BORROWED", 0x134, 1, 0x0, 0x0, 0x0, 0x0, false, 0x0⟩,
  ⟨"P_TOK_WAIT", 0x138, 1, 0x0, 0x0, 0x0, 0x0, false, 0x0⟩,
  ⟨"P_CTX_WAIT", 0x13C, 1, 0x0, 0x0, 0x0, 0x0, false, 0x0⟩,
  ⟨"P_STAT", 0x140, 1, 0x0, 0x0, 0x0, 0x0, false, 0x0⟩,
  ⟨"LEND_CTRL", 0x800, 1, 0x1, 0x1, 0x0, 0x0, false, 0x0⟩]

/-- The registers of ZONE (R89). -/
def regs_zone : List RegDesc := [
  ⟨"AREA_LIMIT", 0x100, 1, 0x2000, 0x0, 0x0, 0x0, false, 0x0⟩,
  ⟨"AREA_STAT", 0x104, 1, 0x2000, 0x0, 0x0, 0x0, false, 0x0⟩,
  ⟨"DRAIN_STAT", 0x108, 1, 0x0, 0x0, 0x0, 0x0, false, 0x0⟩,
  ⟨"WRITE_WAIT", 0x10C, 1, 0x0, 0x0, 0x0, 0x0, false, 0x0⟩,
  ⟨"NS_SEL", 0x110, 1, 0x1, 0xFFFFFFFF, 0x0, 0x0, false, 0x0⟩,
  ⟨"NS_GEOM", 0x114, 1, 0x30, 0x0, 0x0, 0x0, false, 0x0⟩,
  ⟨"NS_ZONES", 0x118, 1, 0x0, 0x0, 0x0, 0x0, false, 0x0⟩,
  ⟨"NS_REDUND", 0x11C, 1, 0x0, 0x0, 0x0, 0x0, false, 0x0⟩,
  ⟨"NS_MEMBERS", 0x120, 1, 0x0, 0x0, 0x0, 0x0, false, 0x0⟩,
  ⟨"NS_ACTIVE", 0x124, 1, 0x0, 0x0, 0x0, 0x0, false, 0x0⟩,
  ⟨"ZFC_COUNT", 0x128, 1, 0x0, 0x0, 0x0, 0x0, false, 0x0⟩,
  ⟨"ROZ_COUNT", 0x12C, 1, 0x0, 0x0, 0x0, 0x0, false, 0x0⟩,
  ⟨"CLASS_SEL", 0x130, 1, 0x0, 0xF, 0x0, 0x0, false, 0x0⟩,
  ⟨"CLASS_MASK0_7", 0x134, 8, 0xFFFFFFFF, 0xFFFFFFFF, 0x0, 0x0, true, 0x130⟩,
  ⟨"DSET_SEL", 0x160, 1, 0x0, 0x3F, 0x0, 0x0, false, 0x0⟩,
  ⟨"DSET_MASK0_7", 0x164, 8, 0x0, 0xFFFFFFFF, 0x0, 0x0, true, 0x160⟩,
  ⟨"DSET_OWNER", 0x184, 1, 0xFF, 0xFF, 0x0, 0x0, true, 0x160⟩,
  ⟨"POS_SEL", 0x190, 1, 0x0, 0xFF, 0x0, 0x0, false, 0x0⟩,
  ⟨"POS_STAT", 0x194, 1, 0x0, 0x0, 0x0, 0x0, false, 0x0⟩,
  ⟨"ALLOC_WEIGHT", 0x800, 1, 0x40001, 0xFF00FF, 0x0, 0x0, true, 0x0⟩,
  ⟨"LIFE_THRESH", 0x804, 1, 0x16D001E, 0xFFFFFFFF, 0x0, 0x0, true, 0x0⟩,
  ⟨"ZONE_SEL", 0x808, 1, 0x0, 0xFFFFFFFF, 0x0, 0x0, false, 0x0⟩,
  ⟨"ZONE_STATE", 0x80C, 1, 0x1, 0x0, 0x0, 0x0, false, 0x0⟩,
  ⟨"ZONE_WP", 0x810, 1, 0x0, 0x0, 0x0, 0x0, false, 0x0⟩,
  ⟨"ZONE_SPTR", 0x814, 1, 0x0, 0x0, 0x0, 0x0, false, 0x0⟩,
  ⟨"ZONE_PLACE", 0x818, 1, 0xFFFF0000, 0x0, 0x0, 0x0, false, 0x0⟩,
  ⟨"ZONE_SLICE", 0x81C, 1, 0x0, 0x0, 0x0, 0x0, false, 0x0⟩,
  ⟨"BLK_SEL", 0x820, 1, 0x0, 0x30F, 0x0, 0x0, false, 0x0⟩,
  ⟨"BLK_INDEX", 0x824, 1, 0x1FFF, 0x0, 0x0, 0x0, false, 0x0⟩]

/-- The registers of SCHD (R130). -/
def regs_schd : List RegDesc := [
  ⟨"SUSP_LIMIT", 0x100, 1, 0x208, 0xFFFF, 0x0, 0x0, true, 0x0⟩,
  ⟨"BUDGET_A", 0x104, 1, 0x3C0096, 0xFFFFFFFF, 0x0, 0x0, true, 0x0⟩,
  ⟨"BUDGET_B", 0x108, 1, 0x708, 0xFFFF, 0x0, 0x0, true, 0x0⟩,
  ⟨"BUDGET_C", 0x10C, 1, 0xC350, 0xFFFF, 0x0, 0x0, true, 0x0⟩,
  ⟨"DIE_MARGIN", 0x110, 1, 0x1E0A, 0xFFFF, 0x0, 0x0, true, 0x0⟩,
  ⟨"RA_CTRL", 0x114, 1, 0x13, 0x333, 0x0, 0x0, true, 0x0⟩,
  ⟨"ERASE_CTRL", 0x118, 1, 0x402012C, 0xFF03FFFF, 0x0, 0x0, true, 0x0⟩,
  ⟨"SUSP_HOLD", 0x11C, 1, 0x190, 0xFFFF, 0x0, 0x0, true, 0x0⟩,
  ⟨"BG_AGE", 0x120, 1, 0xC8000A, 0xFFFFFFFF, 0x0, 0x0, true, 0x0⟩,
  ⟨"DEMOTE", 0x124, 1, 0xC8, 0xFFFF, 0x0, 0x0, true, 0x0⟩,
  ⟨"PACE_CTRL", 0x128, 1, 0xA0400C8, 0xFFFFFFFF, 0x0, 0x0, true, 0x0⟩,
  ⟨"PACE_IDLE", 0x12C, 1, 0x7D0, 0xFFFF, 0x0, 0x0, true, 0x0⟩,
  ⟨"POOL_SEL", 0x180, 1, 0x0, 0x7F, 0x0, 0x0, false, 0x0⟩,
  ⟨"POOL_SHARE", 0x184, 1, 0x0, 0x0, 0x0, 0x0, false, 0x0⟩,
  ⟨"POOL_AVAIL", 0x188, 1, 0x0, 0x0, 0x0, 0x0, false, 0x0⟩,
  ⟨"POOL_HELD", 0x18C, 1, 0x0, 0x0, 0x0, 0x0, false, 0x0⟩,
  ⟨"POOL_REFUSED", 0x190, 1, 0x0, 0x0, 0x0, 0x0, false, 0x0⟩,
  ⟨"PATH_DIRECT", 0x1A0, 1, 0x0, 0x0, 0x0, 0x0, false, 0x0⟩,
  ⟨"PATH_SUSPEND", 0x1A4, 1, 0x0, 0x0, 0x0, 0x0, false, 0x0⟩,
  ⟨"PATH_AROUND", 0x1A8, 1, 0x0, 0x0, 0x0, 0x0, false, 0x0⟩,
  ⟨"PATH_FORCED", 0x1AC, 1, 0x0, 0x0, 0x0, 0x0, false, 0x0⟩,
  ⟨"HEDGES", 0x1B0, 1, 0x0, 0x0, 0x0, 0x0, false, 0x0⟩,
  ⟨"RACE_DISCARD", 0x1B4, 1, 0x0, 0x0, 0x0, 0x0, false, 0x0⟩,
  ⟨"MISS_A", 0x1B8, 1, 0x0, 0x0, 0x0, 0x0, false, 0x0⟩,
  ⟨"MISS_B", 0x1BC, 1, 0x0, 0x0, 0x0, 0x0, false, 0x0⟩,
  ⟨"DIE_SEL", 0x1C0, 1, 0x0, 0xFFF, 0x0, 0x0, false, 0x0⟩,
  ⟨"DIE_STATE", 0x1C4, 1, 0x0, 0x0, 0x0, 0x0, false, 0x0⟩,
  ⟨"DIE_BG", 0x1C8, 1, 0x0, 0x0, 0x0, 0x0, false, 0x0⟩,
  ⟨"DIE_FREE", 0x1CC, 1, 0x0, 0x0, 0x0, 0x0, false, 0x0⟩,
  ⟨"PORT_RATE", 0x1D0, 1, 0x0, 0x0, 0x0, 0x0, false, 0x0⟩,
  ⟨"STREAMS", 0x1E0, 1, 0x0, 0x0, 0x0, 0x0, false, 0x0⟩,
  ⟨"BUF_FREE", 0x1E4, 1, 0x10000, 0x0, 0x0, 0x0, false, 0x0⟩,
  ⟨"BUF_HELD", 0x1E8, 1, 0x0, 0x0, 0x0, 0x0, false, 0x0⟩,
  ⟨"STREAM_SEL", 0x1EC, 1, 0x0, 0x3FF, 0x0, 0x0, false, 0x0⟩,
  ⟨"STREAM_INFO", 0x1F0, 1, 0x0, 0x0, 0x0, 0x0, false, 0x0⟩,
  ⟨"STREAM_ZONE", 0x1F4, 1, 0x0, 0x0, 0x0, 0x0, false, 0x0⟩,
  ⟨"STREAM_RATE", 0x1F8, 1, 0x0, 0x0, 0x0, 0x0, false, 0x0⟩,
  ⟨"STREAM_POS", 0x1FC, 1, 0x0, 0x0, 0x0, 0x0, false, 0x0⟩,
  ⟨"STREAM_NS", 0x200, 1, 0x0, 0x0, 0x0, 0x0, false, 0x0⟩,
  ⟨"SUB_ISSUED", 0x204, 1, 0x0, 0x0, 0x0, 0x0, false, 0x0⟩,
  ⟨"SUB_RETURNED", 0x208, 1, 0x0, 0x0, 0x0, 0x0, false, 0x0⟩,
  ⟨"SUB_INFLIGHT", 0x20C, 1, 0x0, 0x0, 0x0, 0x0, false, 0x0⟩,
  ⟨"COST_READ", 0x800, 1, 0x640028, 0xFFFFFFFF, 0x0, 0x0, true, 0x0⟩,
  ⟨"COST_SUSP", 0x804, 1, 0xF0014, 0xFFFFFFFF, 0x0, 0x0, true, 0x0⟩,
  ⟨"COST_MISC", 0x808, 1, 0x5010202, 0xFFFFFFFF, 0x0, 0x0, true, 0x0⟩,
  ⟨"COST_PROG", 0x80C, 1, 0xBB807D0, 0xFFFFFFFF, 0x0, 0x0, true, 0x0⟩,
  ⟨"COST_ERASE", 0x810, 1, 0x5DC04B0, 0xFFFFFFFF, 0x0, 0x0, true, 0x0⟩,
  ⟨"MEMBER_TO", 0x814, 1, 0x1388, 0xFFFF, 0x0, 0x0, true, 0x0⟩,
  ⟨"STREAM_LIM", 0x818, 1, 0x1000010, 0x1FF00FF, 0x0, 0x0, true, 0x0⟩]

/-- The registers of MEDI (R174). -/
def regs_medi : List RegDesc := [
  ⟨"DIE_SEL", 0x100, 1, 0x0, 0xFFF, 0x0, 0x0, false, 0x0⟩,
  ⟨"SLED_GEOM", 0x104, 1, 0x0, 0x0, 0x0, 0x0, false, 0x0⟩,
  ⟨"DIE_HEALTH", 0x108, 1, 0x0, 0x0, 0x0, 0x0, false, 0x0⟩,
  ⟨"DIE_BLOCKS0", 0x10C, 1, 0x0, 0x0, 0x0, 0x0, false, 0x0⟩,
  ⟨"DIE_BLOCKS1", 0x110, 1, 0x0, 0x0, 0x0, 0x0, false, 0x0⟩,
  ⟨"DIE_BLOCKS2", 0x114, 1, 0x0, 0x0, 0x0, 0x0, false, 0x0⟩,
  ⟨"DIE_BLOCKS3", 0x118, 1, 0x0, 0x0, 0x0, 0x0, false, 0x0⟩,
  ⟨"DIE_WEAR", 0x11C, 1, 0x0, 0x0, 0x0, 0x0, false, 0x0⟩,
  ⟨"WEAR_CEIL", 0x120, 1, 0x1F405DC, 0xFFFFFFFF, 0x0, 0x0, true, 0x0⟩,
  ⟨"WEAR_LIMIT", 0x124, 1, 0x2580708, 0xFFFFFFFF, 0x0, 0x0, true, 0x0⟩,
  ⟨"LADDER_CTRL", 0x128, 1, 0x105, 0x107, 0x0, 0x0, true, 0x0⟩,
  ⟨"MIGRATE_CTRL", 0x12C, 1, 0x11E00C8, 0xFFFFFFFF, 0x0, 0x0, true, 0x0⟩,
  ⟨"DISTURB", 0x130, 1, 0x320064, 0xFFFFFFFF, 0x0, 0x0, true, 0x0⟩,
  ⟨"DEC_HARD", 0x180, 1, 0x0, 0x0, 0x0, 0x0, false, 0x0⟩,
  ⟨"DEC_SOFT", 0x184, 1, 0x0, 0x0, 0x0, 0x0, false, 0x0⟩,
  ⟨"STEP_OK0_5", 0x188, 6, 0x0, 0x0, 0x0, 0x0, false, 0x0⟩,
  ⟨"UNCORR", 0x1A0, 1, 0x0, 0x0, 0x0, 0x0, false, 0x0⟩,
  ⟨"PROG_FAIL", 0x1A4, 1, 0x0, 0x0, 0x0, 0x0, false, 0x0⟩,
  ⟨"ERASE_FAIL", 0x1A8, 1, 0x0, 0x0, 0x0, 0x0, false, 0x0⟩,
  ⟨"UNCERTAIN", 0x1AC, 1, 0x0, 0x0, 0x0, 0x0, false, 0x0⟩,
  ⟨"RETIRED", 0x1B0, 1, 0x0, 0x0, 0x0, 0x0, false, 0x0⟩,
  ⟨"MIGRATED", 0x1B4, 1, 0x0, 0x0, 0x0, 0x0, false, 0x0⟩,
  ⟨"OPS_SENT", 0x1B8, 1, 0x0, 0x0, 0x0, 0x0, false, 0x0⟩,
  ⟨"OPS_DONE", 0x1BC, 1, 0x0, 0x0, 0x0, 0x0, false, 0x0⟩,
  ⟨"OPS_OPEN", 0x1C0, 1, 0x0, 0x0, 0x0, 0x0, false, 0x0⟩,
  ⟨"LADDER_ABANDON", 0x1C4, 1, 0x0, 0x0, 0x0, 0x0, false, 0x0⟩,
  ⟨"READBACK_OK", 0x1C8, 1, 0x0, 0x0, 0x0, 0x0, false, 0x0⟩,
  ⟨"READBACK_FAIL", 0x1CC, 1, 0x0, 0x0, 0x0, 0x0, false, 0x0⟩,
  ⟨"LDPC_CTRL", 0x800, 1, 0x4502814, 0xFFFFFFF, 0x0, 0x0, true, 0x0⟩,
  ⟨"OP_TO", 0x804, 1, 0x640014, 0xFFFFFFFF, 0x0, 0x0, true, 0x0⟩,
  ⟨"ERASE_CHECK", 0x808, 1, 0x30040, 0xFFFFFF, 0x0, 0x0, true, 0x0⟩,
  ⟨"SPARE_RESV", 0x80C, 1, 0x65, 0x1FFF, 0x0, 0x0, true, 0x0⟩,
  ⟨"SUSP_TO", 0x810, 1, 0xC8, 0xFFFF, 0x0, 0x0, true, 0x0⟩,
  ⟨"TRACK_CTRL", 0x814, 1, 0x3C07, 0xFFFF, 0x0, 0x0, true, 0x0⟩,
  ⟨"BLK_SEL", 0x820, 1, 0x0, 0xFFF1FFF, 0x0, 0x0, false, 0x0⟩,
  ⟨"BLK_INFO", 0x824, 1, 0x0, 0x0, 0x0, 0x0, false, 0x0⟩,
  ⟨"BLK_TRACK0", 0x828, 1, 0x0, 0x0, 0x0, 0x0, false, 0x0⟩,
  ⟨"BLK_TRACK1", 0x82C, 1, 0x0, 0x0, 0x0, 0x0, false, 0x0⟩,
  ⟨"BLK_READS", 0x830, 1, 0x0, 0x0, 0x0, 0x0, false, 0x0⟩,
  ⟨"RAW_WL", 0x840, 1, 0x0, 0x117303FF, 0x0, 0x0, false, 0x0⟩,
  ⟨"RAW_CTRL", 0x844, 1, 0x0, 0x0, 0x1, 0x0, false, 0x0⟩,
  ⟨"RAW_STAT", 0x848, 1, 0x0, 0x0, 0x0, 0x0, false, 0x0⟩,
  ⟨"DIE_RETIRE", 0x850, 1, 0x0, 0x0, 0x80000FFF, 0x0, false, 0x0⟩,
  ⟨"RAW_DATA", 0x2000, 4608, 0x0, 0x0, 0x0, 0x0, false, 0x0⟩]

/-- The registers of PRTY (R258). -/
def regs_prty : List RegDesc := [
  ⟨"REBUILD_CTRL", 0x100, 1, 0x32, 0xFF, 0x0, 0x0, false, 0x0⟩,
  ⟨"REPLACE", 0x104, 1, 0x0, 0xF, 0x80000000, 0x0, false, 0x0⟩,
  ⟨"REBUILD_STAT", 0x108, 1, 0x0, 0x0, 0x0, 0x0, false, 0x0⟩,
  ⟨"REBUILD_TOTAL", 0x10C, 1, 0x0, 0x0, 0x0, 0x0, false, 0x0⟩,
  ⟨"REBUILD_DONE", 0x110, 1, 0x0, 0x0, 0x0, 0x0, false, 0x0⟩,
  ⟨"REBUILD_LOST", 0x114, 1, 0x0, 0x0, 0x0, 0x0, false, 0x0⟩,
  ⟨"REBUILD_LEFT", 0x118, 1, 0x0, 0x0, 0x0, 0x0, false, 0x0⟩,
  ⟨"REBUILD_ACH", 0x11C, 1, 0x0, 0x0, 0x0, 0x0, false, 0x0⟩,
  ⟨"DEMOTE_CTRL", 0x120, 1, 0x3C0A0020, 0xFFFFFFFF, 0x0, 0x0, false, 0x0⟩,
  ⟨"DEMOTED", 0x124, 1, 0x0, 0x0, 0x0, 0x0, false, 0x0⟩,
  ⟨"DEMOTE_FORCE", 0x128, 1, 0x0, 0xFFFF, 0x0, 0x0, false, 0x0⟩,
  ⟨"SLOW_SEL", 0x12C, 1, 0x0, 0xF, 0x0, 0x0, false, 0x0⟩,
  ⟨"SLOW_COUNT", 0x130, 1, 0x0, 0x0, 0x0, 0x0, false, 0x0⟩,
  ⟨"DEMOTE_LAG", 0x134, 1, 0x7D0, 0xFFFF, 0x0, 0x0, false, 0x0⟩,
  ⟨"JOBS_ISSUED", 0x140, 1, 0x0, 0x0, 0x0, 0x0, false, 0x0⟩,
  ⟨"JOBS_DONE", 0x144, 1, 0x0, 0x0, 0x0, 0x0, false, 0x0⟩,
  ⟨"JOBS_OPEN", 0x148, 1, 0x0, 0x0, 0x0, 0x0, false, 0x0⟩,
  ⟨"FOLD_UNITS", 0x14C, 1, 0x0, 0x0, 0x0, 0x0, false, 0x0⟩,
  ⟨"REC_UNITS", 0x150, 1, 0x0, 0x0, 0x0, 0x0, false, 0x0⟩,
  ⟨"REPLACE_WAIT", 0x800, 1, 0x258, 0xFFFF, 0x0, 0x0, false, 0x0⟩,
  ⟨"REJOIN_CTRL", 0x804, 1, 0x80000048, 0x8000FFFF, 0x0, 0x0, false, 0x0⟩]

/-- The registers of VALT (R290). -/
def regs_valt : List RegDesc := [
  ⟨"VAULT_CFG", 0x100, 1, 0x1E0030, 0xFF00FF, 0x0, 0x0, false, 0x0⟩,
  ⟨"VAULT_STAT", 0x104, 1, 0x0, 0x0, 0x0, 0x0, false, 0x0⟩,
  ⟨"VAULT_SET", 0x108, 1, 0x0, 0x0, 0x0, 0x0, false, 0x0⟩,
  ⟨"BUDGET", 0x10C, 1, 0x0, 0x0, 0x0, 0x0, false, 0x0⟩,
  ⟨"LOAD", 0x110, 1, 0x400, 0x0, 0x0, 0x0, false, 0x0⟩,
  ⟨"LOAD_PEAK", 0x114, 1, 0x400, 0x0, 0x0, 0x0, false, 0x0⟩,
  ⟨"BUDGET_WAITS", 0x118, 1, 0x0, 0x0, 0x0, 0x0, false, 0x0⟩,
  ⟨"IMAGE", 0x11C, 1, 0x0, 0x0, 0x0, 0x0, false, 0x0⟩,
  ⟨"LAST_ROWS", 0x120, 1, 0x0, 0x0, 0x0, 0x0, false, 0x0⟩,
  ⟨"LAST_US", 0x124, 1, 0x0, 0x0, 0x0, 0x0, false, 0x0⟩,
  ⟨"RESTORE_MS", 0x128, 1, 0x0, 0x0, 0x0, 0x0, false, 0x0⟩,
  ⟨"REC_SEGS", 0x12C, 1, 0x0, 0x0, 0x0, 0x0, false, 0x0⟩,
  ⟨"JSEQ_LO", 0x130, 1, 0x0, 0x0, 0x0, 0x0, false, 0x0⟩,
  ⟨"JSEQ_HI", 0x134, 1, 0x0, 0x0, 0x0, 0x0, false, 0x0⟩,
  ⟨"JRING", 0x138, 1, 0x0, 0x0, 0x0, 0x0, false, 0x0⟩,
  ⟨"JPAGES", 0x13C, 1, 0x0, 0x0, 0x0, 0x0, false, 0x0⟩,
  ⟨"JSTAT", 0x140, 1, 0x0, 0x0, 0x0, 0x0, false, 0x0⟩,
  ⟨"JRNL_CTRL", 0x800, 1, 0x4003E8, 0xFFFFFFFF, 0x0, 0x0, false, 0x0⟩,
  ⟨"PFAIL_FILT", 0x804, 1, 0x3E8, 0xFFFF, 0x0, 0x0, false, 0x0⟩,
  ⟨"CKPT_NOW", 0x808, 1, 0x0, 0x0, 0x1, 0x0, false, 0x0⟩]

/-- The registers of PEER (R261). -/
def regs_peer : List RegDesc := [
  ⟨"PEER_CTRL", 0x100, 1, 0x1, 0x1, 0x300, 0x0, false, 0x0⟩,
  ⟨"PEER_STAT", 0x104, 1, 0x7000000, 0x0, 0x0, 0x0, false, 0x0⟩,
  ⟨"LANE_RATE", 0x108, 1, 0x0, 0x0, 0x0, 0x0, false, 0x0⟩,
  ⟨"PAIR_ID_LO", 0x10C, 1, 0x0, 0x0, 0x0, 0x0, false, 0x0⟩,
  ⟨"PAIR_ID_HI", 0x110, 1, 0x0, 0x0, 0x0, 0x0, false, 0x0⟩,
  ⟨"TIME_OFS", 0x114, 1, 0x0, 0x0, 0x0, 0x0, false, 0x0⟩,
  ⟨"HB_AGE", 0x118, 1, 0x0, 0x0, 0x0, 0x0, false, 0x0⟩,
  ⟨"TX_SENT", 0x11C, 1, 0x0, 0x0, 0x0, 0x0, false, 0x0⟩,
  ⟨"TX_ACKED", 0x120, 1, 0x0, 0x0, 0x0, 0x0, false, 0x0⟩,
  ⟨"TX_OUT", 0x124, 1, 0x0, 0x0, 0x0, 0x0, false, 0x0⟩,
  ⟨"RX_APPLIED", 0x128, 1, 0x0, 0x0, 0x0, 0x0, false, 0x0⟩,
  ⟨"RESENDS", 0x12C, 1, 0x0, 0x0, 0x0, 0x0, false, 0x0⟩,
  ⟨"TAKEOVERS", 0x130, 1, 0x0, 0x0, 0x0, 0x0, false, 0x0⟩,
  ⟨"FENCE_LOST", 0x134, 1, 0x0, 0x0, 0x0, 0x0, false, 0x0⟩,
  ⟨"LANE_SEL", 0x140, 1, 0x0, 0x1303, 0x0, 0x0, false, 0x0⟩,
  ⟨"LANE_STATE", 0x144, 1, 0x0, 0x0, 0x0, 0x0, false, 0x0⟩,
  ⟨"FEC_CORR", 0x148, 1, 0x0, 0x0, 0x0, 0x0, false, 0x0⟩,
  ⟨"FEC_UNCORR", 0x14C, 1, 0x0, 0x0, 0x0, 0x0, false, 0x0⟩,
  ⟨"CRC_ERR", 0x150, 1, 0x0, 0x0, 0x0, 0x0, false, 0x0⟩,
  ⟨"REPLAYS", 0x154, 1, 0x0, 0x0, 0x0, 0x0, false, 0x0⟩,
  ⟨"LINK_RESETS", 0x158, 1, 0x0, 0x0, 0x0, 0x0, false, 0x0⟩,
  ⟨"MALFORMED", 0x15C, 1, 0x0, 0x0, 0x0, 0x0, false, 0x0⟩,
  ⟨"CR_LIMIT", 0x160, 1, 0x0, 0x0, 0x0, 0x0, false, 0x0⟩,
  ⟨"CR_AVAIL", 0x164, 1, 0x0, 0x0, 0x0, 0x0, false, 0x0⟩,
  ⟨"CR_OUT", 0x168, 1, 0x0, 0x0, 0x0, 0x0, false, 0x0⟩,
  ⟨"CR_USED", 0x16C, 1, 0x0, 0x0, 0x0, 0x0, false, 0x0⟩,
  ⟨"CR_RETD", 0x170, 1, 0x0, 0x0, 0x0, 0x0, false, 0x0⟩,
  ⟨"CR_RECLAIMED", 0x174, 1, 0x0, 0x0, 0x0, 0x0, false, 0x0⟩,
  ⟨"REPLAY_USED", 0x178, 1, 0x0, 0x0, 0x0, 0x0, false, 0x0⟩,
  ⟨"HB_CTRL", 0x800, 1, 0x50064, 0xFFFFFF, 0x0, 0x0, false, 0x0⟩,
  ⟨"LEASE_CTRL", 0x804, 1, 0xA03E8, 0xFFFFFF, 0x0, 0x0, false, 0x0⟩,
  ⟨"RESEND", 0x808, 1, 0x32, 0xFFFF, 0x0, 0x0, false, 0x0⟩,
  ⟨"ACT_HOLD", 0x80C, 1, 0xFA, 0xFFFF, 0x0, 0x0, false, 0x0⟩]

/-- The registers of SLKn (R217). -/
def regs_slk : List RegDesc := [
  ⟨"PORT_CTRL", 0x100, 1, 0x31, 0x31, 0x700, 0x0, false, 0x0⟩,
  ⟨"PORT_STAT", 0x104, 1, 0x0, 0x0, 0x0, 0x0, false, 0x0⟩,
  ⟨"SLOT_STAT", 0x108, 1, 0x0, 0x0, 0x0, 0x100, false, 0x0⟩,
  ⟨"SLOT_CTRL", 0x10C, 1, 0x0, 0x3, 0x0, 0x0, false, 0x0⟩,
  ⟨"BRIDGE_SN_LO", 0x110, 1, 0x0, 0x0, 0x0, 0x0, false, 0x0⟩,
  ⟨"BRIDGE_SN_HI", 0x114, 1, 0x0, 0x0, 0x0, 0x0, false, 0x0⟩,
  ⟨"BRIDGE_VER", 0x118, 1, 0x0, 0x0, 0x0, 0x0, false, 0x0⟩,
  ⟨"OWNER_LO", 0x11C, 1, 0x0, 0x0, 0x0, 0x0, false, 0x0⟩,
  ⟨"OWNER_HI", 0x120, 1, 0x0, 0x0, 0x0, 0x0, false, 0x0⟩,
  ⟨"RTT", 0x124, 1, 0x0, 0x0, 0x0, 0x0, false, 0x0⟩,
  ⟨"TRAIN_LAST", 0x128, 1, 0x0, 0x0, 0x0, 0x0, false, 0x0⟩,
  ⟨"FEC_CORR", 0x130, 1, 0x0, 0x0, 0x0, 0x0, false, 0x0⟩,
  ⟨"FEC_UNCORR", 0x134, 1, 0x0, 0x0, 0x0, 0x0, false, 0x0⟩,
  ⟨"CRC_ERR", 0x138, 1, 0x0, 0x0, 0x0, 0x0, false, 0x0⟩,
  ⟨"REPLAYS", 0x13C, 1, 0x0, 0x0, 0x0, 0x0, false, 0x0⟩,
  ⟨"AM_MISS", 0x140, 1, 0x0, 0x0, 0x0, 0x0, false, 0x0⟩,
  ⟨"LOCK_LOSS", 0x144, 1, 0x0, 0x0, 0x0, 0x0, false, 0x0⟩,
  ⟨"LINK_RESETS", 0x148, 1, 0x0, 0x0, 0x0, 0x0, false, 0x0⟩,
  ⟨"BURST_NAK_RX", 0x14C, 1, 0x0, 0x0, 0x0, 0x0, false, 0x0⟩,
  ⟨"BURST_NAK_TX", 0x150, 1, 0x0, 0x0, 0x0, 0x0, false, 0x0⟩,
  ⟨"BURST_FAIL", 0x154, 1, 0x0, 0x0, 0x0, 0x0, false, 0x0⟩,
  ⟨"MALFORMED", 0x158, 1, 0x0, 0x0, 0x0, 0x0, false, 0x0⟩,
  ⟨"STRAY", 0x15C, 1, 0x0, 0x0, 0x0, 0x0, false, 0x0⟩,
  ⟨"AUTH_FAIL", 0x160, 1, 0x0, 0x0, 0x0, 0x0, false, 0x0⟩,
  ⟨"TX_FRAMES", 0x164, 1, 0x0, 0x0, 0x0, 0x0, false, 0x0⟩,
  ⟨"RX_FRAMES", 0x168, 1, 0x0, 0x0, 0x0, 0x0, false, 0x0⟩,
  ⟨"CR_SEL", 0x170, 1, 0x0, 0x13, 0x0, 0x0, false, 0x0⟩,
  ⟨"CR_LIMIT", 0x174, 1, 0x0, 0x0, 0x0, 0x0, false, 0x0⟩,
  ⟨"CR_AVAIL", 0x178, 1, 0x0, 0x0, 0x0, 0x0, false, 0x0⟩,
  ⟨"CR_OUT", 0x17C, 1, 0x0, 0x0, 0x0, 0x0, false, 0x0⟩,
  ⟨"CR_USED", 0x180, 1, 0x0, 0x0, 0x0, 0x0, false, 0x0⟩,
  ⟨"CR_RETD", 0x184, 1, 0x0, 0x0, 0x0, 0x0, false, 0x0⟩,
  ⟨"CR_RECLAIMED", 0x188, 1, 0x0, 0x0, 0x0, 0x0, false, 0x0⟩,
  ⟨"REPLAY_USED", 0x18C, 1, 0x0, 0x0, 0x0, 0x0, false, 0x0⟩,
  ⟨"TAGS_OPEN", 0x190, 1, 0x0, 0x0, 0x0, 0x0, false, 0x0⟩,
  ⟨"TRAIN_CTRL", 0x800, 1, 0x100400, 0xFFFFFF, 0x0, 0x0, false, 0x0⟩,
  ⟨"REPLAY_CTRL", 0x804, 1, 0x408, 0xFFF, 0x0, 0x0, false, 0x0⟩,
  ⟨"SLOT_TIME", 0x808, 1, 0x320064, 0xFFFFFF, 0x0, 0x0, false, 0x0⟩,
  ⟨"HOLD_CTRL", 0x80C, 1, 0x3000A, 0xFFFFFF, 0x0, 0x0, false, 0x0⟩,
  ⟨"ADOPT_CTRL", 0x810, 1, 0x0, 0x101, 0x0, 0x0, false, 0x0⟩]

/-- The registers of DRA to DRD (R396). -/
def regs_dram : List RegDesc := [
  ⟨"CH_CFG", 0x100, 1, 0x0, 0x0, 0x0, 0x0, false, 0x0⟩,
  ⟨"CH_STAT", 0x104, 1, 0x0, 0x0, 0x0, 0x0, false, 0x0⟩,
  ⟨"TEMP", 0x108, 1, 0x0, 0x0, 0x0, 0x0, false, 0x0⟩,
  ⟨"RANK_CE", 0x10C, 1, 0x0, 0x0, 0x0, 0x0, false, 0x0⟩,
  ⟨"PORT_SEL", 0x110, 1, 0x0, 0x7, 0x0, 0x0, false, 0x0⟩,
  ⟨"PORT_TARGET", 0x114, 1, 0x0, 0xFFFF, 0x0, 0x0, false, 0x110⟩,
  ⟨"PORT_STAT", 0x118, 1, 0x0, 0x0, 0x0, 0x0, false, 0x0⟩,
  ⟨"REQ_ISSUED", 0x11C, 1, 0x0, 0x0, 0x0, 0x0, false, 0x0⟩,
  ⟨"REQ_DONE", 0x120, 1, 0x0, 0x0, 0x0, 0x0, false, 0x0⟩,
  ⟨"REQ_OPEN", 0x124, 1, 0x0, 0x0, 0x0, 0x0, false, 0x0⟩,
  ⟨"LAT_MAX", 0x128, 1, 0x0, 0x0, 0x0, 0x0, false, 0x0⟩,
  ⟨"LATE", 0x12C, 1, 0x0, 0x0, 0x0, 0x0, false, 0x0⟩,
  ⟨"CE_COUNT", 0x130, 1, 0x0, 0x0, 0x0, 0x0, false, 0x0⟩,
  ⟨"UE_COUNT", 0x134, 1, 0x0, 0x0, 0x0, 0x0, false, 0x0⟩,
  ⟨"POISON_WR", 0x138, 1, 0x0, 0x0, 0x0, 0x0, false, 0x0⟩,
  ⟨"ERR_ADDR_LO", 0x13C, 1, 0x0, 0x0, 0x0, 0x0, false, 0x0⟩,
  ⟨"ERR_ADDR_HI", 0x140, 1, 0x0, 0x0, 0x0, 0x0, false, 0x0⟩,
  ⟨"ERR_INFO", 0x144, 1, 0x0, 0x0, 0x0, 0x0, false, 0x0⟩,
  ⟨"SCRUB_STAT", 0x148, 1, 0x0, 0x0, 0x0, 0x0, false, 0x0⟩,
  ⟨"PAGE_HITS", 0x14C, 1, 0x0, 0x0, 0x0, 0x0, false, 0x0⟩,
  ⟨"PAGE_CONFLICTS", 0x150, 1, 0x0, 0x0, 0x0, 0x0, false, 0x0⟩,
  ⟨"RETRAIN_COUNT", 0x154, 1, 0x0, 0x0, 0x0, 0x0, false, 0x0⟩,
  ⟨"RETRAIN_FAIL", 0x158, 1, 0x0, 0x0, 0x0, 0x0, false, 0x0⟩,
  ⟨"PAUSE_MAX", 0x15C, 1, 0x0, 0x0, 0x0, 0x0, false, 0x0⟩,
  ⟨"PAGE_PRED", 0x800, 1, 0x800000C8, 0x8000FFFF, 0x0, 0x0, false, 0x0⟩,
  ⟨"REF_CTRL", 0x804, 1, 0x40003E8, 0x8F00FFFF, 0x0, 0x0, false, 0x0⟩,
  ⟨"RETRAIN_CTRL", 0x808, 1, 0x3C0A07D0, 0xFFFFFFFF, 0x0, 0x0, false, 0x0⟩,
  ⟨"SCRUB_CTRL", 0x80C, 1, 0x18, 0xFF, 0x0, 0x0, false, 0x0⟩,
  ⟨"RETIRE_CTRL", 0x810, 1, 0x4000128, 0xFFFF01FF, 0x0, 0x0, false, 0x0⟩,
  ⟨"RETIRE", 0x814, 1, 0x0, 0x0, 0x80000001, 0x0, false, 0x0⟩]

/-- The registers of one slice on a SLIC page (R371), at the offsets of slice *k* = 0; slice *k* adds 0x20 *k*, or 0x40 *k* from 0x300 on. -/
def regs_slic : List RegDesc := [
  ⟨"SLC_CTRL", 0x100, 1, 0x0, 0x0, 0xF, 0x0, false, 0x0⟩,
  ⟨"SLC_STAT", 0x104, 1, 0x0, 0x0, 0x0, 0x0, false, 0x0⟩,
  ⟨"SLC_PASID", 0x108, 1, 0x0, 0x800FFFFF, 0x0, 0x0, false, 0x0⟩,
  ⟨"SLC_REQ", 0x10C, 1, 0x0, 0xC7FF00FF, 0x0, 0x0, false, 0x0⟩,
  ⟨"SLC_RES", 0x110, 1, 0x0, 0x0, 0x0, 0x0, false, 0x0⟩,
  ⟨"SLC_HELD", 0x114, 1, 0x0, 0x0, 0x0, 0x0, false, 0x0⟩,
  ⟨"SLC_DISCARD", 0x118, 1, 0x0, 0x0, 0x0, 0x0, false, 0x0⟩,
  ⟨"MBX_CTRL", 0x11C, 1, 0x0, 0x0, 0x3, 0x0, false, 0x0⟩,
  ⟨"MBX_UP", 0x300, 8, 0x0, 0x0, 0x0, 0x0, false, 0x0⟩,
  ⟨"MBX_DOWN", 0x320, 8, 0x0, 0xFFFFFFFF, 0x0, 0x0, false, 0x0⟩]

/-- The registers that a page index carries (R32): indices 10 to 15, 18 to 23, 25 to 31, 37 to 39, 41 to 47, 68 to 255
and 512 to 1,023 hold no block. -/
def pageRegs (page : Nat) : List RegDesc :=
  if page = 0 then regs_sysc else if page = 1 then regs_ledg else if page = 2 then regs_powr
  else if page = 3 then regs_clkr else if page = 4 then regs_thrm else if page = 5 then regs_evnt
  else if page = 6 then regs_fsto else if page = 7 then regs_dgst else if page = 8 then regs_cryp
  else if page = 9 then regs_side else if page = 16 then regs_host else if page = 17 then regs_host
  else if page = 24 then regs_part else if page = 32 then regs_zone else if page = 33 then regs_schd
  else if page = 34 then regs_medi else if page = 35 then regs_prty else if page = 36 then regs_valt
  else if page = 40 then regs_peer
  else if 48 ≤ page ∧ page ≤ 63 then regs_slk
  else if 64 ≤ page ∧ page ≤ 67 then regs_dram
  else if 256 ≤ page ∧ page ≤ 511 then regs_slic
  else []

/-- Whether a page index holds a block (R32). -/
def pageExists (page : Nat) : Bool :=
  page ≤ 9 || page == 16 || page == 17 || page == 24 || (32 ≤ page && page ≤ 36) || page == 40
    || (48 ≤ page && page ≤ 67) || (256 ≤ page && page ≤ 511)

/-- The block code of a page (R32): its index, and 0x80 for every SLIC page. -/
def blockCode (page : Nat) : Nat := if 256 ≤ page then 0x80 else page

/-- An offset on a SLIC page brought to slice *k* = 0 (R371): the offset there, and *k*. -/
def slicFold (off : Nat) : Nat × Nat :=
  if off < 0x300 then (0x100 + (off - 0x100) % 0x20, (off - 0x100) / 0x20)
  else (0x300 + (off - 0x300) % 0x40, (off - 0x300) / 0x40)

/-- The row of the register at `off`, where there is one; a SLIC page holds none from 0x700 on (R371). -/
def regDesc (page off : Nat) : Option RegDesc :=
  let o := if 256 ≤ page then (slicFold off).1 else off
  if 256 ≤ page ∧ 0x700 ≤ off then none else (pageRegs page).find? (fun r => r.off ≤ o && o < r.off + 4 * r.n)

/-- Where the shadow of a staged register lies (R38). -/
def shadowOff (off : Nat) : Nat := if off < 0x400 then off + 0x400 else off + 0x8000

/-- The live offset whose shadow is at `off`, where one could be (R38). -/
def liveOff (off : Nat) : Option Nat :=
  if 0x500 ≤ off ∧ off < 0x800 then some (off - 0x400)
  else if 0x8800 ≤ off ∧ off < 0x10000 then some (off - 0x8000)
  else none

/-- The value a register has at reset (the tables' Reset column). -/
def regReset (page off : Nat) : Word :=
  match regDesc page off with
  | some r => u32 r.reset
  | none => 0

end Sys2Proof.Machine
end

