-- ==== Sys2Proof/Machine/Ops.lean ====
section
/-! DEFINITION. The named operations over registers, memories, contexts and the journal ring. -/

namespace Sys2Proof.Machine

/-! ## Page indices (00_scope, R32) -/

def pSYSC : Nat := 0
def pLEDG : Nat := 1
def pPOWR : Nat := 2
def pCLKR : Nat := 3
def pTHRM : Nat := 4
def pEVNT : Nat := 5
def pFSTO : Nat := 6
def pDGST : Nat := 7
def pCRYP : Nat := 8
def pSIDE : Nat := 9
def pHOST (port : Nat) : Nat := 16 + port
def pPART : Nat := 24
def pZONE : Nat := 32
def pSCHD : Nat := 33
def pMEDI : Nat := 34
def pPRTY : Nat := 35
def pVALT : Nat := 36
def pPEER : Nat := 40
def pSLK (n : Nat) : Nat := 48 + n
def pDRAM (c : Nat) : Nat := 64 + c
def pSLIC (s : Nat) : Nat := 256 + s / 16

/-! ## Registers -/

/-- The key of a register cell: page, offset, and the instance a selector shows. -/
def cellKey (page off inst : Nat) : Nat := page * 0x10000 + off + inst * 0x4000000

/-- The header of a page. -/
def Dev.hdr (d : Dev) (page : Nat) : PageHdr := d.regs.hdr.get PageHdr.reset page

def Dev.setHdr (d : Dev) (page : Nat) (f : PageHdr → PageHdr) : Dev :=
  { d with regs := { d.regs with hdr := d.regs.hdr.upd PageHdr.reset page f } }

/-- The reset value of a cell; `DRA.PORT_TARGET` has one for each port it shows (R384). -/
def cellReset (page off inst : Nat) : Word :=
  if 64 ≤ page ∧ page ≤ 67 ∧ off = 0x114 then u32 ([400, 600, 300, 300, 500, 200, 1000, 5000].getD inst 0)
  else regReset page off

/-- The live value of a register, for the instance its selector shows. -/
def Dev.cellI (d : Dev) (page off inst : Nat) : Word := d.regs.cells.get (cellReset page off inst) (cellKey page off inst)

def Dev.setCellI (d : Dev) (page off inst : Nat) (v : Word) : Dev :=
  { d with regs := { d.regs with cells := d.regs.cells.put (cellReset page off inst) (cellKey page off inst) v } }

/-- The live value of a register without a selector. -/
def Dev.cell (d : Dev) (page off : Nat) : Word := d.cellI page off 0

def Dev.setCell (d : Dev) (page off : Nat) (v : Word) : Dev := d.setCellI page off 0 v

/-- A field of a register. -/
def Dev.rf (d : Dev) (page off lo n : Nat) : Nat := fld (d.cell page off) lo n

/-- A counter rises by `n`, modulo 2^32. -/
def Dev.count (d : Dev) (page off n : Nat) : Dev := d.setCell page off (d.cell page off + u32 n)

/-- The value of a staged register for work stamped `e` (R39 step 5): the snapshot's where the page has
not applied the newest epoch yet, the older live epoch's where it has. -/
def Dev.cellAt (d : Dev) (e : Word) (page off inst : Nat) : Word :=
  if e = (d.hdr page).epochApplied then d.cellI page off inst
  else if e = d.sysc.epoch then (d.regs.snap.find (cellKey page off inst)).getD (d.cellI page off inst)
  else (d.regs.older.find (cellKey page off inst)).getD (d.cellI page off inst)

/-- A field of a staged register for work stamped `e`. -/
def Dev.rfAt (d : Dev) (e : Word) (page off lo n : Nat) : Nat := fld (d.cellAt e page off 0) lo n

/-- Device time in nanoseconds. -/
def Dev.now (d : Dev) : Nat := d.sysc.time

/-- Something is sent out. -/
def Dev.emit (d : Dev) (o : Out) : Dev := { d with out := d.out ++ [o] }

/-! ## Memory (R14) -/

/-- The byte at an internal address. -/
def Dev.byte (d : Dev) (a : Nat) : Byte := d.mem.get memDefault a

/-- `n` bytes from an internal address. -/
def Dev.bytes (d : Dev) (a : Nat) : Nat → List Byte
  | 0 => []
  | n + 1 => d.byte a :: Dev.bytes d (a + 1) n

/-- A memory with bytes stored from an address upward. -/
def Memory.store (m : Memory) : Nat → List Byte → Memory
  | _, [] => m
  | a, b :: bs => Memory.store (m.put memDefault a b) (a + 1) bs

/-- Bytes stored from an internal address upward. -/
def Dev.store (d : Dev) (a : Nat) (bs : List Byte) : Dev := { d with mem := d.mem.store a bs }

/-- A free value is taken: the counter moves on, so that the next one is another. -/
def Dev.takeFree (d : Dev) : Dev := { d with free := d.free + 1 }

/-! ## Parts of the state by key -/

def Dev.port (d : Dev) (n : Nat) : Port := d.ports.get Port.reset n
def Dev.setPort (d : Dev) (n : Nat) (f : Port → Port) : Dev := { d with ports := d.ports.upd Port.reset n f }
def Dev.lane (d : Dev) (n : Nat) : Lane := d.peer.lanes.get Lane.reset n
def Dev.setLane (d : Dev) (n : Nat) (f : Lane → Lane) : Dev :=
  { d with peer := { d.peer with lanes := d.peer.lanes.upd Lane.reset n f } }
def Dev.hport (d : Dev) (n : Nat) : HPort := d.host.ports.get HPort.reset n
def Dev.setHport (d : Dev) (n : Nat) (f : HPort → HPort) : Dev :=
  { d with host := { d.host with ports := d.host.ports.upd HPort.reset n f } }
def Dev.fn (d : Dev) (port fn : Nat) : Fn := (d.hport port).fns.get Fn.reset fn
def Dev.setFn (d : Dev) (port fn : Nat) (f : Fn → Fn) : Dev :=
  d.setHport port (fun p => { p with fns := p.fns.upd Fn.reset fn f })
def Dev.ctx (d : Dev) (c : Nat) : Option Ctx := d.host.ctxs.find c
def Dev.modCtx (d : Dev) (c : Nat) (f : Ctx → Ctx) : Dev :=
  { d with host := { d.host with ctxs := d.host.ctxs.modify c f } }
def Dev.slice (d : Dev) (s : Nat) : Slice := d.ten.slices.get Slice.reset s
def Dev.setSlice (d : Dev) (s : Nat) (f : Slice → Slice) : Dev :=
  { d with ten := { d.ten with slices := d.ten.slices.upd Slice.reset s f } }
def Dev.part (d : Dev) (p : Nat) : Partition := d.ten.parts.get Partition.reset p
def Dev.setPart (d : Dev) (p : Nat) (f : Partition → Partition) : Dev :=
  { d with ten := { d.ten with parts := d.ten.parts.upd Partition.reset p f } }
/-- A zone's key: NSID × 2^24 + zone index. -/
def zoneKey (nsid zone : Nat) : Nat := nsid * 2 ^ 24 + zone
def Dev.zn (d : Dev) (z : Nat) : Zone := d.zone.zones.get Zone.fresh z
def Dev.setZn (d : Dev) (z : Nat) (f : Zone → Zone) : Dev :=
  { d with zone := { d.zone with zones := d.zone.zones.upd Zone.fresh z f } }
def Dev.area (d : Dev) (a : Nat) : Area := d.zone.areas.get Area.reset a
def Dev.setArea (d : Dev) (a : Nat) (f : Area → Area) : Dev :=
  { d with zone := { d.zone with areas := d.zone.areas.upd Area.reset a f } }
def Dev.ns (d : Dev) (n : Nat) : Option Ns := d.zone.nss.find n
def Dev.modNs (d : Dev) (n : Nat) (f : Ns → Ns) : Dev :=
  { d with zone := { d.zone with nss := d.zone.nss.modify n f } }
/-- A die's key: sled × 256 + position; a block's: die × 2,048 + index. -/
def dieKey (sled pos : Nat) : Nat := sled * 256 + pos
def blkKey (sled pos block : Nat) : Nat := (sled * 256 + pos) * 2048 + block
def Dev.die (d : Dev) (k : Nat) : Die := d.media.dies.get Die.reset k
def Dev.setDie (d : Dev) (k : Nat) (f : Die → Die) : Dev :=
  { d with media := { d.media with dies := d.media.dies.upd Die.reset k f } }
/-- A block: as adoption leaves it where nothing has changed it since (R160). -/
def Dev.blk (d : Dev) (k : Nat) : Block :=
  (d.media.blocks.find k).getD
    (if (d.die (k / 2048)).factoryBad.contains (k % 2048) then { Block.fresh with st := .factoryBad } else Block.fresh)
def Dev.setBlk (d : Dev) (k : Nat) (f : Block → Block) : Dev :=
  { d with media := { d.media with blocks := d.media.blocks.set k (f (d.blk k)) } }
def Dev.op (d : Dev) (k : Nat) : Option OpenOp := d.media.ops.find k
def Dev.modOp (d : Dev) (k : Nat) (f : OpenOp → OpenOp) : Dev :=
  { d with media := { d.media with ops := d.media.ops.modify k f } }
def Dev.pool (d : Dev) (p : Nat) : Pool := d.sched.pools.get Pool.reset p
def Dev.setPool (d : Dev) (p : Nat) (f : Pool → Pool) : Dev :=
  { d with sched := { d.sched with pools := d.sched.pools.upd Pool.reset p f } }
def Dev.chan (d : Dev) (c : Nat) : Chan := d.dram.ch.get Chan.reset c
def Dev.setChan (d : Dev) (c : Nat) (f : Chan → Chan) : Dev :=
  { d with dram := { d.dram with ch := d.dram.ch.upd Chan.reset c f } }

/-- The mode whose rules hold (R558): SERVICE keeps the configuration of its return mode. -/
def Dev.cfgMode (d : Dev) : Mode :=
  if d.sysc.cur = .service then d.sysc.ret.getD .standalone else d.sysc.cur

/-- PARTITIONED, or SERVICE entered from it (R558). -/
def Dev.partitioned (d : Dev) : Bool := d.cfgMode == .partitioned

/-- A peer is paired (R247). -/
def Dev.paired (d : Dev) : Bool := d.peer.pair != .unpaired

/-- This controller owns the sleds: STANDALONE, PARTITIONED or SERVICE (R19). -/
def Dev.active (d : Dev) : Bool := d.cfgMode == .standalone || d.cfgMode == .partitioned

/-- Two-port mode (R293). -/
def Dev.portMode (d : Dev) : Nat := d.sysc.straps.toNat % 2

/-! ## Mirroring (R244) -/

/-- The peer lane that carries a packet of a VC: the UP lane with the most credits available on it, ties to the lower (R241). -/
def Dev.upLane (d : Dev) (vc : Nat) : Option Nat := 
  let up := [0, 1, 2, 3].filter (fun n => (d.lane n).st == .up)
  up.find? (fun n => up.all (fun m => decide (((d.lane m).link.txVc vc).avail ≤ ((d.lane n).link.txVc vc).avail)))

/-- A packet waits on a link. -/
def Dev.send (d : Dev) (l : LinkId) (p : Pkt) : Dev :=
  match l with
  | .port n => d.setPort n (fun x => { x with link := x.link.queue p })
  | .lane n => d.setLane n (fun x => { x with link := x.link.queue p })

/-- A packet of the PSN series is sent on an UP lane and kept until an ACK covers it (R244). -/
def Dev.psn (d : Dev) (p : Pkt) : Dev :=
  if (d.peer.pair = .mirrored ∨ d.peer.pair = .resync) ∧ d.peer.standby = false then
    let e : PsnPkt := { psn := d.peer.txPsn, pkt := { p with tag := d.peer.txPsn }, sentAt := d.now }
    let d1 := { d with peer := { d.peer with txPsn := (d.peer.txPsn + 1) % 2 ^ 32, unacked := d.peer.unacked ++ [e],
                                             txSent := d.peer.txSent + 1 } }
    match d1.upLane p.vc with
    | some n => d1.send (.lane n) e.pkt
    | none => d1
  else d

/-! ## The journal ring (R280) -/

/-- A record is made: it takes the next SEQ and enters the ring; a paired active controller sends it to its peer (R246). -/
def Dev.journal (d : Dev) (b : JBody) : Dev :=
  let r : JRec := { seq := d.valt.nextSeq, at_ := d.now, body := b }
  let d1 := { d with valt := { d.valt with ring := d.valt.ring ++ [r], nextSeq := d.valt.nextSeq + 1 } }
  d1.psn { typ := 10, vc := 3, len := (16 * b.len + 31) / 32, op := b.type, tag := 0, seq := 0, args := [r.seq], data := r.bytes }

/-- Bytes in the ring. -/
def Valt.ringBytes (v : Valt) : Nat := (v.ring.map (fun r => 16 * r.body.len)).sum

/-- The ring of 8 MiB has room for a record of any length (R280); makers wait while it has not. -/
def Dev.ringRoom (d : Dev) : Bool := decide (d.valt.ringBytes + 256 ≤ 8388608)

/-! ## Contexts (R313) -/

/-- The port of a context's key. -/
def ctxPort (c : Nat) : Nat := c / 65536

/-- A context becomes COMMITTED with its status: SCT × 256 + SC, Do Not Retry, Dword 0.  An entry already built stands. -/
def Dev.commitCtx (d : Dev) (c status : Nat) (dnr : Bool) (dw0 : Nat) : Dev :=
  d.modCtx c (fun x =>
    if x.st = .committed then x
    else if x.marked then { x with st := .committed, status := 0x008, dnr := false, dw0 := 0 }
    else { x with st := .committed, status := status, dnr := dnr, dw0 := dw0 })

/-- Success, without a Dword 0. -/
def Dev.done (d : Dev) (c : Nat) : Dev := d.commitCtx c 0 false 0

/-- A context is freed: its slice, or the base slice that lent it, holds one less (R345, R347). -/
def Dev.freeCtx (d : Dev) (c : Nat) : Dev :=
  match d.ctx c with
  | none => d
  | some x =>
    let d1 := { d with host := { d.host with ctxs := d.host.ctxs.del c } }
    match x.slice, x.lender with
    | some s, _ => d1.setSlice s (fun y => { y with heldCtx := y.heldCtx - 1 })
    | none, some s => d1.setSlice s (fun y => { y with heldCtx := y.heldCtx - 1 })
    | none, none => d1

/-- A context ends silently (R313). -/
def Dev.silent (d : Dev) (c : Nat) : Dev :=
  match d.ctx c with
  | none => d
  | some _ => (d.count (pHOST (ctxPort c)) 0x134 1).freeCtx c

/-- Do something for each of a list. -/
def Dev.each {α : Type} (d : Dev) (l : List α) (f : Dev → α → Dev) : Dev := l.foldl f d

/-- The identifiers of asynchronous events (R308), as the NVMe specification codes them. -/
def aenNamespace : Aen := { type := 2, info := 0, log := 4 }
def aenFirmware  : Aen := { type := 2, info := 1, log := 3 }
def aenTelemetry : Aen := { type := 2, info := 2, log := 8 }
def aenZone      : Aen := { type := 2, info := 0xEF, log := 0xBF }
def aenError     : Aen := { type := 0, info := 3, log := 1 }
def aenHealth (info : Nat) : Aen := { type := 1, info := info, log := 2 }

/-- The bit of Asynchronous Event Configuration that enables an event; errors need none. -/
def Aen.enableBit (a : Aen) : Option Nat :=
  if a.type = 0 then none
  else if a.type = 1 then some a.info
  else if a.info = 0 then some 8 else if a.info = 1 then some 9 else if a.info = 2 then some 10 else some 27

/-- The mask of Asynchronous Event Configuration that a function has set. -/
def Fn.aenMask (f : Fn) : Nat :=
  f.feats.foldl (fun a x => match x with | .asyncEvents m => m | _ => a) 0

/-- A function's asynchronous event: it completes an outstanding request, with WAKE_N while the link is in L2 (R296), or waits for one. -/
def Dev.aenFn (d : Dev) (port fn : Nat) (a : Aen) : Dev :=
  let f := d.fn port fn
  let on := f.en && (match a.enableBit with | none => true | some b => hasBit f.aenMask b)
  if ¬ on then d
  else
    let isReq (e : Nat × Ctx) : Bool :=
      ctxPort e.1 == port && e.2.fn == fn && e.2.st == .executing && (match e.2.e.cmd with | .asyncEvent => true | _ => false)
    match d.host.ctxs.find? isReq with
    | some (c, _) =>
      let d1 := if (d.hport port).lstate = 7 then d.setHport port (fun h => { h with wakeN := true }) else d
      d1.commitCtx c 0 false (a.type + a.info * 256 + a.log * 65536)
    | none =>
      let d1 := d.setFn port fn (fun x => if x.aens.contains a then x else { x with aens := x.aens ++ [a] })
      d1

/-- Every function of every port. -/
def Dev.fnList (d : Dev) : List (Nat × Nat) :=
  d.host.ports.flatMap (fun p => p.2.fns.map (fun f => (p.1, f.1)))

/-- An asynchronous event on every controller that has enabled it (R308). -/
def Dev.aen (d : Dev) (a : Aen) : Dev := d.each d.fnList (fun x pf => x.aenFn pf.1 pf.2 a)

end Sys2Proof.Machine
end

