-- ==== Sys2Proof/Machine/Clock.lean ====
section
/-! DEFINITION. One nanosecond of device time (R13, R50), and the seconds within the hour (R484). -/

namespace Sys2Proof.Machine

/-- Device time and its fraction after one nanosecond at a slew of `k` × 10^-8. -/
def slewed (time frac : Nat) (k : Int) : Nat × Nat :=
  let f : Int := frac + k
  if f < 0 then (time, (f + 100000000).toNat)
  else if 100000000 ≤ f then ((time + 2) % 2 ^ 64, (f - 100000000).toNat)
  else ((time + 1) % 2 ^ 64, f.toNat)

/-- The slew of `TIME_CTRL`, signed (R49). -/
def Dev.slew (d : Dev) : Int :=
  let v : Nat := d.rf pSYSC 0x808 16 16
  if v < 32768 then (v : Int) else (v : Int) - 65536

/-- One nanosecond passes and nothing is commanded: device time goes on, unless the part is held in reset, and with each of its seconds the
seconds within the hour, up to the hour's last (DESIGN CHOICE, log entry 2). -/
def Dev.tick (d : Dev) : Dev :=
  if d.powr.phase = .inReset then d
  else
    let t := slewed d.sysc.time d.sysc.timeFrac d.slew
    let d1 := { d with sysc := { d.sysc with time := t.1, timeFrac := t.2 } }
    if d.sysc.time / 1000000000 < t.1 / 1000000000 ∧ d.clkr.opSeconds < 3599 then
      { d1 with clkr := { d1.clkr with opSeconds := d1.clkr.opSeconds + 1 } }
    else d1

end Sys2Proof.Machine
end

