-- ==== Sys2Proof/Config.lean ====
section
/-! DEFINITION. What the spec leaves open or defines by a standard it names without giving: constants without a body, so that no
proof can lean on a value of one.  Each is named in the assumption log. -/

namespace Sys2Proof.Config

/-- Bank (rank, bank group and bank together) of a burst index of a subchannel: column, bank group, bank and row widths are those
of the manifest's part, which R376 does not give. -/
opaque dramBank (width density ranks burst : Nat) : Nat

/-- Row of a burst index (R376). -/
opaque dramRow (width density ranks burst : Nat) : Nat

/-- A key drawn from the DRBG (R401), by the number of the draw. -/
opaque drbg (draw : Nat) : List Byte

/-- KDF of R399: the counter-mode derivation of NIST SP 800-108 with CMAC-AES-256, by key, label and output bytes. -/
opaque kdf (key label : List Byte) (bytes : Nat) : List Byte

/-- AES key wrap of RFC 3394 under a key, with a 64-bit initial value; and unwrap, `none` where the check fails (R404, R405, R422). -/
opaque wrap (key : List Byte) (iv : Nat) (data : List Byte) : List Byte
opaque unwrap (key : List Byte) (iv : Nat) (data : List Byte) : Option (List Byte)

/-- AES-256-XTS of one logical block under a namespace key, at its data-unit number; and its inverse (R406). -/
opaque xts (key : List Byte) (unit : Nat) (data : List Byte) : List Byte
opaque unxts (key : List Byte) (unit : Nat) (data : List Byte) : List Byte

/-- The chaining state after one message block, by algorithm (R414 to R423). -/
opaque compress (alg : Nat) (chain block : List Byte) : List Byte
/-- The initial chaining state of an algorithm. -/
opaque chainInit (alg : Nat) : List Byte
/-- The digest that a chaining state spells. -/
opaque digestOf (alg : Nat) (chain : List Byte) : List Byte

/-- Whether a signature over a message verifies under the signing key of an index (R442 to R446). -/
opaque sigOk (key : Nat) (msg sig : List Byte) : Bool

/-- Whether a subchannel's drive strengths, termination, reference voltages and seeds lie in the JESD79-5 ranges that R374 names,
by the bytes 3 to 675 of the DRAM record. -/
opaque dramTimingOk (record : List Byte) : Bool

/-- The guard that protection information of a block carries (R324). -/
opaque guard (bits : Nat) (data : List Byte) : Nat

/-- The firmware's built-in vector table of a cell type (R151): 64 vectors, one offset for each read level; the spec gives no numbers. -/
opaque vectorTable (plc : Bool) : List (List Int)

/-- The LDPC parity of a codeword: 432 bytes; R135 gives its place and no code. -/
opaque ldpc (content : List Byte) : List Byte

/-- A value the spec leaves open, fresh each time: the step that takes one moves `Dev.free` on. -/
opaque freeWord (n : Nat) : Word
opaque freeNat (n : Nat) : Nat

end Sys2Proof.Config
end

