-- ==== Sys2Proof/Machine/Flags.lean ====
section
/-! DEFINITION. Status flags, their counter (R43 to R45), and the events they are offered as (R510 to R521). -/

namespace Sys2Proof.Machine

/-- The code of event `num` of a page (R521). -/
def evtCode (page num : Nat) : Nat := blockCode page * 256 + num

/-- The flag of event `num`: number − 1; 15 further on a SLIC page, whose first sixteen flags are message flags (R373); the number
itself on DGST, whose flag 0 is its job-end flag (R431). -/
def evtFlag (page num : Nat) : Nat := if 256 ≤ page then num + 15 else if page = 7 then num else num - 1

/-- The severities of a page's events, by number from 1 (the chapters' event tables). -/
def sevList (page : Nat) : List Nat :=
  if page = 0 then [2, 1, 1, 0]
  else if page = 1 then [3, 2, 2, 1]
  else if page = 2 then [0, 0, 0, 2, 1, 2]
  else if page = 3 then [2, 2, 1, 1]
  else if page = 4 then [1, 3, 1, 2, 3, 2, 2, 1, 3]
  else if page = 5 then [1, 1, 0, 2, 1, 0]
  else if page = 6 then [0, 2, 1, 3, 2, 1, 1, 2, 1, 1]
  else if page = 7 then [1, 2, 2, 0]
  else if page = 8 then [2, 1, 2, 1, 3, 3]
  else if page = 9 then [0, 1, 1]
  else if page = 16 then [0, 1, 1, 0, 2, 1, 2, 2]
  else if page = 17 then [0, 1, 1, 0, 2, 1, 2, 2]
  else if page = 24 then [1, 1, 0, 0]
  else if page = 32 then [1, 2, 2, 1, 2, 1, 2, 1]
  else if page = 33 then [1, 1, 0, 2, 2, 1, 1, 0]
  else if page = 34 then [0, 2, 2, 2, 1, 2, 1, 3, 3, 0, 2, 0, 2]
  else if page = 35 then [1, 1, 3, 1, 0, 2]
  else if page = 36 then [1, 3, 0, 2, 1, 2, 2, 3, 0, 1]
  else if page = 40 then [1, 2, 2, 2, 3, 1, 1, 1, 1, 2]
  else if 48 ≤ page ∧ page ≤ 63 then [0, 1, 2, 1, 2, 2, 2, 2, 1, 1, 0, 1, 1, 1, 2]
  else if 64 ≤ page ∧ page ≤ 67 then [0, 2, 1, 0, 2, 2, 2, 3, 2, 3]
  else [0, 1, 0, 1, 2, 1]

/-- The severity of event `num` of a page. -/
def sevOf (page num : Nat) : Nat := (sevList page).getD (num - 1) 0

/-- The codes that fold (R521). -/
def folding (code : Nat) : Bool :=
  code == 0x0603 || code == 0x0701 || code == 0x0902 || code == 0x1804 || (decide (0x2101 ≤ code) && decide (code ≤ 0x2108))
    || (decide (0x4000 ≤ code) && decide (code < 0x4400) && code % 256 == 1)

/-- The stamp of this moment, from the daisy island's counters (R511). -/
def Dev.stamp (d : Dev) : Stamp := { seconds := d.clkr.opSeconds, hours := d.clkr.opHours, cycles := d.clkr.pwrCycles }

/-- Seconds between two stamps of one power cycle. -/
def Stamp.since (now s : Stamp) : Nat := now.hours * 3600 + now.seconds - (s.hours * 3600 + s.seconds)

/-- Whether an offered event folds into a record (R514). -/
def Rec.takes (r : Rec) (code p1 ms : Nat) (now : Stamp) : Bool :=
  !r.written && r.code == code && (r.params.getD 0 0).toNat == p1 % 2 ^ 32 && r.stamp.cycles == now.cycles
    && decide (now.since r.stamp * 1000 ≤ ms) && decide (r.rep < 65535)

/-- The newest record with this code and PARAM1 that is unwritten, if the event may fold into it: the buffer after the fold. -/
def foldInto (buf : List Rec) (code ms : Nat) (ps : List Word) (now : Stamp) : Option (List Rec) :=
  match buf.reverse with
  | l =>
    match l.find? (fun r => !r.written && r.code == code && r.params.getD 0 0 == ps.getD 0 0) with
    | none => none
    | some r =>
      if r.takes code (ps.getD 0 0).toNat ms now then
        let i := l.idxOf r
        some (l.set i { r with rep := r.rep + 1, folded := true, params := ps }).reverse
      else none

/-- The victim of R513 in a full buffer, by position: the oldest written record, or the oldest unwritten one of the lowest
severity below the new record's. -/
def victim (buf : List Rec) (sev : Nat) : Option Nat :=
  match buf.findIdx? (fun r => r.written) with
  | some i => some i
  | none =>
    ([0, 1, 2].filter (fun s => decide (s < sev))).findSome? (fun s => buf.findIdx? (fun r => r.sev == s))

/-- A record is added to a buffer of `cap` records: the buffer, and the severity of a record given up. -/
def addRec (buf : List Rec) (cap : Nat) (r : Rec) : List Rec × Option Nat × Bool :=
  if buf.length < cap then (buf ++ [r], none, true)
  else
    match victim buf r.sev with
    | some i => (buf.eraseIdx i ++ [r], (buf[i]?).map (fun v => v.sev), true)
    | none => (buf, some r.sev, false)

/-- The buffer that takes records: the ring, or the holding buffer while the ring is frozen (R515). -/
def Dev.recs (d : Dev) : List Rec := if d.evnt.frozen then d.evnt.hold else d.evnt.ring
def Dev.putRecs (d : Dev) (b : List Rec) : Dev :=
  { d with evnt := if d.evnt.frozen then { d.evnt with hold := b } else { d.evnt with ring := b } }

/-- The fold that an offered event makes, where it folds (R514): the buffer after it. -/
def Dev.folded (d : Dev) (code : Nat) (ps : List Word) (now : Stamp) : Option (List Rec) :=
  if folding code ∧ d.rf pEVNT 0x800 0 16 ≠ 0 then foldInto d.recs code (d.rf pEVNT 0x800 0 16) ps now else none

/-- A record given up, of severity `s`, is counted (R513). -/
def Dev.countLost (d : Dev) (s : Option Nat) : Dev :=
  match s with | some s => d.count pEVNT (0x11C + 4 * (s % 4)) 1 | none => d

/-- What a new record of severity `sev` alerts: the hosts where it is critical (R308), and SIDE_ALERT_N from its threshold on (R492). -/
def Dev.alerted (d : Dev) (sev : Nat) : Dev :=
  let d1 := if sev = 3 then d.aen aenError else d
  if d1.rf pSIDE 0x10C 0 2 ≤ sev then { d1 with side := { d1.side with alert := true } } else d1

/-- An offered event that does not fold makes a record, or is dropped where no slot is to be had (R513). -/
def Dev.newRec (d : Dev) (r : Rec) : Dev :=
  let a := addRec d.recs (if d.evnt.frozen then 256 else 32768) r
  if a.2.2 then (((d.countLost a.2.1).count pEVNT 0x110 1).putRecs a.1).alerted r.sev else (d.countLost a.2.1).count pEVNT 0x118 1

/-- An event is offered to EVNT (R512 to R515): it folds, or makes a record, or is dropped.  `deferred` carries the stamp of
its arising. -/
def Dev.offer (d : Dev) (code sev : Nat) (ps : List Word) (deferred : Option Stamp) : Dev :=
  let e := d.count pEVNT 0x10C 1
  match e.folded code ps (deferred.getD d.stamp) with
  | some b => (e.count pEVNT 0x114 1).putRecs b
  | none =>
    e.newRec { code := code, sev := sev, folded := false, deferred := deferred.isSome, carried := false, held := d.evnt.frozen, rep := 1,
               stamp := deferred.getD d.stamp, params := ps, written := false }

/-- The header of a page where a flag is set (R43, R45): the flag and the counter, and, where its enable is 1, the block's interrupt. -/
def PageHdr.flagged (h : PageHdr) (flag : Nat) : PageHdr :=
  { h with evtStat := setBit h.evtStat flag, evtCount := h.evtCount + 1, irq := if bitOf h.evtEn flag then setBit h.irq flag else h.irq }

/-- A flag is set. -/
def Dev.setFlag (d : Dev) (page flag : Nat) : Dev := d.setHdr page (fun h => h.flagged flag)

/-- DENIED is set (R35); it makes no record (R43). -/
def Dev.deny (d : Dev) (page : Nat) : Dev := d.setFlag page 31

/-- Whether EVNT can take a record: its clock runs and the firmware is up.  While it is not, an event waits with its stamp
(R463, R489, R511). -/
def Dev.evntUp (d : Dev) : Bool := (d.hdr pEVNT).pwr == 0 && d.powr.phase != .inReset && d.powr.phase != .rom

/-- An event's four parameters (R510): those its table lists, then zeros. -/
def evtParams (ps : List Nat) : List Word := ((ps ++ [0, 0, 0, 0]).take 4).map u32

/-- An event arises: its flag is set, and where the flag's enable is 1 it is offered with its parameters (R43, R512).  One that
arises in the ROM or in DORMANT is held with its stamp (R511). -/
def Dev.raise (d : Dev) (page num : Nat) (ps : List Nat) : Dev :=
  let d1 := d.setFlag page (evtFlag page num)
  if ¬ d.evntUp then
    { d1 with fsto := { d1.fsto with held := d1.fsto.held ++ [{ page := page, num := num, params := ps, stamp := d.stamp }] } }
  else if bitOf (d.hdr page).evtEn (evtFlag page num) then
    d1.offer (evtCode page num) (sevOf page num) (evtParams ps) none
  else d1

/-- An event to which the spec gives no code, severity or parameters: free values stand for them (DESIGN CHOICE, log entry 64).
One that arises while EVNT cannot take it is held (R511). -/
def Dev.unnamed (d : Dev) : Dev :=
  let e := ((d.takeFree).takeFree).takeFree
  if d.evntUp then e.offer (Config.freeNat d.free % 65536) (Config.freeNat (d.free + 1) % 4) [Config.freeWord (d.free + 2)] none
  else
    { e with fsto := { e.fsto with held := e.fsto.held ++
      [{ page := Config.freeNat d.free % 1024, num := Config.freeNat (d.free + 1) % 256, params := [Config.freeNat (d.free + 2)], stamp := d.stamp }] } }

/-- A deferred event is presented: offered whatever its enable holds, setting no flag and counting in no EVT_COUNT (R512). -/
def Dev.present (d : Dev) (e : HeldEvent) : Dev :=
  d.offer (evtCode e.page e.num) (sevOf e.page e.num) (evtParams e.params) (some e.stamp)

/-- The events held are presented in the order they arose. -/
def Dev.presentHeld (d : Dev) : Dev :=
  (d.each d.fsto.held Dev.present).each [()] (fun x _ => { x with fsto := { x.fsto with held := [] } })

/-! ## Fabric errors (R15, R46, R47) -/

/-- A fabric error: counted, captured if the capture is armed, and recorded as event 0x0001.  For an address outside the register pages the
spec gives no page index: the parameter is 0 below them and goes on counting in 64 KiB above (DESIGN CHOICE, log entry 65). -/
def Dev.fabricError (d : Dev) (addr cause master : Nat) (write : Bool) : Dev :=
  let f := d.sysc.fabErr
  let f' : FabErr :=
    if f.armed then { addr := addr, write := write, cause := cause, master := master, count := f.count + 1, armed := false }
    else { f with count := f.count + 1 }
  let d1 := { d with sysc := { d.sysc with fabErr := f' } }
  let page := if 0x1000000000 ≤ addr then (addr - 0x1000000000) / 0x10000 else 0
  let info := (if write then 2 ^ 31 else 0) + cause * 65536 + master
  d1.raise pSYSC 1 [addr % 2 ^ 32, addr / 2 ^ 32, info, page]

/-- The internal address of a register (R14). -/
def pageAddr (page off : Nat) : Nat := 0x1000000000 + page * 0x10000 + off

/-- A fabric access to a page, or the error it meets (R15, R46): the cause code, or none where it is served. -/
def Dev.pageError (d : Dev) (page : Nat) : Option Nat :=
  if ¬ pageExists page then some 1
  else
    match (d.hdr page).pwr with
    | 0 => none
    | 1 => some 3
    | 2 => some 2
    | _ => some (d.hdr page).wakingFrom

/-- A write to a register: a fabric error where the page cannot be served (R15, R46); dropped with DENIED where the register is
of the expert level and the page is locked (R35); else taken. -/
def Dev.onWrite (d : Dev) (page off master : Nat) (k : Dev → Dev) : Dev :=
  match d.pageError page with
  | some c => d.fabricError (pageAddr page off) c master true
  | none => if 0x800 ≤ off ∧ ¬ (d.hdr page).unlocked then d.deny page else k d

/-- A read of a register: a fabric error with 0xFFFF_FFFF where the page cannot be served; else what `k` answers. -/
def Dev.onRead (d : Dev) (page off master : Nat) (k : Dev → Dev) : Dev :=
  match d.pageError page with
  | some c => (d.fabricError (pageAddr page off) c master false).emit (.word 0xFFFFFFFF (master != 33))
  | none => k d

end Sys2Proof.Machine
end

