-- ==== Sys2Proof/Machine/CryptOps.lean ====
section
/-! DEFINITION. Digests, key wrapping, the random source, the key slots and the digest engine (R399 to R424). -/

namespace Sys2Proof.Machine

/-! ## Byte strings -/

/-- `l` in pieces of `n` bytes, at most `k` of them. -/
def chunks : Nat → Nat → List Byte → List (List Byte)
  | 0, _, _ => []
  | k + 1, n, l => if l.isEmpty then [] else l.take n :: chunks k n (l.drop n)

/-- Bytewise exclusive or, as long as the shorter. -/
def xorBytes (a b : List Byte) : List Byte := List.zipWith (· ^^^ ·) a b

/-- `v` as `n` bytes, most significant first. -/
def beBytes (n v : Nat) : List Byte := (leBytes n v).reverse

/-- The ASCII bytes of a label. -/
def ascii (s : String) : List Byte := s.toList.map (fun c => BitVec.ofNat 8 c.toNat)

/-! ## Digests (R414, R416) -/

/-- Block and digest lengths of an algorithm (R414). -/
def algBlock (alg : Nat) : Nat := if alg = 0 then 64 else if alg = 3 then 136 else 128
def algDigest (alg : Nat) : Nat := if alg = 0 then 32 else if alg = 1 then 48 else if alg = 2 then 64 else 32

/-- The padding of FIPS 180-4, or of FIPS 202, for a message of `len` bytes of which `tail` remain. -/
def padTail (alg len : Nat) (tail : List Byte) : List Byte :=
  let b := algBlock alg
  if alg = 3 then
    let z := (b - (tail.length + 1) % b) % b
    if z = 0 then tail ++ [0x86] else tail ++ [0x06] ++ List.replicate (z - 1) 0 ++ [0x80]
  else
    let w := if alg = 0 then 8 else 16
    let z := (b - (tail.length + 1 + w) % b) % b
    tail ++ [0x80] ++ List.replicate z 0 ++ beBytes w (8 * len)

/-- The chaining state after whole blocks. -/
def chainOver (alg : Nat) (chain : List Byte) (bs : List Byte) : List Byte :=
  (chunks (bs.length / algBlock alg + 1) (algBlock alg) bs).foldl (Config.compress alg) chain

/-- The digest of a message. -/
def hash (alg : Nat) (msg : List Byte) : List Byte :=
  fitBytes (algDigest alg) (Config.digestOf alg (chainOver alg (Config.chainInit alg) (padTail alg msg.length msg)))

/-- HMAC as R421 composes it. -/
def hmac384 (key msg : List Byte) : List Byte :=
  let k := fitBytes 128 (if 128 < key.length then hash 1 key else key)
  hash 1 (k.map (· ^^^ 0x5C) ++ hash 1 (k.map (· ^^^ 0x36) ++ msg))

/-! ## The random source and the key hierarchy (R399 to R402) -/

/-- Bytes drawn from the DRBG: a free value, and the state with the draw counted (R401). -/
def Dev.draw (d : Dev) (n : Nat) : List Byte × Dev :=
  (fitBytes n (Config.drbg d.free), { d with free := d.free + 1, cryp := { d.cryp with drbgReqs := d.cryp.drbgReqs + 1 } })

/-- The initial value of a key wrap for a namespace (R404), and RFC 3394's own. -/
def nsIv (nsid : Nat) : Nat := 0xA6A6A6A6 * 2 ^ 32 + nsid % 2 ^ 32
def stdIv : Nat := 0xA6A6A6A6A6A6A6A6

/-- CRYP at reset: the keys derived from the seed, or event 0x0806 (R400).  The seed is the first eight words of the row. -/
def Dev.crypStart (d : Dev) : Dev :=
  let words := (List.range 8).map (fun i => d.otp.get otpDefault i)
  let seed := words.flatMap (fun w => leBytes 4 w.toNat)
  let r := d.draw 32
  let d1 := { r.2 with dgst := { r.2.dgst with kCtx := r.1 }, cryp := { r.2.cryp with drbgOk := true } }
  if words.all (· == 0) then ({ d1 with cryp := { d1.cryp with seedOk := false } }).raise pCRYP 6 [0, 0, 0, 0]
  else if words.all (· == 0xFFFFFFFF) then ({ d1 with cryp := { d1.cryp with seedOk := false } }).raise pCRYP 6 [1, 0, 0, 0]
  else
    let kek := fitBytes 32 (Config.kdf seed (ascii "OZ1600-KEK") 32)
    let vault := fitBytes 64 (Config.kdf seed (ascii "OZ1600-VAULT") 64)
    { d1 with cryp := { d1.cryp with seedOk := true, kKek := kek, kVault := vault } }

/-- K_pw (R399). -/
def kPwOf (kPair : List Byte) : List Byte := (hmac384 kPair (ascii "KATRE-WRAP")).take 32

/-- K_peer (R242, R399). -/
def kPeerOf (kPair : List Byte) : List Byte := hmac384 kPair (ascii "KATRE-PEER")

/-- The chip's serial number (R439). -/
def Dev.chipSerial (d : Dev) : Nat := (d.otp.get otpDefault 8).toNat + 2 ^ 32 * (d.otp.get otpDefault 9).toNat

/-! ## Key slots (R403, R404) -/

def Dev.kslot (d : Dev) (n : Nat) : KeySlot := d.cryp.slots.get KeySlot.reset n
def Dev.setKslot (d : Dev) (n : Nat) (f : KeySlot → KeySlot) : Dev :=
  { d with cryp := { d.cryp with slots := d.cryp.slots.upd KeySlot.reset n f } }

/-- The selected slot, the bound NSID and the operation buffer. -/
def Dev.slotSel (d : Dev) : Nat := d.rf pCRYP 0x104 0 13
def Dev.slotNsid (d : Dev) : Nat := (d.cell pCRYP 0x108).toNat
def Dev.wrapAddr (d : Dev) : Nat := d.rf pCRYP 0x118 3 23 * 8

/-- SRAM ends here (R14). -/
def sramEnd : Nat := 0x4000000

/-- The result of an operation; event 0x0801 where a wrap check failed. -/
def Dev.slotResult (d : Dev) (op r : Nat) : Dev :=
  let d1 := { d with cryp := { d.cryp with result := r } }
  if r = 3 then d1.raise pCRYP 1 [d.slotSel, op, r, d.slotNsid] else d1

/-- The first EMPTY slot after the one taken last, wrapping past 8,191 to 1 (R403): searched with fuel. -/
def Dev.nextSlotFrom (d : Dev) : Nat → Nat → Nat
  | 0, i => i
  | n + 1, i =>
    let j := if 8191 ≤ i then 1 else i + 1
    if (d.kslot j).st = .empty then j else Dev.nextSlotFrom d n j

def Dev.nextSlot (d : Dev) : Nat := d.nextSlotFrom 8191 d.cryp.lastTaken

/-- A key from the DRBG enters a slot, bound to a namespace. -/
def Dev.genKey (d : Dev) (slot nsid : Nat) : Dev :=
  let r := d.draw 64
  r.2.setKslot slot (fun _ => { st := .loaded, nsid := nsid, key := r.1, inflight := 0 })

/-- The wrapped form of a slot's key (R404): 72 bytes under K_pw. -/
def Dev.wrapped (d : Dev) (slot : Nat) : List Byte :=
  fitBytes 72 (Config.wrap d.cryp.kPw (nsIv (d.kslot slot).nsid) (d.kslot slot).key)

/-- Slots in a state, over 1 to 8,191 (R425). -/
def Dev.slotsIn (d : Dev) (st : SlotState) : Nat := d.cryp.slots.count (fun i k => decide (i ≠ 0) && k.st == st)

/-! ## XTS (R406) -/

/-- A block encrypted under a slot at its LBA, or refused (R404): counted either way. -/
def Dev.encrypt (d : Dev) (slot lba : Nat) (b : List Byte) : Option (List Byte) :=
  if (d.kslot slot).st = .loaded then some (fitBytes b.length (Config.xts (d.kslot slot).key lba b)) else none

def Dev.decrypt (d : Dev) (slot lba : Nat) (b : List Byte) : Option (List Byte) :=
  if (d.kslot slot).st = .loaded then some (fitBytes b.length (Config.unxts (d.kslot slot).key lba b)) else none

/-! ## The digest engine (R415 to R424) -/

/-- Whether bytes of the internal address space are memory: SRAM, or DRAM in use (R14, R15). -/
def Dev.inMem (d : Dev) (a len : Nat) : Bool :=
  decide (a + len ≤ sramEnd) || (decide (0x8000000000 ≤ a) && decide (a + len ≤ 0x8000000000 + 4 * (d.chan 0).usableGiB * 2 ^ 30))

/-- A number in a descriptor. -/
def Dev.leAt (d : Dev) (a n : Nat) : Nat := ofLe (d.bytes a n)

/-- The job that the descriptor at `a` spells (R415). -/
def Dev.readJob (d : Dev) (a num master : Nat) : DJob :=
  let flags := d.leAt (a + 1) 1
  let alg := d.leAt a 1
  let st := d.leAt (a + 32) 8
  { num := num, addr := a, master := master, alg := alg, flags := flags, prio := d.leAt (a + 2) 1 % 4, src := d.leAt (a + 8) 8,
    len := d.leAt (a + 16) 8, decl := d.leAt (a + 24) 8, state := st, out := d.leAt (a + 40) 8, prev := d.leAt (a + 60) 4,
    bad := decide (32 ≤ flags) || decide (3 < alg) || decide (3 < d.leAt (a + 2) 1) || d.leAt (a + 3) 1 != 0 || d.leAt (a + 48) 8 != 0
             || d.leAt (a + 58) 2 != 0 || decide (sramEnd < st + 264) || st % 8 != 0,
    fed := 0, pos := 0, ran := 0, chain := [], resuming := false }

/-- A job ends (R419, R420): STATUS, CMP and JOB into its descriptor, flag 0 set, the job counted, event 0x0701. -/
def Dev.endJob (d : Dev) (j : DJob) (status cmp : Nat) : Dev :=
  let d1 := if j.forLog then d else (d.store (j.addr + 56) (leBytes 1 status ++ leBytes 1 cmp)).store (j.addr + 60) (leBytes 4 j.num)
  let d2 := { d1 with dgst := { d1.dgst with running := if d1.dgst.running.map DJob.num = some j.num then none else d1.dgst.running,
                                             queue := d1.dgst.queue.filter (fun q => q.num != j.num) } }
  let d3 := (d2.setFlag pDGST 0).count pDGST (if status = 0 then 0x124 else 0x128) 1
  if status = 0 ∨ status = 5 then d3 else d3.raise pDGST 1 [j.num, status, j.alg * 256 + j.prio, j.master]

/-- A length error: status 1 and event 0x0702 (R417). -/
def Dev.lengthError (d : Dev) (j : DJob) (fed kind : Nat) : Dev :=
  (d.raise pDGST 2 [j.num, j.decl, fed, kind]).endJob j 1 0

/-- The state record of a job (R422): 256 bytes in clear. -/
def DJob.record (j : DJob) : List Byte :=
  [1, BitVec.ofNat 8 j.alg, BitVec.ofNat 8 ((if j.keyed then 1 else 0) + (if j.hwpad then 2 else 0)), 0]
    ++ leBytes 4 j.num ++ leBytes 8 j.fed ++ leBytes 8 j.decl ++ fitBytes 200 j.chain ++ List.replicate 32 0

/-- A job's state is exported to its STATE buffer: wrapped under K_ctx where the job is keyed. -/
def Dev.exportJob (d : Dev) (j : DJob) : Dev :=
  if j.forLog then d else d.store j.state (if j.keyed then fitBytes 264 (Config.wrap d.dgst.kCtx stdIv j.record) else j.record)

/-- Some of a job's source is consumed: `n` bytes, of whole blocks. -/
def Dev.feed (d : Dev) (j : DJob) (n : Nat) : DJob × Dev :=
  let j' := { j with fed := j.fed + n, pos := j.pos + n, ran := j.ran + n, chain := chainOver j.alg j.chain (d.bytes (j.src + j.pos) n) }
  (j', d.count pDGST 0x130 ((j.fed + n) / 1024 - j.fed / 1024))

/-- The next job: the highest priority, and within it the first to arrive (R418). -/
def Dgst.nextJob? (g : Dgst) : Option DJob :=
  [3, 2, 1, 0].findSome? (fun p => g.queue.find? (fun j => j.prio == p))

/-- The record in a job's STATE buffer, checked (R422): the chaining state and bytes consumed, or the status it ends with. -/
def Dev.importJob (d : Dev) (j : DJob) : Except Nat (List Byte × Nat) :=
  if j.forLog then .ok (j.chain, j.fed) else
  let buf := d.bytes j.state 264
  let clear := buf.take 256
  let isClear := clear.getD 0 0 == 1 && (clear.getD 2 0).toNat % 2 == 0 && clear.getD 3 0 == 0
  let check (r : List Byte) : Except Nat (List Byte × Nat) :=
    let job := ofLe (cut r 4 4)
    if job ≠ (if j.resuming then j.num else j.prev) ∨ (r.getD 1 0).toNat ≠ j.alg ∨ ((r.getD 2 0).toNat % 2 == 1) ≠ j.keyed
        ∨ ((r.getD 2 0).toNat / 2 % 2 == 1) ≠ j.hwpad then .error 8
    else .ok (cut r 24 200, ofLe (cut r 8 8))
  if j.keyed then
    match Config.unwrap d.dgst.kCtx stdIv buf with
    | some r => check r
    | none => if isClear then .error 4 else .error 3
  else if isClear then check clear else .error 4

/-- The power-fail freeze ends every job with status 6 (R419). -/
def Dev.dgstFreeze (d : Dev) : Dev :=
  d.each (d.dgst.running.toList ++ d.dgst.queue) (fun x j => x.endJob j 6 0)

end Sys2Proof.Machine
end

