-- ==== Sys2Proof/Machine/EvntOps.lean ====
section
/-! DEFINITION. The flash log's pages and extents as bytes, their seal, and the end of a freeze (R510, R515, R517 to R519). -/

namespace Sys2Proof.Machine

/-! ## Pages and extents -/

/-- A record's 32 bytes (R510). -/
def Rec.bytes (r : Rec) : List Byte :=
  let flags := r.sev % 4 + (if r.folded then 4 else 0) + (if r.deferred then 8 else 0) + (if r.carried then 16 else 0) + (if r.held then 32 else 0)
  leBytes 2 r.code ++ leBytes 2 flags ++ leBytes 2 r.rep ++ leBytes 2 r.stamp.seconds ++ leBytes 4 r.stamp.hours ++ leBytes 4 r.stamp.cycles
    ++ (List.range 4).flatMap (fun i => leBytes 4 (r.params.getD i 0).toNat)

/-- An empty slot: CODE 0xFFFF. -/
def emptySlotBytes : List Byte := [0xFF, 0xFF] ++ List.replicate 30 0

/-- Record slots of a page. -/
def logSlots : Nat := 2045

/-- The 64 KiB of a page (R517): the header with its CRC over the whole page except the CRC's own four bytes, then the slots. -/
def LogPage.bytes (p : LogPage) : List Byte :=
  let head := ascii "OZEV" ++ [1, if p.first then 1 else 0] ++ leBytes 2 p.used ++ leBytes 8 p.page ++ leBytes 4 p.extent ++ List.replicate 8 0
  let sealed := fitBytes 48 (if p.first then p.prevSeal else []) ++ List.replicate 16 0
  let slots := p.recs.flatMap Rec.bytes ++ (List.replicate (logSlots - p.recs.length) emptySlotBytes).flatten
  head ++ leBytes 4 (crc32 (head ++ sealed ++ slots)) ++ sealed ++ slots

/-- The stamp of a log page's copy (R517). -/
def LogPage.stamp (p : LogPage) (copy : Nat) : List Byte := vaultStamp 0xFFFFFFFF p.extent (p.page % 64) copy 0 0

/-- An extent as written (R518). -/
def Evnt.extentBytes (e : Evnt) (n : Nat) : List Byte := (e.pages.filter (fun p => p.extent == n)).flatMap LogPage.bytes

/-- The seal of an extent exists (R519). -/
def Dev.sealDone (d : Dev) : Dev :=
  match d.evnt.sealing with
  | none => d
  | some e =>
    let dg := hash 1 (d.evnt.extentBytes e)
    let d1 := { d with evnt := { d.evnt with sealing := none, sealedExtent := some e, sealLast := dg } }
    d1.raise pEVNT 3 [e, 64, ofLe (dg.take 4)]

/-- The seal job of an extent (R519): SHA-384 with HWPAD and FINAL, priority 0, of EVNT as master; submitted again where it has failed, once
the queue has room. -/
def Dev.submitSeal (d : Dev) : Dev :=
  if d.evnt.sealing.isNone ∨ (d.dgst.running.toList ++ d.dgst.queue).any DJob.forLog = true ∨ 16 ≤ d.dgst.queue.length then d
  else
    let n := d.dgst.nextJob
    let j : DJob := { num := n, addr := 0xFFFFFFFF, master := 43, alg := 1, flags := 9, prio := 0, src := 0, len := 4194304, decl := 4194304, state := 0, out := 0, prev := 0
                      bad := false, fed := 0, pos := 0, ran := 0, chain := [], resuming := false }
    ({ d with dgst := { d.dgst with queue := d.dgst.queue ++ [j], nextJob := (n + 1) % 0xFFFFFFFF } }).count pDGST 0x120 1

/-! ## The ring -/

/-- A record that exists already enters the ring, or the holding buffer of a freeze; what is given up for it is counted. -/
def Dev.putRec (d : Dev) (r : Rec) : Dev :=
  let a := addRec (if d.evnt.frozen then d.evnt.hold else d.evnt.ring) (if d.evnt.frozen then 256 else 32768) r
  let d1 := match a.2.1 with | some s => d.count pEVNT (0x11C + 4 * (s % 4)) 1 | none => d
  { d1 with evnt := if d1.evnt.frozen then { d1.evnt with hold := a.1 } else { d1.evnt with ring := a.1 } }

/-- The freeze ends: the held records are appended to the ring in their order (R515). -/
def Dev.endFreeze (d : Dev) : Dev :=
  let h := d.evnt.hold
  ({ d with evnt := { d.evnt with frozen := false, hold := [] } }).each h Dev.putRec

end Sys2Proof.Machine
end

