-- ==== Sys2Proof/Machine/FstoOps.lean ====
section
/-! DEFINITION. The NOR die, images, the boot tally, the one-time row and the configuration store (R432 to R460). -/

namespace Sys2Proof.Machine

/-! ## NOR words (R432, R436) -/

/-- The word at a NOR byte address. -/
def Dev.norWord (d : Dev) (a : Nat) : Word := d.nor.get norDefault (a / 4)

def Dev.norWords (d : Dev) (a n : Nat) : List Word := (List.range n).map (fun i => d.norWord (a + 4 * i))

def Dev.norBytes (d : Dev) (a n : Nat) : List Byte :=
  ((d.norWords (a / 4 * 4) ((n + a % 4 + 3) / 4)).flatMap (fun w => leBytes 4 w.toNat) |>.drop (a % 4)).take n

/-- Programming clears exactly the bits that are 0 in the data (R436). -/
def Dev.norProg (d : Dev) (a : Nat) (w : Word) : Dev :=
  { d with nor := d.nor.put norDefault (a / 4) (d.norWord a &&& w) }

def Dev.norProgs (d : Dev) : Nat → List Word → Dev
  | _, [] => d
  | a, w :: ws => (d.norProg a w).norProgs (a + 4) ws

/-- An erased sector reads 1 everywhere: its words are no longer listed. -/
def Dev.norErase (d : Dev) (a : Nat) : Dev :=
  let lo := a / 65536 * 16384
  { d with nor := d.nor.keep (fun i _ => decide (i < lo) || decide (lo + 16384 ≤ i)) }

/-- The words that bytes spell, the last filled with 0xFF. -/
def wordsOf : Nat → List Byte → List Word
  | 0, _ => []
  | k + 1, bs => if bs.isEmpty then [] else u32 (ofLe ((bs ++ [0xFF, 0xFF, 0xFF]).take 4)) :: wordsOf k (bs.drop 4)

/-- Bank *b* starts here; its sectors are 64 KiB. -/
def bankBase (b : Nat) : Nat := b * 0x1000000
def sectorAddr (b s : Nat) : Nat := bankBase b + s * 0x10000

/-- A running operation that is cut off leaves the bits it was clearing undefined, and an erased sector wholly so (R437). -/
def Dev.norCut (d : Dev) (op : NorOp) : Dev :=
  if op.erase then
    (List.range 16384).foldl (fun (x : Dev) i =>
      { x with nor := x.nor.put norDefault (op.addr / 65536 * 16384 + i) (Config.freeWord x.free), free := x.free + 1 }) d
  else
    (List.range op.data.length).foldl (fun (x : Dev) i =>
      ({ x with free := x.free + 1 }).norProg (op.addr + 4 * i) (op.data.getD i 0xFFFFFFFF ||| Config.freeWord x.free)) d

/-! ## Images (R442 to R446) -/

/-- The header of an image (R442). -/
structure ImgHdr where
  magicOk : Bool
  type    : Nat
  key     : Nat
  version : Nat
  svn     : Nat
  bodyLen : Nat
  load    : Nat
  entry   : Nat
  digest  : List Byte
  sig     : List Byte
  raw     : List Byte
  deriving DecidableEq, Repr

def readHdr (h : List Byte) : ImgHdr :=
  { magicOk := decide (h.take 4 = ascii "OZFW") && h.getD 4 0 == 1
    type := (h.getD 5 0).toNat, key := (h.getD 6 0).toNat, version := ofLe (cut h 8 4), svn := ofLe (cut h 12 4)
    bodyLen := ofLe (cut h 16 4), load := ofLe (cut h 20 4), entry := ofLe (cut h 24 4), digest := cut h 28 48
    sig := cut h 3968 96, raw := h.take 3968 }

/-- The anti-rollback counter: consecutive 1 bits of ROLLBACK, from bit 0 of byte 64 (R440). -/
def Dev.rollback (d : Dev) : Nat :=
  let bits := (List.range 256).map (fun i => bitOf (d.otp.get otpDefault (16 + i / 32)) (i % 32))
  (bits.takeWhile (fun b => b)).length

/-- Whether a signing key is revoked (R441). -/
def Dev.revoked (d : Dev) (k : Nat) : Bool := bitOf (d.otp.get otpDefault 24) k

/-- Verification of an image by R446, its header and its body: the step that failed, or none. -/
def Dev.verifyHdr (d : Dev) (type : Nat) (h : ImgHdr) (body : List Byte) : Option Nat :=
  let bounds :=
    if type = 1 then
      decide (1 ≤ h.bodyLen) && decide (h.bodyLen ≤ 12578816) && decide (h.load + h.bodyLen ≤ 16777216)
        && decide (h.load ≤ h.entry) && decide (h.entry < h.load + h.bodyLen)
    else decide (1 ≤ h.bodyLen) && decide (h.bodyLen ≤ 61440)
  if ¬ h.magicOk ∨ h.type ≠ type ∨ 3 < h.key then some 0
  else if d.revoked h.key then some 1
  else if ¬ Config.sigOk h.key h.raw h.sig then some 2
  else if ¬ bounds then some 5
  else if hash 1 body ≠ h.digest then some 3
  else if type = 1 ∧ h.svn < d.rollback then some 4
  else none

/-- The header at a NOR address, and the verification of the image there. -/
def Dev.hdrAt (d : Dev) (a : Nat) : ImgHdr := readHdr (d.norBytes a 4096)

def Dev.verifyAt (d : Dev) (type a : Nat) : Option Nat :=
  let h := d.hdrAt a
  if h.magicOk ∧ h.bodyLen ≤ 12578816 then d.verifyHdr type h (d.norBytes (a + 4096) h.bodyLen) else some 0

/-- The slot of bank *b* verifies as firmware (R445). -/
def Dev.slotOk (d : Dev) (b : Nat) : Bool := (d.verifyAt 1 (bankBase b)).isNone

/-- VERSION of a slot, 0 where it does not verify (R462). -/
def Dev.slotVersion (d : Dev) (b : Nat) : Nat := if d.slotOk b then (d.hdrAt (bankBase b)).version else 0

/-! ## The board manifest (R443, R444) -/

/-- The records of a manifest body, with fuel. -/
def manRecs : Nat → List Byte → List (Nat × List Byte)
  | 0, _ => []
  | k + 1, b =>
    if b.length < 4 then [] else
      let n := ofLe (cut b 2 2)
      (ofLe (cut b 0 2), cut b 4 n) :: manRecs k (b.drop (4 + n))

/-- The DRAM record (R444). -/
def dramRec (b : List Byte) : DramRecord :=
  { width := if b.getD 0 0 = 0 then 4 else if b.getD 0 0 = 1 then 8 else (b.getD 0 0).toNat + 8
    density := 8 * (b.getD 1 0).toNat, ranks := (b.getD 2 0).toNat, speed := 6400, timingOk := Config.dramTimingOk (b.drop 3), raw := b }

/-- A manifest's content; `none` where some TYPE does not appear exactly once. -/
def readManifest (copy version : Nat) (body : List Byte) : Option Manifest :=
  let rs := manRecs body.length body
  let one (t : Nat) : Option (List Byte) := match rs.filter (fun r => r.1 == t) with | [r] => some r.2 | _ => none
  match one 1, one 2, one 3, one 4, one 5, one 6 with
  | some dr, some board, some _, some rails, some pcie, some eq =>
    some { valid := true, sigOk := true, version := version, dram := dramRec dr,
           rails := (List.range rails.length).map (fun i => (i, (rails.getD i 0).toNat)),
           fans := (board.getD 0 0).toNat, slotPower := ofLe (cut board 2 2), pcie := pcie, linkEq := eq, copy := copy }
  | _, _, _, _, _, _ => none

/-- The manifest copy in a bank, where it verifies (R446). -/
def Dev.manifestAt (d : Dev) (b : Nat) : Option Manifest :=
  let a := sectorAddr b 192
  if (d.verifyAt 2 a).isNone then readManifest b ((d.hdrAt a).version) (d.norBytes (a + 4096) (d.hdrAt a).bodyLen) else none

/-- The manifest used (R446): the higher VERSION of two that verify, ties to copy 0. -/
def Dev.bestManifest (d : Dev) : Option Manifest :=
  match d.manifestAt 0, d.manifestAt 1 with
  | some a, some b => if a.version < b.version then some b else some a
  | some a, none => some a
  | none, b => b

/-! ## The boot tally (R447 to R450) -/

/-- An entry of the tally (R448). -/
inductive TallyEntry where
  | attempt (bank : Nat) (good : Bool)
  | select (bank : Nat)
  deriving DecidableEq, Repr

/-- The address of entry `i` of a tally sector. -/
def tallyEntryAddr (b i : Nat) : Nat := sectorAddr b 193 + 8 + 8 * i

/-- A complete tally header, and its generation. -/
def Dev.tallyGen (d : Dev) (b : Nat) : Option Nat :=
  if d.norWord (sectorAddr b 193) = 0x4C545A4F ∧ d.norWord (sectorAddr b 193 + 4) ≠ 0xFFFFFFFF then
    some (d.norWord (sectorAddr b 193 + 4)).toNat
  else none

/-- The live tally sector (R447). -/
def Dev.liveTally (d : Dev) : Option Nat :=
  match d.tallyGen 0, d.tallyGen 1 with
  | some a, some b => if a < b then some 1 else some 0
  | some _, none => some 0
  | none, some _ => some 1
  | none, none => none

/-- The entries of a tally sector, oldest first, up to the first unused one, with fuel. -/
def Dev.tallyFrom (d : Dev) (b : Nat) : Nat → Nat → List TallyEntry
  | 0, _ => []
  | k + 1, i =>
    let wa := d.norWord (tallyEntryAddr b i)
    let wb := d.norWord (tallyEntryAddr b i + 4)
    if wa = 0xFFFFFFFF ∧ wb = 0xFFFFFFFF then []
    else
      let e := if wa = 0xA55A0200 ∨ wa = 0xA55A0201 then TallyEntry.select (wa.toNat % 2)
               else if wa = 0xA55A0100 ∨ wa = 0xA55A0101 then TallyEntry.attempt (wa.toNat % 2) (wb == 0)
               else TallyEntry.attempt 0 false
      e :: d.tallyFrom b k (i + 1)

/-- Entries that a tally sector holds. -/
def tallyCap : Nat := 8191

def Dev.tally (d : Dev) : List TallyEntry :=
  match d.liveTally with | some b => d.tallyFrom b tallyCap 0 | none => []

/-- The failed count (R449). -/
def Dev.failedCount (d : Dev) : Nat :=
  (d.tally.reverse.takeWhile (fun e => match e with | .attempt _ good => !good | .select _ => false)).length

/-- The preferred bank (R449). -/
def Dev.preferredBank (d : Dev) : Nat :=
  (d.tally.reverse.findSome? (fun e => match e with | .select b => some b | _ => none)).getD 0

/-- An entry is written at the first unused place of the live sector; an empty tally begins in sector 0 with generation 1. -/
def Dev.tallyWrite (d : Dev) (wa wb : Word) : Dev :=
  let d1 := match d.liveTally with
    | some _ => d
    | none => (d.norProg (sectorAddr 0 193) 0x4C545A4F).norProg (sectorAddr 0 193 + 4) 1
  let b := d1.liveTally.getD 0
  let i := d1.tally.length
  if i < tallyCap then (d1.norProg (tallyEntryAddr b i) wa).norProg (tallyEntryAddr b i + 4) wb else d1

def Dev.tallyAttempt (d : Dev) (bank : Nat) : Dev := d.tallyWrite (u32 (0xA55A0100 + bank)) 0xFFFFFFFF
def Dev.tallySelect (d : Dev) (bank : Nat) : Dev := d.tallyWrite (u32 (0xA55A0200 + bank)) 0

/-- Word B of the newest entry is programmed: 0x0000_FFFF failed, 0 good (R450). -/
def Dev.tallyMark (d : Dev) (w : Word) : Dev :=
  match d.liveTally with
  | some b => if 0 < d.tally.length then d.norProg (tallyEntryAddr b (d.tally.length - 1) + 4) w else d
  | none => d

/-- Rotation when fewer than 64 unused entries remain (R450). -/
def Dev.tallyRotate (d : Dev) : Dev :=
  match d.liveTally with
  | none => d
  | some b =>
    if tallyCap - d.tally.length < 64 then
      let o := 1 - b
      let g := (d.tallyGen b).getD 0
      let d1 := d.norErase (sectorAddr o 193)
      let d2 :=
        if d.tally.any (fun e => match e with | .select _ => true | _ => false) then
          (d1.norProg (tallyEntryAddr o 0) (u32 (0xA55A0200 + d.preferredBank))).norProg (tallyEntryAddr o 0 + 4) 0
        else d1
      (d2.norProg (sectorAddr o 193) 0x4C545A4F).norProg (sectorAddr o 193 + 4) (u32 (g + 1))
    else d

/-- Attempts since the last good boot. -/
def Dev.attempts (d : Dev) : Nat :=
  (d.tally.reverse.takeWhile (fun e => match e with | .attempt _ good => !good | .select _ => true)).countP
    (fun e => match e with | .attempt _ _ => true | .select _ => false)

/-- The banks tried, in order, with the path of each; and the RECOVERY cause if none verifies (R452). -/
def bankOrder (src failed preferred : Nat) : List (Nat × Nat) × Nat :=
  if src = 1 then ([(0, 2)], 2) else if src = 2 then ([(1, 2)], 2)
  else if failed = 0 then ([(preferred, 0), (1 - preferred, 1)], 2)
  else if failed = 1 then ([(1 - preferred, 1), (preferred, 0)], 2)
  else ([], 1)

/-! ## The configuration store (R455 to R460) -/

/-- The address of configuration sector *c* (R432). -/
def cfgSector (c : Nat) : Nat := sectorAddr (c % 2) (194 + c / 2)

/-- A sector's header (R457): complete, its rotation number, and whether it is live. -/
def Dev.cfgHdr (d : Dev) (c : Nat) : Option (Nat × Bool) :=
  let a := cfgSector c
  if d.norWord a = 0x46435A4F ∧ d.norWord (a + 4) ≠ 0xFFFFFFFF then some ((d.norWord (a + 4)).toNat, d.norWord (a + 8) == 0xFFFFFFFF)
  else none

/-- The sectors of the window in ascending rotation order, with their live marks. -/
def Dev.cfgWindow (d : Dev) : List (Nat × Nat × Bool) :=
  let all := (List.range 124).filterMap (fun c => (d.cfgHdr c).map (fun h => (c, h.1, h.2)))
  sortBy (fun x => x.2.1) all

/-- The live sectors in ascending rotation order; the head is the last. -/
def Dev.cfgLive (d : Dev) : List (Nat × Nat) := (d.cfgWindow.filter (fun x => x.2.2)).map (fun x => (x.1, x.2.1))

/-- The words of a record as it stands when valid (R456), in whole 16-byte units with the CRC last. -/
def CfgRec.words (r : CfgRec) (state : Word) : List Word :=
  let n := (5 + r.data.length + 1 + 3) / 4 * 4
  let body := [u32 (r.type + (n / 4) * 256), u32 r.seq, u32 (r.seq / 2 ^ 32), u32 r.key] ++ r.data
    ++ List.replicate (n - 6 - r.data.length) 0
  state :: body ++ [u32 (crc32 (body.flatMap (fun w => leBytes 4 w.toNat)))]

/-- A record found in a sector: its address, length in words and content. -/
structure CfgFound where
  addr : Nat
  n    : Nat
  state : Word
  ok   : Bool
  rcd  : CfgRec
  deriving DecidableEq, Repr

/-- The records of a sector from an offset, with fuel; a record whose STATE is erased ends the scan. -/
def Dev.cfgScan (d : Dev) (c : Nat) : Nat → Nat → List CfgFound
  | 0, _ => []
  | k + 1, off =>
    let a := cfgSector c + off
    let st := d.norWord a
    if st = 0xFFFFFFFF ∨ 65536 ≤ off then []
    else
      let n := fld (d.norWord (a + 4)) 8 16 * 4
      if n = 0 ∨ 1024 < n then []
      else
        let ws := d.norWords (a + 4) (n - 1)
        let body := ws.take (n - 2)
        let r : CfgRec := { type := fld (ws.getD 0 0) 0 8, key := (ws.getD 3 0).toNat,
                            seq := (ws.getD 1 0).toNat + 2 ^ 32 * (ws.getD 2 0).toNat, data := body.drop 4 }
        { addr := a, n := n, state := st, ok := decide (ws.getD (n - 2) 0 = u32 (crc32 (body.flatMap (fun w => leBytes 4 w.toNat)))), rcd := r }
          :: d.cfgScan c k (off + 4 * n)

def Dev.cfgRecs (d : Dev) (c : Nat) : List CfgFound := d.cfgScan c 4096 16

/-- The next free offset in a sector. -/
def Dev.cfgFree (d : Dev) (c : Nat) : Nat := 16 + ((d.cfgRecs c).map (fun r => 4 * r.n)).sum

/-- Whether a bank runs an operation. -/
def Dev.bankBusy (d : Dev) (b : Nat) : Bool := (if b = 0 then d.fsto.op0 else d.fsto.op1).isSome

/-- A sector joins the window (R457). -/
def Dev.cfgOpen (d : Dev) (c rot : Nat) : Dev :=
  ((d.norErase (cfgSector c)).norProg (cfgSector c) 0x46435A4F).norProg (cfgSector c + 4) (u32 rot)

/-- The sector that takes a record of `n` words: the head, or the next sector, or the one after it where its bank is busy (R457). -/
def Dev.cfgHeadFor (d : Dev) (n : Nat) : Nat × Dev :=
  match d.cfgLive.getLast? with
  | none => (0, d.cfgOpen 0 0)
  | some (c, rot) =>
    if d.cfgFree c + 4 * n ≤ 65536 then (c, d)
    else
      let x := if d.bankBusy ((c + 1) % 124 % 2) then (c + 2) % 124 else (c + 1) % 124
      (x, d.cfgOpen x (rot + 1))

/-- A record is programmed to NOR (R456): begun, the rest, valid; then an older record of its TYPE and KEY is superseded. -/
def Dev.cfgProgram (d : Dev) (r : CfgRec) : Dev :=
  let ws := r.words 0x7FFFFFFF
  let h := d.cfgHeadFor ws.length
  let a := cfgSector h.1 + h.2.cfgFree h.1
  let old := h.2.cfgWindow.flatMap (fun s => (h.2.cfgRecs s.1).filter (fun f =>
    f.state == 0x3FFFFFFF && f.rcd.type == r.type && f.rcd.key == r.key && decide (f.rcd.seq < r.seq)))
  ((h.2.norProgs a ws).norProg a 0x3FFFFFFF).each old (fun x f => x.norProg f.addr 0)

/-- The types whose records take effect only once they are on NOR (R455). -/
def cfgThrough (type : Nat) : Bool := type == 1 || type == 2 || type == 3 || type == 5 || type == 6

/-- A configuration record is made (R455): it enters the ring, and a through record goes to NOR at once. -/
def Dev.cfgMake (d : Dev) (type key : Nat) (data : List Word) : Dev :=
  let r : CfgRec := { type := type, key := key, seq := d.fsto.cfgSeq, data := data }
  let d1 := { d with fsto := { d.fsto with cfgSeq := d.fsto.cfgSeq + 1 } }
  if cfgThrough type ∧ ¬ d.fsto.pfail then d1.cfgProgram r
  else { d1 with fsto := { d1.fsto with ring := d1.fsto.ring ++ [r] } }

/-- The newest valid record of a TYPE and KEY on NOR or in the ring (R459). -/
def Dev.cfgRead (d : Dev) (type key : Nat) : Option (List Word) :=
  let nor := d.cfgWindow.flatMap (fun s => (d.cfgRecs s.1).filterMap (fun f =>
    if f.state = 0x3FFFFFFF ∧ f.ok ∧ f.rcd.type = type ∧ f.rcd.key = key then some f.rcd else none))
  let all := nor ++ d.fsto.ring.filter (fun r => r.type == type && r.key == key)
  match all with
  | [] => none
  | r :: rs => some (rs.foldl (fun b x => if b.seq < x.seq then x else b) r).data

/-- The ring is flushed to NOR (R455). -/
def Dev.cfgFlush (d : Dev) : Dev :=
  (d.each d.fsto.ring Dev.cfgProgram).each [()] (fun x _ => { x with fsto := { x.fsto with ring := [] } })

/-- Bytes of the ring not yet on NOR. -/
def Fsto.ringBytes (f : Fsto) : Nat := (f.ring.map (fun r => 4 * (r.words 0).length)).sum

/-- Compaction (R458): the live sector of the lowest rotation is copied forward, retired and erased. -/
def Dev.cfgCompact (d : Dev) : Dev :=
  match d.cfgLive with
  | (c, _) :: _ :: _ =>
    let newest (f : CfgFound) : Bool :=
      !(d.cfgWindow.any (fun s => (d.cfgRecs s.1).any (fun g =>
        g.state == 0x3FFFFFFF && g.ok && g.rcd.type == f.rcd.type && g.rcd.key == f.rcd.key && decide (f.rcd.seq < g.rcd.seq))))
    let keep := (d.cfgRecs c).filter (fun f => f.state == 0x3FFFFFFF && f.ok && newest f)
    let d1 := d.each keep (fun x f =>
      let ws := f.rcd.words 0x7FFFFFFF
      let h := x.cfgHeadFor ws.length
      let a := cfgSector h.1 + h.2.cfgFree h.1
      (h.2.norProgs a ws).norProg a 0x3FFFFFFF)
    (d1.norProg (cfgSector c + 8) 0).norErase (cfgSector c)
  | _ => d

/-- Every record of a TYPE and KEY is cleared: its words programmed to zero, and the ring's copies dropped (R411). -/
def Dev.cfgErase (d : Dev) (type key : Nat) : Dev :=
  let fs := d.cfgWindow.flatMap (fun s => (d.cfgRecs s.1).filter (fun f => f.rcd.type == type && f.rcd.key == key))
  let d1 := d.each fs (fun x f =>
    (x.each (List.range (f.n - 6)) (fun y i => y.norProg (f.addr + 20 + 4 * i) 0)).norProg f.addr 0)
  { d1 with fsto := { d1.fsto with ring := d1.fsto.ring.filter (fun r => !(r.type == type && r.key == key)) } }

/-- Crypto erase of a namespace's keys (R460): every data word of every NSKEY record of it to 0, then its STATE to superseded; the
ring included. -/
def Dev.cfgEraseKey (d : Dev) (nsid : Nat) : Dev := d.cfgErase 4 nsid

/-- The mode record (R20): base and return mode codes, 7 for none. -/
def modeCode (m : Option Mode) : Nat := (m.map Mode.code).getD 7
def modeOf (n : Nat) : Option Mode :=
  if n = 1 then some .standalone else if n = 2 then some .partitioned else if n = 4 then some .peerStandby else none
def Dev.storeModes (d : Dev) : Dev := d.cfgMake 1 0 [u32 (modeCode d.sysc.base), u32 (modeCode d.sysc.ret)]

/-! ## The one-time row (R439) -/

/-- Whether a program of a word's bits is refused by lock or range. -/
def Dev.otpRefused (d : Dev) (word : Nat) (bits : Word) : Bool :=
  let locked := bitOf (d.otp.get otpDefault 24) 8
  (decide (word < 16) && locked) || decide (24 < word) || (decide (word = 24) && decide (65536 ≤ bits.toNat))

/-- Bits of the row are set. -/
def Dev.otpSet (d : Dev) (word : Nat) (bits : Word) : Dev :=
  { d with otp := d.otp.put otpDefault word (d.otp.get otpDefault word ||| bits) }

end Sys2Proof.Machine
end

