-- ==== Sys2Proof/Machine/Crypto.lean ====
section
/-! DEFINITION. Commands of CRYP's key slots and random source, and of the digest engine (R401 to R431). -/

namespace Sys2Proof.Machine

/-! ## Key slots (R404, R405) -/

/-- A write of SLOT_OP: dropped under R35 while an operation runs. -/
def Dev.slotOp (d : Dev) (master : Nat) (k : Dev → Dev) : Dev :=
  d.onWrite pCRYP 0x110 master (fun d => if d.cryp.busy then d.deny pCRYP else k d)

/-- SLOT_GENERATE: a DRBG key into an EMPTY slot bound to SLOT_NSID. -/
def Dev.slotGenerate (d : Dev) (master : Nat) : Dev :=
  d.slotOp master (fun d =>
    if d.slotSel = 0 then d.slotResult 1 4
    else if (d.kslot d.slotSel).st ≠ .empty then d.slotResult 1 2
    else if ¬ d.cryp.drbgOk then d.slotResult 1 5
    else (d.genKey d.slotSel d.slotNsid).slotResult 1 0)

/-- The wrapped key at WRAP_ADDR goes into the selected slot. -/
def Dev.loadSel (d : Dev) : Dev :=
  if d.slotSel = 0 ∨ sramEnd < d.wrapAddr + 72 then d.slotResult 2 4
  else if (d.kslot d.slotSel).st ≠ .empty then d.slotResult 2 2
  else
    match Config.unwrap d.cryp.kPw (nsIv d.slotNsid) (d.bytes d.wrapAddr 72) with
    | some k => (d.setKslot d.slotSel (fun _ => { st := .loaded, nsid := d.slotNsid, key := fitBytes 64 k, inflight := 0 })).slotResult 2 0
    | none => d.slotResult 2 3

/-- SLOT_LOAD: a wrapped key unwraps into an EMPTY slot, or the wrap check fails. -/
def Dev.slotLoad (d : Dev) (master : Nat) : Dev :=
  d.slotOp master Dev.loadSel

/-- SLOT_EXPORT: the 72-byte wrapped key of a LOADED slot to WRAP_ADDR. -/
def Dev.slotExport (d : Dev) (master : Nat) : Dev :=
  d.slotOp master (fun d =>
    if d.slotSel = 0 ∨ sramEnd < d.wrapAddr + 72 then d.slotResult 3 4
    else if (d.kslot d.slotSel).st ≠ .loaded then d.slotResult 3 2
    else (d.store d.wrapAddr (d.wrapped d.slotSel)).slotResult 3 0)

/-- SLOT_ZERO: a LOADED slot refuses new blocks and drains; an EMPTY one is done at once. -/
def Dev.slotZero (d : Dev) (master : Nat) : Dev :=
  d.slotOp master (fun d =>
    if d.slotSel = 0 then d.slotResult 4 4
    else if (d.kslot d.slotSel).st = .empty then d.slotResult 4 0
    else
      let d1 := d.setKslot d.slotSel (fun k => { k with st := .draining })
      { d1 with cryp := { d1.cryp with busy := true, zeroing := some d.slotSel } })

/-- SLOT_DRAIN_COMPLETE: the last block has left; the key is overwritten with zeros and the slot is EMPTY. -/
def Dev.slotDrained (d : Dev) (slot : Nat) : Dev :=
  if (d.kslot slot).st = .draining ∧ (d.kslot slot).inflight = 0 then
    let d1 := d.setKslot slot (fun _ => KeySlot.reset)
    if d.cryp.zeroing = some slot then { d1 with cryp := { d1.cryp with busy := false, zeroing := none, result := 0 } } else d1
  else d

/-- SEAL: 32 bytes at WRAP_ADDR wrapped under K_kek, in place. -/
def Dev.sealCmd (d : Dev) (master : Nat) : Dev :=
  d.slotOp master (fun d =>
    if sramEnd < d.wrapAddr + 40 then d.slotResult 5 4
    else (d.store d.wrapAddr (fitBytes 40 (Config.wrap d.cryp.kKek stdIv (d.bytes d.wrapAddr 32)))).slotResult 5 0)

/-- The 40 bytes at WRAP_ADDR are unwrapped in place. -/
def Dev.unsealAt (d : Dev) : Dev :=
  if sramEnd < d.wrapAddr + 40 then d.slotResult 6 4
  else
    match Config.unwrap d.cryp.kKek stdIv (d.bytes d.wrapAddr 40) with
    | some k => (d.store d.wrapAddr (fitBytes 32 k)).slotResult 6 0
    | none => d.slotResult 6 3

/-- UNSEAL: 40 bytes at WRAP_ADDR unwrapped under K_kek, in place. -/
def Dev.unsealCmd (d : Dev) (master : Nat) : Dev :=
  d.slotOp master Dev.unsealAt

/-- RANDOM: 32 DRBG bytes to WRAP_ADDR. -/
def Dev.randomCmd (d : Dev) (master : Nat) : Dev :=
  d.slotOp master (fun d =>
    if sramEnd < d.wrapAddr + 32 then d.slotResult 7 4
    else if ¬ d.cryp.drbgOk then d.slotResult 7 5
    else
      let r := d.draw 32
      (r.2.store d.wrapAddr r.1).slotResult 7 0)

/-- DRBG_RESEED (R401): after 2^20 requests, or to recover from a failing health test; a reseed that does not pass changes nothing. -/
def Dev.drbgReseed (d : Dev) (passes : Bool) : Dev :=
  if passes ∧ (2 ^ 20 ≤ d.cryp.drbgReqs ∨ ¬ d.cryp.drbgOk) then { d with cryp := { d.cryp with drbgReqs := 0, drbgOk := true } } else d

/-- DRBG_HEALTH_FAIL (R401): event 0x0805 on the first failure. -/
def Dev.drbgFail (d : Dev) (test failures : Nat) : Dev :=
  let d1 := { d with cryp := { d.cryp with drbgOk := false } }
  if d.cryp.drbgOk then d1.raise pCRYP 5 [test, failures, 0, 0] else d1

/-! ## The digest engine (R415 to R424) -/

/-- The queue holds 16 jobs. -/
def jobQueue : Nat := 16

/-- DGST_JOB_SUBMIT (R418): queued under the next number, or refused where the queue is full. -/
def Dev.jobSubmit (d : Dev) (addr master : Nat) : Dev :=
  d.onWrite pDGST 0x100 master (fun d =>
    let a := addr / 64 * 64 % sramEnd
    if jobQueue ≤ d.dgst.queue.length then
      { d with dgst := { d.dgst with submit := d.dgst.submit.set master 0xFFFFFFFF } }
    else
      let n := d.dgst.nextJob
      let j := d.readJob a n master
      let g := { d.dgst with queue := d.dgst.queue ++ [j], nextJob := (n + 1) % 0xFFFFFFFF, submit := d.dgst.submit.set master n }
      ({ d with dgst := g }).count pDGST 0x120 1)

/-- DGST_JOB_SELECT (R418, R419): the engine takes the highest-priority job and imports its state where it has one. -/
def Dev.jobSelect (d : Dev) : Dev :=
  if d.dgst.running.isSome ∨ (d.hdr pDGST).pwr ≠ 0 then d
  else
    match d.dgst.nextJob? with
    | none => d
    | some j =>
      let d0 := { d with dgst := { d.dgst with queue := d.dgst.queue.erase j } }
      if j.bad ∨ 2 ^ 61 - 1 < j.decl then d0.endJob j 8 0
      else if d.sysc.cur = .recovery ∧ ¬ j.hwpad then d0.endJob j 7 0
      else
        let start (x : Dev) (chain : List Byte) (fed : Nat) : Dev :=
          let j' := { j with chain := chain, fed := fed, ran := 0, resuming := false }
          if j.hwpad ∧ j.decl < fed + (j.len - j.pos) then x.lengthError j (fed + (j.len - j.pos)) 0
          else { x with dgst := { x.dgst with running := some j' } }
        if j.importing ∨ j.resuming then
          match d.importJob j with
          | .ok (chain, fed) => start d0 chain fed
          | .error st => (if st = 3 then d0.raise pDGST 3 [j.num, j.alg, j.master, 0] else d0).endJob j st 0
        else start d0 (Config.chainInit j.alg) 0

/-- Whether a preemption of the running job is due (R418). -/
def Dev.preemptDue (d : Dev) (j : DJob) : Bool :=
  d.dgst.queue.any (fun q => decide (j.prio < q.prio))
    || (d.dgst.queue.any (fun q => q.prio == j.prio) && decide (d.rf pDGST 0x800 0 16 * 1024 ≤ j.ran))

/-- DGST_PREEMPT (R418): `blocks` more blocks of the running job have been consumed and it stands at a block boundary before its
end; where a preemption is due it exports its state and returns to the tail of its priority. -/
def Dev.jobPreempt (d : Dev) (blocks : Nat) : Dev :=
  match d.dgst.running with
  | none => d
  | some j =>
    let n := blocks * algBlock j.alg
    if j.len ≤ j.pos + n then d
    else if ¬ d.inMem (j.src + j.pos) n then d.endJob j 2 0
    else
      let r := d.feed j n
      if r.2.preemptDue r.1 then
        let j' := { r.1 with resuming := true }
        let d1 := (r.2.exportJob r.1).count pDGST 0x12C 1
        { d1 with dgst := { d1.dgst with running := none, queue := d1.dgst.queue ++ [j'] } }
      else { r.2 with dgst := { r.2.dgst with running := some r.1 } }

/-- DGST_JOB_END (R417, R419): the source is consumed; the job exports, or pads and writes or compares its digest, or fails. -/
def Dev.jobEnd (d : Dev) : Dev :=
  match d.dgst.running with
  | none => d
  | some j =>
    let left := j.len - j.pos
    let b := algBlock j.alg
    if ¬ d.inMem (j.src + j.pos) left then d.endJob j 2 0
    else
      let whole := left / b * b
      let tail := d.bytes (j.src + j.pos + whole) (left - whole)
      let r := d.feed j whole
      let j' := { r.1 with fed := r.1.fed + (left - whole) }
      if ¬ j.final then
        if left ≠ whole then r.2.lengthError j j'.fed 1 else (r.2.exportJob j').endJob j' 0 0
      else if j.hwpad ∧ j'.fed < j.decl then r.2.lengthError j j'.fed 1
      else if ¬ j.hwpad ∧ j'.fed % b ≠ 0 then r.2.lengthError j j'.fed 1
      else
        let chain := if j.hwpad then chainOver j.alg j'.chain (padTail j.alg j'.fed tail) else j'.chain
        let dg := fitBytes (algDigest j.alg) (Config.digestOf j.alg chain)
        if j.forLog then r.2.sealDone.endJob j' 0 0
        else if ¬ d.inMem j.out (algDigest j.alg) then r.2.endJob j' 2 0
        else if j.compare then r.2.endJob j' 0 (if r.2.bytes j.out (algDigest j.alg) = dg then 1 else 2)
        else (r.2.store j.out dg).endJob j' 0 0

/-- The named job ends with status 5. -/
def Dev.cancelJob (d : Dev) (num : Nat) : Dev :=
  match (d.dgst.running.toList ++ d.dgst.queue).find? (fun j => j.num == num) with
  | some j => d.endJob j 5 0
  | none => d

/-- DGST_JOB_CANCEL (R419): the named job, queued or running, ends with status 5; a number that names none is ignored. -/
def Dev.jobCancel (d : Dev) (num master : Nat) : Dev :=
  d.onWrite pDGST 0x10C master (fun x => x.cancelJob num)

/-- STANDALONE_COMPARE (R424): LEN bytes of two SRAM operands; a LEN outside 1 to 64, or an operand outside SRAM, ends with 3. -/
def Dev.compareCmd (d : Dev) (len master : Nat) : Dev :=
  d.onWrite pDGST 0x110 master (fun d =>
    let a := d.rf pDGST 0x114 0 26
    let b := d.rf pDGST 0x118 0 26
    let r := if len < 1 ∨ 64 < len ∨ sramEnd < a + len ∨ sramEnd < b + len then 3 else if d.bytes a len = d.bytes b len then 1 else 2
    { d.setCell pDGST 0x110 (u32 (len % 128)) with dgst := { d.dgst with cmpResult := r } })

/-- CTX_KEY_RENEW (R422): a new K_ctx; keyed records exported before are unimportable. -/
def Dev.ctxRenew (d : Dev) (master : Nat) : Dev :=
  d.onWrite pDGST 0x804 master (fun d =>
    let r := d.draw 32
    ({ r.2 with dgst := { r.2.dgst with kCtx := r.1 } }).raise pDGST 4 [1, 0, 0, 0])

end Sys2Proof.Machine
end

