-- ==== Sys2Proof/Machine/DramOps.lean ====
section
/-! DEFINITION. The DRAM controller: addressing, arbitration, ECC, poison, refresh and retirement (R374 to R395). -/

namespace Sys2Proof.Machine

/-! ## Size and addressing (R375, R376) -/

/-- Data devices of a subchannel. -/
def DramRecord.devices (r : DramRecord) : Nat := if r.width = 4 then 8 else 4

/-- The installed size in GiB (R375). -/
def DramRecord.gib (r : DramRecord) : Nat := 8 * r.ranks * r.devices * r.density / 8

/-- The first field of the record that R374 does not permit, with its value: 0 width, 1 density, 2 ranks, 3 speed, 4 timing set,
drives or seeds, 5 installed size. -/
def DramRecord.refused (r : DramRecord) : Option (Nat × Nat) :=
  if r.width ≠ 4 ∧ r.width ≠ 8 then some (0, r.width)
  else if ¬ [8, 16, 24, 32].contains r.density then some (1, r.density)
  else if r.ranks ≠ 1 ∧ r.ranks ≠ 2 then some (2, r.ranks)
  else if r.speed ≠ 6400 then some (3, r.speed)
  else if ¬ r.timingOk then some (4, 0)
  else if r.gib < 32 ∨ 256 < r.gib then some (5, r.gib)
  else none

/-- Channel, subchannel and burst index of an address less 0x80_0000_0000 (R376). -/
def chanOf (a : Nat) : Nat := a / 64 % 4
def subOf (a : Nat) : Nat := a / 256 % 2
def burstOf (a : Nat) : Nat := a / 512

/-- DRAM begins here (R14). -/
def dramBase : Nat := 0x8000000000

/-- Bursts of one subchannel of a rank. -/
def DramRecord.rankBursts (r : DramRecord) : Nat := r.gib * 2 ^ 30 / 64 / 8 / r.ranks

/-- The rank a burst index names: the highest field. -/
def DramRecord.rankOf (r : DramRecord) (burst : Nat) : Nat := if burst < r.rankBursts then 0 else 1

def Dev.drec (d : Dev) : DramRecord := d.sysc.manifest.dram

/-- Bytes of DRAM in use: after a rank's retirement the usable half, above which an access is outside DRAM (DESIGN CHOICE, log entry
68). -/
def Dev.dramBytes (d : Dev) : Nat := 4 * (d.chan 0).usableGiB * 2 ^ 30

/-- The bank key of an address: subchannel, then bank. -/
def Dev.bankKey (d : Dev) (a : Nat) : Nat :=
  subOf a * 65536 + Config.dramBank d.drec.width d.drec.density d.drec.ranks (burstOf a) % 65536

def Dev.rowOf (d : Dev) (a : Nat) : Nat := Config.dramRow d.drec.width d.drec.density d.drec.ranks (burstOf a)

/-! ## Urgency and arbitration (R383, R384) -/

/-- The target of a port on a channel (R382). -/
def Dev.target (d : Dev) (ch port : Nat) : Nat := fld (d.cellI (pDRAM ch) 0x114 port) 0 16

/-- The urgency of a request of age `a` against target `t`. -/
def urgency (a t : Nat) : Nat := if 2 * a < t then 0 else if a < t then 1 else if a < 2 * t then 2 else 3

/-- VALT is between FREEZE and HALT. -/
def Dev.vaulting (d : Dev) : Bool :=
  d.valt.st == .freeze || d.valt.st == .save || d.valt.st == .seal

/-- A request's urgency now; every vault request has urgency 3 during the pass. -/
def Dev.urgOf (d : Dev) (ch : Nat) (r : DramReq) : Nat :=
  if d.vaulting ∧ r.port = 6 then 3 else urgency (d.now - r.arrived) (d.target ch r.port)

/-- Whether a request hits its bank's open row. -/
def Dev.rowHit (d : Dev) (ch : Nat) (r : DramReq) : Bool :=
  ((d.chan ch).banks.get DramBank.reset (d.bankKey r.addr)).openRow == some (d.rowOf r.addr)

/-- Writes queued in a subchannel. -/
def Chan.writes (c : Chan) (sub : Nat) : Nat := (c.reqs.filter (fun r => r.write && subOf r.addr == sub)).length

/-- `r` goes ahead of `q` (R383): the older of two at urgency 3; else the higher urgency, then a full write queue's writes, then a
row hit, then a read over a write, then the older. -/
def Dev.ahead (d : Dev) (ch : Nat) (drain : Bool) (r q : DramReq) : Bool :=
  let ur := d.urgOf ch r
  let uq := d.urgOf ch q
  if ur = 3 ∧ uq = 3 then decide (r.arrived < q.arrived)
  else if ur ≠ uq then decide (uq < ur)
  else if drain ∧ r.write ≠ q.write then r.write
  else
    let hr := d.rowHit ch r
    let hq := d.rowHit ch q
    if hr ≠ hq then hr
    else if r.write ≠ q.write then q.write
    else decide (r.arrived < q.arrived)

/-- The requests of a subchannel that can issue: of each port's reads only the oldest, since a port receives its responses in the
order of its requests (R384); every queued write. -/
def Chan.candidates (c : Chan) (sub : Nat) : List DramReq :=
  let mine := c.reqs.filter (fun r => subOf r.addr == sub)
  mine.filter (fun r => r.write || (c.reqs.find? (fun q => !q.write && q.port == r.port)) == some r)

/-- The request that the next command slot of a subchannel takes. -/
def Dev.pick (d : Dev) (ch sub : Nat) : Option DramReq :=
  match (d.chan ch).candidates sub with
  | [] => none
  | r :: rs => some (rs.foldl (fun b q => if d.ahead ch ((d.chan ch).draining.getD sub false) q b then q else b) r)

/-- A bank is accessed (R385): hit or conflict moves its page counter; the row stays open while the counter is 2 or 3, or another access to the
bank is queued beside this one. -/
def Dev.access (d : Dev) (ch a : Nat) : Dev :=
  let k := d.bankKey a
  let row := d.rowOf a
  let b := (d.chan ch).banks.get DramBank.reset k
  let ctr := match b.openRow with
    | none => b.ctr
    | some r => if r = row then (if b.ctr < 3 then b.ctr + 1 else 3) else b.ctr - 1
  let more := decide (2 ≤ ((d.chan ch).reqs.filter (fun r => d.bankKey r.addr == k)).length)
  let keep := bitOf (d.cell (pDRAM ch) 0x800) 31 && (decide (2 ≤ ctr) || more)
  let b' : DramBank := { b with openRow := if keep then some row else none, ctr := ctr }
  let d1 := d.setChan ch (fun c => { c with banks := c.banks.put DramBank.reset k b' })
  match b.openRow with
  | none => d1
  | some r => if r = row then d1.count (pDRAM ch) 0x14C 1 else d1.count (pDRAM ch) 0x150 1

/-- A write queue served ahead of reads from 48 entries until it holds 16 (R383). -/
def Dev.noteDrain (d : Dev) (ch sub : Nat) : Dev :=
  let n := (d.chan ch).writes sub
  d.setChan ch (fun c => { c with draining := c.draining.set sub (if 48 ≤ n then true else if n ≤ 16 then false else c.draining.getD sub false) })

/-- The writes that arbitration puts ahead of the next read are drained, at most as many as are queued; then the read it takes. -/
def Dev.drainTo : Nat → Dev → Nat → Nat → Dev × Option DramReq
  | 0, d, _, _ => (d, none)
  | n + 1, d, ch, sub =>
    match d.pick ch sub with
    | none => (d, none)
    | some r =>
      let d1 := (d.access ch r.addr).setChan ch (fun c => { c with reqs := c.reqs.erase r })
      if r.write then Dev.drainTo n (d1.noteDrain ch sub) ch sub else (d1, some r)

/-! ## ECC (R377 to R381) -/

/-- The device that holds symbol `s` of a burst. -/
def DramRecord.deviceOf (r : DramRecord) (s : Nat) : Nat := if r.width = 4 then s / 4 else s / 8

/-- The error covers at most 4 symbols, all within one device (R378). -/
def DramRecord.correctable (r : DramRecord) (errs : List Nat) : Bool :=
  decide (errs.length ≤ 4) && errs.all (fun s => r.deviceOf s == r.deviceOf (errs.headD 0))

/-- What the decoder makes of a burst. -/
inductive EccResult where
  | clean | corrected (device : Nat) | uncorrectable | poisoned
  deriving DecidableEq, Repr

/-- The decoder tests for a burst stored poisoned before it tries to correct (R379). -/
def Dev.ecc (d : Dev) (a : Nat) (errs : List Nat) : EccResult :=
  if d.dram.poison.contains (a / 64) then .poisoned
  else if errs = [] then .clean
  else if d.drec.correctable errs then .corrected (d.drec.deviceOf (errs.headD 0))
  else .uncorrectable

/-- The error capture of a channel takes its first error (R397). -/
def Dev.eccCapture (d : Dev) (ch a port dev rank : Nat) (ue : Bool) : Dev :=
  if (d.chan ch).armed then
    let full := dramBase + a
    ((((d.setCell (pDRAM ch) 0x13C (u32 full)).setCell (pDRAM ch) 0x140 (u32 (full / 2 ^ 32))).setCell (pDRAM ch) 0x144
      (u32 ((if ue then 2 ^ 31 else 0) + dev * 2 ^ 24 + rank * 2 ^ 20 + subOf a * 2 ^ 16 + port))).setChan ch
      (fun c => { c with armed := false }))
  else d

/-- The rank of a burst as the device reports it: after a retirement of rank 0, rank 1 answers the lower half (R392 step 4). -/
def Dev.rankAt (d : Dev) (a : Nat) : Nat := if d.drec.rankOf (burstOf a) = 0 then (d.chan (chanOf a)).lowRank else 1

/-- The retirement record of a rank (R391, R455): 0 none, 1 the condition is met, 2 retired; and its cause.  A board manifest whose DRAM
record differs from the one it was made under undoes it. -/
def Dev.rankRec (d : Dev) (ch rank : Nat) : Nat × Nat :=
  match d.cfgRead 5 (2 * ch + rank) with
  | some (st :: cause :: raw) => if raw = wordsOf 169 d.drec.raw then (st.toNat, cause.toNat) else (0, 0)
  | _ => (0, 0)

def Dev.setRankRec (d : Dev) (ch rank st cause : Nat) : Dev :=
  d.cfgMake 5 (2 * ch + rank) (u32 st :: u32 cause :: wordsOf 169 d.drec.raw)

/-- A rank meets the retirement condition (R391): recorded once, and taken up where AUTO is 1. -/
def Dev.retireCond (d : Dev) (ch rank cause : Nat) : Dev :=
  if (d.rankRec ch rank).1 ≠ 0 then d
  else
    let d1 := d.setRankRec ch rank 1 cause
    if bitOf (d.cell (pDRAM ch) 0x810) 8 ∧ (d.chan ch).cond = none then d1.setChan ch (fun c => { c with cond := some (rank, cause) }) else d1

/-- Corrected bursts of the present clock hour, per subchannel × 2 + rank: a new hour starts from 0. -/
def Dev.hourCe (d : Dev) (ch : Nat) : List Nat :=
  if (d.chan ch).ceHour = d.clkr.opHours then (d.chan ch).rankCe else [0, 0, 0, 0]

/-- A corrected burst: counted, captured, event 0x01, written back corrected (R378), and weighed against CE_MAX (R391). -/
def Dev.corrected (d : Dev) (ch a port dev : Nat) : Dev :=
  let rank := d.rankAt a
  let i := 2 * subOf a + rank
  let ce := (d.hourCe ch).set i ((d.hourCe ch).getD i 0 + 1)
  let d1 := (d.setChan ch (fun c => { c with rankCe := ce, ceHour := d.clkr.opHours })).count (pDRAM ch) 0x130 1
  let d2 := (d1.eccCapture ch a port dev rank false).raise (pDRAM ch) 1 [i, dev, dramBase + a, satAt 255 (ce.getD i 0)]
  if fld (d.cell (pDRAM ch) 0x810) 16 16 < ce.getD rank 0 + ce.getD (2 + rank) 0 then d2.retireCond ch rank 0 else d2

/-- An uncorrectable burst: counted, captured, event 0x02 (R378). -/
def Dev.uncorrectable (d : Dev) (ch a port : Nat) : Dev :=
  let rank := d.rankAt a
  ((d.count (pDRAM ch) 0x134 1).eccCapture ch a port 0 rank true).raise (pDRAM ch) 2
    [port, dramBase + a, (dramBase + a) / 2 ^ 32, 2 * subOf a + rank]

/-! ## Requests (R383, R384, R394) -/

/-- Traffic of a channel is taken: it runs, pauses or copies; the bank holds what arrives. -/
def Chan.serves (c : Chan) : Bool := c.st == .running || c.st == .pause || c.st == .copying

/-- A port's counts. -/
def Dev.dport (d : Dev) (ch port : Nat) (f : DramPort → DramPort) : Dev :=
  d.setChan ch (fun c => { c with ports := c.ports.upd DramPort.reset port f })

/-- A request arrives (R384): a read waits; a write enters the write queue, takes effect for every later read and is acknowledged.
A write of fewer than 64 bytes is merged; a merge whose read is uncorrectable is stored poisoned (R379). -/
def Dev.request (d : Dev) (port a len : Nat) (data : Option (List Byte)) (mergeBad : Bool) (use : DramUse) : Dev :=
  let ch := chanOf a
  let r : DramReq := { port := port, write := data.isSome, addr := a, len := len, arrived := d.now, use := use }
  let d1 := d.setChan ch (fun c => { c with reqs := c.reqs ++ [r] })
  match data with
  | none => d1.dport ch port (fun p => { p with issued := p.issued + 1, opened := p.opened + 1 })
  | some bs =>
    let d2 := (d1.store (dramBase + a) bs).dport ch port (fun p => { p with issued := p.issued + 1, done := p.done + 1 })
    let b := a / 64
    let d3 :=
      if bs.length = 64 then { d2 with dram := { d2.dram with poison := d2.dram.poison.filter (· ≠ b) } }
      else if mergeBad ∨ d2.dram.poison.contains b then
        ({ d2 with dram := { d2.dram with poison := if d2.dram.poison.contains b then d2.dram.poison else b :: d2.dram.poison } }).count
          (pDRAM ch) 0x138 1
      else d2
    d3.noteDrain ch (subOf a)

/-- A read is answered: its latency, and whether it was late (R396). -/
def Dev.answer (d : Dev) (ch : Nat) (r : DramReq) : Dev :=
  let lat := d.now - r.arrived
  let late : Word := if d.target ch r.port < lat then 1 else 0
  d.dport ch r.port (fun p => { p with done := p.done + 1, opened := p.opened - 1, latMax := if p.latMax < lat then lat else p.latMax,
                                       late := p.late + late })

/-! ## Pauses and retirement (R388 to R393) -/

/-- Subchannels paused in the device; the model's pauses begin and end within one command, so none is under way between commands. -/
def Dev.mayPause (d : Dev) (ch : Nat) : Bool := (d.chan ch).st == .running && !d.vaulting

/-- A pause has been taken. -/
def Dev.paused (d : Dev) (ch ns : Nat) : Dev :=
  (d.count (pDRAM ch) 0x154 1).setChan ch (fun c => { c with pauseMax := if c.pauseMax < ns then ns else c.pauseMax })

/-- Retirement starts, or event 0x08 where no rank is to spare (R392 step 1, R393).  The condition is recorded in the configuration
store. -/
def Dev.startRetire (d : Dev) (ch rank cause : Nat) : Dev :=
  let d0 := d.setChan ch (fun c => { c with cond := none })
  if d.drec.ranks ≠ 2 ∨ [0, 1, 2, 3].any (fun c => (d.chan c).retired != 0 || (d.chan c).retiring.isSome) then
    d0.raise (pDRAM ch) 8 [rank, cause, 0, 0]
  else
    let ce := (d.hourCe ch).getD rank 0 + (d.hourCe ch).getD (2 + rank) 0
    ((d0.setRankRec ch rank 1 cause).setChan ch (fun c =>
        { c with retiring := some { rank := rank, cause := cause, started := d.now, moved := true, copied := 0, poisoned := 0 } })).raise
      (pDRAM ch) 6 [rank, cause, ce, 0]

/-- The retirement ends (R392 steps 4 and 5): the channel's rank 1 answers the lower half where rank 0 failed, and the upper half
leaves use on every channel. -/
def Dev.endRetire (d : Dev) (ch poisoned : Nat) (r : Retirement) : Dev :=
  let d1 := d.setChan ch (fun c => { c with st := .running, retiring := none, lowRank := if r.rank = 0 then 1 else c.lowRank,
                                            retired := c.retired + 2 ^ r.rank })
  let d2 := (d1.each [0, 1, 2, 3] (fun x c => x.setChan c (fun y => { y with usableGiB := y.usableGiB / 2 }))).setRankRec ch r.rank 2 r.cause
  d2.raise (pDRAM ch) 7 [r.rank, (d.now - r.started) / 1000000, poisoned, (d2.chan ch).usableGiB]

/-- PFAIL_N accepted: a copy is abandoned and starts over at the next start (R393). -/
def Dev.dramFreeze (d : Dev) : Dev :=
  d.each [0, 1, 2, 3] (fun x c => x.setChan c (fun y =>
    if y.st = .copying then { y with st := .running, retiring := y.retiring.map (fun r => { r with copied := 0, poisoned := 0 }) } else y))

/-- Every rank enters self-refresh and the pages' clocks stop (R390, R395). -/
def Dev.dramSleep (d : Dev) : Dev :=
  d.each [0, 1, 2, 3] (fun x c =>
    (x.setChan c (fun y => if y.st = .running ∨ y.st = .copying then { y with st := .selfRefresh } else y)).setHdr (pDRAM c)
      (fun h => { h with pwr := 1 }))

/-- The wake takes them out again (R390). -/
def Dev.dramWake (d : Dev) : Dev :=
  d.each [0, 1, 2, 3] (fun x c =>
    (x.setChan c (fun y => if y.st = .selfRefresh then { y with st := .running } else y)).setHdr (pDRAM c) (fun h => { h with pwr := 0 }))

end Sys2Proof.Machine
end

