-- ==== Sys2Proof/Machine/MediaOps.lean ====
section
/-! DEFINITION. Shared operations of the flash media: geometry and rotation, missing members and redundancy, block states, die
queues, and the descriptors sent to the bridges (R27, R52 to R54, R72, R96, R106, R133 to R141, R160 to R173, R220 to R230). -/

namespace Sys2Proof.Machine

/-! ## Geometry (R52 to R54, R133, R220 to R223) -/

/-- What an NSID that names nothing reads as. -/
def Ns.absent : Ns :=
  { d := 14, members := [], plc := false, groups := 1, meta_ := 0, pi := 0, guard := 16, zones := 0, slot := 0, attached := [],
    cond := 0, rebuild := [], cursors := [] }

/-- LBAs per unit (R53). -/
def Ns.lpu (n : Ns) : Nat := if n.plc then 80 else 64
/-- LBAs per row. -/
def Ns.row (n : Ns) : Nat := n.d * n.lpu
/-- Members: *W* (R220). -/
def Ns.w (n : Ns) : Nat := n.d + 2
/-- Zone capacity (R53) and zone span (R52), in LBAs. -/
def Ns.zcap (n : Ns) : Nat := n.groups * 768 * n.row
def Ns.zsze (n : Ns) : Nat := n.groups * 1048576
/-- Paired pages of a word line, and bytes of a program unit. -/
def Ns.pages (n : Ns) : Nat := if n.plc then 5 else 4
def Ns.unitBytes (n : Ns) : Nat := n.lpu * 4096

/-- The namespace and the zone index of a zone's key. -/
def zNs (z : Nat) : Nat := z / 2 ^ 24
def zIdx (z : Nat) : Nat := z % 2 ^ 24
/-- The namespace of a zone. -/
def Dev.zns (d : Dev) (z : Nat) : Ns := (d.ns (zNs z)).getD Ns.absent

/-- The sled that carries slot `j` (data unit `j`, P at *D*, Q at *D* + 1) of the row ROWSEQ (R223). -/
def Ns.sledOf (n : Ns) (j rs : Nat) : Nat := n.members.getD ((j + rs) % n.w) 16
/-- The slot that the member of index `m` carries in a row. -/
def Ns.slotOf (n : Ns) (m rs : Nat) : Nat := (m + n.w - rs % n.w) % n.w
/-- The slot that a sled carries in a row. -/
def Ns.slotOn (n : Ns) (sled rs : Nat) : Nat := n.slotOf (n.members.idxOf sled) rs
/-- The UNIT field of a slot (R72). -/
def Ns.unitCode (n : Ns) (j : Nat) : Nat := if j < n.d then j else 14 + (j - n.d)

/-- The paired pages that a range of a unit touches. -/
def pagesOf (off count : Nat) : List Nat :=
  (List.range 5).filter (fun p => decide (off < 16 * (p + 1)) && decide (16 * p < off + count))
/-- CWMASK of a range on one paired page: bit 4 × plane + codeword (R137). -/
def cwMaskOf (p off count : Nat) : Nat :=
  maskOf ((List.range 16).filter (fun i => decide (off ≤ 16 * p + i) && decide (16 * p + i < off + count)))
/-- The planes of a CWMASK. -/
def planesOf (mask : Nat) : Nat := maskOf ((List.range 4).filter (fun p => decide (mask / 16 ^ p % 16 ≠ 0)))
/-- The codewords of a CWMASK, in ascending order. -/
def cwsOf (mask : Nat) : List Nat := (List.range 16).filter (hasBit mask)

/-- The page stamp of R72. -/
def pageStamp (nsid zone gen rs unit plane page version : Nat) : List Byte :=
  leBytes 4 nsid ++ leBytes 4 zone ++ leBytes 2 gen ++ leBytes 1 (rs / 768) ++ leBytes 1 unit ++ leBytes 2 rs
    ++ leBytes 1 (plane + 4 * page) ++ leBytes 1 version

/-- The fields in which two stamps differ, as a mask of the stamp's bytes. -/
def stampDiff (a b : List Byte) : Nat := maskOf ((List.range 16).filter (fun i => a.getD i 0 != b.getD i 0))

/-! ## Missing members and redundancy (R27, R28, R230) -/

/-- A member counts as missing for a namespace (R28). -/
def Dev.memberMissing (d : Dev) (n : Ns) (sled : Nat) : Bool :=
  (d.port sled).st != .up || hasBit d.peer.fenceLost sled || n.rebuild.contains sled

/-- The members missing. -/
def Dev.missing (d : Dev) (n : Ns) : List Nat := n.members.filter (d.memberMissing n)

/-- A member counts as missing for one group: for the namespace, or for that group alone (R230). -/
def Dev.groupMissing (d : Dev) (n : Ns) (g : Group) (sled : Nat) : Bool := d.memberMissing n sled || g.missing.contains sled

/-- Critical warning bits of the health log (R307): spare, temperature, a namespace LOST, and HOLDUP_OK low. -/
def Dev.warnBits (d : Dev) : Nat :=
  maskOf ((if d.media.dies.any (fun e => e.2.lowTold) then [0] else []) ++ (if 1 ≤ d.thrm.step then [1] else [])
    ++ (if d.zone.nss.any (fun e => e.2.cond == 3) then [2] else []) ++ (if d.valt.holdup then [] else [4]))

/-- A critical warning bit that sets is told (R308). -/
def Dev.warnCheck (d : Dev) : Dev :=
  let w := d.warnBits
  let new := (List.range 5).filter (fun i => hasBit w i && !hasBit d.host.warn i)
  let d := { d with host := { d.host with warn := w } }
  d.each new (fun x i => x.aen (aenHealth (if i = 1 then 1 else if i = 0 then 2 else 0)))

/-- The redundancy condition of one namespace is recomputed (R27, R28). -/
def Dev.redundancyOf (d : Dev) (nsid : Nat) : Dev :=
  match d.ns nsid with
  | none => d
  | some n =>
    let m := d.missing n
    let new := satAt 3 m.length
    if new = n.cond then d
    else ((d.modNs nsid (fun x => { x with cond := new })).raise pZONE 6 [nsid, n.cond, new, maskOf m]).aen aenNamespace

/-- Every namespace's condition is recomputed. -/
def Dev.redundancy (d : Dev) : Dev := (d.each (d.zone.nss.map Prod.fst) Dev.redundancyOf).warnCheck

/-! ## Epochs (R39) -/

/-- The page of a register cell's key. -/
def keyPage (k : Nat) : Nat := k % 0x4000000 / 0x10000

/-- A unit applies the pending snapshot of its page: the live values it replaces are kept for the older epoch while that one is live; one that
has retired has no work left (R39 step 5). -/
def Dev.applyEpoch (d : Dev) (page : Nat) : Dev :=
  if (d.hdr page).epochApplied = d.sysc.epoch then d
  else
    let mine := d.regs.snap.keep (fun k _ => keyPage k == page)
    let live (k : Nat) : Word := d.cellI page (k % 0x10000) (k / 0x4000000)
    let two := decide (1 < (d.sysc.epoch - d.sysc.epochRetired).toNat)
    let older := if two then mine.foldl (fun m e => m.set e.1 (live e.1)) d.regs.older else d.regs.older
    let d1 := d.each mine (fun x e => x.setCellI page (e.1 % 0x10000) (e.1 / 0x4000000) e.2)
    { d1 with regs := { d1.regs with older := older, snap := d.regs.snap.keep (fun k _ => keyPage k != page) } }.setHdr page
      (fun h => { h with epochApplied := d.sysc.epoch })

/-! ## Dies and blocks (R134, R160, R164 to R172) -/

/-- The sled's cell type is PLC. -/
def Dev.sledPlc (d : Dev) (sled : Nat) : Bool := (d.media.sleds.get SledMedia.reset sled).plc

/-- A die is present: its sled is adopted, its bridge answered for it, and it reported at most 35 factory-bad blocks (R134). -/
def Dev.diePresent (d : Dev) (k : Nat) : Bool :=
  (d.media.sleds.get SledMedia.reset (k / 256)).adopted && (d.die k).geomRead && decide ((d.die k).factoryBad.length ≤ 35)

/-- The dies that are retired. -/
def Dev.retiredDies (d : Dev) : List Nat := (d.media.dies.filter (fun e => e.2.retired)).map Prod.fst

/-- The blocks of a die. -/
def Dev.dieBlocks (d : Dev) (k : Nat) : List (Nat × Block) := (List.range 1400).map (fun b => (b, d.blk (k * 2048 + b)))

/-- How many blocks of a die are in a state. -/
def Dev.inState (d : Dev) (k : Nat) (st : BlockState) : Nat := ((d.dieBlocks k).filter (fun e => e.2.st == st)).length

/-- Reserve left of a die (R169). -/
def Dev.reserveLeft (d : Dev) (k : Nat) : Nat :=
  (1400 - d.inState k .factoryBad - d.inState k .retired) - (1365 - d.rf pMEDI 0x80C 0 13)

/-- Events of a falling reserve (R169). -/
def Dev.reserveCheck (d : Dev) (k : Nat) : Dev :=
  let left := d.reserveLeft k
  let d1 :=
    if 4 * left < d.rf pMEDI 0x80C 0 13 ∧ (d.die k).lowTold = false then
      (d.setDie k (fun x => { x with lowTold := true })).raise pMEDI 7 [k, left, d.inState k .retired, 0]
    else d
  let d2 :=
    if left = 0 ∧ (d.die k).outTold = false then
      (d1.setDie k (fun x => { x with outTold := true })).raise pMEDI 8 [k, d.inState k .retired, d.inState k .factoryBad, 0]
    else d1
  d2.warnCheck

/-- A block is retired (R167), for a reason: 0 program, 1 erase, 2 uncertain, 3 wear, 4 die.  It is never used again, so that an erase
item of it leaves its queue. -/
def Dev.retireBlk (d : Dev) (b reason : Nat) : Dev :=
  let k := b / 2048
  let d1 := (d.setBlk b (fun x => { x with st := .retired })).count pMEDI 0x1B0 1
  let d2 := d1.setDie k (fun x => { x with queue := x.queue.filter (fun i => !(i.kind == .erase && i.d.block == b % 2048)) })
  let d3 := d2.journal (.retire (k / 256) (k % 256) (b % 2048) reason (d.blk b).erases)
  (d3.raise pMEDI 6 [k, b % 2048, reason, (d.blk b).erases]).reserveCheck k

/-- The device time at which a background program is due (R96). -/
def Dev.progDue (d : Dev) : Nat := d.now + d.rf pSCHD 0x120 0 16 * 1000000
/-- The device time at which an erase is due. -/
def Dev.eraseDue (d : Dev) : Nat := d.now + d.rf pSCHD 0x120 16 16 * 1000000

/-- An item enters its die's queue (R96). -/
def Dev.enqueue (d : Dev) (kind : ItemKind) (deadline : Nat) (epoch : Word) (urgent suspends : Bool) (x : Desc) : Dev :=
  let it : QItem := { kind := kind, deadline := deadline, seq := d.sched.order, queuedAt := d.now, epoch := epoch, urgent := urgent, d := x,
                      suspends := suspends }
  let d1 := { d with sched := { d.sched with order := d.sched.order + 1 } }
  d1.setDie (dieKey x.sled x.pos) (fun y => { y with queue := y.queue ++ [it] })

/-- A descriptor with nothing but its place and its use. -/
def Desc.at_ (sled pos block : Nat) (use : DieUse) : Desc :=
  { op := 0, sled := sled, pos := pos, block := block, slc := false, wl := 0, page := 0, planes := 0, senses := 0, shift := 0,
    cwmask := 0, deadline := 0, tag := 0, gen := 0, use := use }

/-- A READ of codewords of one paired page (R138). -/
def Desc.read (sled pos block wl page mask gen : Nat) (slc : Bool) (use : DieUse) : Desc :=
  { Desc.at_ sled pos block use with op := 1, wl := wl, page := page, planes := planesOf mask, cwmask := mask, gen := gen, slc := slc }

/-- A PROGRAM of one word line. -/
def Desc.program (sled pos block wl : Nat) (slc : Bool) (use : DieUse) : Desc :=
  { Desc.at_ sled pos block use with op := 0x10, wl := wl, planes := 15, slc := slc }

/-- A background read or program, with a program's deadline (R96, R153, R166, R234). -/
def Dev.enqueueBg (d : Dev) (kind : ItemKind) (x : Desc) : Dev := d.enqueue kind d.progDue d.sysc.epoch false false x

/-- Whether the die has an erase item or a running erase for the block. -/
def Dev.eraseQueued (d : Dev) (b : Nat) : Bool :=
  (d.die (b / 2048)).queue.any (fun i => i.kind == .erase && i.d.block == b % 2048)

/-- The erase of a block enters its die's queue; the block is QUEUED or UNCERTAIN (R160). -/
def Dev.enqueueErase (d : Dev) (b : Nat) (slc : Bool) : Dev :=
  let k := b / 2048
  if d.eraseQueued b then d
  else d.enqueue .erase d.eraseDue d.sysc.epoch false false
    { Desc.at_ (k / 256) (k % 256) (b % 2048) .erase with op := 0x20, planes := 15, slc := slc }

/-- Erased blocks of a die, less than the floor (R106). -/
def Dev.belowFloor (d : Dev) (k : Nat) : Bool := decide (d.inState k .erased < d.rf pSCHD 0x118 24 8)

/-- A queued erase becomes urgent (R106): its deadline is the time at which it was enqueued. -/
def Dev.urgeItem (d : Dev) (k : Nat) (i : QItem) : Dev :=
  if i.urgent then d
  else
    let q := (d.die k).queue.map (fun j => if j.seq = i.seq then { j with urgent := true, deadline := j.queuedAt } else j)
    (d.setDie k (fun x => { x with queue := q })).raise pSCHD 6 [k / 256, k % 256, d.inState k .erased, 0]

/-- The running program or erase of a die, where it has one. -/
def Dev.runningOp (d : Dev) (k : Nat) : Option OpenOp := (d.die k).running.bind d.op

/-- The erase that a die runs or holds suspended, or is about to suspend or resume. -/
def Dev.runningErase (d : Dev) (k : Nat) : Option OpenOp :=
  match (d.die k).st with
  | .erasing | .eraseSuspended | .suspending | .resuming => (d.runningOp k).filter (fun o => o.d.op == 0x20)
  | _ => none

/-- A running or suspended erase becomes urgent. -/
def Dev.makeRunningUrgent (d : Dev) (k : Nat) : Dev :=
  if (d.runningErase k).isSome ∧ (d.die k).urgent = false then
    (d.setDie k (fun y => { y with urgent := true })).raise pSCHD 6 [k / 256, k % 256, d.inState k .erased, (d.die k).esusp]
  else d

/-- The oldest block of a die that awaits erase is made urgent (R83, R106): its running erase where that was enqueued before every queued
one, else the oldest queued; one whose erased-state check runs needs nothing more. -/
def Dev.makeUrgent (d : Dev) (k : Nat) : Dev :=
  let queued := (d.die k).queue.find? (fun i => i.kind == .erase)
  if d.media.checks.any (fun e => e.1 / 2048 == k) then d
  else
    match d.runningErase k, queued with
    | some o, some i => if i.queuedAt < o.queuedAt then d.urgeItem k i else d.makeRunningUrgent k
    | some _, none => d.makeRunningUrgent k
    | none, some i => d.urgeItem k i
    | none, none => d

/-- The floor of R106 is applied to a die: every erase of it is urgent while it holds fewer erased blocks. -/
def Dev.floorCheck (d : Dev) (k : Nat) : Dev :=
  if d.belowFloor k then
    ((d.die k).queue.filter (fun i => i.kind == .erase)).foldl (fun x i => x.urgeItem k i) (d.makeRunningUrgent k)
  else d

/-- A block leaves its group or its copy and waits for its erase (R160). -/
def Dev.releaseBlk (d : Dev) (b : Nat) : Dev :=
  let x := d.blk b
  if x.st = .allocated ∨ x.st = .vault then
    ((d.setBlk b (fun y => { y with st := .queued })).enqueueErase b false).floorCheck (b / 2048)
  else d

/-- A block becomes UNCERTAIN (R160); it is retired instead where its attempts have reached the limit. -/
def Dev.uncertainBlk (d : Dev) (b zeros : Nat) : Dev :=
  let x := d.blk b
  let k := b / 2048
  let d1 := ((d.setBlk b (fun y => { y with st := .uncertain })).count pMEDI 0x1AC 1).raise pMEDI 5 [k, b % 2048, x.attempts, zeros]
  if d.rf pMEDI 0x808 16 8 ≤ x.attempts then d1.retireBlk b 2 else (d1.enqueueErase b x.slc).floorCheck k

/-- An erase-done record (R163): result 0 ERASED, 1 uncertain, 2 failed. -/
def Dev.edone (d : Dev) (b result zeros : Nat) : Dev :=
  let x := d.blk b
  let k := b / 2048
  d.journal (.edone (k / 256) (k % 256) (b % 2048) x.erases x.attempts x.slc result zeros)

/-- The erased blocks of a die in its native mode, by index, and those in SLC mode, which VALT alone uses (R136). -/
def Dev.erasedOf (d : Dev) (k : Nat) : List (Nat × Block) := (d.dieBlocks k).filter (fun e => e.2.st == .erased && !e.2.slc)
def Dev.erasedSlc (d : Dev) (k : Nat) : List (Nat × Block) := (d.dieBlocks k).filter (fun e => e.2.st == .erased && e.2.slc)

/-- The wear limit and ceiling of a die's cell type (R164). -/
def Dev.wearLimit (d : Dev) (sled : Nat) : Nat := if d.sledPlc sled then d.rf pMEDI 0x124 16 16 else d.rf pMEDI 0x124 0 16
def Dev.wearCeil (d : Dev) (sled : Nat) : Nat := if d.sledPlc sled then d.rf pMEDI 0x120 16 16 else d.rf pMEDI 0x120 0 16

/-! ## Program data (R135, R191) -/

/-- One codeword as it is programmed: data, metadata, stamp and parity (R135). -/
def codeword (body stamp : List Byte) : List Byte :=
  body ++ stamp ++ (Config.ldpc (body ++ stamp) ++ List.replicate 432 0).take 432

/-- A body of 4,160 bytes from 4,096 data bytes and the metadata used. -/
def bodyOf (data md : List Byte) : List Byte := data ++ md ++ List.replicate (64 - md.length) 0

/-- The bodies of a word line's codewords and the stamp of a page give the bursts of a PROGRAM: one for each plane of each page. -/
def programBursts (pages tag : Nat) (body : Nat → List Byte) (stamp : Nat → Nat → List Byte) : List Pkt :=
  (List.range (4 * pages)).map (fun s =>
    { typ := 2, vc := 1, len := 576, op := 0, tag := tag, seq := s, args := [if s + 1 = 4 * pages then 1 else 0, 15 * 16 ^ (s % 4), 3],
      data := (List.range 4).flatMap (fun c => codeword (body (4 * s + c)) (stamp (s % 4) (s / 4))) })

/-! ## Descriptors (R137, R140, R173) -/

/-- The first TAG from `t` on that no open operation of the port uses. -/
def freshTag (ops : SMap OpenOp) (port : Nat) : Nat → Nat → Nat
  | 0, t => t
  | n + 1, t => if (ops.find (port * 65536 + t)).isSome then freshTag ops port n ((t + 1) % 65536) else t

def Dev.nextTag (d : Dev) (port : Nat) : Nat := freshTag d.media.ops port (d.media.ops.length + 1) (d.media.tags.get 0 port)

/-- DEADLINE as sent (R95): within 1 s of the issue on either side, its low 32 bits. -/
def sentDeadline (now dl : Nat) : Nat :=
  (if now + 1000000000 < dl then now + 1000000000 else if dl + 1000000000 < now then now - 1000000000 else dl) % 2 ^ 32

/-- The COMMAND packet of a descriptor (R190). -/
def Desc.pkt (x : Desc) : Pkt :=
  { typ := 1, vc := 0, len := 0, op := x.op, tag := x.tag, seq := 0,
    args := [x.pos, x.block, if x.slc then 1 else 0, x.wl, x.page, x.planes, x.senses, x.shift, x.cwmask, x.deadline, x.gen],
    data := [] }

/-- MEDI applies a pending epoch (R39, R174); with another SPARE_RESV the reserve of a die may have fallen to an event's bound (R169). -/
def Dev.mediEpoch (d : Dev) : Dev :=
  if (d.hdr pMEDI).epochApplied = d.sysc.epoch then d
  else (d.applyEpoch pMEDI).each ((d.media.dies.map Prod.fst).filter d.diePresent) Dev.reserveCheck

/-- A descriptor is sent on its port and is open until its COMPLETION (R173). -/
def Dev.sendDesc (d : Dev) (x : Desc) (deadline : Nat) : Dev :=
  let d := d.mediEpoch
  let t := d.nextTag x.sled
  let y := { x with tag := t, deadline := sentDeadline d.now deadline }
  let o : OpenOp := { d := y, phase := .sent, issued := d.now, ran := 0, startedAt := d.now, step := 0, tried := [], index0 := x.shift,
                      cwGot := 0, cwLost := 0, naks := 0, data := [], zeros := 0, result := 0, dieState := 0, arrayUs := 0, timedOut := false,
                      txAt := d.now, due := deadline, queuedAt := d.now }
  let d1 := { d with media := { d.media with ops := d.media.ops.set (x.sled * 65536 + t) o, tags := d.media.tags.put 0 x.sled ((t + 1) % 65536) } }
  (d1.count pMEDI 0x1B8 1).send (.port x.sled) y.pkt

/-- A descriptor sent again for an open operation: a ladder step (R154). -/
def Dev.resendDesc (d : Dev) (key : Nat) (x : Desc) : Dev :=
  let d := d.mediEpoch
  ((d.modOp key (fun o => { o with d := x, phase := .sent, cwGot := 0, naks := 0 })).count pMEDI 0x1B8 1).send (.port x.sled) x.pkt

/-- A descriptor ends: counted, and its operation is no longer open (R173). -/
def Dev.closeOp (d : Dev) (key : Nat) : Dev := { d with media := { d.media with ops := d.media.ops.del key } }

/-- A read pin is taken and released (R162), and a sensing counted (R156). -/
def Dev.pin (d : Dev) (b : Nat) : Dev := d.setBlk b (fun x => { x with pins := x.pins + 1 })
def Dev.unpin (d : Dev) (b : Nat) : Dev := d.setBlk b (fun x => { x with pins := x.pins - 1 })
def Dev.sensed (d : Dev) (b : Nat) : Dev := d.setBlk b (fun x => { x with reads := x.reads + 1 })

/-- The shift index of a word line's group (R152). -/
def Block.shiftOf (b : Block) (wl : Nat) : Nat := b.shift.getD (wl / 96) 0
def Block.setShift (b : Block) (wl v : Nat) : Block := { b with shift := b.shift.set (wl / 96) (satAt 63 v) }

/-- One TRACK record, of a run of 38 blocks (R153, R283), as long as the ring has room. -/
def Dev.trackRecord (d : Dev) (run : Nat) : Dev :=
  let k := run / 64
  let first := run % 64 * 38
  if d.ringRoom then
    ({ d with media := { d.media with trackLeft := d.media.trackLeft.filter (· != run) } }).journal
      (.track (k / 256) (k % 256) first ((List.range 38).map (fun i => (d.blk (k * 2048 + first + i)).shift)))
  else d

/-- The TRACK records that wait are made as far as the ring has room. -/
def Dev.trackSave (d : Dev) : Dev := d.each d.media.trackLeft Dev.trackRecord

/-- A fault is counted toward retirement of the die (R171): eight in a row ask for it. -/
def Dev.dieFault (d : Dev) (k : Nat) : Dev := d.setDie k (fun x => { x with faultRun := satAt 8 (x.faultRun + 1) })
def Dev.dieGood (d : Dev) (k : Nat) : Dev := d.setDie k (fun x => { x with faultRun := 0 })

/-- A slow event of a sled enters its newest bucket (R231). -/
def Dev.slowEvent (d : Dev) (sled : Nat) : Dev :=
  let l := d.prty.slow.get [] sled
  let l' := match l with | [] => [1] | n :: t => (n + 1) :: t
  { d with prty := { d.prty with slow := d.prty.slow.put [] sled l' } }

/-- A sled is demoted, or forced to be (R232). -/
def Dev.isDemoted (d : Dev) (sled : Nat) : Bool := hasBit d.prty.demoted sled || bitOf (d.cell pPRTY 0x128) sled

/-! ## PRTY jobs (R226, R227) -/

/-- A job waits for the parity engine. -/
def Dev.addJob (d : Dev) (kind : PJobKind) (cls : Nat) : Dev :=
  let n := d.prty.nextJob
  { d with prty := { d.prty with jobs := d.prty.jobs.set n { kind := kind, cls := cls, order := n }, nextJob := n + 1 } }

/-- A job ends. -/
def Dev.endPJob (d : Dev) (n : Nat) : Dev :=
  { d with prty := { d.prty with jobs := d.prty.jobs.del n, running := if d.prty.running = some n then none else d.prty.running } }

end Sys2Proof.Machine
end

