-- ==== Sys2Proof/Machine/SchedOps.lean ====
section
/-! DEFINITION. Shared operations of the deadline scheduler: projections and the path of a read, credits, reconstructions, races,
failures and paced streams (R92 to R129, R229). -/

namespace Sys2Proof.Machine

/-! ## Credits (R107 to R110) -/

/-- The pool a requester's elective read-arounds draw on (R108). -/
def Requester.pool (r : Requester) : Nat := if r.pf then 64 else r.slice / 64

/-- The slice parameter of an event (R132). -/
def Requester.par (r : Requester) : Nat := if r.pf then 0xFFFFFFFF else r.slice

/-- A pool holds `n` credits: they are taken in one step, or none (R106). -/
def Dev.canPay (d : Dev) (p n : Nat) : Bool := decide (n ≤ (d.pool p).avail)

/-- `n` credits are taken. -/
def Dev.payCredits (d : Dev) (p n : Nat) : Dev := d.setPool p (fun x => { x with avail := x.avail - n, held := x.held + n })

/-- A credit returns to its pool. -/
def Dev.giveCredit (d : Dev) (p : Nat) : Dev := d.setPool p (fun x => { x with avail := x.avail + 1, held := x.held - 1 })

/-- A refusal for credits is counted, pool by pool as POOL_SEL shows them (R110; DESIGN CHOICE, log entry 75). -/
def Dev.refuseCredits (d : Dev) (p n slice : Nat) : Dev :=
  (d.setPool p (fun x => { x with refused := x.refused + 1 })).raise pSCHD 3 [p, (d.pool p).avail, n, slice]

/-! ## Rows and their sources (R102, R225, R229, R230) -/

/-- The staging area that holds a zone's open row, whatever has become of the zone's state. -/
def Dev.areaOf (d : Dev) (z : Nat) : Option (Nat × Area) :=
  d.zone.areas.find? (fun e => e.2.st != .free && e.2.zone == z && e.2.gen == (d.zn z).gen)

/-- The group of a row, where it is allocated. -/
def Zone.groupOf (z : Zone) (rs : Nat) : Option Group := z.groups[rs / 768]?

/-- The block of a group on a sled; 0x1FFF unassigned. -/
def Group.blockOn (g : Group) (sled : Nat) : Nat := (g.blocks.find sled).getD 0x1FFF

/-- Addresses of an area's parts (R14, R85). -/
def areaBase (a : Nat) : Nat := 0x8000000000 + a * 0xC0000
def partAddr (plc : Bool) (a part : Nat) : Nat := areaBase a + part * (if plc then 0x50000 else 0x40000)

/-- The stripe group that holds a row for a reader: the zone's, or the one that it goes on reading after the zone has let it go (R71). -/
def Dev.groupFor (d : Dev) (z rs : Nat) (old : Option Group) : Option Group :=
  match old with
  | some g => some g
  | none => (d.zn z).groupOf rs

/-- Where a row's units can be had: units needed, data units folded into it, the slots to be read from flash, and those that staging
holds. -/
structure RowSrc where
  need  : Nat
  folded : Nat
  flash : List Nat
  ready : List Nat

/-- The row can be had. -/
def RowSrc.enough (s : RowSrc) : Bool := decide (s.need ≤ s.flash.length + s.ready.length)

/-- The sources for slot `j` of a row (R225, R229).  In condition LOST every reconstruction fails, whatever staging holds (R27, R29): more units
are needed than the row has. -/
def Dev.rowSrc (d : Dev) (n : Ns) (z rs j : Nat) (old : Option Group) : RowSrc :=
  let zn := d.zn z
  let need (k : Nat) : Nat := if n.cond = 3 then n.w + 1 else k
  match d.groupFor z rs old with
  | none => { need := need n.d, folded := n.d, flash := [], ready := [] }
  | some g =>
    let onFlash (m : Nat) : Bool :=
      m != j && !d.groupMissing n g (n.sledOf m rs) && g.blockOn (n.sledOf m rs) != 0x1FFF
        && (d.die (dieKey (n.sledOf m rs) g.pos)).st != .offline && !(old.isNone && zn.lost.contains (rs, m))
    let whole : RowSrc := { need := need n.d, folded := n.d, flash := (List.range n.w).filter onFlash, ready := [] }
    match d.areaOf z with
    | some (_, a) =>
      if a.accRow = some rs ∧ old.isNone then
        let inSlot (m : Nat) : Bool := a.folded && a.unit == rs * n.d + m
        { need := need a.accN, folded := a.accN
          flash := (List.range n.d).filter (fun m => decide (m < a.accN) && onFlash m && !inSlot m)
          ready := ([n.d, n.d + 1].filter (· != j)) ++ (List.range n.d).filter (fun m => m != j && inSlot m) }
      else whole
    | none => whole

/-- The bytes that staging holds of a ready slot, codeword by codeword. -/
def Dev.readyBytes (d : Dev) (n : Ns) (z rs m off count : Nat) : SMap (List Byte) :=
  match d.areaOf z with
  | none => []
  | some (a, _) =>
    let part := if m < n.d then 0 else m - n.d + 1
    let base := partAddr n.plc a part
    let _ := rs
    (List.range count).map (fun i => (i, d.bytes (base + (off + i) * 4096) 4096))

/-! ## Projections (R100, R119) -/

/-- Payload bytes per 10 ns at a rate code. -/
def payloadRate (rate : Nat) : Nat := if rate = 3 then 124 else if rate = 2 then 93 else 62

/-- Bytes queued on a sled port ahead of a read: the codewords its open reads have yet to return. -/
def Dev.backlog (d : Dev) (sled : Nat) : Nat :=
  ((d.media.ops.filter (fun e => e.2.d.sled == sled && e.2.phase == .sent && decide (e.2.d.op ≤ 2))).map
    (fun e => (popN 16 e.2.d.cwmask - e.2.cwGot) * 4096)).sum

/-- The sensing time of `p` paired pages, ns. -/
def Dev.senseNs (d : Dev) (e : Word) (plc : Bool) (p : Nat) : Nat :=
  p * (if plc then d.rfAt e pSCHD 0x800 16 16 else d.rfAt e pSCHD 0x800 0 16) * 1000

/-- What a read is, to its projection. -/
structure Probe where
  sled : Nat
  pos  : Nat
  plc  : Bool
  off  : Nat
  count : Nat
  due  : Nat
  cls  : Cls
  epoch : Word

/-- The term `base` of R100, ns. -/
def Dev.baseNs (d : Dev) (r : Probe) : Nat :=
  let pages := (pagesOf r.off r.count).length
  let all := (pagesOf r.off r.count).map (fun p => cwMaskOf p r.off r.count)
  let planes := popN 4 (maskOf (all.flatMap (fun m => (List.range 4).filter (fun p => decide (m / 16 ^ p % 16 ≠ 0)))))
  let rate := (d.port r.sled).link.rate
  d.rfAt r.epoch pSCHD 0x808 0 8 * 1000 + d.senseNs r.epoch r.plc pages
    + (d.backlog r.sled + r.count * 4096) * 10 / payloadRate rate
    + d.rfAt r.epoch pSCHD 0x808 8 8 * 1000 * r.count / (if planes = 0 then 1 else planes)
    + (if d.isDemoted r.sled then d.rfAt r.epoch pSCHD 0x124 0 16 * 1000 else 0)


/-- The array time that a die's program or erase is expected to take, ns (R100). -/
def Dev.costNs (d : Dev) (e : Word) (plc erase : Bool) : Nat :=
  if erase then (if plc then d.rfAt e pSCHD 0x810 16 16 else d.rfAt e pSCHD 0x810 0 16) * 10000
  else (if plc then d.rfAt e pSCHD 0x80C 16 16 else d.rfAt e pSCHD 0x80C 0 16) * 1000

/-- When a die is projected to be free for a direct read: a program or erase takes its expected time from its start, a suspension its
latency from now, a read one sense from its start, a resuming operation as a running one (R100 gives the inputs and no formula for a read, a
suspension or a resume: DESIGN CHOICE, log entry 76). -/
def Dev.freeAt (d : Dev) (e : Word) (k : Nat) : Nat :=
  let x := d.die k
  let plc := d.sledPlc (k / 256)
  match x.st with
  | .reading => x.startAt + d.senseNs e plc 1
  | .programming => x.startAt + d.costNs e plc false
  | .erasing => x.startAt + d.costNs e plc true
  | .resuming => x.startAt + d.costNs e plc ((d.runningOp k).any (fun o => o.d.op == 0x20))
  | .suspending => d.now + (if (d.runningOp k).any (fun o => o.d.op == 0x20) then d.rfAt e pSCHD 0x804 0 16
                            else d.rfAt e pSCHD 0x804 16 16) * 1000
  | _ => d.now

/-- Sensing time of the reads queued ahead of a read with this die deadline. -/
def Dev.aheadNs (d : Dev) (e : Word) (k due : Nat) : Nat :=
  let n := ((d.die k).queue.filter (fun i => i.kind == .read && decide (i.deadline ≤ due))).length
  d.senseNs e (d.sledPlc (k / 256)) n

/-- `t_direct` of R100. -/
def Dev.tDirect (d : Dev) (r : Probe) : Nat :=
  let k := dieKey r.sled r.pos
  let f := d.freeAt r.epoch k
  (if f < d.now then d.now else f) + d.aheadNs r.epoch k r.due + d.baseNs r

/-- `may_suspend` of R101.  A copy's and a rebuild's programs are never suspended (R74, R166, R234). -/
def Dev.maySuspend (d : Dev) (r : Probe) : Bool :=
  let x := d.die (dieKey r.sled r.pos)
  let lim := d.rfAt r.epoch pSCHD 0x100 0 8
  if r.cls = .c then false
  else if x.st = .erasing then
    !x.urgent && (lim == 0 || decide (x.esusp < lim))
      && decide (d.rfAt r.epoch pSCHD 0x118 0 16 * 1000 ≤ d.now - x.lastResume)
  else if x.st = .programming then
    decide (x.psusp < d.rfAt r.epoch pSCHD 0x100 8 8)
      && !(d.runningOp (dieKey r.sled r.pos)).any (fun o => match o.d.use with | .copyProg .. | .rebuildProg .. => true | _ => false)
  else false

/-- `t_suspend` of R100. -/
def Dev.tSuspend (d : Dev) (r : Probe) : Nat :=
  let k := dieKey r.sled r.pos
  let lat := if (d.die k).st = .erasing then d.rfAt r.epoch pSCHD 0x804 0 16 else d.rfAt r.epoch pSCHD 0x804 16 16
  d.now + lat * 1000 + d.aheadNs r.epoch k r.due + d.baseNs r

/-- Insert a candidate by its time, ties to the faster port, then the lower sled. -/
def Dev.pickKey (d : Dev) (t sled : Nat) : Nat := t * 1024 + (3 - (d.port sled).link.rate) * 32 + sled

/-- `t_around` of R100: the projection and the chosen slots; none where too few members are present. -/
def Dev.tAround (d : Dev) (n : Ns) (g : Group) (rs : Nat) (src : RowSrc) (r : Probe) : Option (Nat × List Nat) :=
  if src.enough = false then none
  else
    let one (m : Nat) : Nat × Nat × Nat :=
      let q : Probe := { r with sled := n.sledOf m rs, pos := g.pos }
      let td := d.tDirect q
      let t := if d.maySuspend q ∧ d.tSuspend q < td then d.tSuspend q else td
      (m, t, d.pickKey t q.sled)
    let best := (sortBy (fun (x : Nat × Nat × Nat) => x.2.2) (src.flash.map one)).take (src.need - src.ready.length)
    some ((best.foldl (fun a x => if a < x.2.1 then x.2.1 else a) d.now) + d.rfAt r.epoch pSCHD 0x808 16 8 * 1000, best.map (·.1))

/-! ## Reads of a die (R99, R102) -/

/-- SUSPEND is sent to a die whose program or erase runs; the suspension is counted (R99). -/
def Dev.suspendDie (d : Dev) (k : Nat) : Dev :=
  let x := d.die k
  let send (e : Dev) : Dev := e.sendDesc { Desc.at_ (k / 256) (k % 256) 0 .suspend with op := 0x30 } e.now
  match x.st with
  | .programming => send (d.setDie k (fun y => { y with st := .suspending, psusp := y.psusp + 1 }))
  | .erasing => send (d.setDie k (fun y => { y with st := .suspending, esusp := y.esusp + 1 }))
  | _ => d

/-- The reads of some paired pages of a range of one member enter its die's queue. -/
def Dev.enqueueReads (d : Dev) (pages : List Nat) (sled pos block wl off count due gen : Nat) (e : Word) (susp : Bool) (use : DieUse) : Dev :=
  d.each pages (fun x p =>
    x.enqueue .read due e false susp (Desc.read sled pos block wl p (cwMaskOf p off count) gen false use))

/-- A member read is decided: direct, or by suspension under the same limits (R102). -/
def Dev.memberSuspends (d : Dev) (r : Probe) : Bool :=
  let td := d.tDirect r
  if td ≤ r.due ∨ r.cls = .c then false
  else if d.maySuspend r then decide (d.tSuspend r ≤ r.due) || decide (d.tSuspend r < td) else false

/-! ## Reconstructions (R107, R112, R225) -/

def Dev.modRecon (d : Dev) (i : Nat) (f : Recon → Recon) : Dev :=
  { d with sched := { d.sched with recons := d.sched.recons.modify i f } }
def Dev.modSub (d : Dev) (i : Nat) (f : Sub → Sub) : Dev := { d with sched := { d.sched with subs := d.sched.subs.modify i f } }

/-- The class of a reconstruction's PRTY job (R226). -/
def Recon.jobCls (r : Recon) : Nat := match r.who with | .sub _ => 0 | _ => 2

/-- Every source has come: the job waits for PRTY. -/
def Dev.reconReady (d : Dev) (i : Nat) : Dev :=
  match d.sched.recons.find i with
  | none => d
  | some r => d.addJob (.recon i) r.jobCls

/-- A member read of a reconstruction enters its die's queue, paid for from a pool where it is paid at all. -/
def Dev.askMember (d : Dev) (i m : Nat) (pay : Option Nat) : Dev :=
  match d.sched.recons.find i with
  | none => d
  | some r =>
    let z := zoneKey r.nsid r.zone
    let n := d.zns z
    match d.groupFor z r.row r.old with
    | none => d
    | some g =>
      let sled := n.sledOf m r.row
      let pages := pagesOf r.off r.count
      let payer (x : Recon) : SMap Nat := match pay with | some p => x.paid.set m p | none => x.paid
      let d1 := d.modRecon i (fun x => { x with asked := x.asked ++ [m], wait := x.wait.set m pages.length, paid := payer x })
      let q : Probe := { sled := sled, pos := g.pos, plc := n.plc, off := r.off, count := r.count, due := r.deadline,
                         cls := r.cls, epoch := r.epoch }
      let bg := match r.who with | .sub _ => false | _ => true
      let susp := !bg && d.memberSuspends q
      let d2 := d1.enqueueReads pages sled g.pos (g.blockOn sled) (r.row % 768) r.off r.count r.deadline r.gen r.epoch susp (.member i m)
      if susp then d2.suspendDie (dieKey sled g.pos) else d2

/-- A reconstruction begins with its sources chosen (R229): its job is accepted (R227), what staging holds is taken at once, and the other
members are asked. -/
def Dev.beginRecon (d : Dev) (i : Nat) (set : List Nat) (src : RowSrc) (pay : Option Nat) : Dev :=
  match d.sched.recons.find i with
  | none => d
  | some r =>
    let z := zoneKey r.nsid r.zone
    let n := d.zns z
    let held (x : Recon) : SMap (SMap (List Byte)) :=
      src.ready.foldl (fun g m => SMap.set g m (d.readyBytes n z r.row m r.off r.count)) x.got
    let d1 := (d.modRecon i (fun x => { x with waiting := false, begun := true, need := src.need, folded := src.folded, good := src.ready
                                               got := held x })).count pPRTY 0x140 1
    if set.isEmpty then d1.reconReady i else d1.each set (fun x m => x.askMember i m pay)

/-- The sources of a reconstruction that takes no part in a projection: present members not demoted, then on faster ports, then
the lower sled number (R112, R232, R234). -/
def Dev.prefer (d : Dev) (n : Ns) (rs : Nat) (ms : List Nat) : List Nat :=
  sortBy (fun m => let s := n.sledOf m rs
                   (if d.isDemoted s then 4096 else 0) + (3 - (d.port s).link.rate) * 32 + s) ms

/-- A new reconstruction is listed under the next number. -/
def Dev.newRecon (d : Dev) (r : Recon) : Dev × Nat :=
  let i := d.sched.nextSub
  ({ d with sched := { d.sched with recons := d.sched.recons.set i { r with order := i }, nextSub := i + 1 } }, i)

/-- Another reconstruction has waited for pool 65 longer than this one (R112). -/
def Dev.mustWait (d : Dev) (i : Nat) : Bool :=
  match d.sched.recons.find i with
  | none => false
  | some r => d.sched.recons.any (fun e => e.1 != i && e.2.waiting && (!r.waiting || decide (e.2.order < r.order)))

/-- A reconstruction joins those that wait for pool 65, behind the others (R112). -/
def Dev.waitForced (d : Dev) (i : Nat) : Dev :=
  let o := d.sched.nextSub
  if (d.sched.recons.find i).any (fun r => r.waiting) then d
  else { d with sched := { d.sched with nextSub := o + 1, recons := d.sched.recons.modify i (fun x => { x with waiting := true, order := o }) } }

/-- A forced or background reconstruction starts, or waits for pool 65, or is impossible: no number, and nothing changes. -/
def Dev.startForced (d : Dev) (r : Recon) : Dev × Option Nat :=
  let z := zoneKey r.nsid r.zone
  let n := d.zns z
  let src := d.rowSrc n z r.row r.target r.old
  if src.enough = false then (d, none)
  else
    let set := (d.prefer n r.row src.flash).take (src.need - src.ready.length)
    let e := d.newRecon r
    match r.pool with
    | none => (e.1.beginRecon e.2 set src none, some e.2)
    | some p =>
      if e.1.mustWait e.2 = false ∧ e.1.canPay p set.length then ((e.1.payCredits p set.length).beginRecon e.2 set src (some p), some e.2)
      else (e.1.waitForced e.2, some e.2)

/-- A reconstruction for a sub-request, before its members are asked. -/
def Sub.recon_ (s : Sub) (id pool : Nat) : Recon :=
  { who := .sub id, pool := some pool, paid := [], nsid := s.nsid, zone := s.zone, zgen := s.zgen, row := s.row, target := s.unit, need := 0,
    folded := 0, old := s.old, begun := false, dead := false, asked := [], good := [], bad := [], wait := [], got := [], gen := s.gen, cls := s.cls,
    req := s.req, epoch := s.epoch, deadline := s.dieDeadline, off := s.off, count := s.count, waiting := false, order := 0 }

/-! ## Races (R111) -/


/-- A member read that is queued no more: its credit returns once no page of the member is outstanding (R107). -/
def Dev.unqueued (x : Dev) (u : DieUse) : Dev :=
  match u with
  | .member i m =>
    match x.sched.recons.find i with
    | none => x
    | some r =>
      let left := r.wait.get 0 m - 1
      let x1 := x.modRecon i (fun y => { y with wait := y.wait.set m left, paid := if left = 0 then y.paid.del m else y.paid })
      if left = 0 then (match r.paid.find m with | some q => x1.giveCredit q | none => x1) else x1
  | _ => x

/-- The queued operations of a sub-request leave their queues without being issued, and the credits of the member reads among
them return. -/
def Dev.unqueue (d : Dev) (p : DieUse → Bool) : Dev :=
  let gone := d.media.dies.flatMap (fun e => (e.2.queue.filter (fun i => p i.d.use)).map (fun i => i.d.use))
  let d1 := { d with media := { d.media with dies := d.media.dies.mapVals (fun _ x =>
    { x with queue := x.queue.filter (fun i => !p i.d.use) }) } }
  d1.each gone Dev.unqueued

/-- A reconstruction that has ended leaves once no read of it is outstanding and PRTY has no job of it. -/
def Dev.reapRecon (d : Dev) (i : Nat) : Dev :=
  match d.sched.recons.find i with
  | none => d
  | some r =>
    let busy := r.wait.any (fun e => e.2 != 0) || d.prty.jobs.any (fun e => decide (e.2.kind = .recon i))
    if r.dead = false ∨ busy then d else { d with sched := { d.sched with recons := d.sched.recons.del i } }

/-- A reconstruction ends, failed or discarded (R107, R227): its job, where it was accepted, is counted; its queued reads leave, and those
issued are awaited for their credits alone. -/
def Dev.endRecon (d : Dev) (i : Nat) : Dev :=
  match d.sched.recons.find i with
  | none => d
  | some r =>
    let d1 := if r.begun ∧ r.dead = false then d.count pPRTY 0x144 1 else d
    let d2 := (d1.modRecon i (fun x => { x with dead := true, waiting := false })).unqueue (fun u => match u with | .member j _ => j == i | _ => false)
    d2.reapRecon i

/-- A sub-request ends: the generation of its index advances, so whatever still runs for it is discarded on arrival (R111). -/
def Dev.dropSub (d : Dev) (id : Nat) : Dev :=
  match d.sched.subs.find id with
  | none => d
  | some s =>
    let mine := (d.sched.recons.filter (fun e => decide (e.2.who = .sub id) && e.2.gen == s.gen)).map Prod.fst
    let d1 := d.unqueue (fun u => decide (u = .sub id))
    let d2 := { d1 with sched := { d1.sched with subs := d1.sched.subs.del id, gens := d1.sched.gens.put 0 id ((s.gen + 1) % 65536) } }
    d2.each mine Dev.endRecon

/-- The sub-requests of a command. -/
def Dev.subsOf (d : Dev) (c : Nat) : List Nat := (d.sched.subs.filter (fun e => e.2.ctx == some c)).map Prod.fst

/-- Every sub-request of a command is discarded. -/
def Dev.dropSubs (d : Dev) (c : Nat) : Dev := d.each (d.subsOf c) Dev.dropSub

/-- A sub-request fails (R113): event 0x2105 with the members that cannot be had, those among them that have failed this sub-request's
reconstructions; its command fails with Unrecovered Read Error and its others are discarded. -/
def Dev.subFail (d : Dev) (id : Nat) : Dev :=
  match d.sched.subs.find id with
  | none => d
  | some s =>
    let z := zoneKey s.nsid s.zone
    let n := d.zns z
    let src := d.rowSrc n z s.row s.unit s.old
    let failed := d.sched.recons.flatMap (fun e => if e.2.who = .sub id ∧ e.2.gen = s.gen then e.2.bad else [])
    let bad := (List.range n.w).filter (fun m => failed.contains m || (!src.flash.contains m && !src.ready.contains m))
    let d1 := d.raise pSCHD 5 [s.nsid, s.zone, maskOf (bad.map (fun m => n.sledOf m s.row)), s.row]
    match s.ctx with
    | none => d1.dropSub id
    | some c => (d1.dropSubs c).commitCtx c 0x281 false 0

/-! ## Delivery (R94, R301) -/

/-- Bytes of a logical block as the host sees it. -/
def Ns.blockBytes (n : Ns) : Nat := 4096 + n.meta_

/-- A block of ciphertext is decrypted under its namespace's key and put in its place in the command's data (R10, R406); under a slot
that is not LOADED it is refused and the read fails (R404). -/
def Dev.putBlock (d : Dev) (c nsid lba i : Nat) (cipher : List Byte) : Dev :=
  let n := (d.ns nsid).getD Ns.absent
  match d.decrypt n.slot lba (cipher.take n.blockBytes) with
  | some b => (d.count pCRYP 0x124 1).modCtx c (fun x => { x with got := x.got.set i b })
  | none => ((d.count pCRYP 0x128 1).dropSubs c).commitCtx c 0x281 false 0

/-- The blocks of a read in order, once the last has come. -/
def Ctx.gathered (x : Ctx) : List Byte := x.got.flatMap Prod.snd

/-- A command of which every block has come has its data ready for the host. -/
def Dev.readDone (d : Dev) (c : Nat) : Dev := d.modCtx c (fun x => if x.left = 0 then { x with data := x.gathered } else x)

/-- The zone-relative LBA of a unit's first block. -/
def Ns.unitLba (n : Ns) (row unit : Nat) : Nat := (row * n.d + unit) * n.lpu

/-- The first block of a read's command, as an LBA. -/
def NvCmd.slba : NvCmd → Nat
  | .read s _ _ => s | .write s _ _ => s | .writeZeroes s _ _ => s | .zoneAppend s _ _ => s | .zoneSend s _ _ _ => s
  | .zoneReceive s _ _ _ _ => s
  | _ => 0
def NvCmd.nlb : NvCmd → Nat
  | .read _ n _ => n | .write _ n _ => n | .writeZeroes _ n _ => n | .zoneAppend _ n _ => n
  | _ => 0

/-- The register that counts a path (R131). -/
def Path.reg (p : Path) : Nat := 0x1A0 + 4 * p.code

/-- The address of a stream's buffered block in the pace pool (R14, R122), where it holds the buffer unit. -/
def Stream.addrOf (s : Stream) (lba : Nat) : Option Nat := (s.held.find (lba / 16)).map (fun u => 0x8180000000 + u * 65536 + lba % 16 * 4096)

/-- A block read ahead enters its buffer, as it came from flash (R122); where the host has passed it, its unit is gone and it is dropped
(R126). -/
def Dev.bufferBlock (d : Dev) (k lba : Nat) (cipher : List Byte) : Dev :=
  match d.sched.streams.find k with
  | none => d
  | some s =>
    match s.addrOf lba with
    | none => d
    | some a =>
      if lba < s.hostPos then d
      else
        { d.store a (cipher.take 4096) with sched := { d.sched with streams := d.sched.streams.modify k (fun y => { y with buf := y.buf.set lba (cipher.drop 4096) }) } }

/-- A sub-request is satisfied by its first good result (R111): the data is delivered, the path counted, and the rest discarded. -/
def Dev.satisfy (d : Dev) (id : Nat) (p : Path) (data : SMap (List Byte)) : Dev :=
  match d.sched.subs.find id with
  | none => d
  | some s =>
    let z := zoneKey s.nsid s.zone
    let n := d.zns z
    let first := n.unitLba s.row s.unit + s.off
    let d1 := d.count pSCHD p.reg 1
    let d2 :=
      match s.ctx with
      | some c =>
        match d1.ctx c with
        | none => d1
        | some x =>
          let lba0 := s.zone * n.zsze + first
          let e := data.foldl (fun (y : Dev) (b : Nat × List Byte) => y.putBlock c s.nsid (lba0 + b.1) (lba0 + b.1 - x.e.cmd.slba) b.2) d1
          (e.modCtx c (fun y => { y with left := y.left - 1, path := p.code })).readDone c
      | none =>
        match s.stream with
        | none => d1
        | some k => data.foldl (fun (y : Dev) (b : Nat × List Byte) => y.bufferBlock k (first + b.1) b.2) d1
    d2.dropSub id

/-! ## The path of a read (R101, R112) -/

/-- A page of a sub-request's range that needs no further read of its own: its codewords have come, or its read is open. -/
def Dev.pageInHand (d : Dev) (id : Nat) (s : Sub) (p : Nat) : Bool :=
  (cwsOf (cwMaskOf p s.off s.count)).all (fun c => (s.got.find (16 * p + c - s.off)).isSome)
    || d.media.ops.any (fun e => decide (e.2.d.use = .sub id) && e.2.d.gen == s.gen && e.2.d.page == p && !e.2.timedOut)

/-- Direct reads of a sub-request enter the target die's queue. -/
def Dev.goDirect (d : Dev) (id : Nat) (susp : Bool) : Dev :=
  match d.sched.subs.find id with
  | none => d
  | some s =>
    let z := zoneKey s.nsid s.zone
    let n := d.zns z
    match d.groupFor z s.row s.old with
    | none => d
    | some g =>
      let sled := n.sledOf s.unit s.row
      let d1 := d.modSub id (fun x => { x with path := if susp then .suspend else .direct })
      let pages := (pagesOf s.off s.count).filter (fun p => !d.pageInHand id s p)
      let d2 := d1.enqueueReads pages sled g.pos (g.blockOn sled) (s.row % 768) s.off s.count s.dieDeadline s.gen s.epoch susp (.sub id)
      if susp then d2.suspendDie (dieKey sled g.pos) else d2

/-- A forced reconstruction of a sub-request (R112), or its failure (R113). -/
def Dev.goForced (d : Dev) (id : Nat) : Dev :=
  match d.sched.subs.find id with
  | none => d
  | some s =>
    let e := d.startForced (s.recon_ id 65)
    if e.2.isNone then d.subFail id else e.1.modSub id (fun x => { x with path := .forced, recon := e.2 })

/-- An elective read-around with its credits taken. -/
def Dev.goAround (d : Dev) (id : Nat) (set : List Nat) (src : RowSrc) : Dev :=
  match d.sched.subs.find id with
  | none => d
  | some s =>
    let (d1, i) := d.newRecon (s.recon_ id s.req.pool)
    (d1.modSub id (fun x => { x with path := .around, recon := some i })).beginRecon i set src (some s.req.pool)

/-- `may_read_around` of R101. -/
def Dev.mayAround (d : Dev) (s : Sub) : Bool :=
  d.rfAt s.epoch pSCHD 0x100 0 8 != 0
    && (match s.cls with | .a => fld (d.cellAt s.epoch pSCHD 0x114 0) 0 1 == 1 | .b => fld (d.cellAt s.epoch pSCHD 0x114 0) 1 1 == 1 | .c => false)
    && !(d.partitioned && s.req.pf) && (s.req.pf || (d.slice s.req.slice).gen == s.req.gen) && !s.noAround

/-- The target's own read as a projection sees it. -/
def Dev.probeOf (d : Dev) (s : Sub) (g : Group) : Probe :=
  let n := d.zns (zoneKey s.nsid s.zone)
  { sled := n.sledOf s.unit s.row, pos := g.pos, plc := n.plc, off := s.off, count := s.count, due := s.dieDeadline,
    cls := s.cls, epoch := s.epoch }

/-- A read-around where its pool can pay for it; else the refusal, and then the next path. -/
def Dev.tryAround (d : Dev) (id : Nat) (s : Sub) (set : List Nat) (src : RowSrc) (next : Bool) : Dev :=
  if d.canPay s.req.pool set.length then (d.payCredits s.req.pool set.length).goAround id set src
  else (d.refuseCredits s.req.pool set.length s.req.par).goDirect id next

/-- One time is no later than another, none being never. -/
def leOpt : Option Nat → Option Nat → Bool
  | some x, some y => decide (x ≤ y)
  | _, none => true
  | none, some _ => false

/-- The rest of R101's decision once the direct path misses its die deadline. -/
def Dev.decideLate (d : Dev) (id : Nat) (s : Sub) (td : Nat) (ts : Option Nat) (ta : Option (Nat × List Nat)) (src : RowSrc) : Dev :=
  let tav := ta.map Prod.fst
  let set := (ta.map Prod.snd).getD []
  -- a refusal leaves suspension where it may be had, else the direct path
  if ta.any (fun t => decide (t.1 ≤ s.dieDeadline) && !leOpt ts (some t.1)) then d.tryAround id s set src ts.isSome
  else if leOpt (some td) ts && leOpt (some td) tav then d.goDirect id false
  else if ts.isSome && leOpt ts tav then d.goDirect id true
  else d.tryAround id s set src ts.isSome

/-- `decide` of R101. -/
def Dev.choosePath (d : Dev) (id : Nat) : Dev :=
  match d.sched.subs.find id with
  | none => d
  | some s =>
    let z := zoneKey s.nsid s.zone
    let n := d.zns z
    if s.old.isNone ∧ (d.zn z).lost.contains (s.row, s.unit) then d.subFail id
    else
      match d.groupFor z s.row s.old with
      | none => d.subFail id
      | some g =>
        let sled := n.sledOf s.unit s.row
        if d.groupMissing n g sled || g.blockOn sled == 0x1FFF || (d.die (dieKey sled g.pos)).st == .offline then d.goForced id
        else
          let r := d.probeOf s g
          let td := d.tDirect r
          if td ≤ s.dieDeadline ∨ s.cls = .c then d.goDirect id false
          else
            let ts := if d.maySuspend r then some (d.tSuspend r) else none
            if ts.any (fun t => t ≤ s.dieDeadline) then d.goDirect id true
            else
              let src := d.rowSrc n z s.row s.unit s.old
              let ta := if d.mayAround s then d.tAround n g s.row src r else none
              d.decideLate id s td ts ta src

/-- A sub-request takes a free index, with the generation that the index has reached (R94, R111), and its path is decided. -/
def Dev.addSub (d : Dev) (s : Sub) : Dev :=
  let id := d.sched.subs.fresh (d.sched.subs.length + 1) 0
  { d with sched := { d.sched with subs := d.sched.subs.set id { s with gen := d.sched.gens.get 0 id } } }.choosePath id

/-- A member read that was queued returns to the queue, and suspends the die where it may (R101, R102): it counts neither itself nor what
comes after it as ahead. -/
def Dev.redecideMember (x : Dev) (k i : Nat) (mine : List QItem) : Dev :=
  let back := x.setDie k (fun y => { y with queue := y.queue ++ mine })
  match x.sched.recons.find i, mine with
  | some r, j :: _ =>
    let q : Probe := { sled := j.d.sled, pos := j.d.pos, plc := x.sledPlc j.d.sled, off := r.off, count := r.count,
                       due := j.deadline, cls := r.cls, epoch := j.epoch }
    let bg := match r.who with | .sub _ => false | _ => true
    if !bg && x.memberSuspends q then back.suspendDie k else back
  | _, _ => back

/-- What reads of a sub-request or of a reconstruction's member are for. -/
def DieUse.decided : DieUse → Bool
  | .sub _ | .member _ _ => true
  | _ => false

/-- One sub-request's or member's queued reads of a die are decided again. -/
def Dev.redecideOne (items : List QItem) (k : Nat) (x : Dev) (u : DieUse) : Dev :=
  match u with
  | .sub s => x.choosePath s
  | .member i _ => x.redecideMember k i (items.filter (fun j => decide (j.d.use = u)))
  | _ => x

/-- The queued reads of a die are decided again one at a time, in die-deadline order and then in order of admission, each seeing the
effects of those before it (R97, R99, R101). -/
def Dev.redecide (d : Dev) (k : Nat) : Dev :=
  let mine (i : QItem) : Bool := i.kind == .read && i.d.use.decided
  let items := sortBy (fun (i : QItem) => i.deadline) ((d.die k).queue.filter mine)
  let d1 := d.setDie k (fun x => { x with queue := x.queue.filter (fun i => !mine i) })
  ((items.map (fun i => i.d.use)).eraseDups).foldl (Dev.redecideOne items k) d1

/-! ## Ends of member reads and of direct reads (R107, R112, R113) -/

/-- The candidates a reconstruction has not asked yet, among the units that stood in the row when it began (R229). -/
def Dev.spare (d : Dev) (r : Recon) : List Nat :=
  let z := zoneKey r.nsid r.zone
  let n := d.zns z
  d.prefer n r.row ((d.rowSrc n z r.row r.target r.old).flash.filter (fun m =>
    !r.asked.contains m && !r.good.contains m && (decide (m < r.folded) || r.folded == n.d)))

/-- Members asked whose data may still come. -/
def Recon.outstanding (r : Recon) : Nat := (r.wait.filter (fun e => e.2 != 0 && !r.bad.contains e.1)).length

/-- Where a reconstruction stands once a member has ended. -/
inductive ReconEnd where
  /-- Reads are still outstanding, or the parity job has been given, or its command is gone. -/
  | pending
  /-- Fewer than *D* members can be had. -/
  | failed
  deriving DecidableEq, Repr

/-- A page of a member is counted: its data, and the credit of a member whose last page it is. -/
def Dev.memberCount (d : Dev) (i m : Nat) (data : Option (SMap (List Byte))) (r : Recon) : Dev :=
  let left := r.wait.get 0 m - 1
  let bad := data.isNone || r.bad.contains m
  let got := match data with
    | some b => r.got.set m (b.foldl (fun g e => g.set e.1 e.2) (r.got.get [] m))
    | none => r.got
  let d1 := d.modRecon i (fun x => { x with wait := x.wait.set m left, got := got
                                            bad := if bad ∧ ¬ x.bad.contains m then x.bad ++ [m] else x.bad
                                            good := if left = 0 ∧ bad = false then x.good ++ [m] else x.good
                                            paid := if left = 0 then x.paid.del m else x.paid })
  match r.paid.find m with
  | some p => if left = 0 then d1.giveCredit p else d1
  | none => d1

/-- As many failed members as are lacking are replaced, the replacements charged to pool 65 in arrival order (R112); with too few members left
the reconstruction fails (R113). -/
def Dev.askSpare (d : Dev) (i : Nat) (r : Recon) (short : Nat) : Dev × ReconEnd :=
  let set := (d.spare r).take short
  if set.length < short then (d, .failed)
  else if r.pool.isNone then (d.each set (fun x m => x.askMember i m none), .pending)
  else if d.mustWait i ∨ d.canPay 65 short = false then (d.waitForced i, .pending)
  else (((d.payCredits 65 short).modRecon i (fun x => { x with waiting := false })).each set (fun x m => x.askMember i m (some 65)), .pending)

/-- One page read of a member ends.  Its credit returns when the member's last page has come; then the reconstruction is complete, or goes on,
or replaces what it lacks. -/
def Dev.memberEnd (d : Dev) (i m : Nat) (data : Option (SMap (List Byte))) : Dev × ReconEnd :=
  match d.sched.recons.find i with
  | none => (d, .pending)
  | some r =>
    let d2 := d.memberCount i m data r
    let r2 := (d2.sched.recons.find i).getD r
    let short := r2.need - (r2.good.length + r2.outstanding)
    if r.dead then (d2.reapRecon i, .pending)
    else if 1 < r.wait.get 0 m then (d2, .pending)
    else if r2.need ≤ r2.good.length then (d2.reconReady i, .pending)
    else if short = 0 then (d2, .pending)
    else d2.askSpare i r2 short

/-- A reconstruction that cannot be made ends.  An elective one or a hedge does not fail its sub-request while its target can be read
(R113). -/
def Dev.subReconFailed (d : Dev) (i id : Nat) : Dev :=
  match d.sched.recons.find i, d.sched.subs.find id with
  | some r, some s =>
    if r.pool = some 65 then d.subFail id
    else
      let d1 := (d.endRecon i).modSub id (fun x => { x with noAround := true, recon := none })
      if s.ownBad then d1.goForced id else if s.path = .around then d1.choosePath id else d1
  | _, _ => d

/-! ## Paced streams (R120 to R127) -/

def Dev.modStream (d : Dev) (k : Nat) (f : Stream → Stream) : Dev :=
  { d with sched := { d.sched with streams := d.sched.streams.modify k f } }

/-- A stream ends: its units return and its read-aheads are discarded (R127).  Causes: 0 reset, 1 idle, 2 seek, 3 end of zone,
4 slice reset. -/
def Dev.endStream (d : Dev) (k cause : Nat) : Dev :=
  match d.sched.streams.find k with
  | none => d
  | some s =>
    let mine := (d.sched.subs.filter (fun e => e.2.stream == some k)).map Prod.fst
    let d1 := d.each mine Dev.dropSub
    { d1 with sched := { d1.sched with streams := d1.sched.streams.del k, bufFree := d1.sched.bufFree + s.held.length } }.raise pSCHD 8
      [k, s.req.par, s.zone, cause]

/-- Streams of a zone, or of a requester, end. -/
def Dev.endStreams (d : Dev) (cause : Nat) (p : Stream → Bool) : Dev :=
  d.each ((d.sched.streams.filter (fun e => p e.2)).map Prod.fst) (fun x k => x.endStream k cause)

/-- Blocks of a range that lie at a position or beyond it. -/
def beyond (pos first count : Nat) : Nat := if first < pos then first + count - pos else count

/-- Bytes that a stream buffers or fetches beyond its host position (R124). -/
def Dev.streamAhead (d : Dev) (k : Nat) (s : Stream) : Nat :=
  let n := d.zns (zoneKey s.nsid s.zone)
  let fetch := (d.sched.subs.filter (fun e => e.2.stream == some k)).map (fun e => beyond s.hostPos (n.unitLba e.2.row e.2.unit + e.2.off) e.2.count)
  ((s.buf.filter (fun e => decide (s.hostPos ≤ e.1))).length + fetch.sum) * 4096

/-- Target rate of a stream (R123) in hundredths of a byte a second, from PACE and the measured rate; and its window in bytes. -/
def Dev.streamTarget (d : Dev) (declared measured : Nat) : Nat :=
  (if declared * 100000 < measured then measured else declared * 100000) * (100 + d.rf pSCHD 0x128 24 8)
def Dev.streamWindow (d : Dev) (plc : Bool) (target : Nat) : Nat :=
  let u := if plc then 327680 else 262144
  let units := ceilDiv (target * d.rf pSCHD 0x128 0 16) (100000 * u)
  let w := (if units < 2 then 2 else units) * u
  let lim := d.rf pSCHD 0x818 16 9 * 65536
  if lim < w then lim else w

/-- A stream starts, unless a limit forbids it (R120, R121). -/
def Dev.startStream (d : Dev) (nsid zone hostPos : Nat) (req : Requester) (declared : Nat) : Dev :=
  let p := if req.pf then 255 else req.slice / 64
  let mine := d.sched.streams.count (fun _ s => s.partn == p)
  if 1024 ≤ d.sched.streams.length ∨ (d.partitioned ∧ p ≠ 255 ∧ d.rf pSCHD 0x818 0 8 ≤ mine) then d
  else
    let k := d.sched.streams.fresh 1025 0
    let t := d.streamTarget declared 0
    let plc := ((d.ns nsid).getD Ns.absent).plc
    let s : Stream := { nsid := nsid, zone := zone, req := req, partn := p, hostPos := hostPos, readPos := hostPos, declared := declared,
                        served := [], measured := 0, target := t, window := d.streamWindow plc t, held := [], paused := false, touched := d.now,
                        buf := [] }
    { d with sched := { d.sched with streams := d.sched.streams.set k s } }

/-- The stream of a requester on a zone. -/
def Dev.streamOf (d : Dev) (nsid zone : Nat) (req : Requester) : Option (Nat × Stream) :=
  d.sched.streams.find? (fun e => e.2.nsid == nsid && e.2.zone == zone && decide (e.2.req = req))

end Sys2Proof.Machine
end

