-- ==== Sys2Proof/Machine/ZoneOps.lean ====
section
/-! DEFINITION. Shared operations of zones: vault load, staging areas, folds, confirmation and release of rows, abandonment,
finishing by the controller, members replaced or missing, and allocation of stripe groups (R56 to R91, R222 to R235, R268 to R271). -/

namespace Sys2Proof.Machine

/-! ## The vault budget (R268 to R271) -/

/-- The segments an area adds to the vault load (R268). -/
def Dev.areaSegs (d : Dev) (a : Area) : Nat :=
  let plc := (d.zns a.zone).plc
  ceilDiv (a.fill * 4096) 65536 + (if a.degraded then (if plc then 10 else 8) else 0)

/-- The vault load, in segments of 64 KiB. -/
def Dev.vaultLoad (d : Dev) : Nat := 1024 + (d.zone.areas.map (fun e => d.areaSegs e.2)).sum

/-- A sled qualifies for the vault set: UP, held by this controller, its pool complete (R270). -/
def Dev.vaultSled (d : Dev) (s : Nat) : Bool :=
  (d.port s).st == .up && (d.port s).token % 256 == d.peer.index && !hasBit d.peer.fenceLost s
    && (d.valt.anchor.pool.get [] s).length == d.rf pVALT 0x100 0 8

/-- Segments that one sled takes in the window at a rate code: the data-burst ceiling of R179 over the bytes of a word line. -/
def Dev.vaultPer (d : Dev) (rate : Nat) : Nat :=
  d.rf pVALT 0x100 16 8 * (if rate = 3 then 12500000 else if rate = 2 then 9370000 else 6250000) / 73728

/-- The vault set and its budget (R270). -/
def Dev.vaultBudget (d : Dev) : List Nat × Nat :=
  let q := (List.range 16).filter d.vaultSled
  [3, 2, 1].foldl (fun (best : List Nat × Nat) r =>
    let s := q.filter (fun n => decide (r ≤ (d.port n).link.rate))
    let b := d.vaultPer r * (s.length - 3)
    if s.length < 4 then best else if best.2 < b then (s, b) else best) ([], 0)

/-- The budget is recomputed after a change of port state, rate or pool, and the highest load kept. -/
def Dev.vaultRefresh (d : Dev) : Dev :=
  let b := d.vaultBudget
  let l := d.vaultLoad
  { d with valt := { d.valt with bset := b.1, budget := b.2, peak := if d.valt.peak < l then l else d.valt.peak } }

/-- A wait for the budget (R271): counted, and the first of an episode told. -/
def Dev.budgetWait (d : Dev) : Dev :=
  let d1 := d.count pVALT 0x118 1
  if d1.valt.waitTold then d1
  else ({ d1 with valt := { d1.valt with waitTold := true } }).raise pVALT 5 [d.vaultLoad, d.valt.budget, d.valt.bset.length, 0]

/-! ## Zone states (R56, R57) -/

/-- The functions a namespace is attached to are told that a zone's descriptor has changed (R58, R308). -/
def Dev.tellZone (d : Dev) (z : Nat) : Dev :=
  d.each (d.zns z).attached (fun x c =>
    (x.setFn (c / 256) (c % 256) (fun f =>
      { f with changedZones := if f.changedZones.contains z then f.changedZones else f.changedZones ++ [z] })).aenFn (c / 256) (c % 256) aenZone)

/-- A zone changes state: ZONE applies a pending epoch (R39), and the journal keeps the change with its cause, 0xFF for the host. -/
def Dev.setZst (d : Dev) (z : Nat) (st : ZoneState) (zfc : Bool) (cause : Nat) : Dev :=
  let d1 := (d.applyEpoch pZONE).setZn z (fun x => { x with st := st, zfc := zfc, fullAt := if st = .full then d.now else x.fullAt })
  d1.journal (.zstate (zNs z) (zIdx z) (d1.zn z).gen st zfc cause)

/-! ## Staging areas (R59, R86, R88) -/

/-- The code of a row event (R243). -/
def RowEvent.code : RowEvent → Nat
  | .bind => 0 | .fold => 1 | .issue => 2 | .confirm => 3 | .skip => 4 | .release => 5 | .drain => 6 | .free => 7

/-- A staging-area transition is mirrored (R246). -/
def Dev.rowevt (d : Dev) (a : Nat) (e : RowEvent) (unit rs : Nat) : Dev :=
  let x := d.area a
  d.psn { typ := 9, vc := 0, len := 0, op := 0, tag := 0, seq := 0,
          args := [a, e.code, unit, rs, x.gen, zIdx x.zone, zNs x.zone], data := [] }

/-- An area, or both areas of a pair, changes state. -/
def Dev.areaSt (d : Dev) (a : Nat) (st : AreaState) : Dev :=
  let d1 := d.setArea a (fun x => { x with st := st })
  if (d.area a).pair then d1.setArea (a + 1) (fun x => { x with st := st }) else d1

/-- The area returns to FREE, to the slice it is charged to (R59, R88). -/
def Dev.freeArea (d : Dev) (a : Nat) : Dev :=
  let x := d.area a
  let n := if x.pair then 2 else 1
  let d1 := d.rowevt a .free 0 0
  let d2 := d1.setArea a (fun _ => Area.reset)
  let d3 := if x.pair then d2.setArea (a + 1) (fun _ => Area.reset) else d2
  let d4 := match x.charge with
    | some s => d3.setSlice s (fun y => { y with heldArea := y.heldArea - n })
    | none => d3
  d4.setZn x.zone (fun y => if y.area = some a then { y with area := none } else y)

/-- Where a zone's part of a slot lies. -/
def Dev.slotAddr (d : Dev) (a : Nat) : Nat := partAddr (d.zns (d.area a).zone).plc a 0

/-- A unit is programmed to its sled: its member is present, or is a rebuild target whose block holds every word line below (R228,
R235). -/
def Dev.writable (d : Dev) (n : Ns) (g : Group) (sled wl : Nat) : Bool :=
  (d.port sled).st == .up && !hasBit d.peer.fenceLost sled && !g.missing.contains sled && g.blockOn sled != 0x1FFF
    && (!n.rebuild.contains sled || (d.blk (dieKey sled g.pos * 2048 + g.blockOn sled)).confirmed == wl)

/-- The full slot may be issued: no command that lies wholly in it waits for its commit record, so that none but one with data still
to stage is spilled (R67). -/
def Zone.issueOk (z : Zone) : Bool :=
  z.cmds.all (fun c => match c with | .write _ _ len staged _ _ _ => decide (staged < len) | .action .. => true)

/-- The command whose data goes on beyond the slot is spilled (R67). -/
def ZCmd.spill : ZCmd → ZCmd
  | .write c s len st ap sp p => .write c s len st ap (sp || decide (0 < st)) p
  | .action c a => .action c a

/-- The area whose slot is full submits its fold, if the accumulators are free or hold this row, no command in it waits for its
commit record, and the budget allows it (R86, R271). -/
def Dev.tryFold (d : Dev) (a : Nat) : Dev :=
  let x := d.area a
  let n := d.zns x.zone
  let zn := d.zn x.zone
  let rs := x.unit / n.d
  let accFree := x.accRow = none ∨ x.accRow = some rs
  if x.fill < n.lpu ∨ x.folded = true ∨ x.queued = true ∨ ¬ accFree ∨ (x.st ≠ .draining ∧ zn.issueOk = false) then d
  else
    match zn.groupOf rs with
    | none => d
    | some g =>
      let skip := !d.writable n g (n.sledOf (x.unit % n.d) rs) (rs % 768)
      if skip ∧ x.degraded = false ∧ d.valt.budget < d.vaultLoad + (if n.plc then 10 else 8) then d.budgetWait
      else (d.setArea a (fun y => { y with queued := true })).addJob (.fold a) 1

/-- Zeros pad the slot to a whole unit (R86). -/
def Dev.padSlot (d : Dev) (a : Nat) : Dev :=
  let x := d.area a
  let n := d.zns x.zone
  let d1 := d.store (d.slotAddr a + x.fill * 4096) (List.replicate ((n.lpu - x.fill) * 4096) 0)
  d1.setArea a (fun y => { y with fill := n.lpu })

/-- Contexts end with their statuses. -/
def Dev.failCtxs (d : Dev) (l : List (Nat × Nat)) : Dev := d.each l (fun x e => x.commitCtx e.1 e.2 true 0)

/-- Every uncommitted write of a zone fails with a status; the actions stay (R68, R75). -/
def Dev.failWrites (d : Dev) (z status : Nat) : Dev :=
  let ws := (d.zn z).cmds.filter (fun c => match c with | .write .. => true | _ => false)
  (d.setZn z (fun x => { x with cmds := x.cmds.filter (fun c => match c with | .write .. => false | _ => true) })).failCtxs
    (ws.map (fun c => ((match c with | .write k .. => k | .action k _ => k), status)))

/-- A zone whose failed program could not be replaced becomes Read Only, its row being padded and P and Q programmed (R75). -/
def Dev.becomeReadOnly (d : Dev) (z : Nat) : Dev :=
  match (d.zn z).failing with
  | none => d
  | some (sled, rs) =>
    let d1 := d.setZn z (fun x => { x with failing := none })
    let d2 := ((d1.setZst z .readOnly false 0xFF).setZn z (fun x => { x with sptr := x.wp })).count pZONE 0x12C 1
    ((d2.failWrites z 0x1BA).raise pZONE 3 [zNs z, zIdx z, sled, rs % 768]).tellZone z

/-- A draining area has nothing more to program: its zone becomes Read Only where that is what it drains for, and it is freed once no read
holds it (R75, R86). -/
def Dev.drained (d : Dev) (a : Nat) : Dev :=
  let x := d.area a
  let d1 := d.becomeReadOnly x.zone
  if x.holds = 0 then d1.freeArea a else d1

/-- An area goes on from where it stands (R86): a full slot folds; a draining area pads its row, and is freed at its end. -/
def Dev.advance (d : Dev) (a : Nat) : Dev :=
  let x := d.area a
  let n := d.zns x.zone
  match x.st with
  | .free => d
  | .filling | .programming => d.tryFold a
  | .draining =>
    if x.flight.isEmpty = false ∨ x.queued = true ∨ x.folded = true then d
    else if x.gen ≠ (d.zn x.zone).gen then (if x.holds = 0 then d.freeArea a else d)
    else
      match x.accRow with
      | none => if x.fill = 0 then d.drained a else (d.padSlot a).tryFold a
      | some _ => if x.accN = n.d then d else (d.padSlot a).tryFold a

/-- Release of a row whose P and Q are confirmed and of which no unit is in flight (R87, R228). -/
def Dev.rowRelease (d : Dev) (a : Nat) : Dev :=
  let x := d.area a
  let n := d.zns x.zone
  match x.accRow with
  | none => d
  | some rs =>
    if x.accN = n.d ∧ x.pOk = true ∧ x.qOk = true ∧ x.flight.isEmpty = true then
      (d.setArea a (fun y => { y with accRow := none, accN := 0, pOk := false, qOk := false, degraded := false })).rowevt a .release 0 rs
    else d

/-- The slot is emptied once its unit is confirmed or skipped (R86, R228). -/
def Dev.emptySlot (d : Dev) (a : Nat) : Dev :=
  let d1 := d.setArea a (fun y => { y with fill := 0, folded := false, metas := [], unit := y.unit + 1 })
  if (d1.area a).st = .programming then d1.areaSt a .filling else d1

/-- Slot `j` of the row in hand is safe on flash, or exists only through its row (R86, R228). -/
def Dev.settleSlot (d : Dev) (a j : Nat) : Dev :=
  let x := d.area a
  let n := d.zns x.zone
  let d1 := d.setArea a (fun y => { y with flight := y.flight.filter (· != j), pOk := y.pOk || j == n.d, qOk := y.qOk || j == n.d + 1 })
  if j < n.d ∧ x.folded = true ∧ x.unit % n.d = j then d1.emptySlot a else d1

/-- The area of a zone that has slot `j` of a row in flight: of the zone's present generation, or of one that a Reset has ended. -/
def Dev.areaOfUnit (d : Dev) (z rs j : Nat) (now_ : Bool) : Option (Nat × Area) :=
  d.zone.areas.find? (fun e => e.2.zone == z && e.2.st != .free && e.2.accRow == some rs && e.2.flight.contains j
    && (e.2.gen == (d.zn z).gen) == now_)

/-- A unit of a zone's row is confirmed: its area goes on (R86, R87). -/
def Dev.unitConfirmed (d : Dev) (z rs j : Nat) : Dev :=
  match d.areaOfUnit z rs j true with
  | none => d
  | some (a, _) => ((((d.settleSlot a j).rowevt a .confirm ((d.zns z).unitCode j) rs).rowRelease a).advance a)

/-- A program of a zone that has been reset since is over, however it ended: its result is discarded by generation, and the area is freed
with the last (R86). -/
def Dev.unitDiscarded (d : Dev) (z rs j : Nat) : Dev :=
  match d.areaOfUnit z rs j false with
  | none => d
  | some (a, _) =>
    (((d.settleSlot a j).rowevt a .confirm ((d.zns z).unitCode j) rs).setArea a (fun y => { y with fill := 0, folded := false })).advance a

/-- A unit that exists only through its row: its area is degraded, and it counts as confirmed (R228, R268, R557). -/
def Dev.unitSkipped (d : Dev) (z rs j : Nat) : Dev :=
  match d.areaOfUnit z rs j true with
  | none => d.unitDiscarded z rs j
  | some (a, _) =>
    let d1 := ((d.settleSlot a j).rowevt a .skip ((d.zns z).unitCode j) rs).setArea a (fun y => { y with degraded := y.degraded || decide (j < (d.zns z).d) })
    (d1.rowRelease a).advance a

/-! ## Folding (R222, R224, R226) -/

/-- Product with the generator in GF(2^8) over 0x11D (R222). -/
def gfDouble (b : Nat) : Nat := if 128 ≤ b then (2 * b) % 256 ^^^ 0x1D else 2 * b
/-- `g^k · b`. -/
def gfPow : Nat → Nat → Nat
  | 0, b => b
  | k + 1, b => gfPow k (gfDouble b)
def gfScale (k : Nat) (bs : List Byte) : List Byte := bs.map (fun b => BitVec.ofNat 8 (gfPow k b.toNat))

/-- The fold of a full slot: unit 0 sets P and Q, a later unit adds to them (R224). -/
def Dev.foldBytes (d : Dev) (a u : Nat) : Dev :=
  let n := d.zns (d.area a).zone
  let data := d.bytes (partAddr n.plc a 0) n.unitBytes
  let p := partAddr n.plc a 1
  let q := partAddr n.plc a 2
  if u = 0 then (d.store p data).store q data
  else (d.store p (xorBytes (d.bytes p n.unitBytes) data)).store q (xorBytes (d.bytes q n.unitBytes) (gfScale u data))

/-- The program of slot `j` of a row enters its die's queue (R86, R96). -/
def Dev.issueUnit (d : Dev) (a : Nat) (g : Group) (rs j : Nat) : Dev :=
  let x := d.area a
  let n := d.zns x.zone
  let sled := n.sledOf j rs
  let d1 := (d.setArea a (fun y => { y with flight := y.flight ++ [j] })).rowevt a .issue (n.unitCode j) rs
  d1.enqueueBg .program (Desc.program sled g.pos (g.blockOn sled) (rs % 768) false (.unit x.zone rs j))

/-- P and Q of a row whose last data unit has been folded: programmed, or skipped on a missing member (R86, R228). -/
def Dev.issueParity (d : Dev) (a : Nat) (g : Group) (rs : Nat) : Dev :=
  let n := d.zns (d.area a).zone
  d.each [n.d, n.d + 1] (fun y j =>
    if y.writable n g (n.sledOf j rs) (rs % 768) then y.issueUnit a g rs j
    else ((y.setArea a (fun x => { x with pOk := x.pOk || j == n.d, qOk := x.qOk || j == n.d + 1 })).rowevt a .skip (n.unitCode j) rs))

/-- The stripe groups written, reset or allocated while a member is missing are noted for its rejoin (R239). -/
def Dev.noteDirty (d : Dev) (n : Ns) (z gi : Nat) : Dev :=
  d.each (n.members.filter (fun s => (d.prty.departed.find s).isSome)) (fun x s =>
    { x with prty := { x.prty with departed := x.prty.departed.modify s (fun y =>
        { y with dirty := if y.dirty.contains (z * 4 + gi) then y.dirty else y.dirty ++ [z * 4 + gi] }) } })

/-- The fold of an area's slot has ended (R224, R227, R228): the unit is issued, or skipped where its member is missing. -/
def Dev.foldDone (d : Dev) (a : Nat) : Dev :=
  let x := d.area a
  let n := d.zns x.zone
  let rs := x.unit / n.d
  let u := x.unit % n.d
  if x.queued = false then d
  else if x.gen ≠ (d.zn x.zone).gen then (d.setArea a (fun y => { y with queued := false, fill := 0 })).advance a
  else
    match (d.zn x.zone).groupOf rs with
    | none => d
    | some g =>
      let d1 := (((d.foldBytes a u).count pPRTY 0x14C 1).noteDirty n x.zone (rs / 768)).setArea a (fun y => { y with queued := false, accRow := some rs, accN := u + 1 })
      let d2 := (d1.rowevt a .fold u rs).setZn x.zone (fun z => { z with phys := x.unit + 1 })
      let e := d2.setZn x.zone (fun z => { z with cmds := z.cmds.map ZCmd.spill })
      let d3 :=
        if e.writable n g (n.sledOf u rs) (rs % 768) then
          let e1 := e.setArea a (fun y => { y with folded := true })
          let e2 := if (e1.area a).st = .filling then e1.areaSt a .programming else e1
          e2.issueUnit a g rs u
        else
          ((e.setArea a (fun y => { y with degraded := true })).rowevt a .skip u rs).emptySlot a
      let d4 := if u + 1 = n.d then d3.issueParity a g rs else d3
      ((d4.rowRelease a).advance a).vaultRefresh

/-- A zone's area goes to DRAINING (R86). -/
def Dev.drain (d : Dev) (z : Nat) : Dev :=
  match (d.zn z).area with
  | none => d
  | some a => ((d.areaSt a .draining).rowevt a .drain 0 0).advance a

/-! ## Commands of a zone (R63 to R68) -/

/-- The accept pointer (R63): the staging pointer and what the earlier commands have yet to stage. -/
def Zone.accept (z : Zone) : Nat :=
  z.sptr + (z.cmds.map (fun c => match c with | .write _ _ len st _ _ _ => len - st | .action .. => 0)).sum

/-- The context of a command of a zone. -/
def ZCmd.ctx : ZCmd → Nat
  | .write c _ _ _ _ _ _ => c
  | .action c _ => c

/-- The commands of a list checked again from a pointer, in order (R63, R68): those that pass, and those that fail with their status. -/
def recheck (zcap : Nat) : Nat → List ZCmd → List ZCmd × List (Nat × Nat)
  | _, [] => ([], [])
  | p, .action c a :: cs => let r := recheck zcap p cs; (.action c a :: r.1, r.2)
  | p, .write c s len _ ap _ _ :: cs =>
    if ap = false ∧ s ≠ p then let r := recheck zcap p cs; (r.1, (c, 0x1BC) :: r.2)
    else if zcap < p + len then let r := recheck zcap p cs; (r.1, (c, 0x1B8) :: r.2)
    else let r := recheck zcap (p + len) cs; (.write c s len 0 ap false none :: r.1, r.2)


/-- The controller finishes a zone (R73): Full with ZFC, the write pointer at the last commit record, later writes failing. -/
def Dev.ctrlFinish (d : Dev) (z cause : Nat) : Dev :=
  let wp := (d.zn z).wp
  let d1 := (d.setZst z .full true cause).setZn z (fun x => { x with sptr := wp })
  let d2 := ((d1.failWrites z 0x1B9).count pZONE 0x128 1).raise pZONE 1 [zNs z, zIdx z, wp, cause]
  (d2.tellZone z).drain z

/-- The placement record of a descriptor extension (R77): class, heat, lifetime, pace and die set; the defaults where it is absent. -/
def bindRecord (ext : List Byte) (z : Zone) : Zone :=
  let b (i : Nat) : Nat := (ext.getD i 0).toNat
  if b 0 = 0xA5 then
    { z with cls := b 2 % 16, heat := b 3 % 4, life := b 4 + 256 * b 5, pace := b 6 + 256 * b 7,
             dieset := if 128 ≤ b 8 then some (b 8 % 64) else none }
  else { z with cls := 0, heat := 0, life := 0, pace := 0, dieset := none }

/-- An extension whose record is malformed (R78). -/
def badRecord (ext : List Byte) : Bool :=
  let b (i : Nat) : Nat := (ext.getD i 0).toNat
  b 0 == 0xA5 && (b 1 != 1 || b 2 / 16 != 0 || b 3 / 4 != 0 || b 8 / 64 % 2 != 0 || (List.range 7).any (fun i => b (9 + i) != 0))

/-- Staging and blocks that an activation had taken before its command ended go back (R59, R83). -/
def Dev.unactivate (d : Dev) (z : Nat) : Dev :=
  let zn := d.zn z
  if zn.st ≠ .empty then d
  else
    let blocks := zn.groups.flatMap (fun g => g.blocks.map (fun e => blkKey e.1 g.pos e.2))
    let d1 := match zn.area with | some a => d.freeArea a | none => d
    (d1.each blocks Dev.releaseBlk).setZn z (fun x => bindRecord [] { x with groups := [], area := none, slice := none, waiting := none })

/-- The fold that an area's slot waits for is given up: its command has been abandoned before any program of the unit (R68). -/
def Dev.cancelFold (d : Dev) (a : Nat) : Dev :=
  if (d.area a).queued = false then d
  else
    let mine (j : PJob) : Bool := decide (j.kind = .fold a)
    let d1 := d.setArea a (fun y => { y with queued := false })
    { d1 with prty := { d1.prty with jobs := d1.prty.jobs.keep (fun _ j => !mine j)
                                     running := d1.prty.running.filter (fun n => !(d1.prty.jobs.find n).any mine) } }

/-- A command that cannot reach its commit record is abandoned (R68): without a trace, or with its zone finished where it has
spilled.  Its own context ends with `status`, or is left to its caller where none is given.  Causes as event 0x2001. -/
def Dev.abandon (d : Dev) (z c cause : Nat) (status : Option Nat) : Dev :=
  let zn := d.zn z
  let n := d.zns z
  match zn.cmds.find? (fun x => match x with | .write k .. => k == c | _ => false) with
  | some (.write _ start _ staged _ spilled _) =>
    let finishCtx (e : Dev) : Dev := match status with | some s => e.commitCtx c s false 0 | none => e
    let drop (l : List ZCmd) : List ZCmd := l.filter (fun x => match x with | .write k .. => k != c | _ => true)
    if spilled then finishCtx ((d.setZn z (fun x => { x with cmds := drop x.cmds })).ctrlFinish z cause)
    else
      let i := zn.cmds.findIdx (fun x => match x with | .write k .. => k == c | _ => false)
      let p := if 0 < staged then start else zn.sptr
      let before := zn.cmds.take i
      let p' := p + (before.map (fun x => match x with | .write _ _ len st _ _ _ => len - st | .action .. => 0)).sum
      let r := recheck n.zcap p' (zn.cmds.drop (i + 1))
      let d1 := d.setZn z (fun x => { x with cmds := before ++ r.1, sptr := p })
      let d2 := match zn.area with
        | some a => if 0 < staged then (d1.cancelFold a).setArea a (fun y => { y with fill := p - y.unit * n.lpu }) else d1
        | none => d1
      finishCtx ((if i = 0 then d2.unactivate z else d2).failCtxs r.2)
  | _ => d

/-- The zone a command of a context waits in, where it does. -/
def Dev.zoneOfCtx (d : Dev) (c : Nat) : Option Nat :=
  (d.zone.zones.find? (fun e => e.2.cmds.any (fun x => match x with | .write k .. => k == c | _ => false))).map Prod.fst

/-- A command of a context is abandoned wherever it waits. -/
def Dev.abandonCtx (d : Dev) (c cause : Nat) (status : Option Nat) : Dev :=
  match d.zoneOfCtx c with
  | some z => d.abandon z c cause status
  | none => d

/-! ## Members lost for one group (R75, R171, R230) -/

/-- A zone is to become Read Only (R75): the unit of row `rs` on the failed sled counts as missing for its group alone, its area drains,
padding the row and programming P and Q with the failed unit's data in them, and then the zone is Read Only. -/
def Dev.makeReadOnly (d : Dev) (z sled rs : Nat) : Dev :=
  let gi := rs / 768
  let d1 := d.setZn z (fun x =>
    { x with groups := x.groups.mapIdx (fun i g => if i = gi ∧ ¬ g.missing.contains sled then { g with missing := g.missing ++ [sled] } else g)
             failing := if x.failing.isNone then some (sled, rs) else x.failing })
  match d1.areaOf z with
  | some (a, _) => (d1.areaSt a .draining).unitSkipped z rs ((d1.zns z).slotOn sled rs)
  | none => d1.becomeReadOnly z

/-! ## Allocation (R80 to R84) -/

/-- Bit `p` of a 256-bit mask held in eight registers of an instance, as epoch `e` has it. -/
def Dev.maskBit (d : Dev) (e : Word) (base inst p : Nat) : Bool :=
  bitOf (d.cellAt e pZONE (base + 4 * (p / 32)) inst) (p % 32)

/-- The owner of a die set. -/
def Dev.dsOwner (d : Dev) (e : Word) (s : Nat) : Nat := fld (d.cellAt e pZONE 0x184 s) 0 8

/-- Whether a position is allowed to a partition (R81). -/
def Dev.posAllowed (d : Dev) (e : Word) (part : Option Nat) (p : Nat) : Bool :=
  if d.partitioned = false then true
  else
    let sets := List.range 64
    match part with
    | some q =>
      if sets.any (fun s => d.dsOwner e s == q) then sets.any (fun s => d.dsOwner e s == q && d.maskBit e 0x164 s p)
      else !sets.any (fun s => d.dsOwner e s != 0xFF && d.maskBit e 0x164 s p)
    | none => !sets.any (fun s => d.dsOwner e s != 0xFF && d.maskBit e 0x164 s p)

/-- A die-set request is honoured (R81). -/
def Dev.dsHonoured (d : Dev) (e : Word) (part : Option Nat) (s : Nat) : Bool :=
  !d.partitioned || d.dsOwner e s == 0xFF || part == some (d.dsOwner e s)

/-- A position is eligible for a namespace (R82). -/
def Dev.eligible (d : Dev) (n : Ns) (p : Nat) : Bool :=
  n.members.all (fun s => d.diePresent (dieKey s p) && !(d.die (dieKey s p)).retired
    && (d.memberMissing n s || !(d.erasedOf (dieKey s p)).isEmpty))

/-- Groups of active zones at a position, and of those bound hot (R82). -/
def Dev.activeGroups (d : Dev) (p : Nat) : Nat :=
  (d.zone.zones.map (fun e => if e.2.st.active then (e.2.groups.filter (fun g => g.pos == p)).length else 0)).sum
def Dev.hotGroups (d : Dev) (p : Nat) : Nat :=
  (d.zone.zones.map (fun e => if e.2.st.active ∧ e.2.heat = 3 then (e.2.groups.filter (fun g => g.pos == p)).length else 0)).sum

/-- The positions in the order in which the search of a class meets them. -/
def posOrder (cursor : Nat) : List Nat := (List.range 256).map (fun k => (cursor + 1 + k) % 256)

/-- The first element with the least key. -/
def firstMin {α : Type} (key : α → Nat) : List α → Option α
  | [] => none
  | x :: xs =>
    match firstMin key xs with
    | none => some x
    | some y => if key x ≤ key y then some x else some y

/-- The positions a zone may use: its class and its die set, or all that are allowed where none of those is eligible (R82). -/
def Dev.candidates (d : Dev) (z : Nat) (e : Word) : List Nat × Bool :=
  let zn := d.zn z
  let n := d.zns z
  let part := zn.slice.map (· / 64)
  let order := posOrder (n.cursors.get 255 zn.cls)
  let allowed := order.filter (d.posAllowed e part)
  let byClass := allowed.filter (d.maskBit e 0x134 zn.cls)
  let cand := match zn.dieset with
    | some s => if d.dsHonoured e part s then byClass.filter (d.maskBit e 0x164 s) else byClass
    | none => byClass
  let ignored := match zn.dieset with
    | some s => !d.dsHonoured e part s
    | none => false
  if cand.any (d.eligible n) then (cand, ignored) else (allowed, ignored)

/-- The position for a zone's next group (R82). -/
def Dev.choosePos (d : Dev) (z : Nat) (e : Word) : Option Nat :=
  let zn := d.zn z
  let n := d.zns z
  let score (p : Nat) : Nat :=
    d.rfAt e pZONE 0x800 16 8 * d.activeGroups p + (if zn.heat = 3 then d.rfAt e pZONE 0x800 0 8 * d.hotGroups p else 0)
  firstMin score ((d.candidates z e).1.filter (d.eligible n))

/-- The erased block a zone takes on a die, by its LIFETIME (R83). -/
def Dev.pickBlock (d : Dev) (z k : Nat) (e : Word) : Option Nat :=
  let life := (d.zn z).life
  let long := d.rfAt e pZONE 0x804 16 16
  let short := d.rfAt e pZONE 0x804 0 16
  let l := d.erasedOf k
  let lowest := firstMin (fun (x : Nat × Block) => x.2.erases) l
  let oldest := firstMin (fun (x : Nat × Block) => x.2.erasedAt) l
  let worn := firstMin (fun (x : Nat × Block) => 65536 - x.2.erases) (l.filter (fun x => decide (x.2.erases < d.wearCeil (k / 256))))
  let pick :=
    if long ≤ short then oldest
    else if 1 ≤ life ∧ life ≤ short then lowest
    else if long ≤ life then (match worn with | some x => some x | none => lowest)
    else oldest
  pick.map Prod.fst

/-- An erased block is taken: it is ALLOCATED and empty (R160). -/
def Dev.takeBlk (d : Dev) (b : Nat) : Dev :=
  (d.setBlk b (fun x => { x with st := .allocated, confirmed := 0, bad := false })).floorCheck (b / 2048)

/-- A block awaits erase (R83). -/
def Dev.awaiting (d : Dev) (k : Nat) : Bool :=
  (d.dieBlocks k).any (fun e => e.2.st == .queued || e.2.st == .erasing || e.2.st == .uncertain)

/-- A member's block of a new group. -/
def placeOne (z p : Nat) (e : Word) (acc : Dev × SMap Nat) (s : Nat) : Dev × SMap Nat :=
  match acc.1.pickBlock z (dieKey s p) e with
  | some b => (acc.1.takeBlk (dieKey s p * 2048 + b), acc.2.set s b)
  | none => acc

/-- A group is allocated at a position: a block on every present member, on a rebuild target where it has one (R83, R84, R235). -/
def Dev.placeGroup (d : Dev) (z p : Nat) (e : Word) : Dev :=
  let n := d.zns z
  let zn := d.zn z
  let gi := zn.groups.length
  let up := n.members.filter (fun s => (d.port s).st == .up && !hasBit d.peer.fenceLost s)
  let r := up.foldl (placeOne z p e) (d, [])
  let d1 := r.1.setZn z (fun x => { x with groups := x.groups ++ [{ pos := p, blocks := r.2, missing := [] }], waiting := none })
  let d2 := (d1.modNs (zNs z) (fun x => { x with cursors := x.cursors.put 255 zn.cls p })).noteDirty n z gi
  d2.journal (.group (zNs z) (zIdx z) gi p r.2)

/-- What an attempt to allocate a group answers (R82, R83). -/
inductive AllocEnd where
  | placed | waits | exceeded
  deriving DecidableEq, Repr

/-- A stripe group is allocated, or waits for an erase brought forward, or cannot be had (R82, R83).  Where the zone was activated by the PF, no
partition is behind its die-set request, and event 0x2004 tells 0xFF, the code that DSET_OWNER has for none (DESIGN CHOICE, log entry
77). -/
def Dev.allocate (d : Dev) (z : Nat) (e : Word) : Dev × AllocEnd :=
  let n := d.zns z
  let zn := d.zn z
  let c := d.candidates z e
  let d1 := match zn.dieset with
    | some s => if c.2 then d.raise pZONE 4 [zNs z, zIdx z, s, (zn.slice.map (· / 64)).getD 0xFF] else d
    | none => d
  match d.choosePos z e with
  | some p => (d1.placeGroup z p e, .placed)
  | none =>
    let present := n.members.filter (fun s => !d.memberMissing n s)
    let lacking (p : Nat) : List Nat := present.filter (fun s => (d.erasedOf (dieKey s p)).isEmpty)
    let hopeful := (posOrder (n.cursors.get 255 zn.cls)).filter (fun p =>
      c.1.contains p && n.members.all (fun s => d.diePresent (dieKey s p) && !(d.die (dieKey s p)).retired)
        && (lacking p).all (fun s => d.awaiting (dieKey s p)))
    match firstMin (fun p => (lacking p).length) hopeful with
    | none => (d.raise pZONE 5 [zNs z, zIdx z, zn.cls, maskOf present], .exceeded)
    | some p =>
      if zn.waiting.isSome then (d, .waits)
      else
        let d2 := (d.setZn z (fun x => { x with waiting := some p })).raise pZONE 8 [zNs z, zIdx z, zn.cls, 0]
        (d2.each (lacking p) (fun x s => x.makeUrgent (dieKey s p)), .waits)

/-! ## Activation (R59, R347) -/

/-- What an activation answers. -/
inductive ActEnd where
  | bound | waits | tooMany
  deriving DecidableEq, Repr

/-- Areas that drain and satisfy a test on their charge. -/
def Dev.draining (d : Dev) (p : Area → Bool) : Nat := d.zone.areas.count (fun _ a => a.st == .draining && p a)

/-- Areas held or draining that a port's PF has borrowed. -/
def Dev.pfAreas (d : Dev) (port : Nat) : Nat := d.zone.areas.count (fun _ a => a.st != .free && a.pf == some port)

/-- The base slices of a port's partitions (R297, R344). -/
def Dev.portParts (d : Dev) (port : Nat) : List Nat :=
  if d.portMode = 0 then List.range 64 else (List.range 32).map (· + 32 * port)

/-- The first of two adjacent areas that are FREE. -/
def freePair (m : SMap Area) : Nat → Nat → Nat
  | 0, i => i
  | n + 1, i => if (m.find i).isSome || (m.find (i + 1)).isSome then freePair m n (i + 1) else i

/-- An area or a pair is bound to a zone (R59, R86). -/
def Dev.bindArea (d : Dev) (z : Nat) (charge pf slice : Option Nat) : Dev :=
  let plc := (d.zns z).plc
  let a := if plc then freePair d.zone.areas 8191 0 else d.zone.areas.fresh 8192 0
  let x : Area := { Area.reset with st := .filling, zone := z, gen := (d.zn z).gen, pair := plc, charge := charge, pf := pf }
  let d1 := d.setArea a (fun _ => x)
  let d2 := if plc then d1.setArea (a + 1) (fun _ => { x with pair := false }) else d1
  let n := if plc then 2 else 1
  let d3 := match charge with
    | some s => d2.setSlice s (fun y => { y with heldArea := y.heldArea + n })
    | none => d2
  (d3.setZn z (fun y => { y with area := some a, slice := slice })).rowevt a .bind 0 0

/-- A set of areas leaves room for a zone's staging: an area, or two adjacent ones (R59, R85). -/
def roomFor (m : SMap Area) (plc : Bool) : Bool :=
  if plc then decide (freePair m 8191 0 < 8191) else decide (m.length < 8192)

/-- Whether a supply has what an activation needs now, or would have it once areas now in DRAINING have returned to it, or neither
(R59). -/
def supply (now_ later : Bool) : ActEnd := if now_ then .bound else if later then .waits else .tooMany

/-- The device pool's supply for a zone (R59): any draining area counts. -/
def Dev.poolSupply (d : Dev) (plc : Bool) : ActEnd :=
  supply (roomFor d.zone.areas plc) (roomFor (d.zone.areas.keep (fun _ a => a.st != .draining)) plc)

/-- A slice's supply of `n` areas: only draining areas charged to it count. -/
def Dev.sliceSupply (d : Dev) (s n : Nat) : ActEnd :=
  let y := d.slice s
  supply (decide (y.heldArea + n ≤ y.areaLimit)) (decide (y.heldArea + n ≤ y.areaLimit + d.draining (fun a => a.charge == some s)))

/-- The areas that a base slice has free to lend, those now draining included or not. -/
def Dev.lendable (d : Dev) (s : Nat) (later : Bool) : Nat :=
  (d.slice s).resArea - (d.slice s).heldArea + (if later then d.draining (fun a => a.charge == some s) else 0)

/-- The bases' supply of `n` areas to the PF of a port: only areas draining that are charged to a base slice of the port count, and a PLC
pair comes from one slice (R59, R347). -/
def Dev.baseSupply (d : Dev) (port n : Nat) : ActEnd :=
  let bases := (d.portParts port).map (· * 64)
  supply (bases.any (fun s => decide (n ≤ d.lendable s false))) (bases.any (fun s => decide (n ≤ d.lendable s true)))

/-- The supply of `n` areas below PF_LIMIT (R347). -/
def Dev.pfSupply (d : Dev) (port n : Nat) : ActEnd :=
  let lim := d.rf pPART 0x110 16 16
  supply (decide (d.pfAreas port + n ≤ lim)) (decide (d.pfAreas port + n ≤ lim + d.draining (fun a => a.pf == some port)))

/-- Every supply that an activation draws on must have what it needs: it waits where what is lacking would come from draining areas, and
fails where one of them can never have it (R59). -/
def ActEnd.both : ActEnd → ActEnd → ActEnd
  | .bound, x => x
  | .waits, .bound => .waits
  | .waits, x => x
  | .tooMany, _ => .tooMany

/-- A PF that is at its limit is told, once in each episode (R347). -/
def Dev.tellPfLimit (d : Dev) (port : Nat) : Dev :=
  if d.ten.pfTold.contains port then d
  else ({ d with ten := { d.ten with pfTold := d.ten.pfTold ++ [port] } }).raise pPART 3
    [port, d.host.ctxs.count (fun c y => ctxPort c == port && y.slice.isNone && y.lender.isSome), d.pfAreas port, 0]

/-- A zone leaving Empty takes its staging: from the slice's reservation, from the base slice a PF borrows from, or from the device
pool; it waits where draining areas would supply it (R59, R347). -/
def Dev.takeStaging (d : Dev) (z port : Nat) (slice : Option Nat) : Dev × ActEnd :=
  let plc := (d.zns z).plc
  let n := if plc then 2 else 1
  let pool := d.poolSupply plc
  match slice with
  | some s =>
    let r := pool.both (d.sliceSupply s n)
    (if r = .bound then d.bindArea z (some s) none (some s) else d, r)
  | none =>
    if d.partitioned = false then (if pool = .bound then d.bindArea z none none none else d, pool)
    else
      let lim := d.pfSupply port n
      let r := (pool.both lim).both (d.baseSupply port n)
      let lender := firstMin (fun s => 8192 - d.lendable s false) ((d.portParts port).map (· * 64))
      let d1 := if lim = .bound then d else d.tellPfLimit port
      (if r = .bound then d1.bindArea z lender (some port) none else d1, r)

end Sys2Proof.Machine
end

