-- ==== Sys2Proof/Machine/CopyOps.lean ====
section
/-! DEFINITION. Reconstruction over GF(2^8), copies of member blocks for replacement and migration, read-backs, and members replaced or
given up (R74, R75, R159, R166, R171, R222 to R225, R233 to R238, R557). -/

namespace Sys2Proof.Machine

/-! ## The code (R222, R225) -/

/-- Product in GF(2^8) over 0x11D. -/
def gfMulN : Nat → Nat → Nat → Nat
  | 0, _, _ => 0
  | n + 1, a, b => (if a % 2 = 1 then b else 0) ^^^ gfMulN n (a / 2) (gfDouble b)
def gfMul (a b : Nat) : Nat := gfMulN 8 a b

/-- `a^n`, and the inverse `a^254`. -/
def gfExp (a : Nat) : Nat → Nat
  | 0 => 1
  | n + 1 => gfMul a (gfExp a n)
def gfInv (a : Nat) : Nat := gfExp a 254

/-- `g^k`, with `g^255` = 1; `g^-k` is `g^(255 − k)`. -/
def gfG (k : Nat) : Nat := gfPow (k % 255) 1

/-- Bytes times a constant of the field. -/
def gfTimes (c : Nat) (bs : List Byte) : List Byte := bs.map (fun b => BitVec.ofNat 8 (gfMul c b.toNat))

/-- Sum of byte strings, from a first one. -/
def xorAll (start : List Byte) (l : List (List Byte)) : List Byte := l.foldl xorBytes start

/-- The data unit `x` of a row of `dn` data units, from the units at hand (R225): data units by number, P under `P`, Q under `Q`. -/
def solveData (dn x : Nat) (units : SMap (List Byte)) (p q : Option (List Byte)) : List Byte :=
  let others := (List.range dn).filter (fun u => u != x)
  let have_ := others.filter (fun u => (units.find u).isSome)
  let gone := others.filter (fun u => (units.find u).isNone)
  let plain := have_.map (fun u => units.get [] u)
  let weighted := have_.map (fun u => gfScale u (units.get [] u))
  match gone, p, q with
  | [], some p, _ => xorAll p plain
  | [], none, some q => gfTimes (gfG (255 - x)) (xorAll q weighted)
  | [y], some p, some q =>
    let pxy := xorAll p plain
    let qxy := xorAll q weighted
    let (lo, hi) := if x < y then (x, y) else (y, x)
    let dlo := gfTimes (gfInv (gfG (hi - lo) ^^^ 1)) (xorBytes (gfTimes (gfG (hi - lo)) pxy) (gfTimes (gfG (255 - lo)) qxy))
    if x = lo then dlo else xorBytes pxy dlo
  | _, _, _ => []

/-- Slot `j` of a row (a data unit, P at `dn`, Q at `dn` + 1) from the units at hand, of which `folded` data units exist (R225, R229). -/
def solveSlot (dn folded j : Nat) (got : SMap (List Byte)) : List Byte :=
  let p := SMap.find got dn
  let q := SMap.find got (dn + 1)
  let units := got.filter (fun e => decide (e.1 < dn))
  if j < dn then solveData folded j units p q
  else
    let gone := (List.range folded).filter (fun u => (SMap.find units u).isNone)
    let full := gone.foldl (fun (m : SMap (List Byte)) u => m.set u (solveData folded u units p q)) units
    let bs := (List.range folded).map (fun u => if j = dn then full.get [] u else gfScale u (full.get [] u))
    match bs with
    | [] => []
    | b :: t => xorAll b t

/-- The metadata of a reconstructed block: the spare is not part of the code (R222), so where a format has metadata they are free. -/
def Dev.openMeta (d : Dev) (n : Ns) (i : Nat) : List Byte :=
  if n.meta_ = 0 then List.replicate 64 0
  else (List.range 64).map (fun k => BitVec.ofNat 8 (Config.freeNat (d.free + 64 * i + k)))

/-- The result of a reconstruction, codeword by codeword (R225). -/
def Dev.solveRecon (d : Dev) (r : Recon) : SMap (List Byte) :=
  let z := zoneKey r.nsid r.zone
  let n := d.zns z
  let units (i : Nat) : SMap (List Byte) := r.good.foldl (fun (m : SMap (List Byte)) s =>
    SMap.set m s ((SMap.get [] (SMap.get [] r.got s) i).take 4096)) []
  (List.range r.count).map (fun i => (i, solveSlot n.d r.folded r.target (units i) ++ d.openMeta n i))

/-! ## The data of a program (R72, R135, R224) -/

/-- The bodies of a unit's codewords as staging holds them: a data unit from the slot, P and Q from the accumulators. -/
def Dev.stagedBody (d : Dev) (z j off : Nat) : List Byte :=
  let n := d.zns z
  match d.areaOf z with
  | none => bodyOf (List.replicate 4096 0) []
  | some (a, x) =>
    let part := if j < n.d then 0 else j - n.d + 1
    bodyOf (d.bytes (partAddr n.plc a part + off * 4096) 4096) (if j < n.d then x.metas.get [] off else [])

def Dev.modCopy (d : Dev) (i : Nat) (f : CopyJob → CopyJob) : Dev :=
  { d with media := { d.media with copies := d.media.copies.modify i f } }

/-- Key under which a copy's buffer notes that its word line is lost (R74). -/
def lostMark : Nat := 1000

/-- The stamp fields of slot `j` of a zone's row. -/
def Dev.stampOf (d : Dev) (z gen rs j plane page version : Nat) : List Byte :=
  pageStamp (zNs z) (zIdx z) gen rs ((d.zns z).unitCode j) plane page version

/-- The bursts of a PROGRAM, by what it is for. -/
def Dev.burstsOf (d : Dev) (x : Desc) : List Pkt :=
  match x.use with
  | .unit z rs j =>
    programBursts (d.zns z).pages x.tag (d.stagedBody z j) (fun pl pg => d.stampOf z (d.zn z).gen rs j pl pg 1)
  | .copyProg i wl =>
    match d.media.copies.find i with
    | none => []
    | some c =>
      let n := d.zns c.zone
      let rs := c.group * 768 + wl
      let j := n.slotOn c.sled rs
      let lost := (c.buf.find lostMark).isSome
      let body (off : Nat) : List Byte := if wl < c.total ∨ c.unit.isNone then c.buf.get [] off else d.stagedBody c.zone j off
      programBursts n.pages x.tag body (fun pl pg => d.stampOf c.zone (d.zn c.zone).gen rs j pl pg (if lost then 0x80 else 1))
  | .rebuildProg z rs =>
    match d.prty.rebuild with
    | none => []
    | some r =>
      let n := d.zns z
      let j := n.slotOn r.target.sled rs
      programBursts n.pages x.tag (fun off => r.buf.get (bodyOf (List.replicate 4096 0) []) off)
        (fun pl pg => d.stampOf z (d.zn z).gen rs j pl pg (if r.gone then 0x80 else 1))
  | _ => []

/-! ## Copies (R74, R166) -/

/-- A row that cannot be reconstructed: journalled, and told (R74, R237). -/
def Dev.loseRow (d : Dev) (z rs sled : Nat) : Dev :=
  let j := (d.zns z).slotOn sled rs
  let d1 := d.setZn z (fun x => { x with lost := if x.lost.contains (rs, j) then x.lost else x.lost ++ [(rs, j)] })
  (d1.journal (.lostrow (zNs z) (zIdx z) sled (rs / 768) rs)).raise pPRTY 3 [zNs z, zIdx z, sled * 65536 + rs / 768, rs]

/-- The next word line of a copy is read from its source, or the copy's last step is taken: the failed unit of the row is programmed
behind the copied word lines (R74 steps 3 and 4, R166 step 2). -/
def Dev.copyNext (d : Dev) (i : Nat) : Dev :=
  match d.media.copies.find i with
  | none => d
  | some c =>
    let n := d.zns c.zone
    if c.dst = 0x1FFF then d
    else if c.next < c.total then
      d.each (List.range n.pages) (fun x p => x.enqueueBg .read (Desc.read c.sled c.pos c.src c.next p 0xFFFF 0 false (.copyRead i c.next)))
    else d.enqueueBg .program (Desc.program c.sled c.pos c.dst c.next false (.copyProg i c.next))

/-- A migration that has copied everything, and a replacement that has programmed its unit, are at their end. -/
def CopyJob.complete (c : CopyJob) : Bool := match c.unit with | none => c.next == c.total | some _ => decide (c.total < c.next)

/-- A member counts as missing for one group alone (R75, R171, R238). -/
def Dev.missGroup (d : Dev) (z gi sled : Nat) : Dev :=
  d.setZn z (fun x => { x with groups := x.groups.mapIdx (fun i g =>
    if i = gi ∧ ¬ g.missing.contains sled then { g with missing := g.missing ++ [sled] } else g) })

/-- The zone map takes the new block (R74 step 5, R166 step 3). -/
def Dev.mapBlock (d : Dev) (z gi sled blk : Nat) : Dev :=
  let d1 := d.setZn z (fun x => { x with groups := x.groups.mapIdx (fun i g => if i = gi then { g with blocks := g.blocks.set sled blk } else g) })
  match (d1.zn z).groups[gi]? with
  | some g => d1.journal (.group (zNs z) (zIdx z) gi g.pos g.blocks)
  | none => d1

/-- A block whose copy is complete leaves the zone: retired after a failed program, else queued for erase (R74, R159, R160). -/
def Dev.retireOrRelease (d : Dev) (b : Nat) : Dev := if (d.blk b).bad then d.retireBlk b 0 else d.releaseBlk b

/-- A copy ends (R74, R166). -/
def Dev.copyDone (d : Dev) (i : Nat) : Dev :=
  match d.media.copies.find i with
  | none => d
  | some c =>
    let k := dieKey c.sled c.pos
    let d1 := { d with media := { d.media with copies := d.media.copies.del i } }
    let d2 := (d1.mapBlock c.zone c.group c.sled c.dst).retireOrRelease (k * 2048 + c.src)
    match c.kind with
    | .migrate disturb =>
      (d2.count pMEDI 0x1B4 1).raise pMEDI 10 [k, c.src, c.dst, if disturb then 1 else 0]
    | .replace _ =>
      let d3 := d2.raise pZONE 2 [zNs c.zone, zIdx c.zone, c.sled * 65536 + c.group, c.src * 65536 + c.dst]
      match c.unit with
      | some (rs, j) => d3.unitConfirmed c.zone rs j
      | none => d3

/-- A copy takes the next number and begins; a block of which no line is confirmed is copied at once (R166). -/
def Dev.beginCopy (d : Dev) (c : CopyJob) : Dev :=
  let i := d.media.nextCopy
  let d1 := { d with media := { d.media with copies := d.media.copies.set i c, nextCopy := i + 1 } }
  if c.complete then d1.copyDone i else d1.copyNext i

/-- A member replacement begins (R74): another erased block at the position, or a wait for one, or the zone made Read Only (R75). -/
def Dev.replaceMember (d : Dev) (z rs j : Nat) (failed : Bool) : Dev :=
  let n := d.zns z
  let zn := d.zn z
  match zn.groupOf rs with
  | none => d
  | some g =>
    let s := n.sledOf j rs
    let k := dieKey s g.pos
    let old := g.blockOn s
    let d0 := if failed then d.setBlk (k * 2048 + old) (fun x => { x with bad := true }) else d
    let job (dst : Nat) : CopyJob :=
      { kind := .replace failed, zone := z, group := rs / 768, sled := s, pos := g.pos, src := old, dst := dst, next := 0,
        total := rs % 768, unit := some (rs, j), buf := [] }
    match d0.pickBlock z k d.sysc.epoch with
    | some b => (d0.takeBlk (k * 2048 + b)).beginCopy (job b)
    | none => if d0.awaiting k then d0.beginCopy (job 0x1FFF) else d0.makeReadOnly z s rs

/-- A replacement whose target has failed starts again with another block; with none left, R75 applies (R74). -/
def Dev.restartCopy (d : Dev) (i : Nat) : Dev :=
  match d.media.copies.find i with
  | none => d
  | some c =>
    let k := dieKey c.sled c.pos
    let d1 := { d with media := { d.media with copies := d.media.copies.del i } }
    match c.unit with
    | some (rs, j) => d1.replaceMember c.zone rs j (match c.kind with | .replace f => f | .migrate _ => false)
    | none =>
      match d1.pickBlock c.zone k d.sysc.epoch with
      | some b => (d1.takeBlk (k * 2048 + b)).beginCopy { c with dst := b, next := 0, buf := [] }
      | none =>
        match c.kind with
        | .migrate _ => d1
        | .replace _ => if d1.awaiting k then d1.beginCopy { c with dst := 0x1FFF, next := 0, buf := [] } else d1.missGroup c.zone c.group c.sled

/-- A block has become ERASED: a replacement that waits for one at this die takes it. -/
def Dev.serveCopies (d : Dev) (k : Nat) : Dev :=
  match d.media.copies.find? (fun e => e.2.dst == 0x1FFF && dieKey e.2.sled e.2.pos == k) with
  | none => d
  | some (i, c) =>
    match d.pickBlock c.zone k d.sysc.epoch with
    | some b => ((d.takeBlk (k * 2048 + b)).modCopy i (fun x => { x with dst := b })).copyNext i
    | none => d

/-- A waiting replacement whose position has run out of blocks that could be erased makes its zone Read Only (R75). -/
def Dev.giveUpCopies (d : Dev) (k : Nat) : Dev :=
  match d.media.copies.find? (fun e => e.2.dst == 0x1FFF && dieKey e.2.sled e.2.pos == k) with
  | none => d
  | some (i, c) =>
    if d.awaiting k ∨ (d.erasedOf k).isEmpty = false then d
    else
      let d1 := { d with media := { d.media with copies := d.media.copies.del i } }
      match c.unit with
      | some (rs, _) => d1.makeReadOnly c.zone c.sled rs
      | none => d1.missGroup c.zone c.group c.sled

/-- A word line of a copy has been programmed. -/
def Dev.copyProgDone (d : Dev) (i : Nat) : Dev :=
  let d1 := d.modCopy i (fun c => { c with next := c.next + 1, buf := [] })
  match d1.media.copies.find i with
  | none => d1
  | some c => if c.complete then d1.copyDone i else d1.copyNext i

/-- A copy of a zone is abandoned (R166): its queued work leaves and its target waits for its erase. -/
def Dev.dropCopy (d : Dev) (i : Nat) : Dev :=
  match d.media.copies.find i with
  | none => d
  | some c =>
    let mine (u : DieUse) : Bool := match u with | .copyRead j _ => j == i | .copyProg j _ => j == i | _ => false
    let recons := (d.sched.recons.filter (fun e => match e.2.who with | .copy j _ => j == i | _ => false)).map Prod.fst
    let d1 := (d.unqueue mine).each recons Dev.endRecon
    let d2 := { d1 with media := { d1.media with copies := d1.media.copies.del i } }
    if c.dst = 0x1FFF then d2 else d2.releaseBlk (dieKey c.sled c.pos * 2048 + c.dst)
def Dev.dropCopies (d : Dev) (p : CopyJob → Bool) : Dev :=
  d.each ((d.media.copies.filter (fun e => p e.2)).map Prod.fst) Dev.dropCopy

/-- Codewords of a copy's word line have been read; with the last, the word line is programmed. -/
def Dev.copyGot (d : Dev) (i wl : Nat) (data : SMap (List Byte)) : Dev :=
  match d.media.copies.find i with
  | none => d
  | some c =>
    if c.next ≠ wl then d
    else
      let n := d.zns c.zone
      let buf := data.foldl (fun (m : SMap (List Byte)) e => m.set e.1 e.2) c.buf
      let d1 := d.modCopy i (fun x => { x with buf := buf })
      if n.lpu ≤ (buf.filter (fun e => decide (e.1 < n.lpu))).length then
        d1.enqueueBg .program (Desc.program c.sled c.pos c.dst wl false (.copyProg i wl))
      else d1

/-- A unit of zeros. -/
def Ns.zeroUnit (n : Ns) : SMap (List Byte) := (List.range n.lpu).map (fun o => (o, bodyOf (List.replicate 4096 0) []))

/-- A word line that can be had neither by reading nor from its row is programmed as zeros and told as lost (R74 step 3). -/
def Dev.copyLost (d : Dev) (i wl : Nat) : Dev :=
  match d.media.copies.find i with
  | none => d
  | some c =>
    let n := d.zns c.zone
    ((d.loseRow c.zone (c.group * 768 + wl) c.sled).modCopy i (fun x => { x with buf := [(lostMark, [])] })).copyGot i wl n.zeroUnit

/-- A background reconstruction of a whole unit of a row (R74, R166, R234). -/
def Dev.bgRecon (d : Dev) (who : ReconFor) (z rs j : Nat) : Recon :=
  { who := who, pool := none, paid := [], nsid := zNs z, zone := zIdx z, zgen := (d.zn z).gen, row := rs, target := j, need := 0, folded := 0,
    old := none, begun := false, dead := false, asked := [], good := [], bad := [], wait := [], got := [], gen := 0, cls := .c, req := { pf := true, slice := 0, gen := 0 },
    epoch := d.sysc.epoch, deadline := d.progDue, off := 0, count := (d.zns z).lpu, waiting := false, order := 0 }

/-- A page of a copy's source cannot be read: the word line is reconstructed from its row (R74 step 3). -/
def Dev.copyBad (d : Dev) (i wl : Nat) : Dev :=
  match d.media.copies.find i with
  | none => d
  | some c =>
    if c.next ≠ wl ∨ d.sched.recons.any (fun e => decide (e.2.who = .copy i wl) && !e.2.dead) then d
    else
      let rs := c.group * 768 + wl
      let e := d.startForced (d.bgRecon (.copy i wl) c.zone rs ((d.zns c.zone).slotOn c.sled rs))
      if e.2.isNone then d.copyLost i wl else e.1

/-! ## Read-backs (R159) -/

/-- The pages a read-back reads: every codeword of the word line and of the one below, at step 0. -/
def Dev.startReadBack (d : Dev) (b : Nat) (rb : ReadBack) : Dev :=
  let k := b / 2048
  let pages := if d.sledPlc (k / 256) then 5 else 4
  let wls := if rb.wl = 0 then [0] else [rb.wl, rb.wl - 1]
  let d1 := { d with media := { d.media with readBacks := d.media.readBacks.set b { rb with left := pages * wls.length, good := true }
                                             unconfirmed := d.media.unconfirmed.del b } }
  d1.each wls (fun x w => x.each (List.range pages) (fun y p =>
    y.enqueueBg .read (Desc.read (k / 256) (k % 256) (b % 2048) w p 0xFFFF 0 false .readBack)))

/-- A block is the member of a zone's row that carries slot `j`: a program of a row on any other block is one of a generation that a Reset has
ended. -/
def Dev.unitOn (d : Dev) (z rs j b : Nat) : Bool :=
  let s := (d.zns z).sledOf j rs
  ((d.zn z).groupOf rs).any (fun g => dieKey s g.pos * 2048 + g.blockOn s == b)

/-- A program is safe on flash: its block holds one word line more, and whoever asked for it goes on (R141). -/
def Dev.progGood (d : Dev) (b wl : Nat) (u : DieUse) : Dev :=
  let d1 := d.setBlk b (fun x => { x with confirmed := wl + 1 })
  match u with
  | .unit z rs j => if d1.unitOn z rs j b then d1.unitConfirmed z rs j else d1.unitDiscarded z rs j
  | .copyProg i _ => d1.copyProgDone i
  | _ => d1

/-- The unit in hand of the running rebuild is that of a zone's row, on a block: a program of any other is one of a group that the rebuild
has left (R238). -/
def Dev.rebuildsRow (d : Dev) (z rs b : Nat) : Bool :=
  d.prty.rebuild.any (fun r => r.busy && r.cur.any (fun c => c.1 == z && c.2.2.1 == rs)
    && ((d.zn z).groupOf rs).any (fun g => dieKey r.target.sled g.pos * 2048 + g.blockOn r.target.sled == b))

/-- The unit of the running rebuild that is programmed is in place: the next row follows (R234). -/
def Dev.rebuildNext (d : Dev) (z rs b : Nat) : Dev :=
  if d.rebuildsRow z rs b = false then d
  else
    let recent := d.prty.achieved.filter (fun e => decide (d.now < e.1 + 1000000000))
    { d with prty := { d.prty with achieved := recent ++ [(d.now, (d.zns z).unitBytes)], rebuild := d.prty.rebuild.map (fun r =>
        { r with busy := false, buf := [], gone := false, done := if r.gone then r.done else r.done + 1
                 left := if r.gone then r.left else r.left - 1
                 cur := r.cur.map (fun c => (c.1, c.2.1, c.2.2.1 + 1, c.2.2.2)) }) } }

/-- The target's group of a rebuild is given up: its member counts as missing for the group alone, and its units leave the total
(R238). -/
def Dev.rebuildSkip (d : Dev) : Dev :=
  match d.prty.rebuild with
  | none => d
  | some r =>
    match r.cur with
    | none => d
    | some (z, gi, row, last) =>
      let d1 := d.missGroup z gi r.target.sled
      { d1 with prty := { d1.prty with rebuild := some { r with cur := none, busy := false, buf := [], gone := false
                                                                total := r.total - (last - row), left := r.left - (last - row) } } }

/-- A program on the rebuild's target has failed for good: the rows already there are copied to another block (R238). -/
def Dev.rebuildReplace (d : Dev) (z rs : Nat) (failed : Bool) : Dev :=
  match d.prty.rebuild with
  | none => d
  | some r =>
    match (d.zn z).groupOf rs with
    | none => d
    | some g =>
      let s := r.target.sled
      let k := dieKey s g.pos
      let old := g.blockOn s
      let d0 := if failed then d.setBlk (k * 2048 + old) (fun x => { x with bad := true }) else d
      let job (b : Nat) : CopyJob :=
        { kind := .replace failed, zone := z, group := rs / 768, sled := s, pos := g.pos, src := old, dst := b, next := 0,
          total := rs % 768, unit := none, buf := [] }
      let d1 := { d0 with prty := { d0.prty with rebuild := some { r with busy := false } } }
      if rs % 768 = 0 then (d1.mapBlock z (rs / 768) s 0x1FFF).retireOrRelease (k * 2048 + old)
      else match d0.pickBlock z k d.sysc.epoch with
      | some b => (d1.takeBlk (k * 2048 + b)).beginCopy (job b)
      | none => if d0.awaiting k then d1.beginCopy (job 0x1FFF) else d1.rebuildSkip

/-- The running rebuild leaves the group in hand, where it is one of a zone that has been reset or set Offline: its work ends (R238). -/
def Dev.rebuildLeave (d : Dev) (z : Nat) : Dev :=
  match d.prty.rebuild with
  | none => d
  | some r =>
    if r.cur.any (fun c => c.1 == z) then
      let dead := (d.sched.recons.filter (fun e => decide (e.2.who = .rebuild))).map Prod.fst
      let d1 := (d.unqueue (fun u => match u with | .rebuildProg _ _ => true | _ => false)).each dead Dev.endRecon
      { d1 with prty := { d1.prty with rebuild := some { r with cur := none, busy := false, buf := [], gone := false } } }
    else d

/-- A program has failed for good: PROG_FAIL or a timeout (`failed`), or a read-back that found it bad (R159). -/
def Dev.progLost (d : Dev) (b : Nat) (u : DieUse) (failed : Bool) : Dev :=
  match u with
  | .unit z rs j => if d.unitOn z rs j b then d.replaceMember z rs j failed else d.unitDiscarded z rs j
  | .copyProg i _ =>
    -- the target of a copy that has been dropped waits for its erase already (R166)
    if (d.media.copies.find i).isNone then d
    else ((if failed then d.setBlk b (fun x => { x with bad := true }) else d).retireOrRelease b).restartCopy i
  | .rebuildProg z rs =>
    if d.rebuildsRow z rs b then d.rebuildReplace z rs failed
    else if failed then (d.setBlk b (fun x => { x with bad := true })).retireOrRelease b
    else d
  | _ => d

/-- A read-back's page has ended; the last decides (R159). -/
def Dev.readBackPage (d : Dev) (b : Nat) (good : Bool) : Dev :=
  match d.media.readBacks.find b with
  | none => d
  | some rb =>
    let ok := rb.good && good
    if 1 < rb.left then
      { d with media := { d.media with readBacks := d.media.readBacks.set b { rb with left := rb.left - 1, good := ok } } }
    else
      let d1 := { d with media := { d.media with readBacks := d.media.readBacks.del b } }
      if ok then
        let d2 := (d1.count pMEDI 0x1C8 1).progGood b rb.wl rb.use
        match rb.use with | .rebuildProg z rs => d2.rebuildNext z rs b | _ => d2
      else (d1.count pMEDI 0x1CC 1).progLost b rb.use false

/-! ## Sleds that stay away (R557) -/

/-- Programs that wait for a sled, or are unconfirmed on it, are settled as confirmed: their units exist only through their rows;
copies on the sled are abandoned (R557). -/
def Dev.settleSled (d : Dev) (s : Nat) : Dev :=
  let queued := (List.range 256).flatMap (fun p => ((d.die (dieKey s p)).queue.filterMap (fun i =>
    match i.d.use with | .unit z rs j => some (z, rs, j) | _ => none)))
  let loose := d.media.unconfirmed.filterMap (fun e => match e.2.use with
    | .unit z rs j => if e.1 / 2048 / 256 = s then some (z, rs, j) else none
    | _ => none)
  let reading := d.media.readBacks.filterMap (fun e => match e.2.use with
    | .unit z rs j => if e.1 / 2048 / 256 = s then some (z, rs, j) else none
    | _ => none)
  let units := queued ++ loose ++ reading
  let mine (u : DieUse) : Bool := match u with
    | .unit z rs j => units.contains (z, rs, j)
    | _ => false
  let copied := (d.media.copies.filterMap (fun e => if e.2.sled = s then e.2.unit.map (fun u => (e.2.zone, u.1, u.2)) else none))
  let d1 := (d.unqueue mine).dropCopies (fun c => c.sled == s)
  let d2 := { d1 with media := { d1.media with unconfirmed := d1.media.unconfirmed.keep (fun b _ => b / 2048 / 256 != s)
                                               readBacks := d1.media.readBacks.keep (fun b _ => b / 2048 / 256 != s) } }
  let d3 := { d2 with prty := { d2.prty with departed := d2.prty.departed.modify s (fun x =>
    { x with loose := x.loose ++ (loose ++ reading).map (fun (u : Nat × Nat × Nat) => (u.1, u.2.1))
             dirty := (x.dirty ++ units.map (fun (u : Nat × Nat × Nat) => u.1 * 4 + u.2.1 / 768)).eraseDups }) } }
  d3.each (units ++ copied) (fun x u => x.unitSkipped u.1 u.2.1 u.2.2)

/-! ## Retirement of a die (R171) -/

/-- A die is retired: every block RETIRED, its groups' member missing for each group alone, zones that program to it handled as R75
lays down.  Causes: 0 faults, 1 manager. -/
def Dev.retireDie (d : Dev) (k cause : Nat) : Dev :=
  let s := k / 256
  let p := k % 256
  let hit (z : Nat) (g : Group) : Bool := g.pos == p && (d.zns z).members.contains s
  let groups := d.zone.zones.flatMap (fun e => (e.2.groups.mapIdx (fun i g => (i, g))).filterMap (fun x =>
    if hit e.1 x.2 then some (e.1, x.1) else none))
  let programming := (d.zone.areas.filterMap (fun e =>
    match e.2.accRow with
    | some rs =>
      match (d.zn e.2.zone).groupOf rs with
      | some g => if hit e.2.zone g ∧ e.2.flight.contains ((d.zns e.2.zone).slotOn s rs) ∧ e.2.st ≠ .free then some (e.2.zone, rs) else none
      | none => none
    | none => none))
  let d0 := (d.dropCopies (fun c => dieKey c.sled c.pos == k)).setDie k (fun x => { x with
    queue := x.queue.filter (fun i => i.kind != .erase && (match i.d.use with | .unit .. => false | _ => true)), retired := true, st := .idle, running := none })
  let blocks := (List.range 1400).filter (fun b => (d0.blk (k * 2048 + b)).st != .factoryBad && (d0.blk (k * 2048 + b)).st != .retired)
  let d1 := d0.each blocks (fun x b => x.retireBlk (k * 2048 + b) 4)
  let d2 := d1.each groups (fun x g => x.missGroup g.1 g.2 s)
  let d3 := d2.raise pMEDI 9 [s, p, cause, groups.length]
  d3.each programming (fun x g => x.makeReadOnly g.1 s g.2)

end Sys2Proof.Machine
end

