-- ==== Sys2Proof/Machine/OpEnd.lean ====
section
/-! DEFINITION. How die operations are dispatched and how they end: reads with the retry ladder, programs, erases with their
erased-state check, suspensions, status, aborts (R96 to R99, R111 to R116, R137 to R163, R171, R214). -/

namespace Sys2Proof.Machine

/-! ## Dies (R99) -/

/-- RESUME is sent to a die whose operation is suspended (R99); a port that has carried a VAULT packet takes no further COMMAND (R195). -/
def Dev.resumeDie (d : Dev) (k : Nat) : Dev :=
  let x := d.die k
  if (x.st = .progSuspended ∨ x.st = .eraseSuspended) ∧ (d.port (k / 256)).vaulted = false then
    (d.setDie k (fun y => { y with st := .resuming, holdUp := false })).sendDesc { Desc.at_ (k / 256) (k % 256) 0 .resume with op := 0x31 } d.now
  else d

/-- Reads issued to a die whose sensing has not ended: neither a burst nor the COMPLETION of theirs has come (R99). -/
def Dev.sensing (d : Dev) (k : Nat) : Nat :=
  d.media.ops.count (fun _ o => dieKey o.d.sled o.d.pos == k && (o.d.op == 1 || o.d.op == 2) && o.phase == .sent
    && o.cwGot == 0 && o.cwLost == 0 && o.naks == 0)

/-- A ladder step of a read waits for a die to take it. -/
def Dev.stepWaits (d : Dev) (k : Nat) : Bool :=
  d.media.ops.any (fun e => e.2.phase == .stepWait && dieKey e.2.d.sled e.2.d.pos == k)

/-- A suspended die with no read queued and none sensing resumes; one whose hold time is over resumes whatever is queued (R99). -/
def Dev.resumeCheck (d : Dev) (k : Nat) : Dev :=
  if d.sensing k ≠ 0 ∨ ((d.die k).holdUp = false ∧ ((d.die k).queue.any (fun i => i.kind == .read) ∨ d.stepWaits k = true)) then d
  else d.resumeDie k

/-- A die's own read, program or erase is over (R99). -/
def Dev.dieIdle (d : Dev) (k : Nat) : Dev :=
  if (d.die k).st = .offline then d
  else d.setDie k (fun x => { x with st := .idle, psusp := 0, esusp := 0, running := none, urgent := false, holdUp := false, wait := .none })

/-- A read is over: the die is idle again, or a suspended one may resume. -/
def Dev.readIdle (d : Dev) (k : Nat) : Dev :=
  match (d.die k).st with
  | .reading => d.setDie k (fun x => { x with st := .idle })
  | .progSuspended | .eraseSuspended => d.resumeCheck k
  | _ => d

/-- An operation of SCHD ends, once (R116). -/
def Dev.subReturned (d : Dev) : Dev := d.count pSCHD 0x208 1

/-! ## What a read was for (R102, R111, R153, R159, R161, R166, R176) -/

/-- Whether a read's result is no longer wanted: its sub-request has been satisfied, or its slice reset (R111). -/
def Dev.stale (d : Dev) (u : DieUse) (gen : Nat) : Bool :=
  match u with
  | .sub s => !(d.sched.subs.find s).any (fun x => x.gen == gen)
  | .member i _ => !(d.sched.recons.find i).any (fun r => !r.dead)
  | _ => false

/-- A reconstruction that cannot be made, by whom it was for (R74, R113, R237). -/
def Dev.reconFailed (d : Dev) (i : Nat) : Dev :=
  match d.sched.recons.find i with
  | none => d
  | some r =>
    match r.who with
    | .sub s => d.subReconFailed i s
    | .copy j wl => (d.endRecon i).copyLost j wl
    | .rebuild =>
      let d1 := d.endRecon i
      match d1.prty.rebuild with
      | none => d1
      | some b =>
        let z := zoneKey r.nsid r.zone
        let d2 := d1.loseRow z r.row b.target.sled
        let d3 := { d2 with prty := { d2.prty with rebuild := some { b with gone := true, buf := [], lost := b.lost + 1, left := b.left - 1 } } }
        match (d3.zn z).groupOf r.row with
        | none => d3
        | some g =>
          let s := b.target.sled
          d3.enqueueBg .program (Desc.program s g.pos (g.blockOn s) (r.row % 768) false (.rebuildProg z r.row))

/-- A member's page has ended: the reconstruction goes on, or fails. -/
def Dev.memberDone (d : Dev) (i m : Nat) (data : Option (SMap (List Byte))) : Dev :=
  let r := d.memberEnd i m data
  match r.2 with
  | .pending => r.1
  | .failed => r.1.reconFailed i

/-- The better of a group's index and the next one, by corrected bits (R152, R153). -/
def Dev.sampleEnd (d : Dev) (b group : Nat) (next : Bool) (corrected : Option Nat) : Dev :=
  let key := b * 8 + group
  match next, corrected with
  | false, some c => { d with media := { d.media with samples := d.media.samples.set key c } }
  | true, some c =>
    let better := match d.media.samples.find key with | some c0 => decide (c < c0) | none => false
    let d1 := { d with media := { d.media with samples := d.media.samples.del key } }
    d1.setBlk b (fun x => { x with
      shift := if better then x.shift.set group (satAt 63 (x.shift.getD group 0 + 1)) else x.shift
      trial := if hasBit x.trial group then x.trial - 2 ^ group else x.trial })
  | _, none => d

/-- A raw read has ended (R176). -/
def Dev.rawEnd (d : Dev) (result : Nat) (fail : Bool) (zeros : Nat) : Dev :=
  { d with media := { d.media with raw := { d.media.raw with busy := false, done := !fail, fail := fail, result := result, zeros := satAt 65535 zeros } } }

/-- The zero bits of data bytes. -/
def zerosOf (bs : List Byte) : Nat := bs.foldl (fun b x => b + (8 - popN 8 x.toNat)) 0

/-- A raw read has ended with its data (R175, R176): the raw bytes as they came, or with DECODE the 16 KiB of data of its four codewords. -/
def Dev.rawGood (d : Dev) (o : OpenOp) : Dev :=
  if d.media.raw.decode = false then d.rawEnd 0 false o.zeros
  else
    let data := o.data.flatMap (fun e => e.2.take 4096)
    { d with media := { d.media with raw := { d.media.raw with data := data } } }.rawEnd 0 false (zerosOf data)

/-- The place of a codeword, by its bit of CWMASK on a page, in its unit. -/
def unitOff (page bit : Nat) : Nat := 16 * page + bit

/-- The place of a read's codewords within the range that a sub-request or a reconstruction asks for. -/
def inRange (off page : Nat) (data : SMap (List Byte)) : SMap (List Byte) := data.map (fun e => (unitOff page e.1 - off, e.2))

/-- A sub-request's page has been read well; with its last codeword it is satisfied (R94, R111). -/
def Dev.subGot (d : Dev) (s page : Nat) (data : SMap (List Byte)) : Dev :=
  match d.sched.subs.find s with
  | none => d
  | some x =>
    let got := (inRange x.off page data).foldl (fun (m : SMap (List Byte)) e => m.set e.1 e.2) x.got
    if x.count ≤ got.length then d.satisfy s x.path got else d.modSub s (fun y => { y with got := got })

/-- A sub-request's own read has failed: a reconstruction under way is awaited (R111), or a forced one starts (R112). -/
def Dev.subBad (d : Dev) (s : Nat) : Dev :=
  match d.sched.subs.find s with
  | none => d
  | some x =>
    let other := x.recon.any (fun i => (d.sched.recons.find i).any (fun r => !r.dead))
    let d1 := d.modSub s (fun y => { y with ownBad := true, path := if other ∧ y.path ≠ .forced then .around else y.path })
    if other then d1 else (d1.unqueue (fun u => decide (u = .sub s))).goForced s

/-- A read has ended with its data decoded good (R150). -/
def Dev.readGood (d : Dev) (key : Nat) (o : OpenOp) (worst : Nat) : Dev :=
  let b := blkKey o.d.sled o.d.pos o.d.block
  let k := dieKey o.d.sled o.d.pos
  let d1 := ((d.closeOp key).unpin b).subReturned
  let d2 :=
    if o.timedOut then d1.count pSCHD 0x1B4 1
    else if d1.stale o.d.use o.d.gen then
      let e := d1.count pSCHD 0x1B4 1
      match o.d.use with | .member i m => e.memberDone i m none | _ => e
    else
      match o.d.use with
      | .sub s => d1.subGot s o.d.page o.data
      | .member i m => d1.memberDone i m (some (inRange ((d1.sched.recons.find i).map (fun r => r.off) |>.getD 0) o.d.page o.data))
      | .sample g next => d1.sampleEnd b g next (some worst)
      | .raw => d1.rawGood o
      | .readBack => d1.readBackPage b (decide (2 * worst ≤ d1.rf pMEDI 0x800 16 8))
      | .copyRead i wl => d1.copyGot i wl (o.data.map (fun e => (unitOff o.d.page e.1, e.2)))
      | _ => d1
  d2.readIdle k

/-- A read has ended without good data, with its result code. -/
def Dev.readBadUse (d : Dev) (u : DieUse) (b result zeros : Nat) : Dev :=
  match u with
  | .sub s => d.subBad s
  | .member i m => d.memberDone i m none
  | .sample g next => d.sampleEnd b g next none
  | .raw => d.rawEnd result true zeros
  | .readBack => d.readBackPage b false
  | .copyRead i wl => d.copyBad i wl
  | _ => d

/-- A read has ended badly: it is served another way (R112). -/
def Dev.readBad (d : Dev) (key : Nat) (o : OpenOp) (result : Nat) : Dev :=
  let b := blkKey o.d.sled o.d.pos o.d.block
  let k := dieKey o.d.sled o.d.pos
  let d1 := ((d.closeOp key).unpin b).subReturned
  let d2 :=
    if o.timedOut then d1.count pSCHD 0x1B4 1
    else if d1.stale o.d.use o.d.gen then
      let e := d1.count pSCHD 0x1B4 1
      match o.d.use with | .member i m => e.memberDone i m none | _ => e
    else d1.readBadUse o.d.use b result o.zeros
  d2.readIdle k

/-! ## The retry ladder (R148 to R155) -/

/-- The vector of a READ step, held at 63; none where the step is skipped (R154). -/
def ladderVec (i step : Nat) (tried : List Nat) : Option Nat :=
  if step = 3 then (if i = 0 then none else some (i - 1))
  else
    let v := i + step
    if 63 < v then (if tried.contains 63 then none else some 63) else some v

/-- The vector of a soft step: of the READ steps run, the one with the fewest unsatisfied checks summed over the codewords not yet decoded
good, ties to the lower step. -/
def softVec (i : Nat) (tried : List (Nat × SMap Nat)) (left : List Nat) : Nat :=
  match firstMin (fun (t : Nat × SMap Nat) => (left.map (fun c => t.2.get 0 c)).sum) tried with
  | some t => t.1
  | none => i

/-- The next step after `step` that R154 permits, with its vector; none at the ladder's end. -/
def Dev.ladderNext (d : Dev) (o : OpenOp) : Option (Nat × Nat) :=
  let ctrl := d.cellAt (d.hdr pMEDI).epochApplied pMEDI 0x128 0
  let last := fld ctrl 0 3
  let ms5 := (d.media.sleds.get SledMedia.reset o.d.sled).ms5
  ([1, 2, 3, 4, 5].filter (fun s => decide (o.step < s) && decide (s ≤ last))).findSome? (fun s =>
    if s ≤ 3 then (ladderVec o.index0 s (o.tried.map Prod.fst)).map (fun v => (s, v))
    else if fld ctrl 8 1 = 0 ∨ (s = 5 ∧ ms5 = false) then none
    else some (s, softVec o.index0 o.tried ((cwsOf o.d.cwmask).filter (fun c => (o.data.find c).isNone))))

/-- Reads that climb the ladder: those for sub-requests, members and copies. -/
def DieUse.climbs : DieUse → Bool
  | .sub _ | .member _ _ | .copyRead _ _ => true
  | _ => false

/-- The zone and group that a block belongs to, where the zone map has it. -/
def Dev.ownerOf (d : Dev) (sled pos block : Nat) : Option (Nat × Nat) :=
  d.zone.zones.findSome? (fun e =>
    ((e.2.groups.mapIdx (fun i g => (i, g))).find? (fun x => x.2.pos == pos && (d.zns e.1).members.contains sled && x.2.blockOn sled == block)).map
      (fun x => (e.1, x.1)))

/-- What the zone map has on the page of a read: zone, generation, row and slot; none where it has nothing there (R72). -/
def Dev.pagePlace (d : Dev) (o : OpenOp) : Option (Nat × Nat × Nat × Nat) :=
  let at_ (z rs : Nat) : Nat × Nat × Nat × Nat := (z, (d.zn z).gen, rs, (d.zns z).slotOn o.d.sled rs)
  match o.d.use with
  | .sub s => (d.sched.subs.find s).map (fun x => (zoneKey x.nsid x.zone, x.zgen, x.row, x.unit))
  | .member i m => (d.sched.recons.find i).map (fun r => (zoneKey r.nsid r.zone, r.zgen, r.row, m))
  | .copyRead i wl => (d.media.copies.find i).map (fun c => at_ c.zone (c.group * 768 + wl))
  | .sample _ _ | .raw => (d.ownerOf o.d.sled o.d.pos o.d.block).map (fun x => at_ x.1 (x.2 * 768 + o.d.wl))
  | .readBack =>
    match d.media.readBacks.find (blkKey o.d.sled o.d.pos o.d.block) with
    | none => none
    | some rb =>
      let zr : Option (Nat × Nat) := match rb.use with
        | .unit z rs _ => some (z, rs)
        | .rebuildProg z rs => some (z, rs)
        | .copyProg i wl => (d.media.copies.find i).map (fun c => (c.zone, c.group * 768 + wl))
        | _ => none
      zr.map (fun x => at_ x.1 (x.2 - rb.wl + o.d.wl))
  | _ => none

/-- The stamp that the zone map expects on a page of a read (R72). -/
def Dev.expected (d : Dev) (o : OpenOp) (bit : Nat) : Option (List Byte) :=
  (d.pagePlace o).map (fun x => d.stampOf x.1 x.2.1 x.2.2.1 x.2.2.2 (bit / 4) o.d.page 1)

/-- The namespace, zone and unit that event 0x2007 names for a read. -/
def Dev.stampPlace (d : Dev) (o : OpenOp) : Nat × Nat × Nat :=
  match d.pagePlace o with
  | some x => (zNs x.1, zIdx x.1, (d.zns x.1).unitCode x.2.2.2)
  | none => (0, 0, 0)

/-- A ladder step is sent (R154): READ at a vector, or MSREAD with 3 or 5 senses. -/
def Dev.sendStep (d : Dev) (key : Nat) (o : OpenOp) (step vec : Nat) : Dev :=
  let k := dieKey o.d.sled o.d.pos
  let left := (cwsOf o.d.cwmask).filter (fun c => (o.data.find c).isNone)
  let mask := maskOf left
  let x := { o.d with op := if step ≤ 3 then 1 else 2, senses := if step = 4 then 3 else if step = 5 then 5 else 0, shift := vec,
                      cwmask := mask, planes := planesOf mask }
  let d1 := (d.modOp key (fun y => { y with step := step })).resendDesc key x
  (d1.sensed (blkKey o.d.sled o.d.pos o.d.block)).setDie k (fun y => if y.st = .idle then { y with st := .reading } else y)

/-- A die can take a read's next step: nothing runs on it but that read, or its own operation is suspended (R140). -/
def Dev.takesStep (d : Dev) (k : Nat) : Bool :=
  match (d.die k).st with
  | .idle | .reading => !(d.port (k / 256)).vaulted
  | .progSuspended | .eraseSuspended => !(d.port (k / 256)).vaulted && !(d.die k).holdUp
  | _ => false

/-- The read is uncorrectable after the ladder (R154). -/
def Dev.readUncorrectable (d : Dev) (key : Nat) (o : OpenOp) : Dev :=
  let k := dieKey o.d.sled o.d.pos
  ((d.count pMEDI 0x1A0 1).raise pMEDI 2 [k, o.d.block, o.d.wl * 8 + o.d.page, o.index0]).readBad key o 0

/-- The ladder goes on after a decode that was not good (R154, R155). -/
def Dev.climb (d : Dev) (key : Nat) (o : OpenOp) : Dev :=
  if o.d.use.climbs = false then d.readBad key o 0
  else
    match d.ladderNext o with
    | none => d.readUncorrectable key o
    | some (s, v) =>
      if d.stale o.d.use o.d.gen = true ∨ o.timedOut = true then (d.count pMEDI 0x1C4 1).readBad key o 0
      else if (d.port o.d.sled).st ≠ .up ∧ (d.port o.d.sled).st ≠ .quiescing then
        -- decided after the port left UP: the descriptor ends ABORTED at once (R214)
        ((d.count pMEDI 0x1B8 1).count pMEDI 0x1BC 1).readBad key o 9
      else if d.takesStep (dieKey o.d.sled o.d.pos) then d.sendStep key o s v
      else d.modOp key (fun y => { y with phase := .stepWait })

/-- The waiting ladder step of a die is taken up again (R140). -/
def Dev.climbWaiting (d : Dev) (k : Nat) : Dev :=
  match d.media.ops.find? (fun e => e.2.phase == .stepWait && dieKey e.2.d.sled e.2.d.pos == k) with
  | some (key, o) => d.climb key o
  | none => d

/-- What a decode tells the tracker (R152). -/
def Dev.track (d : Dev) (o : OpenOp) (worst : Nat) : Dev :=
  let b := blkKey o.d.sled o.d.pos o.d.block
  let g := o.d.wl / 96
  if o.step ≠ 0 then d.setBlk b (fun x => x.setShift o.d.wl o.d.shift)
  else if d.rf pMEDI 0x800 16 8 < worst then d.setBlk b (fun x => { x with trial := if hasBit x.trial g then x.trial else x.trial + 2 ^ g })
  else d

/-- The codewords that a decode is given: those asked for and not yet decoded good. -/
def OpenOp.wanted (o : OpenOp) : List Nat := (cwsOf o.d.cwmask).filter (fun c => (o.data.find c).isNone)

/-- What the decoder finds in a codeword. -/
def cwFind (rs : List (Nat × CwRes)) (c : Nat) : Option CwRes := (rs.find? (fun r => r.1 == c)).map Prod.snd

/-- Every parity check of a codeword is satisfied. -/
def cwGood (rs : List (Nat × CwRes)) (c : Nat) : Bool := (cwFind rs c).any (fun r => r.good)

/-- The open read after a decode: the good codewords' data kept, the step's unsatisfied checks noted (R154). -/
def OpenOp.decoded (o : OpenOp) (rs : List (Nat × CwRes)) : OpenOp :=
  let data := o.wanted.foldl (fun (m : SMap (List Byte)) c =>
    match cwFind rs c with | some r => if r.good then m.set c r.body else m | none => m) o.data
  let unsat : SMap Nat := o.wanted.map (fun c => (c, (cwFind rs c).map (fun r => if r.good then 0 else r.unsat) |>.getD 0))
  { o with data := data, tried := if o.step ≤ 3 then o.tried ++ [(o.d.shift, unsat)] else o.tried }

/-- The codewords that decoded with another stamp than the zone map expects (R72, R150). -/
def Dev.badStamps (d : Dev) (o : OpenOp) (rs : List (Nat × CwRes)) : List Nat :=
  o.wanted.filter (fun c => cwGood rs c && (match d.expected o c, cwFind rs c with | some s, some r => stampDiff s r.stamp != 0 | _, _ => false))

/-- The most bits that a good codeword of a decode had corrected. -/
def OpenOp.worst (o : OpenOp) (rs : List (Nat × CwRes)) : Nat :=
  (o.wanted.filterMap (cwFind rs)).foldl (fun a r => if r.good ∧ a < r.corrected then r.corrected else a) 0

/-- A decode ends (R148 to R155), with what the decoder finds in each codeword it was given. -/
def Dev.decodeDone (d : Dev) (key : Nat) (o : OpenOp) (soft : Bool) (rs : List (Nat × CwRes)) : Dev :=
  let k := dieKey o.d.sled o.d.pos
  let wanted := o.wanted
  let d1 := d.count pMEDI (if soft then 0x184 else 0x180) wanted.length
  let bad := d.badStamps o rs
  let worst := o.worst rs
  let o1 := o.decoded rs
  let good := wanted.filter (fun c => cwGood rs c && !bad.contains c)
  let d2 := (d1.modOp key (fun _ => o1)).count pMEDI (0x188 + 4 * o.step) good.length
  match bad with
  | c :: _ =>
    let diff := match d.expected o c, cwFind rs c with | some s, some r => stampDiff s r.stamp | _, _ => 0
    let pl := d.stampPlace o
    (d2.raise pZONE 7 [pl.1, pl.2.1, o.d.sled * 65536 + pl.2.2, diff]).readBad key o1 0
  | [] =>
    if wanted.all (cwGood rs) then
      let d3 := if soft then d2.raise pMEDI 1 [k, o.d.block, o.d.wl, o.step] else d2
      -- nothing is learnt from a discarded result (R155), nor from a raw read's data (R147)
      let skip := d.stale o.d.use o.d.gen || o.timedOut || decide (o.d.use = .raw)
      (if skip then d3 else d3.track o worst).readGood key o1 worst
    else d2.climb key o1

/-! ## Erases (R160, R161) -/

/-- The page reads of an erased-state check: paired page 0 of three word lines in four planes. -/
def checkReads : List (Nat × Nat) := [0, 383, 767].flatMap (fun w => [0, 1, 2, 3].map (fun p => (w, p)))


/-- An erased-state check ends (R160, R161). -/
def Dev.checkEnd (d : Dev) (b zeros : Nat) : Dev :=
  let k := b / 2048
  let d1 := { d with media := { d.media with checks := d.media.checks.del b } }
  let d2 :=
    if d.rf pMEDI 0x808 0 16 < zeros then (d1.edone b 1 zeros).uncertainBlk b zeros
    else
      let e := d1.edone b 0 zeros
      (e.setBlk b (fun x => { x with st := .erased, attempts := 0, erasedAt := d.now })).serveCopies k
  ((d2.giveUpCopies k).subReturned).dieIdle k

/-- The next page of an erased-state check is read at vector 0 with the erase's deadline (R161).  On a port that is no longer UP the pages left
end ABORTED as soon as they are decided (R214); on one that has carried a VAULT packet no COMMAND follows (R195). -/
def Dev.checkNext (d : Dev) (b : Nat) (c : EraseCheck) : Dev :=
  let k := b / 2048
  match checkReads[c.pages]? with
  | none => d.checkEnd b c.worst
  | some (w, p) =>
    if (d.die k).st = .offline then
      ((d.count pMEDI 0x1B8 (12 - c.pages)).count pMEDI 0x1BC (12 - c.pages)).checkEnd b 0xFFFF
    else
      let d1 := { d with media := { d.media with checks := d.media.checks.set b c } }
      if (d.port (k / 256)).vaulted then d1
      else
        let x := Desc.read (k / 256) (k % 256) (b % 2048) w 0 (15 * 16 ^ p) 0 (d.blk b).slc .check
        ((d1.setDie k (fun y => { y with st := .reading })).sensed b).sendDesc x c.deadline

/-- A page of an erased-state check has been read, with its zero bits; a read that did not end GOOD counts 0xFFFF. -/
def Dev.checkPage (d : Dev) (b zeros : Nat) : Dev :=
  match d.media.checks.find b with
  | none => d
  | some c => d.checkNext b { c with pages := c.pages + 1, worst := if c.worst < zeros then zeros else c.worst }

/-- An ERASE has ended (R160). -/
def Dev.eraseEnd (d : Dev) (key : Nat) (o : OpenOp) (result : Nat) : Dev :=
  let b := blkKey o.d.sled o.d.pos o.d.block
  let k := dieKey o.d.sled o.d.pos
  let d1 := d.closeOp key
  let ended (e : Dev) : Dev := ((e.giveUpCopies k).subReturned).dieIdle k
  if result = 0 then
    let d2 := d1.setBlk b (fun x => { x with slc := o.d.slc, reads := 0, shift := [0, 0, 0, 0, 0, 0, 0, 0], trial := 0, confirmed := 0 })
    if d2.wearLimit o.d.sled ≤ (d2.blk b).erases then ended ((d2.edone b 0 0xFFFF).retireBlk b 3)
    else d2.checkNext b { pages := 0, worst := 0, deadline := o.due }
  else if result = 2 then
    ended ((((d1.edone b 2 0xFFFF).count pMEDI 0x1A8 1).raise pMEDI 4 [k, o.d.block, (d1.blk b).erases, result]).retireBlk b 1)
  else if result = 6 ∨ result = 7 then
    let d2 := d1.setBlk b (fun x => { x with attempts := o.index0 })
    ended ((d2.edone b 1 0xFFFF).uncertainBlk b 0xFFFF)
  else ended ((d1.edone b 1 0xFFFF).uncertainBlk b 0xFFFF)

/-! ## Programs (R158, R159) -/

/-- A PROGRAM has ended (R141, R158, R159); `loose` where the read-back waits for the die to report idle. -/
def Dev.progEnd (d : Dev) (key : Nat) (o : OpenOp) (result : Nat) (loose : Bool) : Dev :=
  let b := blkKey o.d.sled o.d.pos o.d.block
  let k := dieKey o.d.sled o.d.pos
  let d0 := match o.d.use with | .vaultRow _ _ => d.closeOp key | _ => (d.closeOp key).subReturned
  let d1 := d0.dieIdle k
  if result = 0 then
    let d2 := d1.progGood b o.d.wl o.d.use
    match o.d.use with | .rebuildProg z rs => d2.rebuildNext z rs b | _ => d2
  else if result = 1 then
    ((d1.count pMEDI 0x1A4 1).raise pMEDI 3 [k, o.d.block, o.d.wl, result]).progLost b o.d.use true
  else
    match o.d.use with
    | .vaultRow _ _ => d1
    | _ =>
      let rb : ReadBack := { left := 0, good := true, wl := o.d.wl, use := o.d.use }
      if loose then { d1 with media := { d1.media with unconfirmed := d1.media.unconfirmed.set b rb } }
      else d1.startReadBack b rb

/-! ## Suspensions (R99, R103, R144) -/

/-- Running time of a program or erase so far, ns, suspended time excluded (R145). -/
def OpenOp.ranNs (o : OpenOp) (now : Nat) : Nat := o.ran + (now - o.startedAt)

/-- SUSPEND has taken effect (R99). -/
def Dev.suspended (d : Dev) (k : Nat) : Dev :=
  if (d.die k).st ≠ .suspending then d
  else
    let erase := (d.runningOp k).any (fun o => o.d.op == 0x20)
    let d1 := match (d.die k).running with
      | some key => d.modOp key (fun o => { o with ran := o.ranNs d.now })
      | none => d
    let st : DieState := if erase then .eraseSuspended else .progSuspended
    (d1.setDie k (fun x => { x with st := st, suspendedAt := d.now, holdUp := false, wait := .none })).resumeCheck k

/-- The queued reads of a die that were to suspend it run as direct (R103). -/
def Dev.runDirect (d : Dev) (k : Nat) : Dev :=
  let subs := (d.die k).queue.filterMap (fun i => match i.d.use with | .sub s => if i.suspends then some s else none | _ => none)
  (d.setDie k (fun x => { x with queue := x.queue.map (fun i => { i with suspends := false }) })).each subs
    (fun x s => x.modSub s (fun y => { y with path := .direct }))

/-- The suspension did not come about: its count is undone (R99, R103). -/
def Dev.unsuspend (d : Dev) (k : Nat) (running : Bool) : Dev :=
  if (d.die k).st ≠ .suspending then d
  else
    let erase := (d.runningOp k).any (fun o => o.d.op == 0x20)
    let d1 := d.setDie k (fun x =>
      { x with psusp := if erase then x.psusp else x.psusp - 1, esusp := if erase then x.esusp - 1 else x.esusp, wait := .none
               st := if running then (if erase then .erasing else .programming) else .idle })
    if running then d1.redecide k else d1.runDirect k

/-- The result of a SUSPEND (R99, R139). -/
def Dev.suspendEnd (d : Dev) (k result : Nat) : Dev :=
  if result = 3 then d.suspended k else if result = 4 then d.unsuspend k false else d.unsuspend k true

/-- The result of a RESUME: the operation runs again and the time is recorded (R99). -/
def Dev.resumeEnd (d : Dev) (k result : Nat) : Dev :=
  if (d.die k).st ≠ .resuming then d
  else
    let erase := (d.runningOp k).any (fun o => o.d.op == 0x20)
    if result = 3 then d.setDie k (fun x => { x with st := if erase then .eraseSuspended else .progSuspended, wait := .none })
    else if (d.runningOp k).isNone then d.dieIdle k
    else
      let d1 := match (d.die k).running with
        | some key => d.modOp key (fun o => { o with startedAt := d.now })
        | none => d
      (d1.setDie k (fun x => { x with st := if erase then .erasing else .programming, lastResume := d.now, wait := .none })).redecide k

/-- The open SUSPENDs, RESUMEs and STATUSes of a die. -/
def Dev.controlOps (d : Dev) (k : Nat) : List Nat :=
  (d.media.ops.filter (fun e => dieKey e.2.d.sled e.2.d.pos == k && decide (0x30 ≤ e.2.d.op))).map Prod.fst

/-- A descriptor's end is counted (R173). -/
def Dev.opDone (d : Dev) : Dev := d.count pMEDI 0x1BC 1

/-- Open SUSPENDs and RESUMEs of a die end with what STATUS has shown (R144). -/
def Dev.endControls (d : Dev) (k : Nat) : Dev :=
  d.each ((d.controlOps k).filter (fun key => (d.op key).any (fun o => o.d.op != 0x40))) (fun x key => (x.closeOp key).opDone)

/-- What STATUS reports (R144, R214): 0 idle, 1 busy, 2 program suspended, 3 erase suspended. -/
def Dev.statusEnd (d : Dev) (k dieState : Nat) : Dev :=
  match (d.die k).wait with
  | .suspend => ((d.endControls k).setDie k (fun x => { x with wait := .none })).suspendEnd k (if 2 ≤ dieState then 3 else if dieState = 0 then 4 else 6)
  | .resume => ((d.endControls k).setDie k (fun x => { x with wait := .none })).resumeEnd k (if 2 ≤ dieState then 3 else if dieState = 0 then 4 else 5)
  | .poll =>
    if dieState ≠ 0 then d
    else
      let d1 := d.setDie k (fun x => { x with st := .idle, wait := .none, running := none, psusp := 0, esusp := 0, urgent := false })
      d1.each (d.media.unconfirmed.filter (fun e => e.1 / 2048 == k)) (fun x e => x.startReadBack e.1 e.2)
  | .none => d

/-! ## Any descriptor's end (R139, R171, R173, R214) -/

/-- The end of an open operation other than a GOOD read, by its result (R139).  `loose`: the die must report idle first. -/
def Dev.endWith (d : Dev) (key : Nat) (o : OpenOp) (result dieState : Nat) (loose : Bool) : Dev :=
  let k := dieKey o.d.sled o.d.pos
  if o.d.op = 0x10 then d.progEnd key o result loose
  else if o.d.op = 0x20 then d.eraseEnd key o result
  else if o.d.op = 0x30 then (d.closeOp key).suspendEnd k result
  else if o.d.op = 0x31 then (d.closeOp key).resumeEnd k result
  else if o.d.op = 0x40 then (d.closeOp key).statusEnd k dieState
  else
    match o.d.use with
    | .check => (d.closeOp key).checkPage (blkKey o.d.sled o.d.pos o.d.block) (if result = 0 then o.zeros else 0xFFFF)
    | _ => d.readBad key o result

/-- A read's data has all come: it is decoded, or counted (R148, R161, R176). -/
def Dev.dataComplete (d : Dev) (key : Nat) (o : OpenOp) : Dev :=
  let k := dieKey o.d.sled o.d.pos
  match o.d.use with
  | .check => (d.closeOp key).checkPage (blkKey o.d.sled o.d.pos o.d.block) (if o.cwLost = 0 then o.zeros else 0xFFFF)
  | u =>
    if o.cwLost ≠ 0 then d.readBad key o 0
    else if u = .raw ∧ d.media.raw.decode = false then d.readGood key o 0
    else if o.d.op = 1 then (d.modOp key (fun x => { x with phase := .decoding })).resumeCheck k
    else
      let busy := d.media.ops.count (fun _ x => x.phase == .softDecoding)
      (d.modOp key (fun x => { x with phase := if busy < d.rf pMEDI 0x800 24 4 then .softDecoding else .softWait })).resumeCheck k

/-- A die whose eight operations in a row have failed is retired while other dies of its sled answer (R171), once no operation of it is open
but reads that have been given up. -/
def Dev.faultCheck (d : Dev) (k : Nat) : Dev :=
  if (d.die k).faultRun = 8 ∧ (d.die k).retired = false
      ∧ (List.range 256).any (fun p => dieKey (k / 256) p != k && d.diePresent (dieKey (k / 256) p) && (d.die (dieKey (k / 256) p)).faultRun == 0)
      ∧ d.media.ops.all (fun e => dieKey e.2.d.sled e.2.d.pos != k || e.2.timedOut) then
    d.retireDie k 0
  else d

/-- A COMPLETION's result ends its operation (R139, R192). -/
def Dev.complete (d : Dev) (key : Nat) (o : OpenOp) (result dieState : Nat) : Dev :=
  let k := dieKey o.d.sled o.d.pos
  let d1 := d.opDone
  let d2 := if result = 7 ∨ result = 8 then d1.dieFault k else d1.dieGood k
  let d3 := if result = 0 ∧ (o.d.op = 1 ∨ o.d.op = 2) then d2.dataComplete key o else d2.endWith key o result dieState false
  d3.faultCheck k

/-- Every open operation of a port ends ABORTED in the cycle after the reset decision (R214); its dies are OFFLINE until STATUS
shows them idle (R99). -/
def Dev.abortPort (d : Dev) (port : Nat) : Dev :=
  let keys := (d.media.ops.filter (fun e => e.2.d.sled == port && (e.2.phase == .sent || e.2.phase == .held || e.2.phase == .stepWait))).map Prod.fst
  let hit := ((d.media.ops.filter (fun e => keys.contains e.1 && e.2.phase != .stepWait)).map (fun e => dieKey e.2.d.sled e.2.d.pos)).eraseDups
  let d1 := { d with media := { d.media with dies := d.media.dies.mapVals (fun k x =>
    let wait : StatusWait := if hit.contains k ∨ x.wait = StatusWait.poll then .poll else .none
    if k / 256 = port then { x with st := .offline, wait := wait, psusp := 0, esusp := 0, holdUp := false } else x) } }
  let d2 := d1.each keys (fun x key =>
    match x.op key with
    | none => x
    | some o =>
      if o.phase == OpPhase.stepWait then x.climb key o
      else if 0x30 ≤ o.d.op then (x.closeOp key).opDone
      else x.opDone.endWith key o 9 0 true)
  { d2 with media := { d2.media with dies := d2.media.dies.mapVals (fun k x => if k / 256 = port then { x with running := none } else x) } }

/-- The dies of a port that is UP again leave OFFLINE, save those that must report idle first (R99, R214). -/
def Dev.portDiesUp (d : Dev) (port : Nat) : Dev :=
  { d with media := { d.media with dies := d.media.dies.mapVals (fun k x =>
    if k / 256 = port ∧ x.st = .offline ∧ x.wait ≠ .poll then { x with st := .idle } else x) } }

/-! ## Quiescing (R212) -/

/-- Operations in flight on a port: descriptors open, but for reads that have timed out (R112), reads being decoded or about to climb, and
erases whose check goes on. -/
def Dev.inFlight (d : Dev) (n : Nat) : Bool :=
  d.media.ops.any (fun e => e.2.d.sled == n && !e.2.timedOut) || d.media.checks.any (fun e => e.1 / 2048 / 256 == n)

/-- QUIESCE is sent once the operations in flight have run to their ends (R212 steps 2 and 3). -/
def Dev.quiesceCheck (d : Dev) (n : Nat) : Dev :=
  if (d.port n).st = .quiescing ∧ (d.port n).quiesceSent = false ∧ d.inFlight n = false then
    (d.setPort n (fun x => { x with quiesceSent := true })).send (.port n) (ctlPkt 7 [])
  else d

/-! ## Dispatch (R96 to R99, R140, R141, R162, R163) -/

/-- Dies of a position that hold an erase, running or suspended (R98). -/
def Dev.erasesAt (d : Dev) (p : Nat) : Nat :=
  d.media.dies.count (fun k x => k % 256 == p && (x.st == .erasing || x.st == .eraseSuspended
    || ((x.st == .suspending || x.st == .resuming) && (x.running.bind d.op).any (fun o => o.d.op == 0x20))))

/-- A stripe group has the block. -/
def Group.has (g : Group) (k block : Nat) : Bool := g.pos == k % 256 && g.blockOn (k / 256) == block

/-- A read that had accessed the block before its zone let it go is still open, though none of its reads need be queued here now (R71). -/
def Dev.oldReaders (d : Dev) (k block : Nat) : Bool :=
  d.sched.subs.any (fun e => e.2.old.any (fun g => g.has k block))
    || d.sched.recons.any (fun e => !e.2.dead && e.2.old.any (fun g => g.has k block))

/-- An item that may be dispatched now: an erase within the width, with no read pinned and none of an access before the release still
open (R71, R162); a program next in its block's order. -/
def Dev.mayDispatch (d : Dev) (k : Nat) (i : QItem) : Bool :=
  let b := k * 2048 + i.d.block
  match i.kind with
  | .read => true
  | .program => (d.blk b).confirmed == i.d.wl
  | .erase =>
    let reads := (d.die k).queue.any (fun j => j.d.block == i.d.block && (match j.d.use with | .sub _ => true | .member _ _ => true | _ => false))
    decide (d.erasesAt (k % 256) < d.rf pSCHD 0x118 16 2) && (d.blk b).pins == 0 && !reads && !d.oldReaders k i.d.block

/-- Within a kind: reads by their die deadlines and then by admission, programs and erases by their enqueueing (R96). -/
def QItem.before (a b : QItem) : Bool :=
  match a.kind with
  | .read => decide (a.deadline < b.deadline) || (a.deadline == b.deadline && decide (a.seq < b.seq))
  | _ => decide (a.seq < b.seq)

/-- The first of a list in an order. -/
def firstBy (lt : QItem → QItem → Bool) : List QItem → Option QItem
  | [] => none
  | x :: xs => match firstBy lt xs with | none => some x | some y => if lt y x then some y else some x

/-- The first of each kind that may go compete: the earliest deadline, ties to a read, then to a program (R96). -/
def firstItem (may : List QItem) : Option QItem :=
  let head (kind : ItemKind) : List QItem := (firstBy QItem.before (may.filter (fun i => i.kind == kind))).toList
  firstBy (fun a b => decide (a.deadline < b.deadline)) (head .read ++ head .program ++ head .erase)

/-- The item that a die takes next: any kind where it is idle, reads where its operation is suspended and held (R96, R99). -/
def Dev.nextItem (d : Dev) (k : Nat) : Option QItem :=
  let x := d.die k
  let may := x.queue.filter (d.mayDispatch k)
  if x.st = .idle then firstItem may
  else if (x.st = .progSuspended ∨ x.st = .eraseSuspended) ∧ x.holdUp = false then firstItem (may.filter (fun i => i.kind == .read))
  else none

/-- An item for a die that is absent or retired ends at once with ADDR, and no descriptor is formed (R140). -/
def Dev.endAddr (d : Dev) (k : Nat) (i : QItem) : Dev :=
  let b := k * 2048 + i.d.block
  match i.kind with
  | .read => d.readBadUse i.d.use b 7 0
  | .program => d.progLost b i.d.use false
  | .erase => d

/-- An erase is dispatched: its intent is made, its count and its attempts rise (R160, R163). -/
def Dev.eraseIntent (d : Dev) (b : Nat) (slc : Bool) : Dev :=
  let k := b / 2048
  let unc := (d.blk b).st = .uncertain
  let d1 := d.setBlk b (fun x => { x with st := .erasing, erases := x.erases + 1, attempts := if unc then x.attempts + 1 else x.attempts })
  let x := d1.blk b
  d1.journal (.eintent (k / 256) (k % 256) (b % 2048) x.erases x.attempts slc)

/-- The first die operation issued for a sub-request is its access (R71). -/
def Dev.noteAccess (d : Dev) (u : DieUse) : Dev :=
  match u with
  | .sub s => d.modSub s (fun x => { x with accessed := true })
  | .member r _ =>
    match d.sched.recons.find r with
    | some x => match x.who with | .sub s => d.modSub s (fun y => { y with accessed := true }) | _ => d
    | none => d
  | _ => d

/-- The block's erase is running or suspended, or its word line is that of a suspended program (R147). -/
def Dev.indeterminate (d : Dev) (k block wl : Nat) : Bool :=
  match d.runningOp k with
  | none => false
  | some o =>
    o.d.block == block &&
      (o.d.op == 0x20 || (o.d.op == 0x10 && o.d.wl == wl && ((d.die k).st == .progSuspended || (d.die k).st == .suspending)))

/-- The raw read is issued: what it senses is indeterminate where the block or the word line is in hand (R147). -/
def Dev.rawIssue (d : Dev) (k : Nat) (x : Desc) : Dev :=
  if d.indeterminate k x.block x.wl then
    { d with media := { d.media with raw := { d.media.raw with indet := true } } }.raise pMEDI 12 [k, x.block, x.wl, d.media.raw.master]
  else d

/-- The item is issued as a descriptor (R96, R137, R173). -/
def Dev.issueItem (d : Dev) (k : Nat) (i : QItem) : Dev :=
  let b := k * 2048 + i.d.block
  let d1 := (d.count pSCHD 0x204 1).noteAccess i.d.use
  match i.kind with
  | .read =>
    let idx := (d1.blk b).shiftOf i.d.wl
    let vec := match i.d.use with | .sample _ next => if next then satAt 63 (idx + 1) else idx | _ => idx
    let raw := decide (i.d.use = .raw)
    let x := { i.d with shift := if raw && !d1.media.raw.decode then 0 else vec }
    let d2 := (((if raw then d1.rawIssue k x else d1).pin b).sensed b).sendDesc x i.deadline
    if (d.die k).st = .idle then d2.setDie k (fun y => { y with st := .reading, startAt := d.now }) else d2
  | .program =>
    let t := d1.nextTag (k / 256)
    let d2 := d1.sendDesc i.d i.deadline
    let d3 := d2.each (d2.burstsOf { i.d with tag := t }) (fun y p => y.send (.port (k / 256)) p)
    d3.setDie k (fun y => { y with st := .programming, startAt := d.now, lastResume := d.now, psusp := 0, running := some (k / 256 * 65536 + t) })
  | .erase =>
    let before := (d1.blk b).attempts
    let d2 := d1.eraseIntent b i.d.slc
    let t := d2.nextTag (k / 256)
    let d3 := (d2.sendDesc i.d i.deadline).modOp (k / 256 * 65536 + t) (fun o => { o with index0 := before, queuedAt := i.queuedAt })
    d3.setDie k (fun y => { y with st := .erasing, startAt := d.now, lastResume := d.now, esusp := 0, urgent := i.urgent,
                                   running := some (k / 256 * 65536 + t) })

/-- An erase of a block whose attempts have reached the limit is not made: the block is retired (R160). -/
def Dev.eraseSpent (d : Dev) (b : Nat) (i : QItem) : Bool :=
  i.kind == .erase && (d.blk b).st == .uncertain && decide (d.rf pMEDI 0x808 16 8 ≤ (d.blk b).attempts)

/-- An idle or suspended die takes the ladder step that waits for it, else its next item (R96, R99, R140); SCHD applies a pending epoch as it
dequeues an item (R39, R96). -/
def Dev.dispatchDie (d : Dev) (k : Nat) : Dev :=
  if d.stepWaits k ∧ d.takesStep k then d.climbWaiting k
  else
    match d.nextItem k with
    | none => d
    | some i =>
      let d1 := (d.applyEpoch pSCHD).setDie k (fun x => { x with queue := x.queue.filter (fun j => j.seq != i.seq) })
      if d1.diePresent k = false ∨ (d1.die k).retired = true then d1.endAddr k i
      else if d1.eraseSpent (k * 2048 + i.d.block) i then (d1.retireBlk (k * 2048 + i.d.block) 2).giveUpCopies k
      else d1.issueItem k i

end Sys2Proof.Machine
end

