-- ==== Sys2Proof/Machine/PrtyOps.lean ====
section
/-! DEFINITION. Departure and return of a member sled, rebuild targets and the rebuild's choice of work (R233 to R240). -/

namespace Sys2Proof.Machine

/-! ## What a target lacks (R233, R235, R239) -/

/-- The namespaces with a sled as member, by NSID. -/
def Dev.nssOf (d : Dev) (sled : Nat) : List Nat := (d.zone.nss.filter (fun e => e.2.members.contains sled)).map Prod.fst

/-- The rows of a group that are written and whose staging has been released (R233, R235). -/
def Dev.rowsWritten (d : Dev) (z gi : Nat) : Nat :=
  let zn := d.zn z
  let top := match d.areaOf z with
    | some (_, a) => a.accRow.getD (ceilDiv zn.phys (d.zns z).d)
    | none => ceilDiv zn.phys (d.zns z).d
  if zn.st = .empty ∨ zn.st = .offline then 0 else satAt 768 (top - 768 * gi)

/-- Rows of a group that a sled holds. -/
def Dev.rowsOn (d : Dev) (g : Group) (sled : Nat) : Nat :=
  if g.blockOn sled = 0x1FFF then 0 else (d.blk (dieKey sled g.pos * 2048 + g.blockOn sled)).confirmed

/-- A group of the rebuild's: every group of a sled that is rebuilt in full; of a returning one those written, reset or allocated while
it was away (R239). -/
def Dev.inScope (d : Dev) (sled z gi : Nat) : Bool :=
  match d.prty.departed.find sled with
  | some x => x.full || x.dirty.contains (z * 4 + gi)
  | none => true

/-- The rows a target lacks of a group. -/
def Dev.groupNeed (d : Dev) (sled z gi : Nat) (g : Group) : Nat :=
  if g.missing.contains sled ∨ d.inScope sled z gi = false then 0 else d.rowsWritten z gi - d.rowsOn g sled

/-- Rows whose block must be replaced before the group goes on: an unconfirmed program damages its word line and the one below
(R157, R239). -/
def Dev.looseIn (d : Dev) (sled z gi : Nat) : Option Nat :=
  match d.prty.departed.find sled with
  | none => none
  | some x => (x.loose.filter (fun e => e.1 == z && e.2 / 768 == gi)).foldl (fun m e =>
      let r := if e.2 % 768 = 0 then e.2 else e.2 - 1
      match m with | none => some r | some q => some (if r < q then r else q)) none

/-- The groups of a namespace with what a target lacks of each: zone, group, rows. -/
def Dev.nsNeeds (d : Dev) (nsid sled : Nat) : List (Nat × Nat × Nat) :=
  (d.zone.zones.filter (fun e => zNs e.1 == nsid)).flatMap (fun e =>
    (e.2.groups.mapIdx (fun i g => (e.1, i, d.groupNeed sled e.1 i g))).filter (fun x =>
      decide (0 < x.2.2) || ((d.looseIn sled e.1 x.2.1).isSome && e.2.st != .offline)))

/-- Rows a target lacks over its namespaces. -/
def Dev.rebuildNeed (d : Dev) (sled : Nat) : Nat := ((d.nssOf sled).flatMap (fun n => d.nsNeeds n sled)).foldl (fun a x => a + x.2.2) 0

/-- A row that is still staged lacks its unit on a sled: folded, not in flight, and not on the sled (R235). -/
def Dev.openRowLacks (d : Dev) (nsid sled : Nat) : Bool :=
  d.zone.areas.any (fun e =>
    e.2.st != .free && zNs e.2.zone == nsid &&
    (match e.2.accRow with
     | none => false
     | some rs =>
       let n := d.zns e.2.zone
       let j := n.slotOn sled rs
       let folded := if j < n.d then decide (j < e.2.accN) else decide (e.2.accN = n.d)
       match (d.zn e.2.zone).groupOf rs with
       | none => false
       | some g => folded && !e.2.flight.contains j && !g.missing.contains sled && decide (d.rowsOn g sled ≤ rs % 768)))

/-- Nothing is lacking of a namespace on a target. -/
def Dev.nsWhole (d : Dev) (nsid sled : Nat) : Bool := (d.nsNeeds nsid sled).isEmpty && !d.openRowLacks nsid sled

/-! ## Targets (R233, R238) -/

/-- The code of a rebuild's kind (`REBUILD_STAT.KIND`). -/
def RebuildKind.code : RebuildKind → Nat
  | .replacement => 1 | .rejoin => 2

/-- A target's rebuild starts: event 0x2301. -/
def Dev.startRebuild (d : Dev) (t : Target) : Dev :=
  let need := d.rebuildNeed t.sled
  let r : Rebuild := { target := t, started := d.now, total := need, done := 0, lost := 0, left := need, cur := none, busy := false,
                       buf := [], gone := false }
  ({ d with prty := { d.prty with rebuild := some r } } : Dev).raise pPRTY 1 [t.sled, t.kind.code, need, (d.nssOf t.sled).length]

/-- The next waiting target's rebuild starts where none runs (R233). -/
def Dev.nextRebuild (d : Dev) : Dev :=
  if d.prty.rebuild.isSome then d
  else
    match d.prty.targets with
    | [] => d
    | t :: ts => ({ d with prty := { d.prty with targets := ts } }).startRebuild t

/-- A sled becomes a rebuild target of every namespace it is a member of: missing under rebuild for each (R28, R233). -/
def Dev.addTarget (d : Dev) (sled : Nat) (k : RebuildKind) : Dev :=
  let ns := d.nssOf sled
  if ns.isEmpty ∨ d.prty.targets.any (fun t => t.sled == sled) ∨ d.prty.rebuild.any (fun r => r.target.sled == sled) then d
  else
    let d1 := d.each ns (fun x n => x.modNs n (fun (y : Ns) => { y with rebuild := if y.rebuild.contains sled then y.rebuild else y.rebuild ++ [sled] }))
    ({ d1 with prty := { d1.prty with targets := d1.prty.targets ++ [Target.mk sled k] } }).nextRebuild

/-- A namespace of which nothing is lacking any more has its member back. -/
def Dev.nsRebuilt (d : Dev) (nsid sled : Nat) : Dev :=
  if d.nsWhole nsid sled ∧ (d.ns nsid).any (fun n => n.rebuild.contains sled) then
    (d.modNs nsid (fun y => { y with rebuild := y.rebuild.filter (· != sled) })).redundancyOf nsid
  else d

/-- The running rebuild completes once every namespace of its target is whole: event 0x2302, and the next target's starts (R233, R240
step 6). -/
def Dev.rebuildCheck (d : Dev) : Dev :=
  match d.prty.rebuild with
  | none => d
  | some r =>
    let s := r.target.sled
    let need := d.rebuildNeed s
    let d1 := { d with prty := { d.prty with rebuild := some { r with left := need, total := r.done + r.lost + need } } }
    let d2 := d1.each (d1.nssOf s) (fun x n => x.nsRebuilt n s)
    if (d2.nssOf s).all (fun n => d2.nsWhole n s) ∧ r.busy = false then
      let d3 := { d2 with prty := { d2.prty with rebuild := none, departed := d2.prty.departed.del s } }
      (d3.raise pPRTY 2 [s, r.done, r.lost, (d.now - r.started) / 1000000000]).redundancy.nextRebuild
    else d2

/-- A target that has gone is a missing member again: its rebuild ends, what it has received counts for nothing (R238, R557). -/
def Dev.endTarget (d : Dev) (sled : Nat) : Dev :=
  let was := d.prty.targets.any (fun t => t.sled == sled) || d.prty.rebuild.any (fun r => r.target.sled == sled)
  if was then
    let dead := (d.sched.recons.filter (fun e => decide (e.2.who = .rebuild))).map Prod.fst
    let running := d.prty.rebuild.any (fun r => r.target.sled == sled)
    let mine (u : DieUse) : Bool := match u with | .rebuildProg _ _ => true | _ => false
    let d1 := if running then (d.unqueue mine).each dead Dev.endRecon else d
    let d3 := { d1 with prty := { d1.prty with
      targets := d1.prty.targets.filter (fun t => t.sled != sled)
      rebuild := if running then none else d1.prty.rebuild
      departed := d1.prty.departed.modify sled (fun x => { x with full := true }) } }
    (d3.each (d3.nssOf sled) (fun x n => x.modNs n (fun y => { y with rebuild := y.rebuild.filter (· != sled) }))).redundancy.nextRebuild
  else d

/-! ## Departure and return (R239) -/

/-- A member whose port leaves UP, or that is counted failed, is noted as departed. -/
def Dev.depart (d : Dev) (sled : Nat) : Dev :=
  if (d.nssOf sled).isEmpty ∨ (d.prty.departed.find sled).isSome then d
  else { d with prty := { d.prty with departed := d.prty.departed.set sled { serial := (d.port sled).serial, at_ := d.now, dirty := [],
                                                                             loose := [], full := false } } }

/-- A sled away for good: its programs are settled and a rebuild onto it ends (R557). -/
def Dev.sledGone (d : Dev) (sled : Nat) : Dev := (d.settleSled sled).endTarget sled

/-- Reads that wait in the queues of a sled's dies, with their blocks. -/
def Dev.queuedReads (d : Dev) (sled : Nat) : List (DieUse × Nat) :=
  (d.media.dies.filter (fun e => e.1 / 256 == sled)).flatMap (fun e =>
    (e.2.queue.filter (fun i => i.kind == .read)).map (fun i => (i.d.use, e.1 * 2048 + i.d.block)))

/-- A sled is adopted, or treated as a new one: block states, die queues and its members of every group start over, and every block that
is not factory-bad is UNCERTAIN (R160, R208, R557).  What waited for the old one is served without it. -/
def Dev.newSled (d : Dev) (sled : Nat) : Dev :=
  let d0 := (d.settleSled sled).count pSCHD 0x208 (d.media.checks.count (fun b _ => b / 2048 / 256 == sled))
  let d1 := d0.dropCopies (fun c => c.sled == sled)
  let reads := d1.queuedReads sled
  let d2 := { d1 with
      media := { d1.media with
        blocks := d1.media.blocks.keep (fun b _ => b / 2048 / 256 != sled)
        dies := d1.media.dies.mapVals (fun k x => if k / 256 = sled then
          { Die.reset with st := if x.st = .offline then .offline else .idle, geomRead := x.geomRead, factoryBad := x.factoryBad, vectors := x.vectors }
          else x)
        checks := d1.media.checks.keep (fun b _ => b / 2048 / 256 != sled)
        readBacks := d1.media.readBacks.keep (fun b _ => b / 2048 / 256 != sled)
        unconfirmed := d1.media.unconfirmed.keep (fun b _ => b / 2048 / 256 != sled) }
      zone := { d1.zone with zones := d1.zone.zones.mapVals (fun k z =>
        if (d1.zns k).members.contains sled then
          { z with groups := z.groups.map (fun g => { g with blocks := g.blocks.del sled, missing := g.missing.filter (· != sled) }) }
        else z) }
      prty := { d1.prty with departed := d1.prty.departed.del sled, slow := d1.prty.slow.del sled, calm := d1.prty.calm.del sled
                             demoted := if hasBit d1.prty.demoted sled then d1.prty.demoted - 2 ^ sled else d1.prty.demoted } }
  reads.foldl (fun x r => x.readBadUse r.1 r.2 9 0) d2

/-- Blocks of a die that wait for no erase yet are handed to SCHD: the UNCERTAIN and the QUEUED ones (R160). -/
def Dev.eraseAll (d : Dev) (k : Nat) : Dev :=
  (d.each (((d.dieBlocks k).filter (fun e => e.2.st == .uncertain || e.2.st == .queued)).map Prod.fst) (fun x b =>
    x.enqueueErase (k * 2048 + b) (x.blk (k * 2048 + b)).slc)).floorCheck k

/-- A member sled is UP again (R239): rejoined where it is the same sled, in time and permitted; else treated as new. -/
def Dev.sledReturns (d : Dev) (sled : Nat) : Dev :=
  if d.active = false then d
  else
    match d.prty.departed.find sled with
    | none => d
    | some x =>
      let same := x.serial = 0 ∨ x.serial = (d.port sled).serial
      let inTime := d.now ≤ x.at_ + d.rf pPRTY 0x804 0 16 * 3600000000000
      if same ∧ inTime ∧ bitOf (d.cell pPRTY 0x804) 31 ∧ x.full = false then
        if (d.nssOf sled).all (fun n => d.nsWhole n sled) ∧ x.loose = [] then
          { d with prty := { d.prty with departed := d.prty.departed.del sled } }
        else d.addTarget sled .rejoin
      else
        let d1 := d.newSled sled
        (d1.each (((List.range 256).filter (fun p => d1.diePresent (dieKey sled p))).map (dieKey sled)) Dev.eraseAll).addTarget sled .replacement

/-! ## The rebuild's next row (R234, R235) -/

/-- The order of a namespace's groups (R234): exposed ones, those of active zones, those bound hot, the others; then by zone and group. -/
def Dev.groupRank (d : Dev) (nsid sled z gi : Nat) : Nat :=
  let n := (d.ns nsid).getD Ns.absent
  let zn := d.zn z
  let g := zn.groups.getD gi { pos := 0, blocks := [], missing := [] }
  let r := if n.members.any (fun s => s != sled && d.groupMissing n g s) then 0 else if zn.st.active then 1 else if zn.heat = 3 then 2 else 3
  r * 2 ^ 40 + zIdx z * 4 + gi

/-- The group the rebuild takes next: the one that it has begun, as long as that lacks rows; then the first namespace with work, and its first
group in order.  A group whose block is being replaced waits for it. -/
def Dev.nextGroup (d : Dev) (sled : Nat) : Option (Nat × Nat) :=
  let needs := (d.nssOf sled).map (fun n => (n, d.nsNeeds n sled))
  let copying (z gi : Nat) : Bool := d.media.copies.any (fun e => e.2.zone == z && e.2.group == gi && e.2.sled == sled)
  let begun := (d.prty.rebuild.bind (fun r => r.cur)).filter (fun c =>
    copying c.1 c.2.1 || needs.any (fun e => e.2.any (fun x => x.1 == c.1 && x.2.1 == c.2.1)))
  match begun with
  | some c => if copying c.1 c.2.1 then none else some (c.1, c.2.1)
  | none =>
    (needs.filterMap (fun e =>
      ((sortBy (fun (x : Nat × Nat × Nat) => d.groupRank e.1 sled x.1 x.2.1) e.2).filter (fun x => !copying x.1 x.2.1)).head?)).head?.map
      (fun x => (x.1, x.2.1))

/-- Rows of a group that may be damaged are dealt with first: the block is replaced, with the rows below them (R239). -/
def Dev.rebuildLoose (d : Dev) (sled z gi row : Nat) : Dev :=
  let d1 := { d with prty := { d.prty with departed := d.prty.departed.modify sled (fun x =>
    { x with loose := x.loose.filter (fun e => !(e.1 == z && e.2 / 768 == gi)) }) } }
  (d1.setBlk (dieKey sled (((d.zn z).groupOf row).elim 0 (·.pos)) * 2048 + (((d.zn z).groupOf row).elim 0 (fun g => g.blockOn sled)))
    (fun b => { b with confirmed := row % 768 })).rebuildReplace z row false

/-- The rebuild stands at a row of a group. -/
def Dev.rebuildAt (e : Dev) (r : Rebuild) (z gi row last : Nat) (busy : Bool) : Dev :=
  { e with prty := { e.prty with rebuild := some { r with cur := some (z, gi, row, last), busy := busy, buf := [], gone := false } } }

/-- The next row of the running rebuild: the target's block is taken where the group has none, *D* source units are read, or the row is
found lost (R234, R237, R238). -/
def Dev.rebuildRowOf (d : Dev) (r : Rebuild) (z gi : Nat) : Dev :=
  let s := r.target.sled
  match (d.zn z).groups[gi]? with
  | none => d
  | some g =>
    let k := dieKey s g.pos
    let last := gi * 768 + d.rowsWritten z gi
    if g.blockOn s = 0x1FFF then
      match d.pickBlock z k d.sysc.epoch with
      | some b => ((d.takeBlk (k * 2048 + b)).mapBlock z gi s b).rebuildAt r z gi (gi * 768) last false
      | none =>
        let e := d.rebuildAt r z gi (gi * 768) last false
        if d.awaiting k then e.makeUrgent k else e.rebuildSkip
    else
      let row := gi * 768 + d.rowsOn g s
      let e := d.rebuildAt r z gi row last true
      let f := e.startForced (d.bgRecon .rebuild z row ((d.zns z).slotOn s row))
      if f.2.isSome then f.1
      else
        let i := e.newRecon (e.bgRecon .rebuild z row ((d.zns z).slotOn s row))
        i.1.reconFailed i.2

/-- A rebuild step (R234). -/
def Dev.rebuildStep (d : Dev) : Dev :=
  let d := d.rebuildCheck
  match d.prty.rebuild with
  | none => d
  | some r =>
    if r.busy then d
    else
      match d.nextGroup r.target.sled with
      | none => d
      | some (z, gi) =>
        match d.looseIn r.target.sled z gi with
        | some row => d.rebuildLoose r.target.sled z gi row
        | none => d.rebuildRowOf r z gi

end Sys2Proof.Machine
end

