-- ==== Sys2Proof/Machine/Dram.lean ====
section
/-! DEFINITION. The commands of the DRAM controller (R374 to R398). -/

namespace Sys2Proof.Machine

/-! ## Requests and reads (R378 to R385) -/

/-- DRAM_REQUEST (R383, R384): a port's read or write of at most 64 bytes within one burst; `mergeBad` where the read of a merge finds the
burst uncorrectable.  The channel takes it while it serves. -/
def Dev.dramRequest (d : Dev) (port addr len : Nat) (data : Option (List Byte)) (mergeBad : Bool) (use : DramUse) : Dev :=
  let a := addr - dramBase
  let n := match data with | some bs => bs.length | none => len
  if port < 8 ∧ dramBase ≤ addr ∧ a < d.dramBytes ∧ 1 ≤ n ∧ a % 64 + n ≤ 64 ∧ (d.chan (chanOf a)).serves then
    d.request port a n data mergeBad use
  else d

/-- Poison leaves a burst that is written back whole. -/
def Dev.unpoison (d : Dev) (a : Nat) : Dev := { d with dram := { d.dram with poison := d.dram.poison.filter (· ≠ a / 64) } }

/-- Any burst of an extent is stored poisoned. -/
def Dev.poisonedIn (d : Dev) (addr len : Nat) : Bool :=
  d.dram.poison.any (fun b => decide ((addr - dramBase) / 64 ≤ b) && decide (b < (addr - dramBase + len + 63) / 64))

/-- The unit that an area's data slot holds is lost (R237, R380). -/
def Dev.slotLost (d : Dev) (a : Nat) : Dev :=
  let x := d.area a
  let n := d.zns x.zone
  d.loseRow x.zone (x.unit / n.d) (n.sledOf (x.unit % n.d) (x.unit / n.d))

/-- An accumulator that came poisoned is recomputed (R269, R380): from the confirmed units, and from the other accumulator for those on
missing members, as far as R225 allows; what cannot be had is lost. -/
def Dev.accumAgain (d : Dev) (a : Nat) (q : Bool) (addr : Nat) : Dev :=
  let x := d.area a
  let n := d.zns x.zone
  match x.accRow with
  | none => d.unpoison addr
  | some rs =>
    let missing := (List.range x.accN).filter (fun j => (d.port (n.sledOf j rs)).st ≠ .up)
    let other := d.poisonedIn (partAddr n.plc a (if q then 1 else 2)) n.unitBytes
    let spare := if other then 0 else 1
    if missing.length ≤ spare then d.unpoison addr
    else (d.each missing (fun y j => y.loseRow x.zone rs (n.sledOf j rs))).unpoison addr

/-- A parity job that a source reached poisoned runs again from freshly read sources (R380). -/
def Dev.jobAgain (d : Dev) (n : Nat) : Dev :=
  match d.prty.jobs.find n with
  | none => d
  | some j =>
    match j.kind with
    | .fold _ => d
    | .recon i =>
      match d.sched.recons.find i with
      | none => d
      | some r =>
        let d1 := (d.endPJob n).modRecon i (fun x => { x with asked := [], good := [], got := [], wait := [] })
        let rd := d.readyBytes (d.zns (zoneKey r.nsid r.zone)) (zoneKey r.nsid r.zone) r.row
        let kept := r.good.filter (fun m => !r.asked.contains m)
        let d2 := d1.modRecon i (fun x => { x with good := kept, got := kept.foldl (fun g m => SMap.set g m (rd m r.off r.count)) x.got })
        let again := r.asked.filter (fun m => !r.bad.contains m)
        if again.isEmpty then d2.reconReady i else d2.each again (fun x m => x.askMember i m none)

/-- What a poisoned burst does to its consumer (R380). -/
def Dev.poisonHit (d : Dev) (a : Nat) (use : DramUse) : Dev :=
  match use with
  | .plain => d
  | .hostRead c => (d.dropSubs c).commitCtx c 0x281 false 0
  | .hostWrite c => d.abandonCtx c 2 (some 0x004)
  | .slot ar _ =>
    if (d.area ar).folded then d.unpoison a
    else if d.peer.pair = .mirrored then d.unpoison a
    else (d.slotLost ar).unpoison a
  | .accum ar q => d.accumAgain ar q a
  | .codeword key => match d.op key with | some o => d.readBad key o 0 | none => d
  | .parity n => d.jobAgain n
  | .table true => d.unpoison a
  | .table false => (((d.takeFree).takeFree).offer (Config.freeNat d.free % 65536) 3 [Config.freeWord (d.free + 1)] none)
  | .vault => d
  | .audit => d

/-- What the decoder makes of a burst read by a port, and what follows (R378, R380). -/
def Dev.burstRead (d : Dev) (ch : Nat) (r : DramReq) (errs : List Nat) : Dev :=
  let bytes := d.bytes (dramBase + r.addr) r.len
  match d.ecc r.addr errs with
  | .clean => (d.answer ch r).emit (.burst r.port bytes false)
  | .corrected dv => ((d.corrected ch r.addr r.port dv).answer ch r).emit (.burst r.port bytes false)
  | .uncorrectable => (((d.uncorrectable ch r.addr r.port).answer ch r).emit (.burst r.port bytes true)).poisonHit r.addr r.use
  | .poisoned => ((d.answer ch r).emit (.burst r.port bytes true)).poisonHit r.addr r.use

/-- DRAM_BURST_READ (R378): the command slots of a subchannel serve what arbitration puts first, up to and including the next read, whose
burst holds errors in the symbols `errs`. -/
def Dev.dramBurstRead (d : Dev) (ch sub : Nat) (errs : List Nat) : Dev :=
  if (d.chan ch).serves = false then d
  else
    let t := Dev.drainTo (d.chan ch).reqs.length d ch sub
    match t.2 with
    | none => t.1
    | some r => t.1.burstRead ch r errs

/-! ## Refresh and temperature (R386, R387) -/

/-- A bank of a subchannel holds a request of urgency 3. -/
def Dev.bankUrgent (d : Dev) (ch k : Nat) : Bool :=
  (d.chan ch).reqs.any (fun r => d.bankKey r.addr == k && d.urgOf ch r == 3)

/-- One bank of a same-bank refresh: postponed, or closed and refreshed with every refresh it had postponed. -/
def Dev.refreshBank (d : Dev) (ch : Nat) (post : Bool) (k : Nat) : Dev :=
  d.setChan ch (fun c => { c with banks := c.banks.upd DramBank.reset k (fun b =>
    if post then { b with postponed := b.postponed + 1 } else { b with postponed := 0, openRow := none }) })

/-- REFRESH_DUE (R386): for the banks, one in each bank group, that one command refreshes. -/
def Dev.refreshDue (d : Dev) (ch : Nat) (banks : List Nat) : Dev :=
  if (d.chan ch).serves = false then d
  else
    let limit := d.rf (pDRAM ch) 0x804 24 4
    let post := banks.any (d.bankUrgent ch) && banks.all (fun k => decide (((d.chan ch).banks.get DramBank.reset k).postponed < limit))
    d.each banks (fun x k => x.refreshBank ch post k)

/-- The MR4 code read; 0xFF where nothing was. -/
def Mr4.code : Mr4 → Nat
  | .single c | .double c | .beyond c | .reserved c => c
  | .unread => 0xFF

/-- Refresh at 1× is enough. -/
def Mr4.cool : Mr4 → Bool
  | .single _ => true
  | _ => false

/-- A hot input of R501. -/
def Mr4.hot : Mr4 → Bool
  | .beyond _ | .unread => true
  | _ => false

/-- Why refresh is doubled, as event 0x03 codes it. -/
def Mr4.why : Mr4 → Nat
  | .single _ => 1
  | .double _ | .beyond _ => 0
  | .reserved _ | .unread => 2

/-- One rank's refresh rate after a poll: doubled at once, restored after two polls in a row at 1× (R387). -/
def Dev.rankPoll (d : Dev) (ch rank : Nat) (a b : Mr4) : Dev :=
  let force := bitOf (d.cell (pDRAM ch) 0x804) 31
  let worst := if a.cool then b else a
  let was := (d.chan ch).dbl.getD rank false
  let calm := if worst.cool then (d.chan ch).calm.getD rank 0 + 1 else 0
  let d1 := d.setChan ch (fun c => { c with calm := c.calm.set rank (satAt 2 calm) })
  if force ∨ worst.cool = false then
    if was then d1
    else (d1.setChan ch (fun c => { c with dbl := c.dbl.set rank true })).raise (pDRAM ch) 3 [rank, worst.code, worst.why, 0]
  else if was ∧ 2 ≤ calm then
    (d1.setChan ch (fun c => { c with dbl := c.dbl.set rank false })).raise (pDRAM ch) 4 [rank, worst.code, 0, 0]
  else d1

/-- The hot input of a channel to THRM (R501): the first of all records event 0x0408. -/
def Dev.hotInput (d : Dev) (ch : Nat) (hot : Bool) : Dev :=
  let old := d.thrm.hot
  let new := if hot then (if hasBit old ch then old else old + 2 ^ ch) else (if hasBit old ch then old - 2 ^ ch else old)
  let d1 := { d with thrm := { d.thrm with hot := new } }
  if old = 0 ∧ hot then d1.raise pTHRM 8 [ch] else d1

/-- MR4_POLL (R387): the hottest reading of each subchannel × 2 + rank. -/
def Dev.mr4Poll (d : Dev) (ch : Nat) (rs : List Mr4) : Dev :=
  if (d.chan ch).serves = false then d
  else
    let g (i : Nat) : Mr4 := rs.getD i (.single 0)
    let ranks := List.range d.drec.ranks
    let d1 := d.setChan ch (fun c => { c with temp := [0, 1, 2, 3].map (fun i => (g i).code) })
    let d2 := d1.each ranks (fun x r => x.rankPoll ch r (g r) (g (2 + r)))
    let seen := [0, 1, 2, 3].filter (fun i => decide (i % 2 < d.drec.ranks))
    let d3 := d2.each (seen.filter (fun i => (g i).hot)) (fun x i => x.raise (pDRAM ch) 9 [i, (g i).code, 0, 0])
    d3.hotInput ch (seen.any (fun i => (g i).hot))

/-! ## Retraining, page close, scrub (R381, R385, R388, R389) -/

/-- DQS_OSC_MEASURE (R388): a pause of `ns` measures the drift. -/
def Dev.dqsMeasure (d : Dev) (ch sub drift ns : Nat) : Dev :=
  if d.mayPause ch ∧ ns ≤ 500 then
    (d.paused ch ns).setChan ch (fun c => { c with drift := c.drift.set sub drift })
  else d

/-- RETRAIN_STEP (R388, R389): step 0 read delays, 1 write delays, 2 the read reference voltage of a subchannel; a failure names the rank. -/
def Dev.retrainStep (d : Dev) (ch sub step ns : Nat) (failed : Option Nat) : Dev :=
  if d.mayPause ch ∧ step < 3 ∧ ns ≤ d.rf (pDRAM ch) 0x808 0 16 then
    let d1 := d.paused ch ns
    match failed with
    | none =>
      d1.setChan ch (fun c => { c with trainFails := [0, 0], drift := if step = 2 then c.drift.set sub 0 else c.drift })
    | some rank =>
      let n := (d.chan ch).trainFails.getD rank 0 + 1
      let d2 := (d1.setChan ch (fun c => { c with trainFails := c.trainFails.set rank n })).count (pDRAM ch) 0x158 1
      if n = 4 then (d2.raise (pDRAM ch) 5 [sub, rank, step, n]).retireCond ch rank 2 else d2
  else d

/-- PAGE_CLOSE_TIMEOUT (R385): the open row of a bank has been idle for HOLD_NS. -/
def Dev.pageClose (d : Dev) (ch bank : Nat) : Dev :=
  d.setChan ch (fun c => { c with banks := c.banks.upd DramBank.reset bank (fun b => { b with openRow := none }) })

/-- Bursts of a channel that are in use. -/
def Dev.chanBursts (d : Dev) (ch : Nat) : Nat := (d.chan ch).usableGiB * 16777216

/-- The address of the scrub's burst `n` of a channel. -/
def scrubAddr (ch n : Nat) : Nat := n / 2 * 512 + n % 2 * 256 + ch * 64

/-- The scrub moves on; at the end of a pass it starts over. -/
def Dev.scrubNext (d : Dev) (ch : Nat) : Dev :=
  let n := (d.chan ch).scrubPos + 1
  d.setChan ch (fun c =>
    if n < d.chanBursts ch then { c with scrubPos := n }
    else { c with scrubPos := 0, scrubTold := false, scrubPasses := (c.scrubPasses + 1) % 65536 })

/-- An uncorrectable burst that the scrub finds (R381, R391): nothing is written, the first of a pass is told, one found before meets the
retirement condition. -/
def Dev.scrubBad (d : Dev) (ch a : Nat) : Dev :=
  let d1 := if (d.chan ch).scrubTold then ((d.count (pDRAM ch) 0x134 1).eccCapture ch a 0xFF 0 (d.rankAt a) true) else d.uncorrectable ch a 0xFF
  let d2 := d1.setChan ch (fun c => { c with scrubTold := true, ueSeen := if c.ueSeen.contains a then c.ueSeen else c.ueSeen ++ [a] })
  if (d.chan ch).ueSeen.contains a then d2.retireCond ch (d.rankAt a) 1 else d2

/-- PATROL_SCRUB (R381): the next burst, which holds errors in the symbols `errs`. -/
def Dev.patrolScrub (d : Dev) (ch : Nat) (errs : List Nat) : Dev :=
  if (d.chan ch).serves = false ∨ d.rf (pDRAM ch) 0x80C 0 8 = 0 then d
  else
    let a := scrubAddr ch (d.chan ch).scrubPos
    (match d.ecc a errs with
     | .clean | .poisoned => d
     | .corrected dv => d.corrected ch a 0xFF dv
     | .uncorrectable => d.scrubBad ch a).scrubNext ch

/-! ## Rank retirement (R391 to R393) -/

/-- RANK_RETIREMENT (R392 steps 1 and 2): the condition that a rank has met is taken up. -/
def Dev.rankRetirement (d : Dev) (ch : Nat) : Dev :=
  match (d.chan ch).cond with
  | some (rank, cause) => if (d.chan ch).serves then d.startRetire ch rank cause else d
  | none => d

/-- A retirement runs on some channel. -/
def Dev.anyRetiring (d : Dev) : Bool := [0, 1, 2, 3].any (fun c => (d.chan c).retiring.isSome)

/-- RANK_RETIRE_WRITE (R391, R393): dropped without CONFIRM, and while a retirement runs. -/
def Dev.rankRetireWrite (d : Dev) (ch : Nat) (v : Word) (master : Nat) : Dev :=
  d.onWrite (pDRAM ch) 0x814 master (fun x =>
    if bitOf v 31 = false ∨ x.anyRetiring then x.deny (pDRAM ch)
    else if (x.chan ch).serves then x.startRetire ch (if bitOf v 0 then 1 else 0) 3
    else x)

/-- RANK_COPY_START (R392 step 3): rank 0 is copied; rank 1 leaves at once. -/
def Dev.rankCopyStart (d : Dev) (ch : Nat) : Dev :=
  match (d.chan ch).retiring with
  | some r =>
    if r.moved ∧ (d.chan ch).st = .running ∧ d.valt.st = .idle then
      if r.rank = 0 then d.setChan ch (fun c => { c with st := .copying, retiring := some { r with copied := 0, poisoned := 0 } })
      else d.endRetire ch 0 r
    else d
  | none => d

/-- RANK_COPY_DONE (R392 steps 3 to 5), with the bursts of rank 0, by address ÷ 64, that the copy read uncorrectable. -/
def Dev.rankCopyDone (d : Dev) (ch : Nat) (bad : List Nat) : Dev :=
  match (d.chan ch).retiring with
  | some r =>
    if (d.chan ch).st = .copying then
      let mine (b : Nat) : Bool := chanOf (b * 64) == ch && d.drec.rankOf (burstOf (b * 64)) == 0
      let new := (bad.filter (fun b => mine b && !d.dram.poison.contains b)).eraseDups
      let d1 := ({ d with dram := { d.dram with poison := d.dram.poison ++ new } }).count (pDRAM ch) 0x138 new.length
      d1.endRetire ch (d1.dram.poison.filter mine).length r
    else d
  | none => d

/-! ## Reads with an effect (R396, R397) -/

/-- DRAM_ERR_INFO_READ: the captured error is returned and cleared, and the capture takes the next one. -/
def Dev.errInfoRead (d : Dev) (ch master : Nat) : Dev :=
  d.onRead (pDRAM ch) 0x144 master (fun x =>
    (((x.setCell (pDRAM ch) 0x144 0).setChan ch (fun c => { c with armed := true })).emit (.word (x.cell (pDRAM ch) 0x144) false)))

/-- LAT_MAX_READ, for the port that PORT_SEL shows. -/
def Dev.latMaxRead (d : Dev) (ch master : Nat) : Dev :=
  d.onRead (pDRAM ch) 0x128 master (fun x =>
    let p := x.rf (pDRAM ch) 0x110 0 3
    (x.dport ch p (fun q => { q with latMax := 0 })).emit (.word (u32 ((x.chan ch).ports.get DramPort.reset p).latMax) false))

/-- PAUSE_MAX_READ. -/
def Dev.pauseMaxRead (d : Dev) (ch master : Nat) : Dev :=
  d.onRead (pDRAM ch) 0x15C master (fun x =>
    (x.setChan ch (fun c => { c with pauseMax := 0 })).emit (.word (u32 (x.chan ch).pauseMax) false))

end Sys2Proof.Machine
end

