-- ==== Sys2Proof/Machine/PowerOps.lean ====
section
/-! DEFINITION. Device levels, the idle timer, DORMANT refusals and wake latches, pad holds, reset and the boot ROM's sequence
(R19 to R21, R374, R400, R402, R450 to R453, R464 to R486). -/

namespace Sys2Proof.Machine

/-! ## Device levels (R464) -/

/-- The functions that count for the device level: those whose CC.EN is 1. -/
def Dev.counted (d : Dev) : List Fn :=
  (d.host.ports.flatMap (fun p => p.2.fns.map (fun f => f.2))).filter (fun f => f.en)

/-- The power state a function counts as: D3hot counts as PS4. -/
def Fn.state (f : Fn) : Nat := if f.d3 then 4 else f.ps

def Dev.allPs4 (d : Dev) : Bool := d.counted.all (fun f => f.state == 4)

/-- The code of the device level. -/
def Dev.level (d : Dev) : Nat :=
  if d.sysc.cur = .dormant then 4
  else d.counted.foldl (fun a f => if f.state < a then f.state else a) 3

/-! ## The idle timer (R466) -/

def Dev.idleMay (d : Dev) : Bool :=
  d.fsto.bootOk && d.allPs4 && (d.sysc.cur == .standalone || d.sysc.cur == .partitioned)
    && d.peer.pair == .unpaired && d.rf pPOWR 0x10C 0 1 == 0

/-- The period in ms: IDLE_CTRL.MS × 2^k. -/
def Dev.idlePeriod (d : Dev) : Nat := d.rf pPOWR 0x104 0 16 * 2 ^ d.powr.backoff

/-- The timer starts where its conditions hold and stops where one ceases to; the exponent returns to 0 at RUN, CAP1 and CAP2. -/
def Dev.idleCheck (d : Dev) : Dev :=
  let p := if d.level ≤ 2 then { d.powr with backoff := 0 } else d.powr
  if d.idleMay then
    if p.entry = .none then { d with powr := { p with entry := .timing, timerAt := some d.now } } else { d with powr := p }
  else if p.entry = .timing then { d with powr := { p with entry := .none, timerAt := none } }
  else { d with powr := p }

/-! ## Refused entries and wake sources (R467, R468, R472) -/

/-- A refusal in the prepare phase (R468): latched, the stopped blocks restarted, event 0x0201, the exponent raised, the timer
reloaded. -/
def Dev.prepRefuse (d : Dev) (block reason : Nat) : Dev :=
  if d.powr.entry ≠ .prepare then d
  else
    let k := d.powr.backoff
    let p := { d.powr with refBlock := block, refReason := reason, refStep := d.powr.step, stopped := [], step := 0, entry := .none,
                           timerAt := none }
    let d1 := { d with powr := p, host := { d.host with stopped := false }, sysc := { d.sysc with busy := false } }
    let d2 := (d1.count pPOWR 0x120 1).raise pPOWR 1 [block, reason, d.powr.step, k]
    ({ d2 with powr := { d2.powr with backoff := if k < 6 then k + 1 else 6 } }).idleCheck

/-- A wake source of R472 arrives at a block: a refusal in the prepare phase, and a latched wake from the commit onward. -/
def Dev.wakeIn (d : Dev) (bit block : Nat) : Dev :=
  match d.powr.entry with
  | .prepare => d.prepRefuse block 7
  | .commit =>
    let w := if hasBit d.powr.wakeLatch bit then d.powr.wakeLatch else d.powr.wakeLatch + 2 ^ bit
    let s := if hasBit d.powr.wakeSrc bit then d.powr.wakeSrc else d.powr.wakeSrc + 2 ^ bit
    { d with powr := { d.powr with wakeLatch := w, wakeSrc := s } }
  | _ =>
    if d.sysc.cur = .dormant ∧ d.powr.entry ≠ .waking then
      let w := if hasBit d.powr.wakeLatch bit then d.powr.wakeLatch else d.powr.wakeLatch + 2 ^ bit
      let s := if hasBit d.powr.wakeSrc bit then d.powr.wakeSrc else d.powr.wakeSrc + 2 ^ bit
      { d with powr := { d.powr with wakeLatch := w, wakeSrc := s } }
    else d

/-! ## Mode changes (R21, R22) -/

/-- The current mode changes, and no transition is under way any more (R49); the idle timer follows it (R466). -/
def Dev.setMode (d : Dev) (m : Mode) : Dev := ({ d with sysc := { d.sysc with cur := m, busy := false } }).idleCheck

/-- A transition to another mode is under way (`MODE.BUSY`, R49): the mode itself changes at its end (DEDUCED, log entry 62). -/
def Dev.modeBusy (d : Dev) : Dev := { d with sysc := { d.sysc with busy := true } }

/-- SERVICE is entered for a service action: the return mode is stored (R21). -/
def Dev.enterService (d : Dev) (s : Service) : Dev :=
  ({ d with sysc := { d.sysc with ret := some d.sysc.cur, service := some s } }).storeModes.setMode .service

/-- SERVICE ends: the return mode is cleared and entered (R21). -/
def Dev.leaveService (d : Dev) : Dev :=
  let m := d.sysc.ret.getD .standalone
  ({ d with sysc := { d.sysc with ret := none, service := none } }).storeModes.setMode m

/-- A management change is refused with a code of R41: EPOCH_RESULT and event 0x0003. -/
def Dev.refuseChange (d : Dev) (code master : Nat) : Dev :=
  ({ d with sysc := { d.sysc with epochResult := code } }).raise pSYSC 3
    [code, d.sysc.epoch.toNat, d.sysc.epochRetired.toNat, master]

/-- Code 1 of R41: the previous epoch has not yet retired. -/
def Dev.epochBusy (d : Dev) : Bool := decide (1 < (d.sysc.epoch - d.sysc.epochRetired).toNat)

/-! ## Pad holds (R476, R477) -/

/-- The levels of a group's pads: SLOT_PWREN in bits 15:0 and SLOT_ATTN_N in bits 31:16; each fan output; one bit for the others. -/
def Dev.padDriven (d : Dev) (g : Nat) : Nat :=
  if g = 0 then
    maskOf ((List.range 16).filter (fun n => (d.port n).pwren)) + 65536 * maskOf ((List.range 16).filter (fun n => d.rf (pSLK n) 0x10C 0 2 == 0))
  else if g = 1 then
    maskOf ((List.range 4).filter (fun n => decide ((d.thrm.fans.get Fan.reset n).duty = 100)
      || (decide ((d.thrm.fans.get Fan.reset n).duty ≠ 0) && hasBit (Config.freeNat d.free) n)))
  else if g = 3 then (if d.side.alert then 0 else 1)
  else 0

/-- Pad groups are held at the levels their pads have. -/
def Dev.padHold (d : Dev) (gs : List Nat) : Dev :=
  let lv := gs.foldl (fun (m : SMap Nat) g => m.set g (d.padDriven g)) d.powr.padLevel
  { d with powr := { d.powr with padHeld := d.powr.padHeld ||| maskOf gs, padLevel := lv }, free := d.free + 1 }

def Dev.padFree (d : Dev) (g : Nat) : Dev :=
  { d with powr := { d.powr with padHeld := if hasBit d.powr.padHeld g then d.powr.padHeld - 2 ^ g else d.powr.padHeld,
                                 padLevel := d.powr.padLevel.del g } }

/-! ## Slots (R203, R209, R211) -/

/-- A sled record (R203): its status (0 absent, 1 valid, 2 refused), serial number and maximum power. -/
def Dev.sledRecord (d : Dev) (r : List Byte) : Nat × Nat × Nat :=
  let sum := (r.take 14).foldl (fun a b => (a + b.toNat) % 65536) 0
  if r.length = 16 ∧ ofLe (cut r 0 2) = 0x4B54 ∧ ofLe (cut r 14 2) = sum then
    (if d.sysc.manifest.slotPower < ofLe (cut r 12 2) then 2 else 1, ofLe (cut r 4 8), ofLe (cut r 12 2))
  else (0, 0, 0)

/-- The firmware runs its ports: after the boot and outside RECOVERY (R209). -/
def Dev.portsRun (d : Dev) : Bool :=
  d.powr.phase == .starting || d.powr.phase == .recovering || d.powr.phase == .running

/-- A port is powered (R211): SLOT_PWREN is asserted while the slot is occupied. -/
def Dev.powerPort (d : Dev) (n : Nat) : Dev :=
  if (d.port n).prsnt then d.setPort n (fun x => { x with st := .powering, pwren := true, orderly := false }) else d

/-- The sled in an EMPTY port's slot is taken up (R203, R211): its record is read, event 0x0B recorded, and the port powered; a record refused
makes it REFUSED, with event 0x0F, and EN 0 keeps it OFF. -/
def Dev.takeSlot (d : Dev) (n : Nat) : Dev :=
  let r := d.sledRecord (d.port n).slotRec
  let d1 := d.setPort n (fun x => { x with recStat := r.1, recSerial := r.2.1, authFails := 0, firstReads := false, orderly := false
                                           link := { x.link with capRate := 0 } })
  let d2 := d1.raise (pSLK n) 11 [r.2.1 % 2 ^ 32, r.1]
  let d3 := if r.1 = 2 then d2.raise (pSLK n) 15 [r.2.2, d.sysc.manifest.slotPower] else d2
  if d.rf (pSLK n) 0x100 0 1 = 0 then d3.setPort n (fun x => { x with st := .off })
  else if r.1 = 2 then d3.setPort n (fun x => { x with st := .refused })
  else d3.powerPort n

/-- The ports start: every slot that is occupied is taken up. -/
def Dev.portsStart (d : Dev) : Dev :=
  d.each ((List.range 16).filter (fun n => (d.port n).prsnt && (d.port n).st == .empty)) Dev.takeSlot

/-! ## Reset (R483) -/

/-- What lies in flash and so outlasts every reset: the vault image, the journal pages, the checkpoint and the anchor. -/
def Valt.keep (v : Valt) : Valt :=
  { Valt.reset with image := v.image, unsealedNum := v.unsealedNum, lossCause := v.lossCause, anchor := v.anchor, flash := v.flash,
                    triples := v.triples, nextTriple := v.nextTriple, pages := v.pages, ckptNum := v.ckptNum, ckpt := v.ckpt, pfailLow := v.pfailLow, holdup := v.holdup,
                    holdupAt := v.holdupAt }

/-- The log pages on flash outlast every reset. -/
def Evnt.keep (e : Evnt) : Evnt :=
  { Evnt.reset with pages := e.pages, pageNo := e.pageNo, triple := e.triple, sealedExtent := e.sealedExtent, sealLast := e.sealLast }

/-- A cold reset (R483): everything but the NOR die, the row and what lies in flash.  Running NOR operations are cut off (R437);
which references run is the board's. -/
def Dev.coldReset (d : Dev) : Dev :=
  let d1 := d.each (d.fsto.op0.toList ++ d.fsto.op1.toList) Dev.norCut
  { Dev.reset with nor := d1.nor, otp := d1.otp, free := d1.free, out := d1.out, valt := d1.valt.keep, evnt := d1.evnt.keep,
                   clkr := { Clkr.reset with refs := d1.clkr.refs } }

/-- A warm reset (R483): the daisy island keeps its causes, counters, straps and the SLOT and FAN holds; which slots are occupied
is the board's. -/
def Dev.resetNow (d : Dev) (cause : Nat) (vaulted : Bool) : Dev :=
  let d1 := (d.each (d.fsto.op0.toList ++ d.fsto.op1.toList) Dev.norCut).padHold [0, 1]
  let ports := (List.range 16).filter (fun n => (d1.port n).prsnt)
  let held := (d1.powr.padLevel.find 0).getD 0
  { Dev.reset with
      nor := d1.nor, otp := d1.otp, free := d1.free, out := d1.out, valt := d1.valt.keep, evnt := d1.evnt.keep
      sysc := { Sysc.reset with straps := d1.sysc.straps }
      clkr := { d1.clkr with cause := cause, vaulted := vaulted, warmResets := (d1.clkr.warmResets + 1) % 2 ^ 32, pllLock := 0,
                             losses := 0, resetToTell := true }
      powr := { Powr.reset with padHeld := 3, padLevel := d1.powr.padLevel.keep (fun g _ => decide (g < 2)), rails := d1.powr.rails }
      side := { Side.reset with wakes := d1.side.wakes, addrNacks := d1.side.addrNacks }
      thrm := { Thrm.reset with tripped := decide (cause = 5) }
      ports := ports.foldl (fun (m : SMap Port) n =>
        m.put Port.reset n { Port.reset with prsnt := true, pwren := hasBit held n, slotRec := (d1.port n).slotRec }) [] }

/-! ## Start of the firmware -/

/-- K_pair and the pair identifier (R402): unsealed from the PAIR record, or drawn at the first start; then K_pw is loaded. -/
def Dev.savePair (d : Dev) (paired : Bool) : Dev :=
  let sealed := fitBytes 40 (Config.wrap d.cryp.kKek stdIv d.cryp.kPair)
  d.cfgMake 3 0 ([u32 d.cryp.pairId, u32 (d.cryp.pairId / 2 ^ 32), u32 (d.peer.index + if paired then 256 else 0)] ++ wordsOf 10 sealed)

def Dev.loadPair (d : Dev) : Dev :=
  match d.cfgRead 3 0 with
  | some ws =>
    let id := (ws.getD 0 0).toNat + 2 ^ 32 * (ws.getD 1 0).toNat
    let ix := (ws.getD 2 0).toNat
    let k := fitBytes 32 ((Config.unwrap d.cryp.kKek stdIv (fitBytes 40 ((ws.drop 3).flatMap (fun w => leBytes 4 w.toNat)))).getD [])
    { d with cryp := { d.cryp with kPair := k, pairId := id, kPw := kPwOf k, pwLoaded := true }
             peer := { d.peer with index := ix % 2, pair := if 256 ≤ ix then .solo else .unpaired } }
  | none =>
    let r := d.draw 32
    let s := r.2.draw 8
    ({ s.2 with cryp := { s.2.cryp with kPair := r.1, pairId := ofLe s.1, kPw := kPwOf r.1, pwLoaded := true } }).savePair false

/-- The base and return modes as the configuration store holds them (R20).  A return mode is not entered again. -/
def Dev.loadModes (d : Dev) : Dev :=
  match d.cfgRead 1 0 with
  | some ws => { d with sysc := { d.sysc with base := modeOf (ws.getD 0 7).toNat, ret := none } }
  | none => { d with sysc := { d.sysc with base := none, ret := none } }

/-- The highest SEQ on NOR, plus 1 (R456). -/
def Dev.loadSeq (d : Dev) : Dev :=
  let seqs := d.cfgWindow.flatMap (fun s => (d.cfgRecs s.1).map (fun f => f.rcd.seq + 1))
  { d with fsto := { d.fsto with cfgSeq := seqs.foldl Nat.max 0 } }

/-- The DRAM channels come up from the manifest (R374, R395); ranks retired before stay retired (R391), and a copy cut off starts
over (R393). -/
def Dev.dramStart (d : Dev) : Dev :=
  let gib := d.drec.gib / 4
  let st (c r : Nat) : Nat := (d.rankRec c r).1
  let any := [0, 1, 2, 3].any (fun c => st c 0 == 2 || st c 1 == 2)
  d.each [0, 1, 2, 3] (fun x c =>
    let pend := if st c 0 = 1 then some (0, (d.rankRec c 0).2) else if st c 1 = 1 then some (1, (d.rankRec c 1).2) else none
    x.setChan c (fun _ => { Chan.reset with
      st := .running, usableGiB := if any then gib / 2 else gib, lowRank := if st c 0 = 2 then 1 else 0,
      retired := (if st c 0 = 2 then 1 else 0) + (if st c 1 = 2 then 2 else 0), cond := pend }))

/-- The pages of the part (R31). -/
def allPages : List Nat := (List.range 512).filter pageExists

/-- The firmware sets every EVT_EN bit (R512). -/
def Dev.enableEvents (d : Dev) : Dev := d.each allPages (fun x p => x.setHdr p (fun h => { h with evtEn := 0xFFFFFFFF }))

/-- The trip that the ROM kept is told (R505). -/
def Dev.tellTrip (d : Dev) : Dev :=
  match d.clkr.tripToTell with
  | some (s, v) => ({ d with clkr := { d.clkr with tripToTell := none } }).raise pTHRM 9 [s, ofSigned v]
  | none => d

/-- The reset that has happened is told (R491). -/
def Dev.tellReset (d : Dev) : Dev :=
  if d.clkr.resetToTell then
    ({ d with clkr := { d.clkr with resetToTell := false } }).raise pCLKR 3 [d.clkr.cause, if d.clkr.vaulted then 1 else 0, d.clkr.warmResets]
  else d

/-- SIDE runs where its enable is 1. -/
def Dev.sideStart (d : Dev) : Dev := { d with side := { d.side with running := bitOf (d.cell pSIDE 0x104) 0 } }

/-- The firmware starts: it sets every EVT_EN bit (R512), the configuration store is read, keys are unsealed, events held by the ROM are recorded (R402, R459, R463,
R491, R505), and SIDE runs. -/
def Dev.firmwareStart (d : Dev) : Dev :=
  (({ d with powr := { d.powr with phase := .starting } }).enableEvents.presentHeld.loadSeq.loadModes.loadPair).tellTrip.tellReset.sideStart

/-- RECOVERY is entered with a cause (R209, R451, R453): the ROM stays resident, SIDE and the PF come up; event 0x0604 is held. -/
def Dev.enterRecovery (d : Dev) (cause : Nat) : Dev :=
  let src := fld d.sysc.straps 1 2
  let d1 := { d with sysc := { d.sysc with cur := .recovery }, fsto := { d.fsto with recovery := true, cause := cause },
                     powr := { d.powr with phase := .rom }, side := { d.side with running := true } }
  -- every port stays OFF (R209)
  let d2 := d1.each (List.range 16) (fun x n => x.setPort n (fun p => { p with st := .off }))
  d2.raise pFSTO 4 [cause, d.fsto.failed, src]

/-- The banks of R452 in order: the first whose image verifies, the others with event 0x0602. -/
def bankStep (acc : Option (Nat × Nat) × Dev) (e : Nat × Nat) : Option (Nat × Nat) × Dev :=
  if acc.1.isSome then acc
  else
    match acc.2.verifyAt 1 (bankBase e.1) with
    | none => (some e, acc.2)
    | some step => (none, acc.2.raise pFSTO 2 [e.1, step, (acc.2.hdrAt (bankBase e.1)).version])

def Dev.tryBanks (d : Dev) (l : List (Nat × Nat)) : Option (Nat × Nat) × Dev := l.foldl bankStep (none, d)

/-- The manifest is found and verified (R451 step 4), with events 0x0602 for copies that fail and 0x0607 for the one used. -/
def Dev.bootManifest (d : Dev) : Dev :=
  let bad := [0, 1].filterMap (fun b => (d.verifyAt 2 (sectorAddr b 192)).map (fun st => (b, st)))
  let d1 := d.each bad (fun x e => x.raise pFSTO 2 [0xFF, e.2, (x.hdrAt (sectorAddr e.1 192)).version])
  match d1.bestManifest with
  | some m => ({ d1 with sysc := { d1.sysc with manifest := m },
                         fsto := { d1.fsto with manKey := (d1.hdrAt (sectorAddr m.copy 192)).key } }).raise pFSTO 7 [m.copy, m.version]
  | none => d1

/-- The event of a boot that failed before this one (R463): cause 1 the watchdog, cause 2 a refused DRAM record. -/
def Dev.tellFailedBoot (d : Dev) : Dev :=
  if d.clkr.cause = 1 ∨ d.clkr.cause = 2 then
    let b := (d.tally.reverse.findSome? (fun e => match e with | .attempt b _ => some b | .select _ => none)).getD 0
    d.raise pFSTO 5 [b, d.clkr.cause - 1, d.slotVersion b]
  else d

/-- Steps 6 and 7 of R451: the image that verified is copied to SRAM, its ATTEMPT entry written, the watchdog armed, and the
firmware starts. -/
def Dev.handOver (d : Dev) (b path : Nat) : Dev :=
  let h := d.hdrAt (bankBase b)
  let src := fld d.sysc.straps 1 2
  let d1 := (d.store h.load (d.norBytes (bankBase b + 4096) h.bodyLen)).tallyAttempt b
  let f := { d1.fsto with bank := b, path := path, imgVer := h.version, imgSvn := h.svn, imgKey := h.key, watchdog := true,
                          bootOk := false }
  let next := (bankOrder src d1.failedCount d1.preferredBank).1
  ({ d1 with fsto := { f with nextBank := (next.headD (b, 0)).1 } }).firmwareStart

/-- Steps 5 to 7 of R451: the banks in the order of R452; RECOVERY where none verifies. -/
def Dev.bootBanks (d : Dev) : Dev :=
  let o := bankOrder (fld d.sysc.straps 1 2) d.failedCount d.preferredBank
  let r := d.tryBanks o.1
  match r.1 with
  | none => r.2.enterRecovery o.2
  | some e => r.2.handOver e.1 e.2

/-- The ROM's sequence up to the hand-over (R451): RECOVERY, or an image that runs. -/
def Dev.romBoot (d : Dev) : Dev :=
  let d0 := { d with powr := { d.powr with phase := .rom }, clkr := { d.clkr with pllLock := d.clkr.pllLock ||| 3, hold := .none } }
  let d1 := { d0 with fsto := { d0.fsto with failed := satAt 15 d0.failedCount, slotVer := [d0.slotVersion 0, d0.slotVersion 1] } }
  let d2 := d1.tellFailedBoot.crypStart
  if d2.cryp.seedOk = false then d2.enterRecovery 3
  else if bitOf d2.sysc.straps 3 then d2.enterRecovery 0
  else if d2.bootManifest.sysc.manifest.valid = false then d2.bootManifest.enterRecovery 4
  else d2.bootManifest.bootBanks

/-- The boot (R451): the ROM's sequence; then the firmware configures DRAM, and a refused DRAM record or a failed training marks the
attempt failed and resets, which the failed count bounds. -/
def Dev.boot : Nat → Dev → Bool → Dev
  | 0, d, _ => d
  | n + 1, d, trains =>
    let d1 := d.romBoot
    if d1.fsto.recovery then d1
    else
      match d1.drec.refused with
      | some (f, v) => Dev.boot n (((d1.raise (pDRAM 0) 10 [f, v]).tallyMark 0xFFFF).resetNow 2 false) trains
      | none =>
        if trains then d1.dramStart.portsStart
        else Dev.boot n (((d1.raise (pDRAM 0) 10 [6, 0]).tallyMark 0xFFFF).resetNow 2 false) trains

/-- How often a boot can start over before the failed count leads to RECOVERY. -/
def bootTries : Nat := 4

/-- A warm reset without a vault pass, or at the HALT of one, and the start that follows it: the ROM runs R451 from step 1 (R485),
unless the reset is held (R482, R505). -/
def Dev.warmNow (d : Dev) (cause : Nat) (vaulted : Bool) (hold : ResetHold) : Dev :=
  let d1 := d.resetNow cause vaulted
  if hold = .none then Dev.boot bootTries d1 true
  else { d1 with clkr := { d1.clkr with hold := hold } }

/-- BOOTCNT (R484): power-cycle count and operating hours. -/
def Dev.saveBootcnt (d : Dev) : Dev := d.cfgMake 8 0 [u32 d.clkr.pwrCycles, u32 d.clkr.opHours]

/-- The ROM's part of R484 at each POR_N release. -/
def Dev.countCycle (d : Dev) : Dev :=
  let ws := (d.cfgRead 8 0).getD [0, 0]
  ({ d with clkr := { d.clkr with pwrCycles := ((ws.getD 0 0).toNat + 1) % 2 ^ 32, opHours := (ws.getD 1 0).toNat, opSeconds := 0 } }).loadSeq.saveBootcnt

end Sys2Proof.Machine
end

