-- ==== Sys2Proof/Machine/VaultOps.lean ====
section
/-! DEFINITION. The vault: the freeze, the image and its rows, the seal, the end of a pass and the vault pool (R264 to R286, R469,
R470, R504). -/

namespace Sys2Proof.Machine

/-! ## The freeze (R273) -/

/-- The freeze: HOST stops, DGST's jobs end, a rank copy is abandoned (R273, R393, R419).  Uncommitted commands keep their place in the
descriptors, where recovery settles them (R288 step 8). -/
def Dev.vaultFreeze (d : Dev) (cause : Nat) (thenReset : Option Nat) (byPfail : Bool) : Dev :=
  let v := { d.valt with st := .freeze, cause := cause, thenReset := thenReset, byPfail := byPfail, accepted := d.now, set := [], left := [],
                         rows := 0, segs := 0, confirmed := [], lostSegs := [], seals := [], toSend := [], rose := false, roseMs := 0 }
  (({ d with valt := v, host := { d.host with stopped := true } }).dgstFreeze).dramFreeze

/-! ## Rows and their content (R277 to R279) -/

/-- Where the segment of a vault row lies on a sled: the block of pool die row mod DIES, and its word line. -/
def Dev.vaultPlace (d : Dev) (sled row : Nat) : Option (Nat × Nat) :=
  let pool := d.valt.anchor.pool.get [] sled
  (pool[row % pool.length]?).map (fun b => (b, row / pool.length))

/-- The addresses of the staging segments in stream order (R277): an area's slot, then where it is degraded its P and its Q. -/
def Dev.vaultExtents (d : Dev) : List Nat :=
  d.zone.areas.flatMap (fun e =>
    let plc := (d.zns e.2.zone).plc
    let seg (part : Nat) (n : Nat) : List Nat := (List.range n).map (fun i => partAddr plc e.1 part + i * 65536)
    let slot := seg 0 (ceilDiv (e.2.fill * 4096) 65536)
    if e.2.degraded then slot ++ seg 1 (if plc then 5 else 4) ++ seg 2 (if plc then 5 else 4) else slot)

/-- The header of an image (R279). -/
def Image.header (im : Image) : List Byte :=
  let h := ascii "OZVT" ++ leBytes 4 im.num ++ leBytes 8 im.time ++ leBytes 4 im.cycles ++ leBytes 1 im.width ++ leBytes 1 im.cause
    ++ leBytes 2 (maskOf im.set) ++ leBytes 4 1024 ++ leBytes 4 (im.segs - 1025) ++ leBytes 4 im.rows
    ++ im.tokens.flatMap (leBytes 8)
  h ++ leBytes 4 (crc32 h)

/-- The seal of an image (R279). -/
def Image.seal (im : Image) : List Byte :=
  let s := ascii "OZVS" ++ leBytes 4 im.num ++ leBytes 4 im.rows ++ leBytes 4 im.segs ++ leBytes 4 im.us
    ++ leBytes 1 (if im.rose then 1 else 0) ++ leBytes 1 im.roseMs ++ leBytes 2 0 ++ leBytes 4 im.opHours ++ leBytes 2 im.opSeconds
    ++ leBytes 2 0 ++ leBytes 4 im.cycles
  s ++ leBytes 4 (crc32 s)

/-- Data segment `s` of the stream: the header, the SRAM under K_vault (R278, R406), the staging extents as they are, then zeros. -/
def Dev.vaultSeg (d : Dev) (im : Image) (extents : List Nat) (s : Nat) : List Byte :=
  if s = 0 then fitBytes 65536 im.header
  else if s ≤ 1024 then
    (List.range 16).flatMap (fun u =>
      Config.xts d.cryp.kVault (im.num * 2 ^ 32 + s * 16 + u) (d.bytes ((s - 1) * 65536 + u * 4096) 4096))
  else
    match extents[s - 1025]? with
    | some a => d.bytes a 65536
    | none => List.replicate 65536 0

/-- Slot `j` of vault row `k`: a data segment, P or Q (R222, R277). -/
def Dev.vaultSlot (d : Dev) (im : Image) (extents : List Nat) (k j : Nat) : List Byte :=
  let dn := im.width - 2
  let seg (u : Nat) : List Byte := d.vaultSeg im extents (k * dn + u)
  if j < dn then seg j
  else
    ((List.range (dn - 1)).map (· + 1)).foldl (fun acc u => xorBytes acc (if j = dn then seg u else gfScale u (seg u))) (seg 0)

/-- The bursts of one SLC word line: 64 KiB, with a stamp whose byte 14 is set to each plane's WHERE (R278). -/
def slcBursts (tag : Nat) (bytes stamp0 : List Byte) : List Pkt :=
  programBursts 1 tag (fun off => bodyOf (cut bytes (off * 4096) 4096) []) (fun pl _ => stamp0.take 14 ++ leBytes 1 pl ++ stamp0.drop 15)

/-- A die of the port holds a suspended operation, or is about to. -/
def Dev.holdsSuspended (d : Dev) (k : Nat) : Bool :=
  match (d.die k).st with
  | .suspending | .progSuspended | .eraseSuspended | .resuming => true
  | _ => false

/-- Packets that VAULT goes ahead of: COMMANDs, and the bursts of operations that are none of the vault's (R195). -/
def Dev.behindVault (d : Dev) (s : Nat) (p : Pkt) : Bool :=
  p.typ == 1 || (p.typ == 2 && !((d.op (s * 65536 + p.tag)).any (fun o => match o.d.use with | .vaultRow _ _ => true | _ => false)))

/-- A packet of the vault waits ahead of every other operation's. -/
def Dev.sendAhead (d : Dev) (s : Nat) (p : Pkt) : Dev := d.setPort s (fun x => { x with link := x.link.queueBefore (d.behindVault s) p })

/-- The first VAULT packet of a port: no COMMAND follows it, so that those not yet transmitted are given up with their bursts; they end when
the port leaves UP (R195, R214). -/
def Dev.firstVault (d : Dev) (s : Nat) : Dev :=
  if (d.port s).vaulted then d
  else
    let link := (d.port s).link
    let begun := if link.txPos = 0 then 0 else 1
    let tags := ((link.txq.drop begun).filter (fun p => p.typ == 1)).map Pkt.tag
    d.setPort s (fun x => { x with vaulted := true, link := x.link.unqueue (fun p => p.typ == 1 || (p.typ == 2 && tags.contains p.tag)) })

/-- A VAULT packet and its bursts are sent for one word line of a block (R195). -/
def Dev.sendVault (d : Dev) (b wl : Nat) (use : DieUse) (bytes stamp0 : List Byte) : Dev :=
  let s := b / 2048 / 256
  let t := d.nextTag s
  let x : Desc := { Desc.program s (b / 2048 % 256) (b % 2048) wl true use with tag := t, deadline := sentDeadline d.now d.now }
  let o : OpenOp := { d := x, phase := .sent, issued := d.now, ran := 0, startedAt := d.now, step := 0, tried := [], index0 := 0,
                      cwGot := 0, cwLost := 0, naks := 0, data := [], zeros := 0, result := 0, dieState := 0, arrayUs := 0, timedOut := false,
                      txAt := d.now, due := d.now, queuedAt := d.now }
  let d1 := { d with media := { d.media with ops := d.media.ops.set (s * 65536 + t) o, tags := d.media.tags.put 0 s ((t + 1) % 65536) } }
  let d2 := ((d1.count pMEDI 0x1B8 1).firstVault s).sendAhead s { x.pkt with typ := 7 }
  d2.each (slcBursts t bytes stamp0) (fun y p => y.sendAhead s p)

/-! ## The end of a pass (R272, R390, R469, R470, R504) -/

/-- The sled ports send nothing more: their lanes are idle, SLOT_PWREN stays, and they train again from TRAINING (R209, R469). -/
def Dev.linksDown (d : Dev) : Dev :=
  let d1 := d.each (List.range 16) (fun x n =>
    let st := (x.port n).st
    if st = .empty ∨ st = .off ∨ st = .refused then x
    else x.setPort n (fun p => { p with st := .training, authed := false, mgmt := [], naks := [], adopting := false, vaulted := false,
                                        link := { p.link.reset1 10 with resets := p.link.resets } }))
  { d1 with media := { d1.media with dies := d1.media.dies.mapVals (fun _ x => { x with st := .offline }) } }

/-- The power state of a page in DORMANT (R46, R217, R261, R395, R429, R474, R493, R513): the retained pages run, those named are
clock-stopped, the others lose power. -/
def dormantPwr (page : Nat) : Nat :=
  if page = pSYSC ∨ page = pPOWR ∨ page = pCLKR then 0
  else if page = pEVNT ∨ page = pSIDE ∨ page = pDGST ∨ page = pPEER ∨ (48 ≤ page ∧ page < 64)
      ∨ [0, 1, 2, 3].any (fun c => page == pDRAM c) then 1
  else 2

/-- Steps 2 to 5 of R469: links idle, self-refresh, pads held, power gated; DORMANT is entered, its return mode stored. -/
def Dev.dormantTail (d : Dev) : Dev :=
  let d1 := (d.linksDown).dramSleep.padHold [0, 1, 2, 3]
  let fan := if bitOf (d.cell pPOWR 0x80C) 8 then 15 else 0
  let d2 := { d1 with powr := { d1.powr with entry := .none, backoff := 0, step := 0, stopped := [], padLevel := d1.powr.padLevel.set 1 fan
                                             timeEntry := (d.now - d1.powr.expiredAt) / 100000 }
                      side := { d1.side with running := false }
                      sysc := { d1.sysc with ret := some d1.sysc.cur } }
  let d3 := d2.storeModes.setMode .dormant
  let d4 := d3.each allPages (fun x p => x.setHdr p (fun h => { h with pwr := dormantPwr p }))
  d4.raise pPOWR 2 [d2.powr.timeEntry, (d.valt.image.map Image.num).getD 0, d.vaultLoad]

/-- An orderly stop has parked its image: DRAM sleeps and the sled lanes idle; the mode stays (R504 step 3). -/
def Dev.stopTail (d : Dev) : Dev := (d.linksDown).dramSleep

/-- HALT (R265, R272, R470, R486): the resets that a pass leads to follow it; after a power failure it waits for PFAIL_N. -/
def Dev.vaultHalt (d : Dev) : Dev :=
  let d1 := ({ d with valt := { d.valt with st := .halt } }).dramSleep
  if d.valt.byPfail then d1
  else if d.valt.cause = 1 then (d1.raise pPOWR 6 [d.valt.last, ((List.range 16).filter (fun n => (d.port n).st == .up)).length]).warmNow 7 d.valt.rose .none
  else
    match d.valt.thenReset with
    | some c => d1.warmNow c true .none
    | none => d1

/-- A pass that cannot be completed stops unsealed (R272): causes as event 0x2402. -/
def Dev.vaultUnsealed (d : Dev) (cause : Nat) : Dev :=
  ({ d with valt := { d.valt with lossCause := cause, last := 2 } }).vaultHalt

/-- Two seal copies are confirmed: the image is whole (R272). -/
def Dev.vaultSealed (d : Dev) : Dev :=
  let us := (d.now - d.valt.accepted) / 1000
  let im := d.valt.image.map (fun (i : Image) => { i with sealed := true, us := us, cause := d.valt.cause, rose := d.valt.rose, roseMs := d.valt.roseMs })
  let d1 := { d with valt := { d.valt with image := im, unsealedNum := 0, last := 1, lastUs := us } }
  if d.valt.cause = 1 then
    let d2 := { d1 with valt := { d1.valt with st := .parked } }
    if d.powr.entry = .commit then d2.dormantTail else d2.stopTail
  else d1.vaultHalt

/-! ## SAVE and SEAL (R272) -/

/-- Members of a row of the pass under way that count as lost for it: their sled has left UP, or their program has failed. -/
def Dev.vaultLostIn (d : Dev) (row : Nat) : List Nat :=
  (List.range d.valt.set.length).filter (fun m =>
    d.valt.left.contains (d.valt.set.getD m 16) || d.valt.lostSegs.contains (row * 16 + m))

/-- A row is safe when each of its segments is confirmed or lost. -/
def Dev.vaultRowSafe (d : Dev) (row : Nat) : Bool :=
  (List.range d.valt.set.length).all (fun m => d.valt.confirmed.contains (row * 16 + m) || (d.vaultLostIn row).contains m)

/-- The block and word line of what waits to be sent: a segment of a vault row, or for the row after the last a seal copy, which takes the next
free word line of its block (R277, R279). -/
def Dev.vaultTarget (d : Dev) (e : Nat) : Option (Nat × Nat) :=
  if e / 16 < d.valt.rows then d.vaultPlace (d.valt.set.getD (e % 16) 16) (e / 16)
  else (d.valt.anchor.sealTriple[e % 16]?).map (fun b => (b, (d.blk b).confirmed))

/-- Whether it may be sent: its sled is UP, the word line below has ended GOOD (R141), its die holds no suspended operation (R140), and before
the port's first VAULT packet no other die of the port does, since no RESUME may follow that packet (R99, R195; DEDUCED, log entry 82). -/
def Dev.vaultMay (d : Dev) (e : Nat) : Bool :=
  match d.vaultTarget e with
  | none => false
  | some (b, wl) =>
    let s := b / 2048 / 256
    (d.port s).st == .up && (d.blk b).confirmed == wl && !d.holdsSuspended (b / 2048)
      && !d.media.ops.any (fun o => o.2.phase == .sent && blkKey o.2.d.sled o.2.d.pos o.2.d.block == b)
      && ((d.port s).vaulted || (List.range 256).all (fun p => !d.holdsSuspended (dieKey s p)))

/-- A segment or a seal copy is sent. -/
def Dev.vaultSendOne (d : Dev) (e : Nat) : Dev :=
  match d.valt.image, d.vaultTarget e with
  | some im, some (b, wl) =>
    let d1 := { d with valt := { d.valt with toSend := d.valt.toSend.filter (· != e) } }
    let w := im.width
    let k := e / 16
    let j := (e % 16 + w - k % w) % w
    if k < d.valt.rows then d1.sendVault b wl (.vaultRow k (e % 16)) (d.vaultSlot im d.vaultExtents k j) (vaultStamp 0xFFFFFFFE im.num k j w 0)
    else d1.sendVault b wl (.vaultRow k (e % 16)) (fitBytes 65536 im.seal) (vaultStamp 0xFFFFFFFC im.num 0 (e % 16) 0 0)
  | _, _ => d

/-- What may be sent of the pass is sent. -/
def Dev.vaultPump (d : Dev) : Dev := d.each d.valt.toSend (fun x e => if x.vaultMay e then x.vaultSendOne e else x)

/-- The seal is programmed to the next free word line of the seal blocks whose sleds are UP (R272, R279). -/
def Dev.vaultSeal (d : Dev) : Dev :=
  match d.valt.image with
  | none => d
  | some im =>
    let im := { im with us := (d.now - d.valt.accepted) / 1000, rose := d.valt.rose, roseMs := d.valt.roseMs }
    let copies := (List.range d.valt.anchor.sealTriple.length).map (fun i => d.valt.rows * 16 + i)
    ({ d with valt := { d.valt with st := .seal, image := some im, toSend := copies } }).vaultPump

/-- SAVE goes on: a row of which more than two segments are lost ends it unsealed; with every row safe, the seal follows. -/
def Dev.vaultProgress (d : Dev) : Dev :=
  if d.valt.st ≠ .save then d
  else if 2 < d.valt.left.length then d.vaultUnsealed 2
  else if (List.range d.valt.rows).any (fun r => decide (2 < (d.vaultLostIn r).length)) then d.vaultUnsealed 0
  else if (List.range d.valt.rows).all d.vaultRowSafe then d.vaultSeal
  else d

/-- The program of a vault row's segment, or of a seal copy, has ended. -/
def Dev.vaultUnit (d : Dev) (row m : Nat) (ok : Bool) : Dev :=
  let v := d.valt
  if v.st = .save ∧ row < v.rows then
    if ok then ({ d with valt := { v with confirmed := v.confirmed ++ [row * 16 + m] } }).vaultPump.vaultProgress
    else
      -- the word lines above a failed one are never programmed (R141)
      let block (e : Nat) : Option Nat := (d.vaultTarget e).map Prod.fst
      let gone := v.toSend.filter (fun e => e % 16 == m && block e == block (row * 16 + m))
      let lost := v.lostSegs ++ (row * 16 + m) :: gone
      ({ d with valt := { v with lostSegs := lost, toSend := v.toSend.filter (fun e => !gone.contains e) } }).vaultProgress
  else if v.st = .seal ∧ row = v.rows ∧ ok then
    let d1 := { d with valt := { v with seals := v.seals ++ [m] } }
    if v.seals.length = 1 then d1.vaultSealed else d1
  else d

/-- A sled of the vault set has left UP (R272). -/
def Dev.vaultLeft (d : Dev) (sled : Nat) : Dev :=
  if d.valt.st = .save ∧ d.valt.set.contains sled ∧ d.valt.left.contains sled = false then
    ({ d with valt := { d.valt with left := d.valt.left ++ [sled] } }).vaultProgress
  else d

/-- SAVE at a power failure keeps one peer lane, and DGST's clock stops. -/
def Dev.saveOff (d : Dev) : Dev :=
  if d.valt.byPfail then
    (d.each (([0, 1, 2, 3].filter (fun n => (d.lane n).st == .up)).drop 1) (fun x n => x.setLane n (fun l => { l with st := .off, authed := false }))).setHdr pDGST (fun h => { h with pwr := 1 })
  else d

/-- A segment cannot be saved: its pool has no block for it, or the block's die is absent or retired, which ends its program at once (R140). -/
def Dev.vaultNever (d : Dev) (e : Nat) : Bool :=
  match d.vaultTarget e with
  | none => true
  | some (b, _) => !d.diePresent (b / 2048) || (d.die (b / 2048)).retired

/-- The suspended operations on the ports that take part are resumed ahead of the first VAULT packet (R99, R195; DEDUCED, log entry
82). -/
def Dev.vaultResume (d : Dev) : Dev :=
  let sleds := (d.valt.set ++ d.valt.anchor.sealTriple.map (fun b => b / 2048 / 256)).eraseDups
  d.each (sleds.flatMap (fun s => (List.range 256).map (dieKey s))) Dev.resumeDie

/-- The snapshot of R273 is complete: power is shed (R274), the set and the image are fixed, and SAVE begins (R272). -/
def Dev.vaultSave (d : Dev) : Dev :=
  let set := d.vaultBudget.1
  let w := set.length
  let extents := d.vaultExtents
  let segs := 1025 + extents.length
  let rows := if w < 4 then 0 else ceilDiv segs (w - 2)
  let num := (match d.valt.image with | some i => if i.num < d.valt.unsealedNum then d.valt.unsealedNum else i.num | none => d.valt.unsealedNum) + 1
  let im : Image := { num := num, cause := d.valt.cause, time := d.valt.accepted, cycles := d.clkr.pwrCycles, set := set, width := w, rows := rows, segs := segs, tokens := (List.range 16).map (fun n => (d.port n).token)
                      sealed := false, us := 0, rose := false, roseMs := 0, opHours := d.clkr.opHours, opSeconds := d.clkr.opSeconds
                      areas := d.zone.areas, zones := d.zone.zones, ring := d.valt.ring, events := d.evnt.ring, held := d.evnt.hold
                      blocks := d.media.blocks, departed := d.prty.departed, targets := d.prty.targets, usable := d.zone.usable, cfg := d.fsto.ring, mem := d.mem }
  let d1 := { d with valt := { d.valt with st := .save, set := set, rows := rows, segs := segs, image := some im, unsealedNum := num, lossCause := 0 } }
  let d2 := d1.saveOff
  if w < 4 then d2.vaultUnsealed 0
  else
    let all := (List.range rows).flatMap (fun k => (List.range w).map (fun m => k * 16 + m))
    let never := all.filter d2.vaultNever
    ({ d2 with valt := { d2.valt with lostSegs := never, toSend := all.filter (fun e => !never.contains e) } }).vaultResume.vaultPump.vaultProgress

/-! ## The vault pool and the anchor (R276, R285) -/

/-- Die positions in the order that spreads a pool evenly over the 16 channels. -/
def poolOrder : List Nat := (List.range 256).map (fun i => i % 16 * 16 + i / 16)

/-- An erased block in SLC mode on a die is taken by VALT; where there is none, the first block that waits for its erase is to be erased in
SLC mode. -/
def Dev.takeVault (d : Dev) (k : Nat) : Option Nat × Dev :=
  match (d.erasedSlc k).head? with
  | some (b, _) => (some (k * 2048 + b), d.setBlk (k * 2048 + b) (fun x => { x with st := .vault, confirmed := 0, bad := false }))
  | none =>
    let q := (d.die k).queue
    if q.any (fun i => i.kind == .erase && i.d.slc) then (none, d)
    else
      match q.find? (fun i => i.kind == .erase) with
      | none => (none, d)
      | some i => (none, d.setDie k (fun x => { x with queue := x.queue.map (fun j => if j.seq = i.seq then { j with d := { j.d with slc := true } } else j) }))

/-- The pool's next block: one die's, where the pool is short of it. -/
def poolStep (sled want : Nat) (acc : List Nat × Dev) (p : Nat) : List Nat × Dev :=
  if want ≤ acc.1.length then acc
  else
    let r := acc.2.takeVault (dieKey sled p)
    (acc.1 ++ r.1.toList, r.2)

/-- A sled's pool is filled as far as its dies have blocks for it. -/
def Dev.poolFill (d : Dev) (sled : Nat) : Dev :=
  let want := d.rf pVALT 0x100 0 8
  let have_ := d.valt.anchor.pool.get [] sled
  if want ≤ have_.length then d
  else
    let ps := poolOrder.filter (fun p => d.diePresent (dieKey sled p) && !have_.any (fun b => b / 2048 == dieKey sled p))
    let r := ps.foldl (poolStep sled want) (have_, d)
    { r.2 with valt := { r.2.valt with anchor := { r.2.valt.anchor with pool := r.2.valt.anchor.pool.set sled r.1 } } }

/-- The triple's next block: one sled's, where the triple is short of it; a sled without an erased SLC block erases one. -/
def tripleStep (acc : List Nat × Dev) (s : Nat) : List Nat × Dev :=
  if 3 ≤ acc.1.length then acc
  else
    match (poolOrder.reverse).find? (fun p => acc.2.diePresent (dieKey s p) && !(acc.2.erasedSlc (dieKey s p)).isEmpty) with
    | some p => (acc.1 ++ (acc.2.takeVault (dieKey s p)).1.toList, (acc.2.takeVault (dieKey s p)).2)
    | none =>
      match (poolOrder.reverse).find? (fun p => acc.2.diePresent (dieKey s p)) with
      | some p => (acc.1, (acc.2.takeVault (dieKey s p)).2)
      | none => acc

/-- Three SLC blocks on three sleds, for seals or journal copies: those in hand, completed as far as sleds other than `avoid` have blocks; one block a sled,
at the first position that has one. -/
def Dev.tripleFill (d : Dev) (avoid have_ : List Nat) : List Nat × Dev :=
  let sleds := (List.range 16).filter (fun s => (d.port s).st == .up && !hasBit d.peer.fenceLost s && !avoid.contains s && !have_.any (fun b => b / 2048 / 256 == s))
  sleds.foldl tripleStep (have_, d)

/-- The anchor is rewritten in the configuration store (R285, R455): the journal triple, the seal triple, CLEARED, and each pool. -/
def Dev.saveAnchor (d : Dev) : Dev :=
  let a := d.valt.anchor
  d.cfgMake 2 0 (a.triple.map u32 ++ a.sealTriple.map u32 ++ [u32 a.cleared] ++ a.pool.flatMap (fun e => u32 e.1 :: u32 e.2.length :: e.2.map u32))

/-- What is still wanting of the pools, the seal triple and the journal triple is taken; the anchor follows a change (R276, R285). -/
def Dev.poolService (d : Dev) : Dev :=
  if d.active = false ∨ d.vaulting then d
  else
    let d1 := d.each ((List.range 16).filter (fun s => (d.port s).st == .up && (d.media.sleds.get SledMedia.reset s).adopted)) Dev.poolFill
    let r := d1.tripleFill [] d1.valt.anchor.sealTriple
    let d2 := { r.2 with valt := { r.2.valt with anchor := { r.2.valt.anchor with sealTriple := r.1 } } }
    let j := d2.tripleFill [] d2.valt.anchor.triple
    let d3 := { j.2 with valt := { j.2.valt with anchor := { j.2.valt.anchor with triple := j.1 } } }
    if d3.valt.anchor = d.valt.anchor then d3 else d3.saveAnchor.vaultRefresh

/-- The pool is renewed (R276): the blocks written are released, and others taken. -/
def Dev.poolRenew (d : Dev) : Dev :=
  let used := d.valt.anchor.pool.flatMap Prod.snd
  let full := d.valt.anchor.sealTriple.filter (fun b => decide (768 ≤ (d.blk b).confirmed))
  let d1 := { d with valt := { d.valt with anchor := { d.valt.anchor with pool := [], sealTriple := d.valt.anchor.sealTriple.filter (fun b => !full.contains b) } } }
  ((d1.each (used ++ full) (fun x b =>
      if (x.blk b).st = .vault then ((x.setBlk b (fun y => { y with st := .queued })).enqueueErase b true).floorCheck (b / 2048) else x)).poolService).vaultRefresh

end Sys2Proof.Machine
end

