-- ==== Sys2Proof/Machine/RecoverOps.lean ====
section
/-! DEFINITION. The journal as it is replayed and written, the vault image as it is tested and restored, and the steps of recovery that
a start-up and a takeover share (R255, R269, R280 to R289). -/

namespace Sys2Proof.Machine

/-! ## Replay (R283, R284) -/

/-- Blocks leave a group: those that are ALLOCATED wait for an erase (R160). -/
def Dev.freeBlocks (d : Dev) (bs : List Nat) : Dev :=
  d.each bs (fun x b => if (x.blk b).st = .allocated then x.setBlk b (fun y => { y with st := .queued }) else x)

/-- The blocks of a group, as block keys. -/
def Group.keys (g : Group) : List Nat := g.blocks.map (fun e => blkKey e.1 g.pos e.2)

/-- The block of an erase record. -/
def Dev.eraseRec (d : Dev) (b count attempts : Nat) (slc : Bool) (st : BlockState) (at_ : Nat) : Dev :=
  d.setBlk b (fun x => { x with st := st, slc := slc, erases := count, attempts := attempts, shift := Block.fresh.shift, trial := 0, reads := 0, confirmed := 0,
                                bad := false, erasedAt := if st = .erased then at_ else x.erasedAt })

/-- One record is replayed.  What it states is absolute, so that replaying it twice has the effect of replaying it once (R284). -/
def Dev.replayRec (d : Dev) (r : JRec) : Dev :=
  match r.body with
  | .pad _ | .ckptBegin _ | .ckptData .. | .ckptEnd .. | .jhead _ => d
  | .commit nsid zone gen _ start len =>
    let z := zoneKey nsid zone
    if (d.zn z).gen = gen then d.setZn z (fun x => { x with wp := start + len, sptr := start + len }) else d
  | .zstate nsid zone gen st zfc _ =>
    let z := zoneKey nsid zone
    let old := d.zn z
    if st = .empty then (d.freeBlocks (old.groups.flatMap Group.keys)).setZn z (fun _ => { Zone.fresh with gen := gen })
    else if st = .offline then
      (d.freeBlocks (old.groups.flatMap Group.keys)).setZn z (fun x => { x with st := st, gen := gen, zfc := zfc, groups := [] })
    else
      d.setZn z (fun x =>
        let y := if old.st = .empty ∧ x.zdev then bindRecord x.ext x else x
        { y with st := st, gen := gen, zfc := zfc, fullAt := if st = .full then r.at_ else x.fullAt })
  | .group nsid zone idx pos blocks =>
    let z := zoneKey nsid zone
    let old := ((d.zn z).groups[idx]?).map Group.keys
    let g : Group := { pos := pos, blocks := blocks, missing := (((d.zn z).groups[idx]?).map Group.missing).getD [] }
    let d1 := d.freeBlocks ((old.getD []).filter (fun b => !g.keys.contains b))
    let d2 := d1.each g.keys (fun x b => x.setBlk b (fun y => { y with st := .allocated }))
    d2.setZn z (fun x => { x with groups := if idx < x.groups.length then x.groups.set idx g else x.groups ++ [g] })
  | .eintent sled pos block count attempts slc => d.eraseRec (blkKey sled pos block) count attempts slc .erasing r.at_
  | .edone sled pos block count attempts slc result _ =>
    if result = 0 then d.eraseRec (blkKey sled pos block) count 0 slc .erased r.at_
    else d.eraseRec (blkKey sled pos block) count attempts slc .uncertain r.at_
  | .retire sled pos block reason count =>
    let d1 := d.setBlk (blkKey sled pos block) (fun x => { x with st := .retired, erases := count })
    if reason = 4 then d1.setDie (dieKey sled pos) (fun x => { x with retired := true }) else d1
  | .zde nsid zone gen ext =>
    let z := zoneKey nsid zone
    if (d.zn z).gen = gen then d.setZn z (fun x => bindRecord ext { x with zdev := true, ext := ext }) else d
  | .nsdef nsid create n =>
    if create then { d with zone := { d.zone with nss := d.zone.nss.set nsid n } }
    else
      let mine := d.zone.zones.keep (fun k _ => zNs k == nsid)
      let d1 := d.freeBlocks (mine.flatMap (fun e => e.2.groups.flatMap Group.keys))
      { d1 with zone := { d1.zone with nss := d1.zone.nss.del nsid, zones := d1.zone.zones.keep (fun k _ => zNs k != nsid) } }
  | .track sled pos first entries =>
    d.each (entries.mapIdx (fun i e => (blkKey sled pos (first + i), e)))
      (fun x e => if (x.blk e.1).shift = e.2 then x else x.setBlk e.1 (fun y => { y with shift := e.2 }))
  | .lostrow nsid zone target _ rs =>
    let z := zoneKey nsid zone
    let j := (d.zns z).slotOn target rs
    d.setZn z (fun x => { x with lost := if x.lost.contains (rs, j) then x.lost else x.lost ++ [(rs, j)] })

/-- The SEQ that a replay has reached: triple heads stand before the records of their page and are left out. -/
def lastSeq (recs : List JRec) : Nat :=
  recs.foldl (fun a r => match r.body with | .jhead _ => a | _ => Nat.max a (r.seq + 1)) 0

/-- The tables of a checkpoint.  No read is open on any block (R162). -/
def Dev.loadTables (d : Dev) (c : Ckpt) : Dev :=
  let d1 := { d with zone := { d.zone with nss := c.nss, zones := c.zones }
                     media := { d.media with blocks := c.blocks.mapVals (fun _ b => { b with pins := 0 }) } }
  d1.each c.retired (fun x k => x.setDie k (fun y => { y with retired := true }))

/-- The tables as the journal has them: the checkpoint, and the records of the chain that follow its begin (R288 step 4). -/
def Dev.replayFrom (d : Dev) (ck : Option Ckpt) (recs : List JRec) : Dev :=
  let d0 := match ck with
    | some c => d.loadTables c
    | none => { d with zone := { d.zone with nss := [], zones := [] }, media := { d.media with blocks := [] } }
  d0.each (recs.filter (fun r => decide (((ck.map Ckpt.begin_).getD 0) ≤ r.seq))) Dev.replayRec

/-- A block with an intent and no done record is UNCERTAIN (R163, R288 step 5): counted, and told with event 0x2205. -/
def Dev.markUncertain (d : Dev) : Dev :=
  d.each ((d.media.blocks.filter (fun e => e.2.st == .erasing)).map Prod.fst) (fun x b =>
    ((x.setBlk b (fun y => { y with st := .uncertain })).count pMEDI 0x1AC 1).raise pMEDI 5 [b / 2048, b % 2048, (x.blk b).attempts, 0xFFFF])

/-! ## Journal pages (R281, R285) -/

/-- A page's 4,096 units of 16 bytes. -/
def pageUnits : Nat := 4096

/-- The records that one page takes, with `room` units left: no record crosses a page boundary. -/
def pageTake : Nat → List JRec → List JRec × List JRec
  | _, [] => ([], [])
  | room, r :: rs => if r.body.len ≤ room then (r :: (pageTake (room - r.body.len) rs).1, (pageTake (room - r.body.len) rs).2) else ([], r :: rs)

/-- PAD records that fill `room` units, from a SEQ on, with fuel. -/
def padRecs (at_ : Nat) : Nat → Nat → Nat → List JRec
  | 0, _, _ => []
  | n + 1, room, seq =>
    if room = 0 then []
    else
      let k := satAt 16 room
      { seq := seq, at_ := at_, body := .pad k } :: padRecs at_ n (room - k) (seq + 1)

/-- The journal triple that takes the next page: a new one with its JHEAD where there is none yet or its blocks are full (R285). -/
def Dev.openTriple (d : Dev) : Dev :=
  let full := match d.valt.triples.getLast? with
    | some (bs, _) => bs.any (fun b => decide (768 ≤ (d.blk b).confirmed))
    | none => true
  if full then
    let cur := if d.valt.triples.isEmpty then d.valt.anchor.triple else d.valt.nextTriple
    let r := d.tripleFill [] []
    let head : JRec := { seq := r.2.valt.nextSeq, at_ := d.now, body := .jhead r.1 }
    { r.2 with valt := { r.2.valt with triples := r.2.valt.triples ++ [(cur, r.2.valt.nextSeq)], nextTriple := r.1, nextSeq := r.2.valt.nextSeq + 1
                                       ring := head :: r.2.valt.ring } }
  else d

/-- One word line of a journal or log block is programmed with the page's bytes and stamp: its descriptor is formed and sent with its bursts
(R137, R278), and with the page's write it has ended (R173). -/
def Dev.metaProgram (d : Dev) (page stamp : List Byte) (b : Nat) (good : Bool) : Dev :=
  let s := b / 2048 / 256
  let wl := (d.blk b).confirmed
  let t := d.nextTag s
  let x := { Desc.program s (b / 2048 % 256) (b % 2048) wl true (.vaultRow 0 0) with tag := t, deadline := sentDeadline d.now d.progDue }
  let d1 := { d.mediEpoch with media := { d.mediEpoch.media with tags := d.media.tags.put 0 s ((t + 1) % 65536) } }
  let d2 := (((d1.count pMEDI 0x1B8 1).count pMEDI 0x1BC 1).send (.port s) x.pkt).each (slcBursts t page stamp) (fun y p => y.send (.port s) p)
  if good then d2.setBlk b (fun y => { y with confirmed := wl + 1 })
  else (d2.count pMEDI 0x1A4 1).raise pMEDI 3 [b / 2048, b % 2048, wl, 1]

/-- A copy of a page whose program failed is written to a block on another sled, which joins the triple; event 0x2407 (R281). -/
def Dev.copyFailed (p : JPage) (d : Dev) (i : Nat) : Dev :=
  match d.valt.triples.getLast? with
  | none => d
  | some (bs, first) =>
    let b := bs.getD i 0
    let r := ((d.metaProgram p.bytes (p.stamp i) b false).retireBlk b 0).tripleFill [b / 2048 / 256] (bs.filter (· != b))
    ({ r.2 with valt := { r.2.valt with triples := r.2.valt.triples.dropLast ++ [(r.1, first)] } }).raise pVALT 7
      [b / 2048, b % 2048, (p.recs.head?.map JRec.seq).getD 0]

/-- One page is written to the triple's three blocks, and leaves the ring (R281); TRACK records that waited for room follow. -/
def Dev.writePage (d : Dev) (failed : List Nat) : Dev :=
  let d1 := d.openTriple
  let p := pageTake pageUnits d1.valt.ring
  let room := pageUnits - (p.1.map (fun r => r.body.len)).sum
  let pads := padRecs d.now 256 room d1.valt.nextSeq
  let page := JPage.mk (p.1 ++ pads)
  let d2 := { d1 with valt := { d1.valt with ring := p.2, nextSeq := d1.valt.nextSeq + pads.length, flash := d1.valt.flash ++ [page]
                                             pages := d1.valt.pages + 1 } }
  let bs := ((d2.valt.triples.getLast?).map Prod.fst).getD []
  let d3 := d2.each (failed.filter (fun i => decide (i < bs.length))) (Dev.copyFailed page)
  (d3.each ((((d3.valt.triples.getLast?).map Prod.fst).getD []).mapIdx (fun i b => (i, b)))
    (fun x e => x.metaProgram page.bytes (page.stamp e.1) e.2 true)).trackSave

/-- Journal pages can be written: the triple to come has three blocks. -/
def Dev.triplesReady (d : Dev) : Bool :=
  decide (3 ≤ (match d.valt.triples.getLast? with
    | some (bs, _) => if bs.any (fun b => decide (768 ≤ (d.blk b).confirmed)) then d.valt.nextTriple.length else bs.length
    | none => d.valt.anchor.triple.length))

/-- The ring is flushed, with fuel for each of its pages. -/
def Dev.flushRing : Nat → Dev → Dev
  | 0, d => d
  | n + 1, d => if d.valt.ring.isEmpty ∨ d.triplesReady = false then d else Dev.flushRing n (d.writePage [])

/-! ## The image (R287, R288 step 3) -/

/-- What the test of the newest image answers (R287). -/
inductive ImageTest where
  | usable (im : Image)
  /-- A sled of its set has another token. -/
  | discarded (im : Image) (sled : Nat)
  /-- No image is used: causes as event 0x2402. -/
  | none_ (num cause : Nat)

/-- Members of an image's row that cannot be read: their sled is not UP, or the segment does not decode. -/
def Dev.segsMissing (d : Dev) (im : Image) (bad : List (Nat × Nat)) (row : Nat) : List Nat :=
  (List.range im.width).filter (fun m => (d.port (im.set.getD m 16)).st != .up || bad.contains (row, m))

/-- The test of R287. -/
def Dev.imageTest (d : Dev) (bad : List (Nat × Nat)) : ImageTest :=
  match d.valt.image with
  | none => .none_ 0 (if d.valt.lossCause = 2 then 2 else 1)
  | some im =>
    if im.sealed = false ∨ im.num < d.valt.unsealedNum then .none_ im.num (if d.valt.lossCause = 2 then 2 else 0)
    else if im.num ≤ d.valt.anchor.cleared then .none_ im.num 1
    else
      match im.set.find? (fun s => (d.port s).st == .up && (d.port s).token != im.tokens.getD s 0) with
      | some s => .discarded im s
      | none => if (List.range im.rows).any (fun k => decide (2 < (d.segsMissing im bad k).length)) then .none_ im.num 2 else .usable im

/-- Data segments of an image that were reconstructed. -/
def Dev.segsRebuilt (d : Dev) (im : Image) (bad : List (Nat × Nat)) : Nat :=
  ((List.range im.rows).map (fun k => ((d.segsMissing im bad k).filter (fun m => decide ((m + im.width - k % im.width) % im.width < im.width - 2))).length)).sum

/-- Bytes that an image holds: SRAM, and the staging areas' slots and accumulators. -/
def inImage (a : Nat) : Bool := decide (a < sramEnd) || (decide (0x8000000000 ≤ a) && decide (a < areaBase 1024))

/-- SRAM and the staging extents come back (R288 step 3): descriptors, staged bytes, the journal ring, the event ring with its holding
buffer, the configuration ring, the block table. -/
def Dev.restoreImage (d : Dev) (im : Image) : Dev :=
  let ev := im.events ++ im.held.map (fun r => { r with held := true }) ++ d.evnt.ring
  { d with
      mem := im.mem.keep (fun a _ => inImage a) ++ []
      zone := { d.zone with areas := im.areas.mapVals (fun _ a => { a with holds := 0, queued := false, charge := none, pf := none })
                            usable := im.usable }
      evnt := { d.evnt with ring := ev.drop (ev.length - 32768) }
      prty := { d.prty with departed := im.departed } }

/-- What the journal does not hold of a zone comes from the descriptors: staging, commands, the physical pointer (R85). -/
def Dev.mergeZones (d : Dev) (im : Image) : Dev :=
  d.each im.zones (fun x e =>
    let z := x.zn e.1
    if z.gen = e.2.gen ∧ z.st ≠ .empty then
      x.setZn e.1 (fun y => { y with sptr := e.2.sptr, area := e.2.area, cmds := e.2.cmds, phys := e.2.phys, cls := e.2.cls, heat := e.2.heat, life := e.2.life
                                     pace := e.2.pace, dieset := e.2.dieset
                                     groups := y.groups.mapIdx (fun i g => { g with missing := ((e.2.groups[i]?).map Group.missing).getD [] }) })
    else x)

/-- What the journal does not hold of a block: confirmed word lines, reads, a failed program.  A block that was being written as the target
of a copy is in no group and waits for an erase. -/
def Dev.mergeBlocks (d : Dev) (im : Image) : Dev :=
  d.each im.blocks (fun x e =>
    let b := x.blk e.1
    if b.st = .allocated then x.setBlk e.1 (fun y => { y with confirmed := e.2.confirmed, bad := e.2.bad, reads := e.2.reads })
    else if e.2.st = .allocated ∧ b.st = .erased then x.setBlk e.1 (fun y => { y with st := .queued })
    else if b.st = .erased then x.setBlk e.1 (fun y => { y with erasedAt := e.2.erasedAt })
    else x)

/-- A zone's rows count as written up to its write pointer. -/
def Dev.takeWritten (d : Dev) (z : Nat) : Dev :=
  let n := d.zns z
  let zn := d.zn z
  (d.setZn z (fun q => { q with phys := ceilDiv q.wp n.row * n.d })).each (zn.groups.mapIdx (fun i g => (i, g))) (fun w e =>
    w.each e.2.keys (fun v b => v.setBlk b (fun q => { q with confirmed := satAt 768 (ceilDiv zn.wp n.row - 768 * e.1) })))

/-- Without an image, an open zone is Full with ZFC at its last journalled write pointer (R288); its rows are taken as written. -/
def Dev.closeActive (d : Dev) : Dev × Nat :=
  let act := (d.zone.zones.filter (fun e => e.2.st.active)).map Prod.fst
  let d1 := d.each act (fun x z => (x.setZst z .full true 3).setZn z (fun y => { y with sptr := y.wp, area := none, cmds := [] }))
  (d1.each (d1.zone.zones.map Prod.fst) Dev.takeWritten, act.length)

/-! ## Steps that a takeover shares (R255, R288) -/

/-- Blocks that VALT and EVNT hold: pools, seals, journal and log triples. -/
def Dev.vaultBlocks (d : Dev) : Dev :=
  let a := d.valt.anchor
  d.each (a.pool.flatMap Prod.snd ++ a.sealTriple ++ a.triple ++ d.valt.triples.flatMap Prod.fst ++ d.valt.nextTriple ++ d.evnt.triple ++ d.evnt.pages.flatMap LogPage.blocks) (fun x b =>
    if (x.blk b).st = .vault then x else x.setBlk b (fun y => { y with st := .vault }))

/-- One unit of an accumulator's row that could not be read: a free value stands for it, and the row of it is lost. -/
def Dev.freeUnit (r : Area) (n : Ns) (a rs : Nat) (d : Dev) (j : Nat) : Dev :=
  let v := leBytes n.unitBytes (Config.freeNat d.free)
  let p := partAddr n.plc a 1
  let q := partAddr n.plc a 2
  let d1 := ((d.takeFree).store p (xorBytes (d.bytes p n.unitBytes) v)).store q (xorBytes (d.bytes q n.unitBytes) (gfScale j v))
  d1.loseRow r.zone rs (n.sledOf j rs)

/-- One area's accumulators. -/
def Dev.recomputeArea (unread : List (Nat × Nat × Nat)) (d : Dev) (a : Nat) : Dev :=
  let r := d.area a
  match r.accRow with
  | none => d
  | some rs =>
    if r.st = .free ∨ r.degraded then d
    else d.each ((List.range (r.accN - (if r.folded then 1 else 0))).filter (fun j => unread.contains (r.zone, rs, j))) (Dev.freeUnit r (d.zns r.zone) a rs)

/-- Step 6: the accumulators of an area that is not degraded are recomputed (R269).  A confirmed unit that cannot be read is taken as
zeros: its row is journalled as lost for it, and what it had added is taken out; nothing says what that was. -/
def Dev.recomputeAcc (d : Dev) (unread : List (Nat × Nat × Nat)) : Dev :=
  d.each (d.zone.areas.map Prod.fst) (Dev.recomputeArea unread)

/-- Step 7: every unit that a descriptor shows as unconfirmed is resolved, in ascending area order (R159): confirmed in place, replayed
where its read-back is bad, or left to its row where its member is missing. -/
def Dev.resolveUnits (d : Dev) (bad : List (Nat × Nat × Nat)) : Dev × Nat :=
  let units := d.zone.areas.flatMap (fun e => if e.2.st = .free then [] else e.2.flight.map (fun j => (e.2.zone, e.2.accRow.getD 0, j)))
  let d1 := d.each units (fun x u =>
    let z := u.1
    let rs := u.2.1
    let j := u.2.2
    let n := x.zns z
    let s := n.sledOf j rs
    match (x.zn z).groupOf rs with
    | none => x
    | some g =>
      let b := blkKey s g.pos (g.blockOn s)
      if (x.port s).st ≠ .up ∨ g.blockOn s = 0x1FFF ∨ x.groupMissing n g s then x.unitSkipped z rs j
      else if bad.contains u then (x.count pMEDI 0x1CC 1).progLost b (.unit z rs j) false
      else (x.count pMEDI 0x1C8 1).progGood b (rs % 768) (.unit z rs j))
  (d1, units.length)

/-- What becomes of one zone's uncommitted commands. -/
def Dev.settleZone (d : Dev) (z : Nat) : Dev :=
  let zn := d.zn z
  let n := d.zns z
  if zn.st.active = false then d.setZn z (fun y => { y with cmds := [] })
  else if zn.cmds.any (fun c => match c with | .write _ _ _ _ _ sp _ => sp | .action .. => false) then
    (d.setZn z (fun y => { y with cmds := [] })).ctrlFinish z 3
  else
    let d1 := d.setZn z (fun y => { y with cmds := [], sptr := y.wp })
    match zn.area with
    | some a => d1.setArea a (fun y => { y with fill := satAt y.fill (zn.wp - y.unit * n.lpu) })
    | none => d1

/-- Step 8: abandoned commands are settled (R68): staged bytes that are not spilled are discarded; a zone with a spilled command is
finished with ZFC, cause 3. -/
def Dev.settleCommands (d : Dev) : Dev := d.each (d.zone.zones.map Prod.fst) Dev.settleZone

/-- Every position cursor is 255 at a start and at a takeover (R82). -/
def Dev.resetCursors (d : Dev) : Dev :=
  { d with zone := { d.zone with nss := d.zone.nss.mapVals (fun _ n => { n with cursors := [] }) } }

/-- Every area goes on from where it stands. -/
def Dev.resumeAreas (d : Dev) : Dev := d.each (d.zone.areas.map Prod.fst) Dev.advance

/-- Members that are not UP are missing; those noted as departed that are UP return (R28, R239). -/
def Dev.settleMembers (d : Dev) (targets : List Target) : Dev :=
  let members := (d.zone.nss.flatMap (fun e => e.2.members)).eraseDups
  let d0 := { d with zone := { d.zone with nss := d.zone.nss.mapVals (fun _ n => { n with rebuild := [] }) } }
  let away := members.filter (fun s => (d0.port s).st != .up || hasBit d0.peer.fenceLost s)
  let d1 := d0.each away (fun x s =>
    if (x.prty.departed.find s).isSome then x
    else { x with prty := { x.prty with departed := x.prty.departed.set s { serial := 0, at_ := x.now, dirty := [], loose := [], full := targets.any (fun t => t.sled == s) } } })
  let back := members.filter (fun s => !away.contains s)
  let d2 := d1.each back (fun x s =>
    match targets.find? (fun t => t.sled == s) with
    | some t => x.addTarget s t.kind
    | none => x.sledReturns s)
  d2.redundancy

/-- Erases that wait are handed to SCHD on every die of an UP sled (R160). -/
def Dev.eraseWaiting (d : Dev) : Dev :=
  d.each ((List.range 16).filter (fun s => (d.port s).st == .up && !hasBit d.peer.fenceLost s)) (fun x s =>
    x.each (((List.range 256).filter (fun p => x.diePresent (dieKey s p))).map (dieKey s)) Dev.eraseAll)

/-- One namespace's key. -/
def Dev.loadKey (d : Dev) (e : Nat × Ns) : Dev :=
  match d.cfgRead 4 e.1 with
  | none => d
  | some ws =>
    let slot := (ws.getD 0 0).toNat
    match Config.unwrap d.cryp.kPw (nsIv e.1) (fitBytes 72 ((ws.drop 1).flatMap (fun (w : Word) => leBytes 4 w.toNat))) with
    | some k => if (d.kslot slot).st = .empty then d.setKslot slot (fun _ => { st := .loaded, nsid := e.1, key := fitBytes 64 k, inflight := 0 }) else d
    | none => d.raise pCRYP 1 [slot, 2, 3, e.1]

/-- The wrapped keys of the configuration store are loaded into their slots (R403, R404): every namespace the journal shows. -/
def Dev.loadKeys (d : Dev) : Dev := d.each d.zone.nss Dev.loadKey

/-- Records of the restored configuration ring newer than all on NOR are applied and flushed (R459); a BOOTCNT with more operating hours
replaces the hours read before (R484). -/
def Dev.applyCfg (d : Dev) (ring : List CfgRec) : Dev :=
  let new := ring.filter (fun r => decide (d.fsto.cfgSeq ≤ r.seq))
  let d1 := d.each new Dev.cfgProgram
  let d2 := { d1 with fsto := { d1.fsto with cfgSeq := (new.map (fun (r : CfgRec) => r.seq + 1)).foldl Nat.max d1.fsto.cfgSeq } }
  match d2.cfgRead 8 0 with
  | some ws => if d2.clkr.opHours < (ws.getD 1 0).toNat then { d2 with clkr := { d2.clkr with opHours := (ws.getD 1 0).toNat } } else d2
  | none => d2

/-- The newest configuration record of a TYPE, whatever its KEY. -/
def Dev.cfgNewest (d : Dev) (type : Nat) : Option CfgRec :=
  let nor := d.cfgWindow.flatMap (fun s => (d.cfgRecs s.1).filterMap (fun f =>
    if f.state = 0x3FFFFFFF ∧ f.ok ∧ f.rcd.type = type then some f.rcd else none))
  (nor ++ d.fsto.ring.filter (fun r => r.type == type)).foldl (fun (b : Option CfgRec) x =>
    match b with
    | some y => if y.seq < x.seq then some x else b
    | none => some x) none

/-- The registers that an EPOCH record holds: page × 65,536 + offset, instance, value. -/
def stagedOf : List Word → List (Nat × Nat × Word)
  | a :: i :: v :: rest => (a.toNat, i.toNat, v) :: stagedOf rest
  | _ => []

/-- Every staged register and its shadow at the value of its table. -/
def Dev.unstaged (d : Dev) : Dev :=
  { d with regs := { d.regs with shadow := []
                                 cells := d.regs.cells.keep (fun k _ => !(regDesc (keyPage k) (k % 0x10000)).any (fun r => r.staged)) } }

/-- The staged snapshot of the newest committed epoch applies to all work (R42). -/
def Dev.loadEpoch (d : Dev) : Dev :=
  match d.cfgNewest 7 with
  | none => d
  | some r => d.unstaged.each (stagedOf r.data) (fun x e =>
      let page := e.1 / 65536
      let off := e.1 % 65536
      let c := x.setCellI page off e.2.1 e.2.2
      { c with regs := { c.regs with shadow := c.regs.shadow.put (cellReset page off e.2.1) (cellKey page off e.2.1) e.2.2 } })

end Sys2Proof.Machine
end

