-- ==== Sys2Proof/Machine/Evnt.lean ====
section
/-! DEFINITION. The commands of the event recorder (R512 to R519, R524). -/

namespace Sys2Proof.Machine

/-- EVENT_OFFER (R512): an event of a page's table, as its flag sets, as the firmware records it directly, or deferred with its stamp. -/
def Dev.eventOffer (d : Dev) (page num : Nat) (params : List Nat) (kind : OfferKind) (stamp : Stamp) : Dev :=
  if pageExists page = false ∨ num = 0 ∨ (sevList page).length < num then d
  else
    match kind with
    | .flag => d.raise page num params
    | .direct => if d.evntUp then d.offer (evtCode page num) (sevOf page num) (evtParams params) none else d
    | .deferred => if d.evntUp then d.present { page := page, num := num, params := params, stamp := stamp } else d

/-- RING_FREEZE (R515): a write of EVNT_CTRL. -/
def Dev.ringFreeze (d : Dev) (v : Word) (master : Nat) : Dev :=
  d.onWrite pEVNT 0x100 master (fun x =>
    let y := x.setCell pEVNT 0x100 (u32 (if bitOf v 0 then 1 else 0))
    if bitOf v 8 = true ∧ y.evnt.frozen = false then
      { y with evnt := { y.evnt with frozen := true, hold := [], freezer := master, frozenAt := y.now } }
    else if bitOf v 8 = false ∧ y.evnt.frozen = true then y.endFreeze
    else y)

/-- FREEZE_TIMEOUT (R515): event 0x0502. -/
def Dev.freezeTimeout (d : Dev) : Dev :=
  if d.evnt.frozen = false then d
  else d.endFreeze.raise pEVNT 2 [(d.now - d.evnt.frozenAt) / 1000000, d.evnt.hold.length, d.evnt.freezer]

/-- Sleds held: UP, and none that another controller holds. -/
def Dev.sledsHeld (d : Dev) : List Nat := (List.range 16).filter (fun s => (d.port s).st == .up && !hasBit d.peer.fenceLost s)

/-- The flash log is written (R516). -/
def Dev.logMay (d : Dev) : Bool := d.active && decide (3 ≤ d.sledsHeld.length) && bitOf (d.cell pEVNT 0x100) 0

/-- The log stops or is resumed: event 0x0505. -/
def Dev.logState (d : Dev) : Dev :=
  if d.logMay = d.evnt.logUp then d
  else ({ d with evnt := { d.evnt with logUp := d.logMay } }).raise pEVNT 5 [if d.logMay then 1 else 0, d.sysc.cur.code, d.sledsHeld.length]

/-- Blocks of the log that no page needs any more wait for their erase (R518). -/
def Dev.freeLogBlocks (d : Dev) (bs : List Nat) : Dev :=
  let kept := d.evnt.triple ++ d.evnt.pages.flatMap LogPage.blocks
  d.each (bs.filter (fun b => !kept.contains b)) (fun x b =>
    if (x.blk b).st = .vault then ((x.setBlk b (fun y => { y with st := .queued })).enqueueErase b true).floorCheck (b / 2048) else x)

/-- The oldest extent is released; what is grave in it is carried (R518): event 0x0506. -/
def Dev.releaseExtent (d : Dev) : Dev :=
  match d.evnt.pages.head? with
  | none => d
  | some p =>
    let old := d.evnt.pages.filter (fun q => q.extent == p.extent)
    let keep := (old.flatMap LogPage.recs).filter (fun r => decide (d.rf pEVNT 0x804 12 2 ≤ r.sev) && !r.carried)
    let d1 := { d with evnt := { d.evnt with pages := d.evnt.pages.filter (fun q => q.extent != p.extent) } }
    let d2 := d1.each keep (fun x r => (x.putRec { r with carried := true, written := false }).count pEVNT 0x12C 1)
    (d2.freeLogBlocks ((old.flatMap LogPage.blocks).eraseDups)).raise pEVNT 6 [p.extent, keep.length]

/-- Extents that the log keeps now. -/
def Evnt.extents (e : Evnt) : Nat := ((e.pages.map LogPage.extent).eraseDups).length

/-- The triple that takes the next page: a new one where its blocks are full (R516). -/
def Dev.logTriple (d : Dev) : Dev :=
  let full := d.evnt.triple.length < 3 || d.evnt.triple.any (fun b => decide (768 ≤ (d.blk b).confirmed))
  if full then
    let start := if d.evnt.triple.any (fun b => decide (768 ≤ (d.blk b).confirmed)) then [] else d.evnt.triple
    let r := d.tripleFill [] start
    { r.2 with evnt := { r.2.evnt with triple := r.1 } }
  else d

/-- A copy whose program failed goes to a block on another sled: event 0x0504. -/
def Dev.logCopyFailed (p : LogPage) (d : Dev) (i : Nat) : Dev :=
  let b := d.evnt.triple.getD i 0
  let r := ((d.metaProgram p.bytes (p.stamp i) b false).retireBlk b 0).tripleFill [b / 2048 / 256] (d.evnt.triple.filter (· != b))
  ({ r.2 with evnt := { r.2.evnt with triple := r.1 } }).raise pEVNT 4 [b / 2048, b % 2048, d.evnt.pageNo]

/-- The newest unwritten records, at most a page of them, are in the log. -/
def markWritten : Nat → List Rec → List Rec
  | _, [] => []
  | 0, rs => rs
  | n + 1, r :: rs => if r.written then r :: markWritten (n + 1) rs else { r with written := true } :: markWritten n rs

/-- The page itself (R516, R517): its records count as written once its copies are confirmed. -/
def Dev.logPage (d : Dev) (failed : List Nat) : Dev :=
  let n := d.evnt.pageNo
  let recs := (d.evnt.ring.filter (fun r => !r.written)).take logSlots
  let p0 : LogPage := { page := n, extent := n / 64, first := n % 64 == 0, used := recs.length, prevSeal := if n < 64 then [] else d.evnt.sealLast
                        recs := recs, blocks := [] }
  let d1 := d.each (failed.filter (fun i => decide (i < 3))) (Dev.logCopyFailed p0)
  let p : LogPage := { p0 with blocks := d1.evnt.triple }
  let d2 := { d1 with evnt := { d1.evnt with pages := d1.evnt.pages ++ [p], pageNo := n + 1, ring := markWritten logSlots d1.evnt.ring
                                             sealing := if n % 64 = 63 then some (n / 64) else d1.evnt.sealing } }
  let d3 := d2.each (d2.evnt.triple.mapIdx (fun i b => (i, b))) (fun x e => x.metaProgram p.bytes (p.stamp e.1) e.2 true)
  (d3.count pEVNT 0x130 1).submitSeal

/-- LOG_PAGE_WRITE, with the copies whose program fails. -/
def Dev.logPageWrite (d : Dev) (failed : List Nat) : Dev :=
  let a := d.logState
  if a.logMay = false ∨ a.evnt.ring.all (fun r => r.written) = true then a
  else
    let n := a.evnt.pageNo
    if n % 64 = 0 ∧ 0 < n ∧ a.evnt.sealedExtent ≠ some (n / 64 - 1) then a.submitSeal
    else
      let b := if n % 64 = 0 ∧ a.rf pEVNT 0x804 0 9 ≤ a.evnt.extents then a.releaseExtent else a
      let t := b.logTriple
      if t.evnt.triple.length < 3 then t else t.logPage failed

/-- The four DROP_S counters. -/
def Dev.drops (d : Dev) : List Nat := [0, 1, 2, 3].map (fun i => (d.cell pEVNT (0x11C + 4 * i)).toNat)

/-- RECORDS_LOST_REPORT (R524): what was lost since the last report. -/
def Dev.recordsLost (d : Dev) : Dev :=
  let now := d.drops
  let inc := (List.range 4).map (fun i => (now.getD i 0 + 2 ^ 32 - d.evnt.reported.getD i 0) % 2 ^ 32)
  if inc.all (· == 0) then d
  else ({ d with evnt := { d.evnt with reported := now } }).raise pEVNT 1 inc

end Sys2Proof.Machine
end

