-- ==== Sys2Proof/Machine/Fsto.lean ====
section
/-! DEFINITION. Commands of the firmware store: NOR programs and erases, the one-time row, anti-rollback, and the configuration
store (R433 to R463). -/

namespace Sys2Proof.Machine

/-- The operation of a program channel. -/
def Dev.norOp (d : Dev) (b : Nat) : Option NorOp := if b = 0 then d.fsto.op0 else d.fsto.op1

def Dev.setNorOp (d : Dev) (b : Nat) (o : Option NorOp) : Dev :=
  { d with fsto := if b = 0 then { d.fsto with op0 := o } else { d.fsto with op1 := o } }

/-- The RESULT of a channel. -/
def Dev.setNorResult (d : Dev) (b r : Nat) : Dev :=
  { d with fsto := if b = 0 then { d.fsto with result0 := r } else { d.fsto with result1 := r } }

/-- An operation that fails or is refused: its result, and event 0x0608 (R463). -/
def Dev.norFail (d : Dev) (b addr r op : Nat) : Dev := (d.setNorResult b r).raise pFSTO 8 [b, addr, r, op]

/-- A write of `PROGn_CTRL` with GO (R461): the OP is stored; a GO while BUSY is dropped under R35; after PFAIL_N nothing starts
(R437); sectors 0 to 191 of the booted bank are protected (R438). -/
def Dev.progGo (d : Dev) (b op master : Nat) (start : Dev → Nat → Dev) : Dev :=
  d.onWrite pFSTO (0x804 + 16 * b) master (fun d =>
    if (d.norOp b).isSome then d.deny pFSTO
    else
      let d1 := d.setCell pFSTO (0x804 + 16 * b) (u32 op)
      let addr := d.rf pFSTO (0x800 + 16 * b) 0 24
      if d.fsto.pfail then d1.norFail b (bankBase b + addr) 5 op
      else if b = d.fsto.bank ∧ ¬ d.fsto.recovery ∧ addr / 65536 < 192 then d1.norFail b (bankBase b + addr) 4 op
      else start d1 addr)

/-- NOR_PROGRAM (R436): 256 bytes from the channel's buffer, or WOULD_SET. -/
def Dev.norProgram (d : Dev) (b master : Nat) : Dev :=
  if 1 < b then d else
  d.progGo b 1 master (fun d addr =>
    let a := bankBase b + addr / 256 * 256
    let ws := (List.range 64).map (fun i => d.cell pFSTO (0x1000 + 0x100 * b + 4 * i))
    if (List.range 64).any (fun i => d.norWord (a + 4 * i) &&& ws.getD i 0 != ws.getD i 0) then
      (d.setNorResult b 3).raise pFSTO 9 [b, a, master, 0]
    else d.setNorOp b (some { erase := false, addr := a, data := ws }))

/-- NOR_ERASE (R438): one sector. -/
def Dev.norEraseCmd (d : Dev) (b master : Nat) : Dev :=
  if 1 < b then d else
  d.progGo b 2 master (fun d addr => d.setNorOp b (some { erase := true, addr := bankBase b + addr / 65536 * 65536, data := [] }))

/-- NOR_OP_COMPLETE (R433): the operation takes effect and the bank stops being busy; one that fails leaves what it was changing
undefined, as R437 says of one cut off. -/
def Dev.norComplete (d : Dev) (b : Nat) (e : NorEnd) : Dev :=
  match d.norOp b with
  | none => d
  | some o =>
    let d1 := d.setNorOp b none
    match e with
    | .done => (if o.erase then d1.norErase o.addr else d1.norProgs o.addr o.data).setNorResult b 0
    | .dieError => (d1.norCut o).norFail b o.addr 1 (if o.erase then 2 else 1)
    | .timeout => (d1.norCut o).norFail b o.addr 2 (if o.erase then 2 else 1)

/-- A read through the window: a word, or the bank fault of a busy bank (R434), which completes successfully through
BAR2 (master 33, R18). -/
def Dev.windowRead (d : Dev) (addr master : Nat) : Dev :=
  match d.norOp (addr / 0x1000000) with
  | none => d.emit (.word (d.norWord addr) false)
  | some o =>
    let d1 := (d.count pFSTO 0x120 1).emit (.word 0xFFFFFFFF (master != 33))
    let d2 := if d1.fsto.armed then { d1 with fsto := { d1.fsto with faultAddr := addr, armed := false } } else d1
    d2.raise pFSTO 3 [addr, if o.erase then 2 else 1, master, 0]

/-- BANK_FAULT (R434): a read of a busy bank through the window. -/
def Dev.bankFault (d : Dev) (addr master : Nat) : Dev :=
  d.onRead pFSTO 0x8000 master (fun x => x.windowRead addr master)

/-- BUSY_FAULT_ADDR_READ (R462): returns and clears the captured address and re-arms the capture. -/
def Dev.busyFaultRead (d : Dev) (master : Nat) : Dev :=
  d.onRead pFSTO 0x124 master (fun d =>
    ({ d with fsto := { d.fsto with faultAddr := 0, armed := true } }).emit (.word (u32 d.fsto.faultAddr) false))

/-- OTP_PROGRAM (R439): the bits of OTP_DATA are set in the word of OTP_ADDR, or refused by lock or range. -/
def Dev.otpProgram (d : Dev) (master : Nat) (dieError : Bool) : Dev :=
  d.onWrite pFSTO 0x828 master (fun d =>
    let w := d.rf pFSTO 0x820 0 8
    let bits := d.cell pFSTO 0x824
    if d.otpRefused w bits then { d with fsto := { d.fsto with otpResult := 1 } }
    else if dieError then
      let d1 := d.otpSet w (bits &&& Config.freeWord d.free)
      { d1 with free := d.free + 1, fsto := { d1.fsto with otpResult := 3 } }
    else { d.otpSet w bits with fsto := { d.fsto with otpResult := 0 } })

/-- KEY_REVOKE (R441): signing key *k* is revoked, unless the running image or the valid manifest is signed with it. -/
def Dev.keyRevoke (d : Dev) (k master : Nat) : Dev :=
  d.onWrite pFSTO 0x828 master (fun d =>
    let d0 := d.setCell pFSTO 0x828 (setFld (d.cell pFSTO 0x828) 16 2 k)
    if k % 4 = d.fsto.imgKey ∨ (d.sysc.manifest.valid ∧ k % 4 = d.fsto.manKey) then
      ({ d0 with fsto := { d0.fsto with otpResult := 2 } }).raise pFSTO 10 [k % 4, 1, 0, 0]
    else ({ d0.otpSet 24 (u32 (2 ^ (k % 4))) with fsto := { d0.fsto with otpResult := 0 } }).raise pFSTO 10 [k % 4, 0, 0, 0])

/-- Words of ROLLBACK with the thermometer at `n`. -/
def thermo (n i : Nat) : Word := u32 (if n ≤ 32 * i then 0 else 2 ^ (if 32 ≤ n - 32 * i then 32 else n - 32 * i) - 1)

/-- ROLLBACK_COMMIT (R440): the counter rises to the SVN of the running image, unless the other slot would no longer verify. -/
def Dev.rollbackCommit (d : Dev) (force : Bool) (master : Nat) : Dev :=
  d.onWrite pFSTO 0x82C master (fun d =>
    let d0 := d.setCell pFSTO 0x82C (if force then 1 else 0)
    let old := d.rollback
    let new := d.fsto.imgSvn
    let other := 1 - d.fsto.bank
    let svn := (d.hdrAt (bankBase other)).svn
    if new ≤ old then d0
    else if ¬ force ∧ ¬ (d.slotOk other ∧ new ≤ svn) then d0.raise pFSTO 6 [1, old, new, svn]
    else (d0.each (List.range 8) (fun x i => x.otpSet (16 + i) (thermo new i))).raise pFSTO 6 [0, old, new, svn])

/-- CONFIG_RECORD_FLUSH (R455): the ring reaches NOR; nothing is programmed once PFAIL_N is accepted (R437). -/
def Dev.cfgFlushCmd (d : Dev) : Dev := if d.fsto.pfail then d else d.cfgFlush

/-- CONFIG_COMPACTION (R458): with more live sectors than WIN_SECTORS, the oldest is copied forward, retired and erased. -/
def Dev.cfgCompactCmd (d : Dev) : Dev :=
  if ¬ d.fsto.pfail ∧ d.rf pFSTO 0x830 0 6 < d.cfgLive.length then d.cfgCompact else d

/-- BOOT_OK (R451): word B of the newest entry is programmed good, the watchdog stops, and the tally rotates where it must (R450). -/
def Dev.bootOkCmd (d : Dev) (master : Nat) : Dev :=
  d.onWrite pFSTO 0x118 master (fun d =>
    if d.fsto.recovery ∨ d.fsto.bootOk then d
    else
      let n := d.attempts
      let d1 := { d.tallyMark 0 with fsto := { d.fsto with bootOk := true, watchdog := false } }
      (d1.raise pFSTO 1 [d.fsto.bank, d.fsto.imgVer, d.fsto.imgSvn, n]).tallyRotate)

end Sys2Proof.Machine
end

