-- ==== Sys2Proof/Machine/PacketOps.lean ====
section
/-! DEFINITION. What a link carries, on a sled port or on a peer lane: sending (R193, R194), and the bursts and completions of die operations
(R191, R192, R200, R231). -/

namespace Sys2Proof.Machine

/-! ## A link, on a port or on a peer lane -/

def LinkId.peer : LinkId → Bool
  | .port _ => false | .lane _ => true

/-- Its source code in an alignment marker (R183), and its entry of the LINKEQ record (R443). -/
def LinkId.source : LinkId → Nat
  | .port _ => 0 | .lane n => 2 + n
def LinkId.eqEntry : LinkId → Nat
  | .port n => n | .lane n => 16 + n

/-- The transmit equalisation of a link: its pre-cursor, main and post-cursor taps, from the board manifest (R178). -/
def Dev.txTaps (d : Dev) (l : LinkId) : List Byte := cut d.sysc.manifest.linkEq (4 * l.eqEntry) 3

/-- A link of the part: ports 0 to 15, lanes 0 to 3. -/
def LinkId.valid : LinkId → Bool
  | .port n => decide (n < 16) | .lane n => decide (n < 4)

def Dev.lnk (d : Dev) : LinkId → Link
  | .port n => (d.port n).link | .lane n => (d.lane n).link

def Dev.setLnk (d : Dev) (l : LinkId) (f : Link → Link) : Dev :=
  match l with
  | .port n => d.setPort n (fun x => { x with link := f x.link })
  | .lane n => d.setLane n (fun x => { x with link := f x.link })

def Dev.lst (d : Dev) : LinkId → PortState
  | .port n => (d.port n).st | .lane n => (d.lane n).st

def Dev.setLst (d : Dev) (l : LinkId) (s : PortState) : Dev :=
  match l with
  | .port n => d.setPort n (fun x => { x with st := s })
  | .lane n => d.setLane n (fun x => { x with st := s })

/-- A field of the SLK page of a port; a peer lane has no page of its own and takes the reset values (DESIGN CHOICE, log entry 41). -/
def Dev.lrf (d : Dev) (l : LinkId) (off lo n : Nat) : Nat :=
  match l with
  | .port p => d.rf (pSLK p) off lo n
  | .lane _ => fld (cellReset (pSLK 0) off 0) lo n

/-- The links that carry packets: a port in one of the states from EXCHANGE to QUIESCING. -/
def PortState.linked : PortState → Bool
  | .exchange | .unadopted | .foreign | .auth | .up | .quiescing => true
  | _ => false

/-- Peer lanes UP, as a mask and as a count. -/
def Dev.laneMask (d : Dev) : Nat := maskOf ((List.range 4).filter (fun n => (d.lane n).st == .up))
def Dev.lanesUp (d : Dev) : Nat := ((List.range 4).filter (fun n => (d.lane n).st == .up)).length

/-! ## Sending (R193, R194) -/

/-- A CONTROL packet waits on a link. -/
def Dev.control (d : Dev) (l : LinkId) (op : Nat) (args : List Nat) : Dev := d.setLnk l (fun x => x.queue (ctlPkt op args))

/-- A MANAGEMENT request, which waits for its answer. -/
def Dev.mgmtSend (d : Dev) (l : LinkId) (op : Nat) (args : List Nat) (data : List Byte) : Dev :=
  let pkt (xid : Nat) : Pkt :=
    { typ := 6, vc := 3, len := ceilDiv data.length 32, op := op, tag := xid, seq := 0, args := args, data := data }
  let req (xid : Nat) : MgmtReq := { op := op, xid := xid, args := args, data := data, again := false }
  match l with
  | .port n => d.setPort n (fun x => { x with link := x.link.queue (pkt x.nextXid), mgmt := x.mgmt ++ [req x.nextXid], nextXid := (x.nextXid + 1) % 65536 })
  | .lane n => d.setLane n (fun x => { x with link := x.link.queue (pkt x.nextXid), mgmt := x.mgmt ++ [req x.nextXid], nextXid := (x.nextXid + 1) % 65536 })

/-- The requests of a link that wait. -/
def Dev.mgmtOf (d : Dev) : LinkId → List MgmtReq
  | .port n => (d.port n).mgmt | .lane n => (d.lane n).mgmt

def Dev.setMgmt (d : Dev) (l : LinkId) (f : List MgmtReq → List MgmtReq) : Dev :=
  match l with
  | .port n => d.setPort n (fun x => { x with mgmt := f x.mgmt })
  | .lane n => d.setLane n (fun x => { x with mgmt := f x.mgmt })

/-- The request that an answer names, if one waits. -/
def Dev.mgmtReq (d : Dev) (l : LinkId) (op xid : Nat) : Option MgmtReq := (d.mgmtOf l).find? (fun r => r.op == op && r.xid == xid)

/-- A management packet has been processed: its buffer space is freed (R198). -/
def Dev.mgmtFree (d : Dev) (l : LinkId) (op : Nat) : Dev := d.setLnk l (fun x => x.free (fun p => p.typ == 6 && p.op == op))

/-- An answer has been processed: its request no longer waits and its buffer space is freed (R198). -/
def Dev.mgmtTake (d : Dev) (l : LinkId) (op xid : Nat) : Dev :=
  (d.setMgmt l (fun rs => rs.filter (fun r => !(r.op == op && r.xid == xid)))).mgmtFree l op

/-- The round trip is measured anew (R210). -/
def Dev.probe (d : Dev) (l : LinkId) : Dev := (d.control l 3 [d.now]).setLnk l (fun x => { x with probeAt := d.now })

/-! ## Bursts and completions (R191, R192, R200, R231) -/

/-- Flits per unit and units per burst of a FORMAT (R191). -/
def burstUnits (fmt : Nat) : Nat × Nat :=
  if fmt = 0 then (144, 4) else if fmt = 1 then (288, 2) else if fmt = 2 then (432, 1) else (576, 1)

/-- Whether a burst is neither short nor long nor of the wrong length (R191, R200). -/
def burstOk (len got mask fmt : Nat) : Bool :=
  let u := burstUnits fmt
  let n := if fmt = 3 then 1 else popN 16 mask
  got == len && decide (fmt ≤ 3) && decide (1 ≤ n) && decide (n ≤ u.2) && len == n * u.1

/-- Zero bits of the data bytes of a page's codewords (R161, R176). -/
def zeroBits (data : List Byte) : Nat :=
  (chunks 4 4608 data).foldl (fun a c => (c.take 4096).foldl (fun b x => b + (8 - popN 8 x.toNat)) a) 0

/-- Time a program or an erase was held suspended, ns. -/
def OpenOp.suspendedNs (o : OpenOp) (now : Nat) : Nat :=
  if o.d.op = 0x10 ∨ o.d.op = 0x20 then (now - o.issued) - o.ranNs now else 0

/-- Bytes that the bursts of an operation carry. -/
def OpenOp.moved (o : OpenOp) (plc : Bool) : Nat :=
  if o.d.op = 0x10 then 18432 * (if o.d.slc then 4 else if plc then 20 else 16) else 4608 * o.cwGot

/-- The bridge delay of an operation, ns (R231): from its COMMAND's transmission, or from the die's previous COMPLETION if that is later. -/
def Dev.bridgeDelay (d : Dev) (o : OpenOp) (arrayUs : Nat) : Nat :=
  let last := (d.die (dieKey o.d.sled o.d.pos)).lastComp
  let start := if o.txAt < last then last else o.txAt
  let rate := payloadRate (d.port o.d.sled).link.rate
  (d.now - start) - (arrayUs * 1000 + o.suspendedNs d.now + (if rate = 0 then 0 else o.moved (d.sledPlc o.d.sled) * 10 / rate))

/-- An operation's COMPLETION takes effect (R139, R192): slow bridges are noted (R231), BUSY asks who holds the sled (R252), and a vault
segment counts (R272). -/
def Dev.finishOp (d : Dev) (key : Nat) (o : OpenOp) (result dieState arrayUs : Nat) : Dev :=
  let k := dieKey o.d.sled o.d.pos
  let d1 := if d.rf pPRTY 0x134 0 16 * 1000 < d.bridgeDelay o arrayUs then d.slowEvent o.d.sled else d
  let d2 := (d1.setDie k (fun x => { x with lastComp := d.now })).complete key o result dieState
  let d3 := if result = 6 ∧ d.active then d2.mgmtSend (.port o.d.sled) 6 [0] (List.replicate 32 0) else d2
  let d4 := d3.quiesceCheck o.d.sled
  match o.d.use with
  | .vaultRow r m => d4.vaultUnit r m (decide (result = 0))
  | _ => d4.poolService.vaultPump

/-- A packet that belongs to no open operation is stray (R192). -/
def Dev.strayOn (d : Dev) (port : Nat) : Dev := d.setPort port (fun x => { x with stray := x.stray + 1 })

/-- COMPLETION_RECEIVE (R192, R200): stray, held back for NAKed bursts, or the operation's end.  `last` is the result of the die's last array
operation and `bursts` the number of bursts sent.  On a link that is down nothing is processed (R215). -/
def Dev.completionReceive (d : Dev) (port tag gen result dieState arrayUs last bursts : Nat) : Dev :=
  let key := port * 65536 + tag
  let d1 := d.setLnk (.port port) (fun x => x.free (fun p => p.typ == 3))
  if (d.port port).st.linked = false then d1
  else
    match d.op key with
    | none => d1.strayOn port
    | some o =>
      if o.d.gen ≠ gen ∨ o.phase ≠ .sent then d1.strayOn port
      else
        let d2 := d1.setDie (dieKey o.d.sled o.d.pos) (fun x => { x with lastResult := last, lastBursts := bursts })
        if o.naks ≠ 0 then d2.modOp key (fun x => { x with phase := .held, result := result, dieState := dieState, arrayUs := arrayUs })
        else d2.finishOp key o result dieState arrayUs

/-- A COMPLETION held back is released once no burst of its TAG is awaited. -/
def Dev.releaseHeld (d : Dev) (key : Nat) : Dev :=
  match d.op key with
  | some o => if o.phase = .held ∧ o.naks = 0 then d.finishOp key { o with phase := .sent } o.result o.dieState o.arrayUs else d
  | none => d

/-- A burst that cannot be taken (R200): NAK 1 and 2; the third copy is given up. -/
def Dev.burstBad (d : Dev) (port tag seq units : Nat) (o : OpenOp) : Dev :=
  let key := port * 65536 + tag
  let tries := (((d.port port).naks.find? (fun b => b.tag == tag && b.seq == seq)).elim 0 (·.tries)) + 1
  let others := (d.port port).naks.filter (fun b => !(b.tag == tag && b.seq == seq))
  let d1 := d.setPort port (fun x => { x with burstNakRx := x.burstNakRx + 1 })
  if tries < 3 then
    ((d1.setPort port (fun x => { x with naks := others ++ [NakBurst.mk tag seq tries] })).modOp key (fun x =>
      { x with naks := if tries = 1 then x.naks + 1 else x.naks })).control (.port port) 5 [tag, seq, tries]
  else
    let d2 := d1.setPort port (fun x => { x with naks := others, burstFail := x.burstFail + 1 })
    ((d2.modOp key (fun x => { x with naks := x.naks - 1, cwLost := x.cwLost + units })).raise (pSLK port) 5 [tag, 0, seq, o.d.pos]).releaseHeld key

/-- DATA_BURST_RECEIVE (R191, R198, R200): HEAD fields, the BODY flits counted and the bytes carried.  A read's first burst shows that its
sensing has ended (R99).  On a link that is down nothing is processed (R215). -/
def Dev.dataBurstReceive (d : Dev) (port tag seq mask fmt len got : Nat) (data : List Byte) : Dev :=
  let key := port * 65536 + tag
  let d1 := d.setLnk (.port port) (fun x => x.free (fun p => p.typ == 2))
  let units := if fmt = 3 then 1 else popN 16 mask
  if (d.port port).st.linked = false then d1
  else
    match d.op key with
    | none => d1.strayOn port
    | some o =>
      if o.phase ≠ .sent ∧ o.phase ≠ .held then d1.strayOn port
      else if burstOk len got mask fmt = false then (d1.burstBad port tag seq units o).resumeCheck (dieKey port o.d.pos)
      else
        let naked := (d.port port).naks.any (fun b => b.tag == tag && b.seq == seq)
        let z := zeroBits data
        let d2 := d1.modOp key (fun x => { x with cwGot := x.cwGot + units, naks := if naked then x.naks - 1 else x.naks,
                                                  zeros := if x.zeros < z then z else x.zeros })
        let d3 := d2.setPort port (fun x => { x with naks := x.naks.filter (fun b => !(b.tag == tag && b.seq == seq)) })
        let d4 := match o.d.use with
          | .raw => { d3 with media := { d3.media with raw := { d3.media.raw with data := d3.media.raw.data ++ data } } }
          | _ => d3
        (d4.resumeCheck (dieKey port o.d.pos)).releaseHeld key

/-- One packet that was accepted before a reset decision is processed before it (R215): a COMPLETION or a burst, from its HEAD (R191, R192). -/
def Dev.drainPkt (port : Nat) (d : Dev) (p : RxPkt) : Dev :=
  let f (lo n : Nat) : Nat := ofLe (cut p.head lo n)
  if p.typ = 3 then d.completionReceive port (f 4 2) (f 6 2) (f 8 1) (f 9 1) (f 12 4) (f 10 1) (f 11 1)
  else if p.typ = 2 then d.dataBurstReceive port (f 4 2) (f 6 1) (f 8 2) (f 10 1 % 8) p.len p.got p.body
  else d

/-- What a port has accepted and not yet processed of its operations is processed (R215). -/
def Dev.drainRx (d : Dev) (port : Nat) : Dev := d.each (d.port port).link.rxq (Dev.drainPkt port)

/-- BURST_NAK_RECEIVE (R200): the burst goes again, or after the third failure the PROGRAM is cancelled. -/
def Dev.burstNakReceive (d : Dev) (port tag seq attempt : Nat) : Dev :=
  let d1 := d.setLnk (.port port) (fun x => x.free (fun p => p.typ == 5 && p.op == 5))
  match d.op (port * 65536 + tag) with
  | none => d1
  | some o =>
    let d2 := d1.setPort port (fun x => { x with burstNakTx := x.burstNakTx + 1 })
    if attempt ≤ 2 then
      match (d.burstsOf o.d).find? (fun p => p.seq == seq) with
      | some p => d2.send (.port port) { p with tag := tag }
      | none => d2
    else
      ((d2.setPort port (fun x => { x with burstFail := x.burstFail + 1 })).control (.port port) 6 [tag]).raise (pSLK port) 5 [tag, 1, seq, o.d.pos]

end Sys2Proof.Machine
end

