-- ==== Sys2Proof/Machine/LinkPortOps.lean ====
section
/-! DEFINITION. Shared operations of a sled port and of a peer lane: sending, training, link reset with reconciliation, authentication,
coming up, and a sled that is fenced (R193, R194, R204 to R215, R242, R252). -/

namespace Sys2Proof.Machine

/-! ## Link reset and reconciliation (R205, R213, R214) -/

/-- Operations of a port that a reset aborts. -/
def Dev.openOn (d : Dev) (port : Nat) : Nat :=
  (d.media.ops.filter (fun e => e.2.d.sled == port && (e.2.phase == .sent || e.2.phase == .held))).length

/-- Reconciliation of a port that leaves UP for whatever reason (R214): what it has accepted already is processed (R215), its operations end
ABORTED and its credits are reclaimed.  The state it goes to is set first, so that whatever follows finds the sled missing. -/
def Dev.reconcile (d : Dev) (n : Nat) (cause : Nat) (st : PortState) : Dev :=
  let d1 := (d.drainRx n).setPort n (fun x => { x with st := st, authed := false, mgmt := [], naks := [], vaulted := false, link := x.link.reset1 cause })
  ((d1.depart n).abortPort n).redundancy.vaultRefresh

/-- Causes of a reset that are slow events of the sled: all but the manager, removal and disabling (R231). -/
def slowCause (cause : Nat) : Bool := cause != 6 && cause != 8 && cause != 9

/-- A link reset of a sled port that is in use (R213, R219 events 0x02 and 0x04).  A side that has been told by LINK_RESET sends none. -/
def Dev.resetPort (d : Dev) (n cause : Nat) (st : PortState) : Dev :=
  let d := d.drainRx n
  let l := (d.port n).link
  let aborted := d.openOn n
  let d0 := if cause = 7 ∨ ¬ (d.port n).st.linked then d else d.emit (.packet (.port n) (ctlPkt 9 [cause]))
  let d1 := d0.reconcile n cause st
  let d2 := d1.raise (pSLK n) 2 [cause, aborted, l.outstanding, l.rate]
  let new := (d2.port n).link.capRate
  let d3 := if (cause = 0 ∨ cause = 1) ∧ 0 < l.rate ∧ new < l.rate then d2.raise (pSLK n) 4 [l.rate, new, cause, 0] else d2
  if slowCause cause then d3.slowEvent n else d3

/-- A link reset of a peer lane: event 0x2809. -/
def Dev.resetLane (d : Dev) (n cause : Nat) (st : PortState) : Dev :=
  let d0 := if cause = 7 ∨ ¬ (d.lane n).st.linked then d else d.emit (.packet (.lane n) (ctlPkt 9 [cause]))
  let d1 := d0.setLane n (fun x => { x with st := st, authed := false, mgmt := [], link := x.link.reset1 cause })
  d1.raise pPEER 9 [n, cause, d1.lanesUp, 0]

/-- A link reset (R213): both sides go to training; a port being removed stays QUIESCING (R211). -/
def Dev.resetLink (d : Dev) (l : LinkId) (cause : Nat) : Dev :=
  match l with
  | .port n =>
    let s := (d.port n).st
    if s = .quiescing then (d.resetPort n cause .quiescing).vaultLeft n
    else if s.linked ∨ s = .training then (d.resetPort n cause .training).vaultLeft n
    else d
  | .lane n => if (d.lane n).st.linked ∨ (d.lane n).st = .training then d.resetLane n cause .training else d

/-- What a link's own reception leads to: the link, and a reset with its cause where there is one (R197, R201, R219 event 0x06). -/
def Dev.takeResult (d : Dev) (l : LinkId) (r : RxResult) : Dev :=
  let d1 := d.setLnk l (fun _ => r.link)
  let d2 := match r.bad, l with
    | some (t, n, o, f), .port p => d1.raise (pSLK p) 6 [t, n, o, f]
    | _, _ => d1
  match r.cause with
  | some c => d2.resetLink l c
  | none => d2

/-! ## Training (R204, R205, R211) -/

/-- The rate of the next trial: one lower after a failed trial, else the start rate (R204, R205). -/
def Dev.trialRate (d : Dev) (l : LinkId) : Nat :=
  match (d.lnk l).trial with
  | some t => t.rate
  | none => (d.lnk l).startRate (d.lrf l 0x100 4 2)

/-- The rate at which the run of trials under way has begun (R205). -/
def Dev.runStart (d : Dev) (l : LinkId) : Nat :=
  match (d.lnk l).trial with
  | some t => t.start
  | none => (d.lnk l).startRate (d.lrf l 0x100 4 2)

/-- A trial has failed (R204): the lane is idle before the next lower rate, or the port holds for 1 s with event 0x03. -/
def Dev.trialFailed (d : Dev) (l : LinkId) (t : Trial) : Dev :=
  let d1 := d.setLnk l (fun x => { x.noteTrial t.rate t.corrected false with trial := none })
  if 1 < t.rate then
    d1.setLnk l (fun x => { x with trial := some { t with rate := t.rate - 1, phase := .idleGap, startedAt := d.now, corrected := 0,
                                                          uncorr := false, windowDone := false, other := none } })
  else
    let d2 := d1.setLst l .hold
    match l with
    | .port n => d2.raise (pSLK n) 3 [t.start, t.corrected, (t.other.map (fun o => if o.1 then 1 else 0)).getD 0, 0]
    | .lane _ => d2

/-- Once both counts of a trial are known, the controller's TRAIN carries the final verdict (R204 step 4); PASS is followed by CREDIT and
leads to EXCHANGE (R199, R211). -/
def Dev.trialVerdict (d : Dev) (l : LinkId) : Dev :=
  match (d.lnk l).trial with
  | none => d
  | some t =>
    match t.verdict with
    | none => d
    | some ok =>
      let d1 := d.emit (.packet l (ctlPkt 1 [if ok then 1 else 0, t.rate, t.corrected]))
      if ok then (d1.setLnk l (fun x => x.trained l.peer t)).setLst l .exchange else d1.trialFailed l t

/-! ## Authentication (R207, R242, R407) -/

/-- The pairing of two controllers is under way on this one: a code is held, and GIVE or TAKE has been written (R407). -/
def Dev.pairing (d : Dev) : Bool := d.cryp.pairCode.isSome && (d.cryp.give || d.cryp.take)

/-- K_sled of a serial number (R207). -/
def Dev.kSledOf (d : Dev) (serial : Nat) : List Byte := hmac384 d.cryp.kPair (ascii "KATRE-ADOPT" ++ leBytes 8 serial)

/-- K_pc for a peer's chip serial number (R407 step 2). -/
def Dev.kPcOf (d : Dev) (serial : Nat) : List Byte :=
  let me := d.chipSerial
  let lo := if me < serial then me else serial
  let hi := if me < serial then serial else me
  hmac384 ((d.cryp.pairCode.map Prod.fst).getD []) (ascii "KATRE-PAIR" ++ leBytes 8 lo ++ leBytes 8 hi)

/-- The key of a link's exchange. -/
def Dev.authKey (d : Dev) : LinkId → List Byte
  | .port n => d.kSledOf (d.port n).serial
  | .lane n => if d.pairing then d.kPcOf (d.lane n).peerSerial else kPeerOf d.cryp.kPair

/-- Serial number and owner in the far side's answer, and in this side's (R207, R242). -/
def Dev.farId (d : Dev) : LinkId → List Byte
  | .port n => leBytes 8 (d.port n).serial ++ leBytes 8 d.cryp.pairId
  | .lane n => leBytes 8 (d.lane n).peerSerial ++ leBytes 8 (d.lane n).peerPair
def Dev.ownId (d : Dev) : LinkId → List Byte
  | .port n => leBytes 8 (d.port n).serial ++ leBytes 8 d.cryp.pairId
  | .lane _ => leBytes 8 d.chipSerial ++ leBytes 8 d.cryp.pairId

/-- The nonce sent on a link. -/
def Dev.ncOf (d : Dev) : LinkId → List Byte
  | .port n => (d.port n).nc | .lane n => (d.lane n).nc

/-- Authentication starts (R207 step 1): the nonce is a truncated SHA-384 digest of the power-cycle count, a challenge counter, the port
number and device time. -/
def Dev.authStart (d : Dev) (l : LinkId) : Dev :=
  let nonce (k port : Nat) : List Byte := (hash 1 (leBytes 4 d.clkr.pwrCycles ++ leBytes 4 k ++ leBytes 1 port ++ leBytes 8 d.now)).take 32
  match l with
  | .port n =>
    let nc := nonce (d.port n).nonces n
    (d.setPort n (fun x => { x with st := .auth, nonces := x.nonces + 1, nc := nc, kSled := d.kSledOf x.serial })).mgmtSend l 3 [1] nc
  | .lane n =>
    let nc := nonce (d.lane n).nextXid (16 + n)
    (d.setLane n (fun x => { x with st := .auth, nc := nc })).mgmtSend l 3 [1] nc

/-- A check has failed (R207): counted, told, the link down for its hold, or REFUSED after TRIES failures in a row. -/
def Dev.authFail (d : Dev) (l : LinkId) (side : Nat) : Dev :=
  let tries := d.lrf l 0x80C 16 8
  match l with
  | .port n =>
    let x := d.port n
    let st := if tries ≤ x.authFails + 1 then PortState.refused else .hold
    let d1 := d.setPort n (fun y => { y with st := st, authed := false, mgmt := [], authFails := y.authFails + 1, authFailCount := y.authFailCount + 1,
                                             link := { y.link.reset1 10 with resets := y.link.resets } })
    let d2 := d1.raise (pSLK n) 8 [side, x.authFails + 1, x.serial % 2 ^ 32, x.serial / 2 ^ 32]
    if st = .refused then d2.sledGone n else d2
  | .lane n =>
    let x := d.lane n
    let st := if tries ≤ x.authFails + 1 then PortState.refused else .hold
    let d1 := d.setLane n (fun y => { y with st := st, authed := false, mgmt := [], authFails := y.authFails + 1,
                                             link := { y.link.reset1 10 with resets := y.link.resets } })
    -- pairing fails with its lane's authentication (R408)
    if d.pairing then { d1 with cryp := { d1.cryp with give := false, take := false, pairPhase := .codeHeld, pairResult := 2 } } else d1

/-! ## Coming up (R210, R211) -/

/-- The bridge supplies vector tables (R151): from version 1.3, by its feature bit. -/
def Port.vtab (x : Port) : Bool := decide (0x13 ≤ x.verUsed) && hasBit x.features 2

/-- First-time reads of an insertion (R210): GEOM of every die position, VTABLE from version 1.3, SENSOR from version 1.2. -/
def Dev.firstReads (d : Dev) (n : Nat) : Dev :=
  let x := d.port n
  if x.firstReads then d
  else
    let d1 := d.each (List.range 256) (fun y p => y.mgmtSend (.port n) 2 [p] (leBytes 1 p))
    let d2 := if x.vtab then d1.each (List.range 256) (fun y p => y.mgmtSend (.port n) 8 [p] (leBytes 1 p)) else d1
    let d3 := if 0x12 ≤ x.verUsed ∧ hasBit x.features 1 then d2.mgmtSend (.port n) 7 [] [] else d2
    d3.setPort n (fun y => { y with firstReads := true })

/-- A sled counts as failed for this controller: another holds its token (R252).  Its mode does not change. -/
def Dev.sledFenced (d : Dev) (n token : Nat) : Dev :=
  if hasBit d.peer.fenceLost n then d
  else
    let d1 := ({ d with peer := { d.peer with fenceLost := d.peer.fenceLost + 2 ^ n } }).raise pPEER 5 [n, token / 256 % 2 ^ 32, token % 256, 0]
    (((d1.depart n).abortPort n).sledGone n).redundancy.vaultRefresh.vaultLeft n

/-- Both directions are verified: the port is UP (R207, R210, R211), with event 0x01. -/
def Dev.portUp (d : Dev) (n : Nat) : Dev :=
  let x := d.port n
  let d1 := d.setPort n (fun y => { y with st := .up, authed := true, authFails := 0, link := { y.link with trials := 0 } })
  let d2 := (d1.raise (pSLK n) 1 [x.link.rate, x.verUsed, x.link.trials, x.link.instanceNo]).probe (.port n)
  let d3 := { d2 with media := { d2.media with sleds := d2.media.sleds.upd SledMedia.reset n (fun s =>
    { s with adopted := true, plc := x.plc, ms5 := hasBit x.features 0 && decide (0x11 ≤ x.verUsed), valid := s.valid || !x.firstReads }) } }
  (((d3.firstReads n).portDiesUp n).sledReturns n).redundancy.vaultRefresh

/-- A peer lane is UP. -/
def Dev.laneUp (d : Dev) (n : Nat) : Dev := d.setLane n (fun x => { x with st := .up, authed := true, authFails := 0 })


/-- A sled is adopted (R208): its token is COUNT 1 with this controller as holder, its blocks start over; event 0x09. -/
def Dev.adopted (d : Dev) (n : Nat) : Dev :=
  let x := d.port n
  let d1 := d.newSled n
  let d2 := d1.setPort n (fun y => { y with adopting := false, owner := d.cryp.pairId, token := 256 + d.peer.index, firstReads := false })
  let d3 := { d2 with media := { d2.media with cutOff := d2.media.cutOff.del x.serial
                                               sleds := d2.media.sleds.set n { adopted := true, valid := false, plc := x.plc, ms5 := hasBit x.features 0 } } }
  d3.raise (pSLK n) 9 [x.serial % 2 ^ 32, x.serial / 2 ^ 32, if (d.media.cutOff.find x.serial).getD x.adoptForce then 1 else 0, 0]

/-- The layout that a number of healthy sleds of one cell type allows: data sleds (R26). -/
def blankLayout (n : Nat) : Option Nat := if 16 ≤ n then some 14 else if 12 ≤ n then some 10 else if 8 ≤ n then some 6 else none

/-- Healthy sleds (R25): UP under this pair's identifier, and those that can still be adopted. -/
def Dev.healthy (d : Dev) : List Nat := (List.range 16).filter (fun n => (d.port n).st == .up && (d.port n).owner == d.cryp.pairId)
def Dev.adoptable (d : Dev) : List Nat := (List.range 16).filter (fun n => (d.port n).st == .unadopted)

/-- The sleds of the cell type that is used: the type with more healthy sleds, ties to QLC (R26). -/
def Dev.mainType (d : Dev) (l : List Nat) : List Nat :=
  let q := l.filter (fun n => !(d.port n).plc)
  let p := l.filter (fun n => (d.port n).plc)
  if q.length < p.length then p else q

/-- The count that chooses the layout of blank start-up. -/
def Dev.blankCount (d : Dev) : Nat := (d.mainType (d.healthy ++ d.adoptable)).length

/-- The replacement of a slot is under way (R240). -/
def Dev.replacing (d : Dev) (n : Nat) : Bool := d.sysc.service == some .replacement && d.prty.replace.any (fun r => r.slot == n)

/-- Adoption is permitted in two cases only (R208): the replacement of this slot, and blank start-up, whose steps are repeated once eight
sleds are healthy (R26); a FOREIGN sled only in the first, with FORCE. -/
def Dev.mayAdopt (d : Dev) (n : Nat) (foreign : Bool) : Bool :=
  if foreign then d.replacing n && bitOf (d.cell (pSLK n) 0x810) 0
  else d.replacing n || (d.sysc.base.isNone && d.sysc.cur != .recovery && d.zone.nss.isEmpty && decide (8 ≤ d.blankCount))

/-- ADOPT is sent (R208): pair identifier, K_sled, the initial token and FORCE; until it is answered, its outcome is open. -/
def Dev.sendAdopt (d : Dev) (n : Nat) (force : Bool) : Dev :=
  let x := d.port n
  let d1 := { d with media := { d.media with cutOff := d.media.cutOff.set x.serial force } }
  (d1.setPort n (fun y => { y with adopting := true, adoptForce := force })).mgmtSend (.port n) 4 [if force then 1 else 0]
    (leBytes 8 d.cryp.pairId ++ d.kSledOf x.serial ++ leBytes 8 (256 + d.peer.index) ++ leBytes 1 (if force then 1 else 0))

/-- Step 1 of R25: every adoptable sled is adopted that is not being adopted already. -/
def Dev.blankAdopt (d : Dev) : Dev :=
  ({ d with zone := { d.zone with blankOn := true } }).each (d.adoptable.filter (fun n => !(d.port n).adopting)) (fun x n => x.sendAdopt n false)

/-- Too few sleds for a namespace (R26): an event, which the spec does not name. -/
def Dev.tooFew (d : Dev) : Dev := d.unnamed

/-- A sled that may be adopted is (R208): alone for a replacement, with all that wait in blank start-up. -/
def Dev.adoptNow (d : Dev) (n : Nat) (foreign : Bool) : Dev :=
  if d.mayAdopt n foreign then (if d.replacing n then d.sendAdopt n foreign else d.blankAdopt) else d

end Sys2Proof.Machine
end

