-- ==== Sys2Proof/Machine/Vault.lean ====
section
/-! DEFINITION. Commands of the vault and the journal: the power-fail sequence, the hold-up store, journal pages and checkpoints (R264 to
R275, R281, R286, R290). -/

namespace Sys2Proof.Machine

/-! ## The power-fail sequence (R265, R267, R272) -/

/-- A standby stops its peer lanes and halts (R267). -/
def Dev.standbyHalt (d : Dev) : Dev :=
  let d1 := d.each [0, 1, 2, 3] (fun x n => x.setLane n (fun l => { l with st := .off, authed := false, mgmt := [] }))
  { d1 with valt := { d1.valt with st := .halt, byPfail := true } }

/-- A service action that a power failure interrupts is reported as abandoned, save firmware activation (R24).  It is told at the acceptance,
so that the image keeps the record; neither table has a cause for it: a free value (DESIGN CHOICE, log entry 72). -/
def Dev.serviceCut (d : Dev) : Dev :=
  match d.sysc.service with
  | some .replacement =>
    match d.prty.replace with
    | some r => d.takeFree.raise pPRTY 6 [r.slot, Config.freeNat d.free, (d.port r.slot).serial % 2 ^ 32]
    | none => d
  | some .handover => d.takeFree.raise pPEER 7 [Config.freeNat d.free]
  | _ => d

/-- PFAIL_ACCEPT (R265, R267): PFAIL_N has been low for the filter time.  A transition in progress is abandoned (R24); in DORMANT an event is
recorded, which the spec does not name, and nothing else happens. -/
def Dev.pfailAccept (d : Dev) : Dev :=
  let d0 := { d with valt := { d.valt with pfailLow := true }, fsto := { d.fsto with pfail := true } }
  match d.sysc.cur with
  | .recovery => if d.powr.phase = .starting ∨ d.powr.phase = .recovering then { d0 with valt := { d0.valt with st := .halt, byPfail := true } } else d0
  | .dormant => if d.powr.entry = .waking then { d0 with valt := { d0.valt with st := .halt, byPfail := true } } else d0.unnamed
  | .peerStandby => if d.valt.st = .idle then d0.standbyHalt else d0
  | .standalone | .partitioned | .service =>
    let d1 := ({ d0 with powr := { d0.powr with entry := .none, step := 0, stopped := [] }, sysc := { d0.sysc with busy := false } }).serviceCut
    match d.valt.st with
    | .idle =>
      if d.host.recovered then d1.vaultFreeze 0 none true
      else { d1 with valt := { d1.valt with st := .halt, byPfail := true } }
    | .freeze | .save | .seal => { d1 with valt := { d1.valt with byPfail := true, cause := 0 } }
    | .parked => if d.powr.entry = .waking then { d0 with valt := { d0.valt with st := .halt, byPfail := true } } else d0
    | .halt | .restore => d0

/-- VAULT_SNAPSHOT_DONE (R272): SAVE begins. -/
def Dev.snapshotDone (d : Dev) : Dev := if d.valt.st = .freeze then d.vaultSave else d

/-- PFAIL_N_RISE (R265): noted for the seal; the sequence runs on. -/
def Dev.pfailRise (d : Dev) : Dev :=
  let d1 := { d with valt := { d.valt with pfailLow := false } }
  if d.valt.st = .freeze ∨ d.valt.st = .save ∨ d.valt.st = .seal then
    if d.valt.byPfail ∧ d.valt.rose = false then
      { d1 with valt := { d1.valt with rose := true, roseMs := satAt 255 ((d.now - d.valt.accepted) / 1000000) } }
    else d1
  else if d.valt.st = .halt then d1
  else { d1 with fsto := { d1.fsto with pfail := false } }

/-- HALT_RELEASE (R265, R272): PFAIL_N has been high for 10 ms after HALT; the controller starts as after a power failure. -/
def Dev.haltRelease (d : Dev) : Dev :=
  if d.valt.st = .halt ∧ d.valt.pfailLow = false then d.warmNow (d.valt.thenReset.getD 4) (decide (d.valt.last = 1)) .none else d

/-- HOLDUP_OK_CHANGE (R266): a fall stops staging, with event 0x2404; a rise that has lasted 10 ms lets it go on. -/
def Dev.holdupChange (d : Dev) (high : Bool) : Dev :=
  if high then ({ d with valt := { d.valt with holdup := true, holdupAt := d.now, stageOk := true } }).warnCheck
  else if d.valt.holdup then
    (({ d with valt := { d.valt with holdup := false, stageOk := false } }).raise pVALT 4 [d.sysc.cur.code, d.vaultLoad, 0, 0]).warnCheck
  else d

/-! ## The journal (R281, R286) -/

/-- VALT writes the journal: this controller owns the sleds, recovery has run, and no pass is under way. -/
def Dev.journalRuns (d : Dev) : Bool := d.active && d.host.recovered && d.valt.st == .idle

/-- JOURNAL_PAGE_WRITE (R281): a page has filled, or its first record is FLUSH_US old; the copies whose program failed are named. -/
def Dev.journalPageWrite (d : Dev) (failed : List Nat) : Dev :=
  let flush := d.rf pVALT 0x800 0 16 * 1000
  let due := decide (65536 ≤ d.valt.ringBytes) || (d.valt.ring.head?.any (fun r => decide (r.at_ + flush ≤ d.now)))
  if d.journalRuns ∧ d.triplesReady ∧ due then d.writePage failed else d

/-- The pages since the last CKPT_END that start a checkpoint. -/
def Dev.ckptTrigger (d : Dev) : Nat := d.rf pVALT 0x800 16 16 * 1024

/-- CHECKPOINT_START (R286): CKPT_BEGIN is made and the tables are taken; by the page count, or by a write of CKPT_NOW. -/
def Dev.ckptBegin (d : Dev) : Dev :=
  if d.journalRuns ∧ d.valt.ckptOn = none ∧ d.ringRoom then
    let n := d.valt.ckptNum + 1
    let ck : Ckpt := { num := n, begin_ := d.valt.nextSeq, nss := d.zone.nss, zones := d.zone.zones, blocks := d.media.blocks, retired := d.retiredDies }
    ({ d with valt := { d.valt with ckptOn := some (d.valt.nextSeq, d.now, d.valt.pages), ckptNew := some ck } }).journal (.ckptBegin n)
  else d

def Dev.checkpointStart (d : Dev) (byWrite : Option Nat) : Dev :=
  match byWrite with
  | some master => d.onWrite pVALT 0x808 master Dev.ckptBegin
  | none => if d.ckptTrigger ≤ d.valt.pages then d.ckptBegin else d

/-- The triples that precede a SEQ wholly: every triple whose successor begins at or below it. -/
def triplesBefore (seq : Nat) : List (List Nat × Nat) → List (List Nat × Nat) × List (List Nat × Nat)
  | a :: b :: rest => if b.2 ≤ seq then (a :: (triplesBefore seq (b :: rest)).1, (triplesBefore seq (b :: rest)).2) else ([], a :: b :: rest)
  | l => ([], l)

/-- CHECKPOINT_END (R286): CKPT_END is made, the anchor names the triple that holds CKPT_BEGIN, and older triples are released. -/
def Dev.checkpointEnd (d : Dev) : Dev :=
  match d.valt.ckptOn, d.valt.ckptNew with
  | some (seq, at_, p0), some ck =>
    let onFlash := d.valt.ring.all (fun r => decide (seq < r.seq))
    if d.journalRuns ∧ d.ringRoom ∧ onFlash then
      let pages := d.valt.pages - p0
      let d1 := d.journal (.ckptEnd ck.num seq pages)
      let t := triplesBefore seq d1.valt.triples
      let anchor := ((t.2.head?.map Prod.fst).getD d1.valt.anchor.triple)
      let d2 := { d1 with valt := { d1.valt with
        ckptOn := none, ckptNew := none, ckptNum := ck.num, ckpt := some ck, pages := 0, triples := t.2
        flash := d1.valt.flash.filter (fun p => p.recs.any (fun r => decide (seq ≤ r.seq)))
        anchor := { d1.valt.anchor with triple := anchor } } }
      let d3 := d2.each (t.1.flatMap Prod.fst) (fun x b => x.releaseBlk b)
      d3.saveAnchor.raise pVALT 9 [ck.num, pages, (d.now - at_) / 1000000, t.1.length]
    else d
  | _, _ => d

/-! ## Reads with an effect (R290) -/

/-- JSEQ_LO_READ: the high half is latched for the reading master. -/
def Dev.jseqLoRead (d : Dev) (master : Nat) : Dev :=
  d.onRead pVALT 0x130 master (fun d =>
    ({ d with valt := { d.valt with hiLatch := d.valt.hiLatch.put 0 master (d.valt.nextSeq / 4294967296 % 4294967296) } }).emit (.word (u32 d.valt.nextSeq) false))

/-- LOAD_PEAK_READ: the peak since the last read, which then starts over from the present load. -/
def Dev.loadPeakRead (d : Dev) (master : Nat) : Dev :=
  d.onRead pVALT 0x114 master (fun d =>
    let l := d.vaultLoad
    let p := if d.valt.peak < l then l else d.valt.peak
    ({ d with valt := { d.valt with peak := l } }).emit (.word (u32 p) false))

end Sys2Proof.Machine
end

