-- ==== Sys2Proof/Machine/Media.lean ====
section
/-! DEFINITION. The commands of the flash media engine that it or the firmware starts itself: the read-level tracker, migrations,
retirement of a die and the expert raw read (R152 to R176). -/

namespace Sys2Proof.Machine

/-- Budget of a class for a read of a cell type, µs (R92). -/
def Dev.budgetUs (d : Dev) (e : Word) (cl : Cls) (plc : Bool) : Nat :=
  match cl with
  | .a => d.rfAt e pSCHD 0x104 0 16 + (if plc then d.rfAt e pSCHD 0x104 16 16 else 0)
  | .b => d.rfAt e pSCHD 0x108 0 16
  | .c => d.rfAt e pSCHD 0x10C 0 16

/-- A read's deadline (R93), ns of device time. -/
def Dev.readDeadline (d : Dev) (e : Word) (cl : Cls) (plc : Bool) (admitted len : Nat) : Nat :=
  admitted + (d.budgetUs e cl plc + ceilDiv (len - 4096) 16384) * 1000

/-! ## The tracker (R152, R153) -/

/-- The two sampling reads of one word-line group: at the group's index, and at the next. -/
def Dev.sampleGroup (d : Dev) (b g : Nat) : Dev :=
  let k := b / 2048
  let rd (next : Bool) : Desc := Desc.read (k / 256) (k % 256) (b % 2048) (96 * g) 0 65535 0 (d.blk b).slc (.sample g next)
  (d.enqueueBg .read (rd false)).enqueueBg .read (rd true)

/-- The word-line groups of a block that hold data. -/
def Block.dataGroups (b : Block) : List Nat := (List.range 8).filter (fun g => decide (96 * g < b.confirmed))

/-- The block may hold data: it belongs to a stripe group or a copy, or to VALT. -/
def BlockState.holds : BlockState → Bool
  | .allocated | .vault => true
  | _ => false

/-- TRACKER_SAMPLING (R153). -/
def Dev.trackerSampling (d : Dev) : Dev :=
  d.each (d.media.blocks.filter (fun e => e.2.st.holds)) (fun x e => x.each e.2.dataGroups (fun y g => y.sampleGroup e.1 g))

/-- Runs of 38 blocks with tracked data, as die × 64 + run. -/
def Dev.trackRuns (d : Dev) : List Nat :=
  ((d.media.blocks.filter (fun e => e.2.st.holds)).map (fun e => e.1 / 2048 * 64 + e.1 % 2048 / 38)).eraseDups

/-- TRACKER_CHECKPOINT (R153, R283): a TRACK record for each run; those for which the ring has no room wait until it has. -/
def Dev.trackerCheckpoint (d : Dev) : Dev := { d with media := { d.media with trackLeft := d.trackRuns } }.trackSave

/-! ## Migrations (R156, R165, R166) -/


/-- Median erase count of the ERASED blocks of a die: the lower of two middle ones. -/
def Dev.medianErases (d : Dev) (k : Nat) : Nat :=
  let l := sortBy id ((d.erasedOf k).map (fun e => e.2.erases))
  l.getD ((l.length - 1) / 2) 0

/-- The ERASED block of a die with the highest erase count below the ceiling. -/
def Dev.wornErased (d : Dev) (k : Nat) : Option Nat :=
  (firstMin (fun (e : Nat × Block) => 65536 - e.2.erases) ((d.erasedOf k).filter (fun e => decide (e.2.erases < d.wearCeil (k / 256))))).map (fun e => e.1 % 2048)

/-- Migrations of one cause under way on a sled. -/
def Dev.migrations (d : Dev) (sled : Nat) (disturb : Bool) : Nat :=
  d.media.copies.count (fun _ c => c.sled == sled && c.kind == .migrate disturb)

/-- A migration starts (R166 steps 1 and 2). -/
def Dev.migrate (d : Dev) (sled pos block target z g : Nat) (disturb : Bool) : Dev :=
  (d.takeBlk (blkKey sled pos target)).beginCopy
    { kind := .migrate disturb, zone := z, group := g, sled := sled, pos := pos, src := block, dst := target, next := 0,
      total := (d.blk (blkKey sled pos block)).confirmed, unit := none, buf := [] }

/-- A copy of the block is under way. -/
def Dev.copying (d : Dev) (sled pos block : Nat) : Bool :=
  d.media.copies.any (fun e => e.2.sled == sled && e.2.pos == pos && (e.2.src == block || e.2.dst == block))

/-- WEAR_MIGRATION_START (R165, R166). -/
def Dev.wearMigrationStart (d : Dev) (sled pos block : Nat) : Dev :=
  let k := dieKey sled pos
  let b := d.blk (blkKey sled pos block)
  let cold := d.rf pMEDI 0x12C 16 8 * 86400000000000
  match d.ownerOf sled pos block, d.wornErased k with
  | some (z, g), some t =>
    if d.ringRoom ∧ b.st = .allocated ∧ (d.zn z).st = .full ∧ (d.zn z).fullAt + cold ≤ d.now
        ∧ b.erases + d.rf pMEDI 0x12C 0 16 ≤ d.medianErases k ∧ d.migrations sled false < d.rf pMEDI 0x12C 24 8
        ∧ d.copying sled pos block = false ∧ (d.die k).retired = false then
      d.migrate sled pos block t z g false
    else d
  | _, _ => d

/-- The read-count limit of a sled's cell type (R156). -/
def Dev.disturbLimit (d : Dev) (sled : Nat) : Nat := (if d.sledPlc sled then d.rf pMEDI 0x130 16 16 else d.rf pMEDI 0x130 0 16) * 1000

/-- READ_DISTURB_MIGRATION (R156, R166). -/
def Dev.readDisturbMigration (d : Dev) (sled pos block : Nat) : Dev :=
  let k := dieKey sled pos
  let b := d.blk (blkKey sled pos block)
  match d.ownerOf sled pos block with
  | none => d
  | some (z, g) =>
    match d.pickBlock z k d.sysc.epoch with
    | none => d
    | some t =>
      if d.ringRoom ∧ b.st = .allocated ∧ d.disturbLimit sled ≤ b.reads ∧ (d.zn z).st.active = false ∧ d.migrations sled true = 0
          ∧ d.copying sled pos block = false ∧ (d.die k).retired = false then
        d.migrate sled pos block t z g true
      else d

/-! ## Retirement (R171) -/

/-- DIE_RETIRE_WRITE (R171, R175): a write with CONFIRM asks for the retirement of a present die; one without is dropped (R35). -/
def Dev.dieRetireWrite (d : Dev) (master : Nat) (v : Word) : Dev :=
  d.onWrite pMEDI 0x850 master (fun e =>
    if bitOf v 31 = false then e.deny pMEDI
    else if e.diePresent (dieKey (fld v 8 4) (fld v 0 8)) then
      e.setDie (dieKey (fld v 8 4) (fld v 0 8)) (fun x => { x with retireReq := true })
    else e)

/-- DIE_RETIREMENT (R171, R176): the request is met once the die's open operations have ended. -/
def Dev.dieRetirement (d : Dev) (sled pos : Nat) : Dev :=
  let k := dieKey sled pos
  if (d.die k).retireReq ∧ (d.die k).retired = false ∧ d.ringRoom ∧ d.media.ops.all (fun e => dieKey e.2.d.sled e.2.d.pos != k) then
    (d.setDie k (fun x => { x with retireReq := false })).retireDie k 1
  else d

/-! ## The raw read (R147, R176) -/

/-- RAW_READ (R176): GO while BUSY is dropped under R35. -/
def Dev.rawRead (d : Dev) (master : Nat) : Dev :=
  d.onWrite pMEDI 0x844 master (fun d =>
    if d.media.raw.busy then d.deny pMEDI
    else
      let s := d.rf pMEDI 0x820 24 4
      let p := d.rf pMEDI 0x820 16 8
      let b := d.rf pMEDI 0x820 0 13
      let wl := d.rf pMEDI 0x840 0 10
      let k := dieKey s p
      let raw : RawRead := { RawRead.reset with busy := true, decode := bitOf (d.cell pMEDI 0x840) 28, master := master }
      let d2 := { d with media := { d.media with raw := raw } }
      if d.diePresent k = false ∨ (d.die k).retired then d2.rawEnd 7 true 0
      else if (d.die k).st = .offline then d2.rawEnd 9 true 0
      else
        let mask := 15 * 2 ^ (4 * d.rf pMEDI 0x840 16 2)
        let due := d.readDeadline d.sysc.epoch .c (d.sledPlc s) d.now 16384
        d2.enqueue .read due d.sysc.epoch false false
          (Desc.read s p b wl (d.rf pMEDI 0x840 20 3) mask 0 (bitOf (d.cell pMEDI 0x840) 24) .raw))

end Sys2Proof.Machine
end

