-- ==== Sys2Proof/Machine/Protect.lean ====
section
/-! DEFINITION. End-to-end protection information of a logical block (R304, R324): in the first bytes of the metadata, with no
storage tag.  The bytes of each format follow the NVM command set. -/

namespace Sys2Proof.Machine

/-- `v` as `n` bytes, most significant first. -/
def msbBytes (n v : Nat) : List Byte := (leBytes n v).reverse
/-- The number that bytes, most significant first, spell. -/
def ofMsb (l : List Byte) : Nat := ofLe l.reverse

/-- Bytes of the guard and of the reference tag of a guard width. -/
def guardLen (bits : Nat) : Nat := bits / 8
def refLen (bits : Nat) : Nat := if bits = 16 then 4 else if bits = 32 then 10 else 6

/-- The protection information of a block's data. -/
def piBytes (bits : Nat) (data : List Byte) (tag ref : Nat) : List Byte :=
  msbBytes (guardLen bits) (Config.guard bits data) ++ msbBytes 2 tag ++ msbBytes (refLen bits) ref

/-- The fields of stored protection information. -/
def piGuard (bits : Nat) (md : List Byte) : Nat := ofMsb (md.take (guardLen bits))
def piTag (bits : Nat) (md : List Byte) : Nat := ofMsb ((md.drop (guardLen bits)).take 2)
def piRef (bits : Nat) (md : List Byte) : Nat := ofMsb ((md.drop (guardLen bits + 2)).take (refLen bits))

/-- The metadata with its reference tag rewritten (R324). -/
def setRef (bits : Nat) (md : List Byte) (ref : Nat) : List Byte :=
  md.take (guardLen bits + 2) ++ msbBytes (refLen bits) ref ++ md.drop (guardLen bits + 2 + refLen bits)

/-- The reference tag expected of block `i` of a command: types 1 and 2 count up from the command's. -/
def refOf (type first i bits : Nat) : Nat := if type = 3 then first else (first + i) % 256 ^ refLen bits

/-- The checks of R324 on block `i` of a command: the status of the first that fails. -/
def piCheck (type bits : Nat) (pr : PrInfo) (i : Nat) (data md : List Byte) : Option Nat :=
  if type = 0 ∨ md.all (· == 0xFF) = true ∨ (piTag bits md = 0xFFFF ∧ type ≠ 3) then none
  else if pr.guard = true ∧ piGuard bits md ≠ Config.guard bits data then some 0x282
  else if pr.app = true ∧ piTag bits md &&& pr.mask ≠ pr.tag &&& pr.mask then some 0x283
  else if pr.ref = true ∧ type ≠ 3 ∧ piRef bits md ≠ refOf type pr.first i bits then some 0x284
  else none

/-- The deallocated pattern (R70). -/
def deallocated (meta_ : Nat) : List Byte := List.replicate 4096 0 ++ List.replicate meta_ 0xFF

end Sys2Proof.Machine
end

