-- ==== Sys2Proof/Machine/Sched.lean ====
section
/-! DEFINITION. The commands of the deadline scheduler, of the decoders and of the parity engine (R82 to R129, R144 to R156, R226, R227). -/

namespace Sys2Proof.Machine

/-- DIE_DISPATCH (R96): dies of an UP sled that this controller holds, while no vault pass has taken its port; on a port that quiesces only the
ladder steps of reads in flight go on (R212 step 2). -/
def Dev.dieDispatch (d : Dev) (sled pos : Nat) : Dev :=
  let k := dieKey sled pos
  if (d.port sled).vaulted ∨ d.valt.st ≠ .idle ∨ hasBit d.peer.fenceLost sled then d
  else if (d.port sled).st = .up ∧ d.ringRoom then d.dispatchDie k
  else if (d.port sled).st = .quiescing ∧ d.stepWaits k ∧ d.takesStep k then (d.climbWaiting k).quiesceCheck sled
  else d

/-- SUSPEND_RESULT (R99). -/
def Dev.suspendResult (d : Dev) (port tag result : Nat) : Dev :=
  match d.op (port * 65536 + tag) with
  | none => d
  | some o => if o.d.op = 0x30 ∧ o.phase = .sent then (d.complete (port * 65536 + tag) o result 0).quiesceCheck port else d

/-- SUSPEND_HOLD_EXPIRY (R99, R105): the reads already issued are finished, no further one is, and the operation resumes. -/
def Dev.suspendHoldExpiry (d : Dev) (sled pos : Nat) : Dev :=
  let k := dieKey sled pos
  if (d.die k).st = .progSuspended ∨ (d.die k).st = .eraseSuspended then (d.setDie k (fun x => { x with holdUp := true })).resumeCheck k else d

/-- RESUME_RESULT (R99). -/
def Dev.resumeResult (d : Dev) (port tag result : Nat) : Dev :=
  match d.op (port * 65536 + tag) with
  | none => d
  | some o => if o.d.op = 0x31 ∧ o.phase = .sent then (d.complete (port * 65536 + tag) o result 0).quiesceCheck port else d

/-- SUSPEND_TIMEOUT (R144): STATUS is sent to the die. -/
def Dev.suspendTimeout (d : Dev) (sled pos : Nat) : Dev :=
  let k := dieKey sled pos
  let w : StatusWait := if (d.die k).st = .suspending then .suspend else if (d.die k).st = .resuming then .resume else .none
  if w = .none ∨ (d.die k).wait ≠ .none ∨ (d.port sled).vaulted then d
  else (d.setDie k (fun x => { x with wait := w })).sendDesc { Desc.at_ sled pos 0 .status with op := 0x40 } d.now

/-- STATUS_TIMEOUT (R144): the die's operations end as failed, the die counts one fault, and event 0x220B is recorded. -/
def Dev.statusTimeout (d : Dev) (sled pos : Nat) : Dev :=
  let k := dieKey sled pos
  let open_ := d.media.ops.filter (fun e => dieKey e.2.d.sled e.2.d.pos == k && e.2.phase == .sent)
  if open_.all (fun e => e.2.d.op != 0x40) then d
  else
    let ran := (d.runningOp k).map (fun o => o.ranNs d.now / 1000) |>.getD 0
    let blk := (d.runningOp k).map (fun o => o.d.block) |>.getD 0
    let d1 := (d.dieFault k).raise pMEDI 11 [k, blk, 0x40, ran]
    let poll := (d.die k).wait = .poll
    let d2 := d1.each open_ (fun x e => if 0x30 ≤ e.2.d.op then (x.closeOp e.1).opDone else x.opDone.endWith e.1 e.2 8 0 false)
    let d3 := if poll then d2 else ((d2.setDie k (fun x => { x with wait := .none })).dieIdle k).faultCheck k
    d3.quiesceCheck sled

/-- A program or erase that has run out of its time (R145): event 0x220B, a slow event, a fault. -/
def Dev.opTimeout (d : Dev) (key : Nat) (o : OpenOp) (result : Nat) : Dev :=
  let k := dieKey o.d.sled o.d.pos
  let d1 := ((d.raise pMEDI 11 [k, o.d.block, o.d.op, o.ranNs d.now / 1000]).slowEvent o.d.sled).dieFault k
  ((d1.opDone.endWith key o result 0 false).faultCheck k).quiesceCheck o.d.sled

/-- PROGRAM_TIMEOUT (R145): handled as PROG_FAIL. -/
def Dev.programTimeout (d : Dev) (port tag : Nat) : Dev :=
  match d.op (port * 65536 + tag) with
  | none => d
  | some o => if o.d.op = 0x10 then d.opTimeout (port * 65536 + tag) o 1 else d

/-- ERASE_TIMEOUT (R145): the block becomes UNCERTAIN. -/
def Dev.eraseTimeout (d : Dev) (port tag : Nat) : Dev :=
  match d.op (port * 65536 + tag) with
  | none => d
  | some o => if o.d.op = 0x20 then d.opTimeout (port * 65536 + tag) o 9 else d

/-- MEMBER_TIMEOUT (R112): event 0x2104, a slow event, and a forced reconstruction in place of the read, whose late result is discarded. -/
def Dev.memberTimeout (d : Dev) (port tag : Nat) : Dev :=
  let key := port * 65536 + tag
  match d.op key with
  | none => d
  | some o =>
    if (o.d.op ≠ 1 ∧ o.d.op ≠ 2) ∨ o.timedOut = true then d
    else
      let d1 := ((d.raise pSCHD 4 [o.d.sled, o.d.pos, (d.now - o.issued) / 1000, 0]).slowEvent o.d.sled).dieFault (dieKey o.d.sled o.d.pos)
      let d2 := d1.modOp key (fun x => { x with timedOut := true })
      let d3 := match o.d.use with
        -- the credit of a member read whose reconstruction has ended returns with the discarded result (R107)
        | .member i m => d2.memberDone i m none
        | .sub _ => if d2.stale o.d.use o.d.gen then d2 else d2.readBadUse o.d.use (blkKey o.d.sled o.d.pos o.d.block) 9 0
        | u => d2.readBadUse u (blkKey o.d.sled o.d.pos o.d.block) 9 0
      (d3.faultCheck (dieKey o.d.sled o.d.pos)).quiesceCheck o.d.sled

/-- HEDGE_START (R114): an elective read-around beside the original read. -/
def Dev.hedgeStart (d : Dev) (id : Nat) : Dev :=
  match d.sched.subs.find id with
  | none => d
  | some s =>
    let z := zoneKey s.nsid s.zone
    let n := d.zns z
    let bit := match s.cls with | .a => 4 | .b => 5 | .c => 31
    let on := bitOf (d.cellAt s.epoch pSCHD 0x114 0) bit && s.cls != .c
    if on = false ∨ s.hedged = true ∨ s.recon.isSome ∨ (s.path ≠ .direct ∧ s.path ≠ .suspend) ∨ d.mayAround s = false then d
    else
      match d.groupFor z s.row s.old with
      | none => d
      | some g =>
        let src := d.rowSrc n z s.row s.unit s.old
        match d.tAround n g s.row src (d.probeOf s g) with
        | none => d
        | some (_, set) =>
          if d.canPay s.req.pool set.length then
            let e := ((d.payCredits s.req.pool set.length).count pSCHD 0x1B0 1).newRecon (s.recon_ id s.req.pool)
            (e.1.modSub id (fun x => { x with hedged := true, recon := some e.2 })).beginRecon e.2 set src (some s.req.pool)
          else d.refuseCredits s.req.pool set.length s.req.par

/-- The reconstruction that has waited longest for pool 65 (R112). -/
def Dev.firstWaiting (d : Dev) : Option (Nat × Recon) :=
  firstMin (fun (e : Nat × Recon) => e.2.order) (d.sched.recons.filter (fun e => e.2.waiting))

/-- FORCED_CREDIT_GRANT (R112): the reconstruction that has waited longest begins, or replaces the members it lacks. -/
def Dev.forcedCreditGrant (d : Dev) : Dev :=
  match d.firstWaiting with
  | none => d
  | some (i, r) =>
    let z := zoneKey r.nsid r.zone
    let n := d.zns z
    if r.begun = false then
      let src := d.rowSrc n z r.row r.target r.old
      let set := (d.prefer n r.row src.flash).take (src.need - src.ready.length)
      if src.enough = false then d.reconFailed i
      else if d.canPay 65 set.length then (d.payCredits 65 set.length).beginRecon i set src (some 65) else d
    else
      let short := r.need - (r.good.length + r.outstanding)
      if short = 0 then d.modRecon i (fun x => { x with waiting := false })
      else
        let e := d.askSpare i r short
        match e.2 with
        | .pending => e.1
        | .failed => e.1.reconFailed i

/-- DECODE_END (R154), with what the decoder finds in each codeword. -/
def Dev.decodeEnd (d : Dev) (port tag : Nat) (rs : List (Nat × CwRes)) : Dev :=
  let key := port * 65536 + tag
  match d.op key with
  | none => d
  | some o =>
    if o.phase = .decoding then (d.decodeDone key o false rs).quiesceCheck port
    else if o.phase = .softDecoding then (d.decodeDone key o true rs).quiesceCheck port
    else d

/-- SOFT_DECODE_START (R149). -/
def Dev.softDecodeStart (d : Dev) (port tag : Nat) : Dev :=
  let key := port * 65536 + tag
  match d.op key with
  | none => d
  | some o =>
    if o.phase = .softWait ∧ d.media.ops.count (fun _ x => x.phase == .softDecoding) < d.rf pMEDI 0x800 24 4 then
      d.modOp key (fun x => { x with phase := .softDecoding })
    else d

/-- The waiting job that the engine takes first (R226): by class, then by arrival. -/
def Dev.firstJob (d : Dev) : Option (Nat × PJob) :=
  firstMin (fun (e : Nat × PJob) => e.2.cls * 2 ^ 64 + e.2.order) (d.prty.jobs.filter (fun e => d.prty.running != some e.1))

/-- PRTY_JOB_START (R226): the engine is free, or a host read's reconstruction preempts a fold or a rebuild. -/
def Dev.prtyJobStart (d : Dev) : Dev :=
  match d.firstJob with
  | none => d
  | some (n, j) =>
    match d.prty.running.bind d.prty.jobs.find with
    | none => { d with prty := { d.prty with running := some n } }
    | some r => if j.cls = 0 ∧ r.cls ≠ 0 then { d with prty := { d.prty with running := some n } } else d

/-- A unit of the running rebuild has been reconstructed: it is programmed onto the target (R234). -/
def Dev.rebuildUnit (d : Dev) (z row : Nat) (data : SMap (List Byte)) : Dev :=
  match d.prty.rebuild with
  | none => d
  | some b =>
    match (d.zn z).groupOf row with
    | none => { d with prty := { d.prty with rebuild := some { b with busy := false, buf := [], gone := false } } }
    | some g =>
      let s := b.target.sled
      ({ d with prty := { d.prty with rebuild := some { b with buf := data, gone := false } } }).enqueueBg .program
        (Desc.program s g.pos (g.blockOn s) (row % 768) false (.rebuildProg z row))

/-- A reconstruction is delivered to whom it was made for. -/
def Dev.reconFor (d : Dev) (r : Recon) (data : SMap (List Byte)) : Dev :=
  match r.who with
  | .sub s => d.satisfy s (if r.pool = some 65 then .forced else .around) data
  | .copy j wl => d.copyGot j wl data
  | .rebuild => d.rebuildUnit (zoneKey r.nsid r.zone) r.row data

/-- The result of a reconstruction is delivered, and its job counted (R111, R225, R227, R234); one that has been discarded meanwhile is
dropped. -/
def Dev.reconDeliver (d : Dev) (i : Nat) : Dev :=
  match d.sched.recons.find i with
  | none => d
  | some r =>
    if r.dead then (d.count pSCHD 0x1B4 1).reapRecon i
    else
      let d1 := { ((d.count pPRTY 0x150 1).count pPRTY 0x144 1) with free := d.free + 64 * r.count }
      ((d1.modRecon i (fun x => { x with dead := true })).reconFor r (d.solveRecon r)).reapRecon i

/-- PRTY_JOB_END (R227): the running job ends, its fold or its reconstruction delivered. -/
def Dev.prtyJobEnd (d : Dev) : Dev :=
  match d.prty.running with
  | none => d
  | some n =>
    match d.prty.jobs.find n with
    | none => { d with prty := { d.prty with running := none } }
    | some j =>
      let d1 := d.endPJob n
      match j.kind with
      | .fold a => d1.foldDone a
      | .recon i => d1.reconDeliver i

/-- Buffer units that a stream's partition holds (R122). -/
def Dev.partUnits (d : Dev) (p : Nat) : Nat := (d.sched.streams.map (fun e => if e.2.partn = p then e.2.held.length else 0)).sum

/-- The lowest `n` buffer units that are free, from `u` on, with fuel. -/
def freeUnits (used : List Nat) : Nat → Nat → Nat → List Nat
  | 0, _, _ => []
  | f + 1, n, u => if n = 0 then [] else if used.contains u then freeUnits used f n (u + 1) else u :: freeUnits used f (n - 1) (u + 1)

/-- A stream takes a buffer unit of the pace pool for each of some runs of 16 LBAs (R122). -/
def Dev.takeUnits (d : Dev) (k : Nat) (runs : List Nat) : Dev :=
  let used := d.sched.streams.flatMap (fun e => e.2.held.map Prod.snd)
  let us := freeUnits used (used.length + runs.length) runs.length 0
  let d1 := d.modStream k (fun x => { x with held := (runs.zip us).foldl (fun (m : SMap Nat) e => m.set e.1 e.2) x.held })
  { d1 with sched := { d1.sched with bufFree := d1.sched.bufFree - runs.length } }

/-- The class of a requester (R92). -/
def Dev.classOf (d : Dev) (e : Word) (r : Requester) : Cls :=
  if r.pf then Cls.ofCode (fld (d.cellAt e pSCHD 0x114 0) 8 2) else (d.slice r.slice).cls

/-- READ_AHEAD_ISSUE (R124, R125): the next unit, or the rest of one, that is confirmed on flash and wholly below the write pointer. -/
def Dev.readAheadIssue (d : Dev) (k : Nat) : Dev :=
  match d.sched.streams.find k with
  | none => d
  | some s =>
    let z := zoneKey s.nsid s.zone
    let n := d.zns z
    let zn := d.zn z
    let u := s.readPos / n.lpu
    let off := s.readPos % n.lpu
    let count := n.lpu - off
    let staged := match d.areaOf z with | some (_, a) => decide (a.unit ≤ u) | none => false
    let runs := ((List.range (ceilDiv (s.readPos + count) 16)).drop (s.readPos / 16)).filter (fun r => (s.held.find r).isNone)
    let need := runs.length
    let full := decide (d.sched.bufFree < need) || (d.partitioned && decide (1024 < d.partUnits s.partn + need))
    if s.window ≤ d.streamAhead k s ∨ zn.wp < (u + 1) * n.lpu ∨ staged = true ∨ d.rf pSCHD 0x818 16 9 < s.held.length + need then d
    else if full then
      if s.paused then d
      else (d.modStream k (fun x => { x with paused := true })).raise pSCHD 7 [k, s.req.par, s.zone, d.sched.bufFree]
    else
      let far := (s.readPos - s.hostPos) * 4096
      let wait := if s.target = 0 then 1000000000 else satAt 1000000000 (far * 100000000000 / s.target)
      let d2 := (d.modStream k (fun x => { x with readPos := x.readPos + count, paused := false })).takeUnits k runs
      let due := d.now + wait
      d2.addSub { ctx := none, stream := some k, req := s.req, cls := d.classOf d.sysc.epoch s.req, epoch := d.sysc.epoch, deadline := due,
                  dieDeadline := due - d.rf pSCHD 0x110 0 8 * 1000, gen := 0, nsid := s.nsid, zone := s.zone, zgen := zn.gen,
                  row := u / n.d, unit := u % n.d, off := off, count := count, path := .direct, hedged := false, noAround := false
                  recon := none, ownBad := false, accessed := false, old := none, got := [] }

/-- STREAM_RATE_UPDATE (R123): the measured rate of the last 100 ms, the target and the window. -/
def Dev.streamRateUpdate (d : Dev) (k : Nat) : Dev :=
  match d.sched.streams.find k with
  | none => d
  | some s =>
    let m := (s.served.take 10).sum * 10
    let t := d.streamTarget s.declared m
    d.modStream k (fun x => { x with measured := m, target := t, served := 0 :: x.served.take 9,
                                     window := d.streamWindow (d.zns (zoneKey s.nsid s.zone)).plc t })

/-- STREAM_IDLE_EXPIRY (R127). -/
def Dev.streamIdleExpiry (d : Dev) (k : Nat) : Dev := d.endStream k 1

/-- CREDIT_POOL_SPLIT (R109): once the outgoing pools hold no credits, the shares are divided for the new mode. -/
def Dev.creditPoolSplit (d : Dev) : Dev :=
  let d0 := { d with sched := { d.sched with splitting := none } }
  match d.sched.splitting with
  | none => d
  | some true =>
    if (d.pool 64).held ≠ 0 then d
    else (d0.setPool 64 (fun x => { x with share := 0, avail := 0 })).each (List.range 64) (fun x p => x.setPool p (fun y => { y with share := 1024, avail := 1024 }))
  | some false =>
    if (List.range 64).any (fun p => (d.pool p).held != 0) then d
    else (d0.each (List.range 64) (fun x p => x.setPool p (fun y => { y with share := 0, avail := 0 }))).setPool 64
      (fun x => { x with share := 65536, avail := 65536 - x.held })

end Sys2Proof.Machine
end

