-- ==== Sys2Proof/Machine/Zone.lean ====
section
/-! DEFINITION. The commands of zones: writes and appends, staging, activation, allocation, commit records, zone management and
reports, and reads (R56 to R94, R120 to R127). -/

namespace Sys2Proof.Machine

/-- The peer has acknowledged a packet, or the pair no longer waits for it (R248, R249). -/
def Dev.acked (d : Dev) (p : Option Nat) : Bool :=
  match p with
  | none => true
  | some n => d.peer.pair != .mirrored || d.peer.unacked.all (fun e => e.psn != n)

/-- An action waits in a zone: later commands reach ZONE after it has taken effect (R68). -/
def Zone.actionWaits (z : Zone) : Bool := z.cmds.any (fun c => match c with | .action .. => true | _ => false)

/-- The context of a command's own row: it executes and has not begun. -/
def Dev.fresh (d : Dev) (c : Nat) : Option Ctx :=
  match d.ctx c with
  | some x => if x.st = .executing ∧ x.begun = false then some x else none
  | none => none

/-- A command that goes to ZONE: a write, an append, a Write Zeroes, a zone action or a zone report. -/
def NvCmd.forZone : NvCmd → Bool
  | .write .. | .writeZeroes .. | .zoneAppend .. | .zoneSend .. | .zoneReceive .. => true
  | _ => false

/-- The context of a command for ZONE whose turn it is: those fetched before it from its submission queue have been handed over (R63). -/
def Dev.freshZone (d : Dev) (c : Nat) : Option Ctx :=
  match d.fresh c with
  | none => none
  | some x =>
    let earlier (e : Nat × Ctx) : Bool := ctxPort e.1 == ctxPort c && e.2.fn == x.fn && e.2.sq == x.sq && e.2.st == .executing && !e.2.begun
      && e.2.e.cmd.forZone && decide (e.2.order < x.order)
    if d.host.ctxs.any earlier then none else some x

def Dev.begin_ (d : Dev) (c : Nat) : Dev := d.modCtx c (fun x => { x with begun := true })

/-- Zone index and zone-relative offset of an LBA. -/
def Ns.zoneOf (n : Ns) (lba : Nat) : Nat := lba / n.zsze
def Ns.offOf (n : Ns) (lba : Nat) : Nat := lba % n.zsze

/-! ## Writes (R57, R63, R64) -/

/-- The status with which the state of a zone refuses a write. -/
def ZoneState.writeRefusal : ZoneState → Option Nat
  | .full => some 0x1B9
  | .readOnly => some 0x1BA
  | .offline => some 0x1BB
  | _ => none

/-- A Write, Zone Append or Write Zeroes reaches ZONE (R63): it fails, or waits for staging; it opens a Closed zone. -/
def Dev.arrive (d : Dev) (c z off len : Nat) (append : Bool) : Dev :=
  let zn := d.zn z
  let n := d.zns z
  match zn.st.writeRefusal with
  | some s => d.commitCtx c s true 0
  | none =>
    if n.cond = 3 then d.commitCtx c 0x082 false 0
    else if append = false ∧ off ≠ zn.accept then d.commitCtx c 0x1BC true 0
    else if n.zcap < zn.accept + len then d.commitCtx c 0x1B8 true 0
    else
      let d1 := d.setZn z (fun x => { x with cmds := x.cmds ++ [.write c zn.accept len 0 append false none] })
      if zn.st = .closed then d1.setZst z .implicitlyOpened zn.zfc 0xFF else d1

/-- A writing command is handed to ZONE, unless an action waits in its zone. -/
def Dev.writeRow (d : Dev) (c slba len : Nat) (append : Bool) (x : Ctx) : Dev :=
  let n := (d.ns x.e.nsid).getD Ns.absent
  let z := zoneKey x.e.nsid (n.zoneOf slba)
  if (d.zn z).actionWaits ∨ d.ringRoom = false then d
  else if append = true ∧ n.offOf slba ≠ 0 then (d.begin_ c).commitCtx c 0x002 true 0
  else (d.begin_ c).arrive c z (n.offOf slba) len append

/-- WRITE (R63). -/
def Dev.write (d : Dev) (c : Nat) : Dev :=
  match d.freshZone c with
  | some x => match x.e.cmd with | .write s n _ => d.writeRow c s n false x | _ => d
  | none => d

/-- ZONE_APPEND (R63, R64). -/
def Dev.zoneAppend (d : Dev) (c : Nat) : Dev :=
  match d.freshZone c with
  | some x => match x.e.cmd with | .zoneAppend s n _ => d.writeRow c s n true x | _ => d
  | none => d

/-- A block of zeros with the metadata of its namespace: generated protection information, where there is any (R305, R324). -/
def Ns.zeroBlock (n : Ns) (pr : PrInfo) (i : Nat) : List Byte :=
  let data : List Byte := List.replicate 4096 0
  if n.pi = 0 then data ++ List.replicate n.meta_ 0
  else
    let p := piBytes n.guard data pr.tag (refOf n.pi pr.first i n.guard)
    data ++ p ++ List.replicate (n.meta_ - p.length) 0

/-- WRITE_ZEROES (R305): its data is at hand. -/
def Dev.writeZeroes (d : Dev) (c : Nat) : Dev :=
  match d.freshZone c with
  | some x =>
    match x.e.cmd with
    | .writeZeroes s k pr =>
      let n := (d.ns x.e.nsid).getD Ns.absent
      let data := (List.range k).flatMap (n.zeroBlock pr)
      (d.modCtx c (fun y => { y with data := data, dmaDone := true })).writeRow c s k false x
    | _ => d
  | none => d

/-! ## Staging (R64, R66, R67, R246, R271) -/

/-- The command whose data enters next: the first that is not wholly staged (R64). -/
def Zone.stager (z : Zone) : Option (Nat × ZCmd) :=
  ((z.cmds.mapIdx (fun i c => (i, c))).find? (fun e => match e.2 with | .write _ _ len st _ _ _ => decide (st < len) | .action .. => true)).bind
    (fun e => match e.2 with | .write .. => some e | .action .. => none)

/-- One block enters staging, encrypted under its final LBA (R64); the reference tag of an append in type 1 takes that LBA (R324). -/
def Dev.stageBlock (d : Dev) (a z : Nat) (n : Ns) (append : Bool) (lba : Nat) (b : List Byte) : Dev :=
  let md := b.drop 4096
  let b' := if append = true ∧ n.pi = 1 then b.take 4096 ++ setRef n.guard md lba else b
  let ct := (d.encrypt n.slot lba b').getD b'
  let off := (d.area a).fill
  let _ := z
  ((d.store (d.slotAddr a + off * 4096) (ct.take 4096)).setArea a (fun y => { y with
    fill := y.fill + 1, metas := if n.meta_ = 0 then y.metas else y.metas.set off (ct.drop 4096) })).count pCRYP 0x120 1

/-- The MIRROR packet of `m` blocks of a slot (R243, R246). -/
def Dev.mirrorPkt (d : Dev) (a off m : Nat) : Pkt :=
  { typ := 8, vc := 1, len := 128 * m, op := 0, tag := 0, seq := 0, args := [a, off * 4096, m, (d.area a).gen]
    data := d.bytes (d.slotAddr a + off * 4096) (4096 * m) }

/-- The MIRROR packets of `k` blocks just staged, at most four blocks each (R243, R246). -/
def Dev.mirrorBlocks (d : Dev) (a off k : Nat) : Dev :=
  d.each (List.range (ceilDiv k 4)) (fun x i => x.psn (x.mirrorPkt a (off + 4 * i) (Nat.min 4 (k - 4 * i))))

/-- Blocks that may enter a slot within the vault budget (R271): those of the segment already open, and further segments while the
load permits. -/
def Dev.stageRoom (d : Dev) (a want : Nat) : Nat :=
  let x := d.area a
  let open_ := (16 - x.fill % 16) % 16
  let segs := d.valt.budget - d.vaultLoad
  let k := open_ + 16 * segs
  if want < k then want else k

/-- The number of the PSN packet sent last. -/
def Dev.lastPsn (d : Dev) : Nat := (d.peer.txPsn + 4294967295) % 4294967296

/-- Whether a zone's data slot can take data now (R64, R66, R74, R266). -/
def Dev.stageOpen (d : Dev) (z a : Nat) : Bool :=
  let zn := d.zn z
  let n := d.zns z
  let x := d.area a
  let unit := zn.sptr / n.lpu
  zn.st.active && d.valt.holdup && d.valt.stageOk && d.valt.st == .idle && x.st == .filling && !x.folded && !x.queued
    && x.unit == unit && decide (unit / n.d / 768 < zn.groups.length) && !d.media.copies.any (fun e => e.2.zone == z && e.2.unit.isSome)

/-- `k` blocks of a command enter staging from the staging pointer on: the data from block `done` of the command. -/
def Dev.stageRun (d : Dev) (z a : Nat) (append : Bool) (data : List Byte) (done k : Nat) : Dev :=
  let n := d.zns z
  let base := zIdx z * n.zsze + (d.zn z).sptr
  let d1 := { d with valt := { d.valt with waitTold := false } }
  let d2 := d1.each (List.range k) (fun e j => e.stageBlock a z n append (base + j) ((data.drop ((done + j) * n.blockBytes)).take n.blockBytes))
  d2.mirrorBlocks a (d.area a).fill k

/-- STAGE_COMMAND (R64, R66): as much of the command's data as the slot and the budget take. -/
def Dev.stageCommand (d : Dev) (nsid zone : Nat) : Dev :=
  let z := zoneKey nsid zone
  let zn := d.zn z
  let n := d.zns z
  match zn.area, zn.stager with
  | some a, some (i, .write c start len staged append spilled psn) =>
    match d.ctx c with
    | none => d
    | some y =>
      if y.dmaDone = false ∨ d.stageOpen z a = false then d
      else if (d.kslot n.slot).st ≠ .loaded then (d.count pCRYP 0x128 1).abandon z c 2 (some 0x004)
      else
        let room := n.lpu - (d.area a).fill
        let want := if len - staged < room then len - staged else room
        let k := d.stageRoom a want
        if want = 0 then d.advance a
        else if k = 0 then d.budgetWait
        else
          let first := if staged = 0 ∧ append = true then zn.sptr else start
          let d3 := d.stageRun z a append y.data staged k
          let p := if d3.peer.pair = .mirrored then some d3.lastPsn else psn
          let d4 := d3.setZn z (fun v => { v with sptr := v.sptr + k, cmds := v.cmds.set i (.write c first len (staged + k) append spilled p) })
          (d4.advance a).vaultRefresh
  | _, _ => d

/-! ## Activation and allocation (R57, R59, R78 to R84) -/

/-- What waits at the head of a zone for its activation: its context and the record that is bound. -/
def Dev.activator (d : Dev) (zn : Zone) : Option (Nat × List Byte) :=
  match zn.cmds.head? with
  | some (.write c _ _ _ _ _ _) => some (c, [])
  | some (.action c .open_) =>
    match d.ctx c with
    | some x => match x.e.cmd with | .zoneSend _ _ all _ => if all then none else some (c, []) | _ => none
    | none => none
  | some (.action c .setExt) =>
    match d.ctx c with
    | some x => match x.e.cmd with | .zoneSend _ _ _ ext => some (c, ext) | _ => none
    | none => none
  | _ => none

/-- The command at the head of an Empty zone ends with a status; what it had taken goes back, and the later ones are checked again. -/
def Dev.failHead (d : Dev) (z c status : Nat) : Dev :=
  match (d.zn z).cmds.head? with
  | some (.action ..) => ((d.unactivate z).setZn z (fun x => { x with cmds := x.cmds.tail })).commitCtx c status false 0
  | _ => d.abandon z c 5 (some status)

/-- ZONE_ACTIVATION (R59): the zone takes its staging, waits, or its command fails with Too Many Active Zones. -/
def Dev.zoneActivation (d : Dev) (nsid zone : Nat) : Dev :=
  let z := zoneKey nsid zone
  let zn := d.zn z
  match d.activator zn with
  | none => d
  | some (c, ext) =>
    match d.ctx c with
    | none => d
    | some x =>
      if zn.st ≠ .empty ∨ zn.area.isSome ∨ d.ringRoom = false then d
      else
        let r := d.takeStaging z (ctxPort c) x.slice
        match r.2 with
        | .bound => r.1.setZn z (fun y => bindRecord ext y)
        | .waits => r.1
        | .tooMany => r.1.failHead z c 0x1BD

/-- The group that a zone needs next: its group 0 while Empty, or the one that staging has reached (R84). -/
def Dev.needsGroup (d : Dev) (z : Nat) : Bool :=
  let zn := d.zn z
  let n := d.zns z
  if zn.st = .empty then zn.area.isSome && zn.groups.isEmpty
  else zn.st.active && zn.stager.isSome && decide (zn.groups.length ≤ zn.sptr / n.row / 768)

/-- The context of the command that a zone's next group is for. -/
def Zone.waiter (z : Zone) : Option Nat :=
  if z.st = .empty then (z.cmds.head?).map ZCmd.ctx else z.stager.map (fun e => e.2.ctx)

/-- STRIPE_GROUP_ALLOCATE (R82 to R84); a zone whose write has its group 0 is Implicitly Opened. -/
def Dev.stripeGroupAllocate (d : Dev) (nsid zone : Nat) : Dev :=
  let z := zoneKey nsid zone
  let zn := d.zn z
  match zn.waiter with
  | none => d
  | some c =>
    if d.needsGroup z = false ∨ d.ringRoom = false then d
    else
      let e := ((d.ctx c).map (fun x => x.epoch)).getD d.sysc.epoch
      let r := d.allocate z e
      match r.2 with
      | .placed =>
        match zn.st, zn.cmds.head? with
        | .empty, some (.write ..) => r.1.setZst z .implicitlyOpened false 0xFF
        | _, _ => r.1
      | .waits => r.1
      | .exceeded => if zn.st = .empty then r.1.failHead z c 0x081 else r.1.abandon z c 5 (some 0x081)

/-! ## Commit records (R65, R57) -/

/-- COMMIT_RECORD (R65): the oldest command of the zone, wholly staged and acknowledged by a MIRRORED peer (R248). -/
def Dev.commitRecord (d : Dev) (nsid zone : Nat) : Dev :=
  let z := zoneKey nsid zone
  let zn := d.zn z
  let n := d.zns z
  match zn.cmds with
  | .write c start len staged append _ psn :: rest =>
    if staged < len ∨ d.acked psn = false ∨ zn.st.active = false ∨ d.ringRoom = false ∨ d.valt.st ≠ .idle then d
    else
      let d1 := d.journal (.commit nsid zone zn.gen append start len)
      let p := if d.peer.pair = .mirrored then some d.peer.txPsn else none
      let d2 := d1.setZn z (fun x => { x with wp := x.wp + len, cmds := rest })
      let dw := if append then zone * n.zsze + start else 0
      let d3 := (d2.modCtx c (fun x => { x with recorded := true, psn := p, data := [] })).commitCtx c 0 false dw
      let d4 := if zn.wp + len = n.zcap then (d3.setZst z .full zn.zfc 0xFF).drain z else d3
      match zn.area with
      | some a => d4.advance a
      | none => d4
  | _ => d

/-! ## Zone management actions (R57, R60 to R62, R76) -/

/-- Zones in which a Select All action may find something to do. -/
def Dev.selectZones (d : Dev) (nsid : Nat) (p : Zone → Bool) : List Nat :=
  (d.zone.zones.filter (fun e => zNs e.1 == nsid && (p e.2 || !e.2.cmds.isEmpty))).map Prod.fst

/-- The states from which an action with Select All is permitted (R61).  Open acts on Closed zones alone, as the Zoned Namespace command set has
it: R57 permits Open from Empty and from Implicitly Opened as well, and R61 does not narrow it (PRESUMED, log entry 79). -/
def ZAction.selects (a : ZAction) (s : ZoneState) : Bool :=
  match a with
  | .open_ => s == .closed
  | .close => s == .implicitlyOpened || s == .explicitlyOpened
  | .finish => s == .closed
  | .reset => s.active || s == .full
  | .offline => s == .readOnly
  | .setExt => false

/-- A zone management action is handed to ZONE and waits behind the earlier commands of its zone (R68). -/
def Dev.zoneSendRow (d : Dev) (c : Nat) (want : ZAction) : Dev :=
  match d.freshZone c with
  | none => d
  | some x =>
    match x.e.cmd with
    | .zoneSend slba act all ext =>
      if act ≠ want then d
      else
        let n := (d.ns x.e.nsid).getD Ns.absent
        let d1 := d.begin_ c
        if act = .setExt ∧ (all = true ∨ badRecord ext = true) then d1.commitCtx c 0x002 true 0
        else if all then
          match d1.selectZones x.e.nsid (fun z => act.selects z.st) with
          | [] => d1.done c
          | zs => d1.each zs (fun y z => y.setZn z (fun v => { v with cmds := v.cmds ++ [.action c act] }))
        else if n.offOf slba ≠ 0 then d1.commitCtx c 0x002 true 0
        else if n.zones ≤ n.zoneOf slba then d1.commitCtx c 0x080 true 0
        else d1.setZn (zoneKey x.e.nsid (n.zoneOf slba)) (fun v => { v with cmds := v.cmds ++ [.action c act] })
    | _ => d

def Dev.zoneOpen (d : Dev) (c : Nat) : Dev := d.zoneSendRow c .open_
def Dev.zoneClose (d : Dev) (c : Nat) : Dev := d.zoneSendRow c .close
def Dev.zoneFinish (d : Dev) (c : Nat) : Dev := d.zoneSendRow c .finish
def Dev.zoneReset (d : Dev) (c : Nat) : Dev := d.zoneSendRow c .reset
def Dev.zoneOffline (d : Dev) (c : Nat) : Dev := d.zoneSendRow c .offline
def Dev.setZoneDescriptorExtension (d : Dev) (c : Nat) : Dev := d.zoneSendRow c .setExt

/-- The reads of a zone that go on after it lets its groups go keep the groups they read (R71). -/
def Dev.keepOld (d : Dev) (z : Nat) : Dev :=
  let zn := d.zn z
  let sub (x : Sub) : Sub := if zoneKey x.nsid x.zone = z ∧ x.old.isNone then { x with old := zn.groupOf x.row } else x
  let recon (x : Recon) : Recon := if zoneKey x.nsid x.zone = z ∧ x.old.isNone then { x with old := zn.groupOf x.row } else x
  { d with sched := { d.sched with subs := d.sched.subs.mapVals (fun _ x => sub x), recons := d.sched.recons.mapVals (fun _ x => recon x) } }

/-- The blocks of a zone's groups leave it (R62, R160); a rebuild that is at one of them leaves it (R238). -/
def Dev.releaseGroups (d : Dev) (z : Nat) : Dev :=
  let zn := d.zn z
  let n := d.zns z
  let d1 := ((d.keepOld z).rebuildLeave z).each (List.range zn.groups.length) (fun x i => x.noteDirty n z i)
  let d2 := d1.each (zn.groups.flatMap (fun g => g.blocks.map (fun e => blkKey e.1 g.pos e.2))) Dev.retireOrRelease
  d2.setZn z (fun x => { x with groups := [], waiting := none })

/-- A read that has not accessed a zone when its Reset is recorded gets the deallocated pattern for every block of it (R71): the
sub-requests leave, and the blocks are filled. -/
def Dev.deallocRead (d : Dev) (z c : Nat) : Dev :=
  let n := d.zns z
  match d.ctx c with
  | none => d
  | some x =>
    let mine := d.sched.subs.filter (fun e => e.2.ctx == some c && zoneKey e.2.nsid e.2.zone == z)
    let lbas := (List.range x.e.cmd.nlb).filter (fun i => n.zoneOf (x.e.cmd.slba + i) == zIdx z)
    let took := lbas.any (fun i => (x.got.find i).isSome && decide (n.offOf (x.e.cmd.slba + i) < (d.zn z).wp))
    if mine.isEmpty ∨ took = true ∨ mine.any (fun e => e.2.accessed) = true then d
    else
      let d1 := d.each (mine.map Prod.fst) Dev.dropSub
      (d1.modCtx c (fun y => { y with left := y.left - mine.length,
                                      got := lbas.foldl (fun (m : SMap (List Byte)) i => m.set i (deallocated n.meta_)) y.got })).readDone c

/-- A zone's staging is discarded (R86): programs in flight end and are discarded by generation. -/
def Dev.discardStaging (d : Dev) (z : Nat) : Dev :=
  match (d.zn z).area with
  | none => d
  | some a =>
    let d1 := (d.areaSt a .draining).rowevt a .drain 0 0
    let d2 := d1.setArea a (fun y => if y.folded ∨ y.queued then y else { y with fill := 0, metas := [] })
    d2.setZn z (fun x => { x with area := none })

/-- Units of a zone whose programs have not been issued, or whose copies are given up with its Reset. -/
def Dev.unitsLeft (d : Dev) (z : Nat) : List (Nat × Nat) :=
  d.media.dies.flatMap (fun e => e.2.queue.filterMap (fun i => match i.d.use with | .unit z' rs j => if z' = z then some (rs, j) else none | _ => none))
    ++ d.media.copies.filterMap (fun e => if e.2.zone = z then e.2.unit else none)

/-- The Reset of a zone (R62, R71, R86, R127, R166). -/
def Dev.resetZone (d : Dev) (z : Nat) : Dev :=
  let zn := d.zn z
  let units := d.unitsLeft z
  let readers := ((d.sched.subs.filter (fun e => zoneKey e.2.nsid e.2.zone == z)).filterMap (fun e => e.2.ctx)).eraseDups
  let d1 := d.each readers (fun x c => x.deallocRead z c)
  let d2 := (d1.endStreams 0 (fun s => zoneKey s.nsid s.zone == z)).dropCopies (fun c => c.zone == z)
  let d3 := (d2.discardStaging z).unqueue (fun u => match u with | .unit z' _ _ => z' == z | _ => false)
  let d4 := d3.setZn z (fun x => bindRecord [] { x with gen := (x.gen + 1) % 65536, wp := 0, sptr := 0, zdev := false, ext := [], phys := 0,
                                                        lost := [], slice := none, failing := none })
  let d5 := ((d4.setZst z .empty false 0xFF).releaseGroups z).each units (fun x u => x.unitDiscarded z u.1 u.2)
  match zn.area with
  | some a => (d5.advance a).vaultRefresh
  | none => d5

/-- The Offline of a Read Only zone. -/
def Dev.offlineZone (d : Dev) (z : Nat) : Dev :=
  ((d.dropCopies (fun c => c.zone == z)).setZst z .offline (d.zn z).zfc 0xFF).releaseGroups z

/-- The Finish of an active zone (R57, R86). -/
def Dev.finishZone (d : Dev) (z : Nat) : Dev := (d.setZst z .full false 0xFF).drain z

/-- What an action does on a zone: the state after it, or the status with which it fails (R57). -/
def Dev.act (d : Dev) (z : Nat) (a : ZAction) (ext : List Byte) : Dev × Option Nat :=
  let st := (d.zn z).st
  let bad : Dev × Option Nat := (d, some 0x1BF)
  match a with
  | .open_ =>
    if st = .explicitlyOpened then (d, none)
    else if st = .empty ∨ st = .implicitlyOpened ∨ st = .closed then (d.setZst z .explicitlyOpened false 0xFF, none)
    else bad
  | .close =>
    if st = .closed then (d, none)
    else if st = .implicitlyOpened ∨ st = .explicitlyOpened then (d.setZst z .closed false 0xFF, none)
    else bad
  | .finish =>
    if st = .full then (d, none)
    else if st = .empty then (d.setZst z .full false 0xFF, none)
    else if st.active then (d.finishZone z, none)
    else bad
  | .reset =>
    if st = .empty then (d, none)
    else if st.active ∨ st = .full then (d.resetZone z, none)
    else bad
  | .offline => if st = .readOnly then (d.offlineZone z, none) else bad
  | .setExt =>
    if st = .empty then
      (((d.setZn z (fun x => { x with zdev := true, ext := ext })).journal (.zde (zNs z) (zIdx z) (d.zn z).gen ext)).setZst z .closed false 0xFF, none)
    else bad

/-- An action that leaves Empty needs its staging and its group first; Offline lets a draining area end (R57, R86). -/
def Dev.actReady (d : Dev) (z : Nat) (a : ZAction) : Bool :=
  let zn := d.zn z
  match a with
  | .open_ | .setExt => zn.st != .empty || (zn.area.isSome && !zn.groups.isEmpty)
  | .offline => zn.st != .readOnly || zn.area.isNone
  | _ => true

/-- No zone of the namespace below this one still waits for the same Select All (R61). -/
def Dev.lowestOf (d : Dev) (z c : Nat) : Bool :=
  !d.zone.zones.any (fun e => zNs e.1 == zNs z && decide (e.1 < z) && e.2.cmds.any (fun x => match x with | .action k _ => k == c | _ => false))

/-- Whether an action of this context still waits in some zone. -/
def Dev.actsLeft (d : Dev) (c : Nat) : Bool :=
  d.zone.zones.any (fun e => e.2.cmds.any (fun x => match x with | .action k _ => k == c | _ => false))

/-- ZONE_ACTION_TAKE_EFFECT (R57, R60, R61, R68). -/
def Dev.zoneActionTakeEffect (d : Dev) (nsid zone : Nat) : Dev :=
  let z := zoneKey nsid zone
  let zn := d.zn z
  match zn.cmds with
  | .action c a :: rest =>
    let (all, ext) := match (d.ctx c).map (fun x => x.e.cmd) with
      | some (.zoneSend _ _ all ext) => (all, ext)
      | _ => (false, [])
    let go := if all then d.lowestOf z c && (d.actReady z a || !a.selects zn.st) else d.actReady z a
    if go = false ∨ d.ringRoom = false then d
    else
      let d1 := d.setZn z (fun x => { x with cmds := rest })
      if all then
        let d2 := if a.selects zn.st then (d1.act z a ext).1 else d1
        if d2.actsLeft c then d2 else d2.done c
      else
        let e := d1.act z a ext
        match e.2 with
        | none => e.1.done c
        | some s => d1.commitCtx c s true 0
  | _ => d

/-! ## Reports (R58, R76) -/

/-- The state that a filter of Zone Management Receive names. -/
def filterState : Nat → Option ZoneState
  | 1 => some .empty | 2 => some .implicitlyOpened | 3 => some .explicitlyOpened | 4 => some .closed | 5 => some .full | 6 => some .readOnly
  | 7 => some .offline | _ => none

/-- The descriptor of a zone. -/
def Dev.zoneDesc (d : Dev) (n : Ns) (z : Nat) (extended : Bool) : ZoneDesc :=
  let v := d.zn z
  { zslba := zIdx z * n.zsze, state := v.st.code, zcap := n.zcap, wp := zIdx z * n.zsze + v.wp, zfc := v.zfc, zdev := v.zdev,
    ext := if extended then fitBytes 64 v.ext else [] }

/-- A report of zones from the one that holds an LBA on. -/
def Dev.zoneReport (d : Dev) (c : Nat) (want : Bool) : Dev :=
  match d.freshZone c with
  | none => d
  | some x =>
    match x.e.cmd with
    | .zoneReceive slba extended filter partialRpt room =>
      if extended ≠ want then d
      else
        let n := (d.ns x.e.nsid).getD Ns.absent
        let zs := (List.range n.zones).filter (fun i => decide (n.zoneOf slba ≤ i)
          && (match filterState filter with | some s => (d.zn (zoneKey x.e.nsid i)).st == s | none => true))
        let ds := (zs.take room).map (fun i => d.zoneDesc n (zoneKey x.e.nsid i) extended)
        ((d.begin_ c).emit (.report (ctxPort c) x.fn (.zones (if partialRpt then ds.length else zs.length) ds))).done c
    | _ => d

def Dev.reportZones (d : Dev) (c : Nat) : Dev := d.zoneReport c false
def Dev.extendedReportZones (d : Dev) (c : Nat) : Dev := d.zoneReport c true

/-! ## Reads (R70, R92 to R94, R120 to R127) -/

/-- Who reads: the stamp of a command. -/
def Ctx.req (x : Ctx) (port : Nat) : Requester :=
  match x.slice with
  | some s => { pf := false, slice := s, gen := x.gen }
  | none => { pf := true, slice := port, gen := 0 }

/-- One block of a read at a zone-relative offset: the deallocated pattern, the data slot, a stream's buffer, or flash (R70, R126). -/
inductive BlockSrc where
  | dealloc | here (cipher : List Byte) | flash
  deriving DecidableEq, Repr

def Dev.blockSrc (d : Dev) (n : Ns) (z off : Nat) (s : Option Stream) : BlockSrc :=
  if (d.zn z).wp ≤ off then .dealloc
  else
    match s.bind (fun x => (x.buf.find off).bind (fun md => (x.addrOf off).map (fun a => (a, md)))) with
    | some (a, md) => .here (d.bytes a 4096 ++ md)
    | none =>
      match d.areaOf z with
      | some (a, x) =>
        if x.unit = off / n.lpu ∧ off % n.lpu < x.fill then
          .here (d.bytes (d.slotAddr a + off % n.lpu * 4096) 4096 ++ SMap.get [] x.metas (off % n.lpu))
        else .flash
      | none => .flash

/-- A stream after a host read of a zone has reached `hostEnd`: it follows, and returns the units it has passed (R124, R126, R127). -/
def Dev.streamServe (d : Dev) (k : Nat) (served hostEnd : Nat) : Dev :=
  match d.sched.streams.find k with
  | none => d
  | some s =>
    let held := s.held.keep (fun r _ => decide (hostEnd < (r + 1) * 16))
    let buf := s.buf.keep (fun o _ => (held.find (o / 16)).isSome)
    let bumped := match s.served with | x :: xs => (x + served) :: xs | [] => [served]
    let d1 := d.modStream k (fun x => { x with hostPos := hostEnd, readPos := if x.readPos < hostEnd then hostEnd else x.readPos, buf := buf,
                                               held := held, served := bumped, touched := d.now })
    let d2 := { d1 with sched := { d1.sched with bufFree := d1.sched.bufFree + (s.held.length - held.length) } }
    let z := zoneKey s.nsid s.zone
    if (d2.zn z).st = .full ∧ (d2.zn z).wp ≤ hostEnd then d2.endStream k 3 else d2

/-- Detection of a sequential pattern, and the start of a stream (R120).  A pattern is one requester's in one zone: its reads of other zones in
between do not break it (DESIGN CHOICE, log entry 80). -/
def Dev.detect (d : Dev) (req : Requester) (z first last : Nat) : Dev :=
  let zn := d.zn z
  let mine := if req.pf then zn.slice.isNone else (zn.slice.map (· / 64)) == some (req.slice / 64)
  if zn.pace ≠ 0 ∧ mine = true then d.startStream (zNs z) (zIdx z) last req zn.pace
  else
    let same (q : SeqDetect) : Bool := decide (q.req = req) && q.zone == z
    let k := match d.sched.seqs.find? same with | some q => if q.endLba = first then q.count + 1 else 1 | none => 1
    let rest := d.sched.seqs.filter (fun q => !same q)
    if d.rf pSCHD 0x128 16 8 ≤ k then
      ({ d with sched := { d.sched with seqs := rest } }).startStream (zNs z) (zIdx z) last req 0
    else { d with sched := { d.sched with seqs := rest ++ [{ req := req, zone := z, endLba := last, count := k }] } }

/-- Consecutive numbers that fall within one unit, as its first number and how many. -/
def runsOf (lpu : Nat) : List Nat → List (Nat × Nat)
  | [] => []
  | x :: xs =>
    match runsOf lpu xs with
    | (y, k) :: r => if y / lpu = x / lpu then (x, y + k - x) :: r else (x, 1) :: (y, k) :: r
    | [] => [(x, 1)]

/-- A block of a read that needs no flash (R70). -/
def Dev.readSrc (y : Dev) (c : Nat) (n : Ns) (z slba : Nat) (e : Nat × BlockSrc) : Dev :=
  match e.2 with
  | .dealloc => y.modCtx c (fun v => { v with got := v.got.set e.1 (deallocated n.meta_) })
  | .here b => y.putBlock c (zNs z) (slba + e.1) e.1 b
  | .flash => y

/-- The part of a read that lies in one zone: blocks at hand are delivered, and the ranges to read from flash are answered. -/
def Dev.readZone (d : Dev) (c : Nat) (x : Ctx) (n : Ns) (z : Nat) : Dev × List (Nat × Nat) :=
  let slba := x.e.cmd.slba
  let is_ := (List.range x.e.cmd.nlb).filter (fun i => n.zoneOf (slba + i) == zIdx z)
  let first := n.offOf (slba + is_.headD 0)
  let last := first + is_.length
  let req := x.req (ctxPort c)
  let found := d.streamOf (zNs z) (zIdx z) req
  let d0 := match found with
    | some (k, s) => if first < s.hostPos ∨ s.hostPos + s.window / 4096 < first then d.endStream k 2 else d
    | none => d
  let s := d0.streamOf (zNs z) (zIdx z) req
  let srcs := is_.map (fun i => (i, d0.blockSrc n z (n.offOf (slba + i)) (s.map Prod.snd)))
  let d1 := d0.each srcs (fun y e => y.readSrc c n z slba e)
  let need := runsOf n.lpu ((srcs.filter (fun e => decide (e.2 = .flash))).map (fun e => n.offOf (slba + e.1)))
  let served := match s with
    | some (_, st) => ((is_.filter (fun i => (st.buf.find (n.offOf (slba + i))).isSome)).length) * 4096
    | none => 0
  let d2 := match s with
    | some (k, _) => d1.streamServe k served last
    | none => d1.detect req z first last
  (d2, need)

/-- The zones of a read, one after the other: the state, and the ranges to read from flash. -/
def readZones (c : Nat) (x : Ctx) (n : Ns) (acc : Dev × List (Nat × Nat × Nat)) (z : Nat) : Dev × List (Nat × Nat × Nat) :=
  let p := acc.1.readZone c x n z
  (p.1, acc.2 ++ p.2.map (fun (e : Nat × Nat) => (z, e.1, e.2)))

/-- READ (R70, R93, R94). -/
def Dev.read (d : Dev) (c : Nat) : Dev :=
  match d.fresh c with
  | none => d
  | some x =>
    match x.e.cmd with
    | .read slba nlb _ =>
      let n := (d.ns x.e.nsid).getD Ns.absent
      let zs := ((List.range nlb).map (fun i => zoneKey x.e.nsid (n.zoneOf (slba + i)))).eraseDups
      let due := d.readDeadline x.epoch x.cls n.plc x.admitted (nlb * 4096)
      let d0 := (d.begin_ c).modCtx c (fun y => { y with deadline := due })
      if zs.any (fun z => (d.zn z).st == .offline) then d0.commitCtx c 0x1BB true 0
      else
        let r := zs.foldl (readZones c x n) (d0, [])
        let d1 := r.1.modCtx c (fun y => { y with left := r.2.length })
        let sub (e : Nat × Nat × Nat) : Sub :=
          { ctx := some c, stream := none, req := x.req (ctxPort c), cls := x.cls, epoch := x.epoch, deadline := due,
            dieDeadline := due - d.rfAt x.epoch pSCHD 0x110 0 8 * 1000, gen := 0, nsid := x.e.nsid, zone := zIdx e.1, zgen := (d.zn e.1).gen,
            row := e.2.1 / n.lpu / n.d, unit := e.2.1 / n.lpu % n.d, off := e.2.1 % n.lpu, count := e.2.2, path := .direct
            hedged := false, noAround := false, recon := none, ownBad := false, accessed := false, old := none, got := [] }
        let d2 := d1.each r.2 (fun y e => if (y.ctx c).any (fun v => v.st == .executing) then y.addSub (sub e) else y)
        d2.readDone c
    | _ => d

/-- FLUSH (R69, R328). -/
def Dev.flush (d : Dev) (c : Nat) : Dev :=
  match d.fresh c with
  | some x => match x.e.cmd with | .flush => (d.begin_ c).done c | _ => d
  | none => d

end Sys2Proof.Machine
end

