-- ==== Sys2Proof/Machine/HostOps.lean ====
section
/-! DEFINITION. Shared operations of HOST: allotments, the end of contexts, controller resets, vectors, retirement of an epoch, and the
namespaces' creation, deletion and Sanitize (R39, R297, R310 to R319, R326 to R331, R403, R410 to R413). -/

namespace Sys2Proof.Machine

/-! ## Ports, functions and partitions (R297, R310, R312) -/

/-- The partition of a VF. -/
def Dev.partOfFn (d : Dev) (port fn : Nat) : Nat := if d.portMode = 0 then fn - 1 else 32 * port + (fn - 1)

/-- The port and the function that serve a partition. -/
def Dev.fnOfPart (d : Dev) (p : Nat) : Nat × Nat := if d.portMode = 0 then (0, p + 1) else (p / 32, p % 32 + 1)

/-- A port and a function that the part has. -/
def Dev.fnExists (d : Dev) (port fn : Nat) : Bool :=
  if d.portMode = 0 then port == 0 && decide (fn ≤ 64) else decide (port ≤ 1) && decide (fn ≤ 32)

/-- Contexts of a port. -/
def Dev.ctxTotal (d : Dev) (port : Nat) : Nat := if d.portMode = 0 then (if port = 0 then 65536 else 0) else 32768

def Dev.ctxHeld (d : Dev) (port : Nat) : Nat := (d.host.ctxs.filter (fun e => ctxPort e.1 == port)).length

/-- I/O queue pairs of a function at its next enable (R310). -/
def Dev.allotFor (d : Dev) (fn : Nat) : Nat :=
  if d.partitioned then (if fn = 0 then (if d.portMode = 0 then 4095 else 2047) else 191)
  else if fn = 0 then (if d.portMode = 0 then 16383 else 8191) else 0

/-- CNTLID (R297), and the controller it names. -/
def Dev.cntlid (d : Dev) (port fn : Nat) : Nat :=
  d.peer.index * 0x1000 + (if fn = 0 then port + 1 else 0x100 * (port + 1) + fn)

def Dev.ofCntlid (d : Dev) (id : Nat) : Option (Nat × Nat) :=
  let k := id % 0x1000
  let r := if id / 0x1000 ≠ d.peer.index then none
    else if k = 1 ∨ k = 2 then some (k - 1, 0)
    else if 0x100 < k ∧ k < 0x200 then some (0, k - 0x100)
    else if 0x200 < k ∧ k < 0x300 then some (1, k - 0x200)
    else none
  r.filter (fun e => d.fnExists e.1 e.2)

/-! ## Statuses (R317) -/

/-- The statuses that leave Do Not Retry clear. -/
def dnrOf (status : Nat) : Bool := !([0x004, 0x008, 0x01D, 0x021, 0x081, 0x082, 0x281, 0x1BD].contains status)

/-- A command fails with a status. -/
def Dev.fail (d : Dev) (c status : Nat) : Dev := d.commitCtx c status (dnrOf status) 0

/-- The status of a refusal code of R41. -/
def changeStatus (code : Nat) : Nat := if code = 2 ∨ code = 3 then 0x002 else if code = 4 then 0x015 else 0x00C

/-- A management command is refused with a code of R41, by its status, EPOCH_RESULT and event 0x0003. -/
def Dev.refuseCmd (d : Dev) (c code : Nat) : Dev := (d.refuseChange code 33).fail c (changeStatus code)

/-! ## The end of contexts (R313, R329) -/

/-- The contexts of a function. -/
def Dev.ctxsOf (d : Dev) (port fn : Nat) : List Nat :=
  (d.host.ctxs.filter (fun e => ctxPort e.1 == port && e.2.fn == fn)).map Prod.fst

/-- Actions of a context leave the zones in which they wait. -/
def Dev.dropActions (d : Dev) (c : Nat) : Dev :=
  { d with zone := { d.zone with zones := d.zone.zones.mapVals (fun _ z =>
      { z with cmds := z.cmds.filter (fun x => match x with | .action k _ => k != c | _ => true) }) } }

/-- A command's work stops: reads are discarded (R111), a write without a commit record is abandoned with a cause (R68), an action is
dropped. -/
def Dev.stopWork (d : Dev) (c cause : Nat) (status : Option Nat) : Dev := ((d.dropSubs c).dropActions c).abandonCtx c cause status

/-- Whether a context of a queue is held. -/
def Dev.sqBusy (d : Dev) (port fn q : Nat) : Bool := d.host.ctxs.any (fun e => ctxPort e.1 == port && e.2.fn == fn && e.2.sq == q)

/-- A deleted SQ of which every entry has been written is gone, and its deletion completes (R326 step 4): event 0x04; its SQ_BIND is reset
(R355). -/
def Dev.sqGone (d : Dev) (port fn q : Nat) : Dev :=
  match (d.fn port fn).sqs.find q with
  | some sq =>
    match sq.deleting with
    | some (c, aborted, stood) =>
      if d.sqBusy port fn q then d
      else
        let d1 := d.setFn port fn (fun f => { f with sqs := f.sqs.del q, binds := f.binds.put SqBind.reset q SqBind.reset })
        (d1.raise (pHOST port) 4 [fn, q, aborted, stood]).done c
    | none => d
  | none => d

/-- A shutdown is complete once no context of the function is held (R331). -/
def Dev.shutDone (d : Dev) (port fn : Nat) : Dev :=
  if (d.fn port fn).stopping = true ∧ (d.fn port fn).shst = 1 ∧ d.host.ctxs.any (fun e => ctxPort e.1 == port && e.2.fn == fn) = false then
    d.setFn port fn (fun f => { f with shst := 2 })
  else d

/-- A context ends silently. -/
def Dev.endSilent (d : Dev) (c cause : Nat) : Dev :=
  match d.ctx c with
  | none => d
  | some x => (((d.stopWork c cause none).silent c).sqGone (ctxPort c) x.fn x.sq).shutDone (ctxPort c) x.fn

/-- A command ends in a failure of its own: its work stops and its error entry is built. -/
def Dev.endFailed (d : Dev) (c cause status : Nat) : Dev := (d.stopWork c cause (some status)).fail c status

/-- Work stamped with an epoch older than the current one remains: a command, or what it has started (R39). -/
def Dev.oldWork (d : Dev) : Bool :=
  d.host.ctxs.any (fun e => e.2.epoch != d.sysc.epoch)
    || d.sched.subs.any (fun e => e.2.ctx.isSome && e.2.epoch != d.sysc.epoch)

/-- EPOCH_RETIRE (R39 step 5): the older epoch retires and its values are released. -/
def Dev.epochRetire (d : Dev) : Dev :=
  if d.epochBusy ∧ d.oldWork = false then
    let e := d.sysc.epoch - 1
    ({ d with sysc := { d.sysc with epochRetired := e }, regs := { d.regs with older := [] } }).raise pSYSC 4 [e.toNat, d.sysc.epoch.toNat]
  else d

/-- Every page applies what it has not applied yet: at most two epochs are live (R41). -/
def Dev.applyPending (d : Dev) : Dev := d.each ((d.regs.snap.map (fun e => keyPage e.1)).eraseDups) Dev.applyEpoch

/-- `SYSC.EPOCH` advances (R39 step 3): the values `ch` are the snapshot, and the pages they lie in are noted. -/
def Dev.newEpoch (d : Dev) (ch : List (Nat × Word)) : Dev :=
  let n := d.sysc.epoch + 1
  let w := d.each ((ch.map (fun e => keyPage e.1)).eraseDups) (fun a p => a.setHdr p (fun h => { h with epochStage := n }))
  ({ w with regs := { w.regs with snap := ch.foldl (fun (m : SMap Word) (e : Nat × Word) => m.set e.1 e.2) w.regs.snap }
            sysc := { w.sysc with epoch := n, epochResult := 0 } }).epochRetire

/-! ## Controllers (R329, R330) -/

/-- Features that NVMe keeps across a controller reset: none of those of R306 is saved here (DESIGN CHOICE, log entry 33). -/
def Fn.afterReset (f : Fn) : Fn :=
  { f with en := false, rdy := false, cfs := false, shst := 0, wantRdy := false, stopping := false, sqs := [], cqs := [], binds := [], pba := [], feats := []
           aens := [], changedNs := [], changedZones := [], ps := 0, lastPs := 0, later := 0 }

/-- What a reset of a function does to it (R329): every held context ends silently, queues are deleted, features return to their
defaults. -/
def Dev.ctrlEnd (d : Dev) (port fn : Nat) : Dev := (d.each (d.ctxsOf port fn) (fun x c => x.endSilent c 0)).setFn port fn Fn.afterReset

/-- A controller reset or FLR (R329, R330): the reset, and event 0x03. -/
def Dev.ctrlReset (d : Dev) (port fn kind : Nat) : Dev :=
  let cs := d.ctxsOf port fn
  let made := (cs.filter (fun c => match d.ctx c with | some x => x.recorded | none => false)).length
  ((d.ctrlEnd port fn).raise (pHOST port) 3 [fn, cs.length, made, kind]).epochRetire.idleCheck

/-! ## Vectors (R299, R306) -/

/-- The message of a vector, or its PBA bit where it or its function is masked. -/
def Dev.signal (d : Dev) (port fn vec : Nat) : Dev :=
  let f := d.fn port fn
  if f.msiMask ∨ f.masked.contains vec then d.setFn port fn (fun x => { x with pba := if x.pba.contains vec then x.pba else x.pba ++ [vec] })
  else d.emit (.msix port fn vec)

/-- Interrupt coalescing of a function: time in 100 µs units, and threshold; none where time is 0. -/
def Fn.coalescing (f : Fn) : Option (Nat × Nat) :=
  f.feats.foldl (fun a x => match x with | .coalescing t n => if t = 0 then none else some (t, n) | _ => a) none

/-- Coalescing is disabled for a vector. -/
def Fn.vecDirect (f : Fn) (vec : Nat) : Bool :=
  f.feats.foldl (fun a x => match x with | .vectorConfig v dis => if v = vec then dis else a | _ => a) false

/-- An entry has been written to a CQ: its vector is signalled, or the message is held until the threshold or the time. -/
def Dev.cqSignal (d : Dev) (port fn q : Nat) : Dev :=
  let f := d.fn port fn
  match f.cqs.find q with
  | none => d
  | some cq =>
    if cq.ien = false then d
    else
      match f.coalescing with
      | some (_, n) =>
        if q = 0 ∨ f.vecDirect cq.vec then d.signal port fn cq.vec
        else if n ≤ cq.coal + 1 then
          (d.setFn port fn (fun x => { x with cqs := x.cqs.modify q (fun y => { y with coal := 0 }) })).signal port fn cq.vec
        else
          d.setFn port fn (fun x => { x with cqs := x.cqs.modify q (fun y => { y with coal := y.coal + 1, coalAt := if y.coal = 0 then d.now else y.coalAt }) })
      | none => d.signal port fn cq.vec

/-! ## Namespaces and their keys (R403, R404, R410, R411) -/

/-- The number of the PSN packet just sent, where the pair is MIRRORED: what waits for the peer waits for it. -/
def Dev.awaitPsn (d : Dev) : Option Nat := if d.peer.pair = .mirrored ∧ d.peer.standby = false then some d.lastPsn else none

/-- A KEYS message in the PSN series: whole list or change, NSIDs gone, and each NSID's slot with its wrapped key (R410). -/
def Dev.sendKeys (d : Dev) (full : Bool) (gone nsids : List Nat) : Dev :=
  let ks := nsids.map (fun n => (n, (d.zone.nss.get Ns.absent n).slot))
  d.psn { typ := 6, vc := 3, len := ceilDiv (80 * ks.length + 8) 32, op := 0x13, tag := 0, seq := 0
          args := [if full then 1 else 0, gone.length] ++ gone ++ ks.flatMap (fun e => [e.1, e.2])
          data := ks.flatMap (fun e => d.wrapped e.2) }

/-- The wrapped key of a namespace is stored (R404). -/
def Dev.storeKey (d : Dev) (nsid slot : Nat) : Dev := d.cfgMake 4 nsid (u32 slot :: wordsOf 18 (d.wrapped slot))

/-- A namespace takes a new key: the next EMPTY slot after the one taken last, GENERATE, and its wrapped form stored (R403). -/
def Dev.newKey (d : Dev) (nsid : Nat) : Dev :=
  let s := d.nextSlot
  let d1 := d.genKey s nsid
  ({ d1 with cryp := { d1.cryp with lastTaken := s }, zone := { d1.zone with nss := d1.zone.nss.modify nsid (fun n => { n with slot := s }) } }).storeKey nsid s

/-- The key of a namespace is erased: slot zeroed, every wrapped copy in the store cleared (R411 step 3).  No block is in CRYP between
commands, so the slot is EMPTY at once. -/
def Dev.eraseKey (d : Dev) (nsid : Nat) : Dev :=
  let s := (d.zone.nss.get Ns.absent nsid).slot
  (d.setKslot s (fun _ => KeySlot.reset)).cfgEraseKey nsid

/-- A namespace is defined: key, tables and NSDEF record (R403). -/
def Dev.makeNs (d : Dev) (nsid : Nat) (n : Ns) : Dev :=
  let d1 := ({ d with zone := { d.zone with nss := d.zone.nss.set nsid n } }).newKey nsid
  (d1.journal (.nsdef nsid true ((d1.ns nsid).getD n))).redundancyOf nsid

/-- Namespace Attribute Changed on the controllers of a list (R308). -/
def Dev.tellNs (d : Dev) (nsid : Nat) (ctrls : List Nat) : Dev :=
  d.each ctrls (fun x k =>
    (x.setFn (k / 256) (k % 256) (fun f => { f with changedNs := if f.changedNs.contains nsid then f.changedNs else f.changedNs ++ [nsid] })).aenFn (k / 256) (k % 256) aenNamespace)

/-- The stripe groups that the member sleds can form outside the spare reserve: the sum over the positions of the blocks that the
scarcest member has there beyond the reserve (R55, R168). -/
def Dev.freeGroups (d : Dev) (members : List Nat) : Nat :=
  let at_ (p : Nat) : Nat :=
    let per := members.map (fun s =>
      let k := dieKey s p
      if d.diePresent k ∧ (d.media.sleds.get SledMedia.reset s).valid = true then
        let used := (d.zone.zones.map (fun e => (e.2.groups.filter (fun g => g.pos == p && (g.blocks.find s).isSome)).length)).sum
        1365 - d.rf pMEDI 0x80C 0 13 - used
      else 0)
    per.foldl (fun a x => if x < a then x else a) (per.headD 0)
  ((List.range 256).map at_).sum

/-- Zones that namespaces with a member in common have been promised and have not allocated yet. -/
def Dev.promised (d : Dev) (members : List Nat) : Nat :=
  (d.zone.nss.map (fun e =>
    if e.2.members.any members.contains then
      e.2.zones * e.2.groups - ((d.zone.zones.filter (fun z => zNs z.1 == e.1)).map (fun z => z.2.groups.length)).sum
    else 0)).sum

/-- A deletion goes on (R411 step 3): once none of its commands is left, the namespace and its zones are gone and its blocks wait for
their erase. -/
def Dev.deleteNs (d : Dev) (nsid : Nat) : Dev :=
  let zs := (d.zone.zones.filter (fun e => zNs e.1 == nsid)).map Prod.fst
  let d1 := d.each zs (fun x z =>
    let a := (x.zn z).area
    let y := ((x.discardStaging z).setZn z (fun q => { q with gen := (q.gen + 1) % 65536, cmds := [] })).releaseGroups z
    match a with | some i => y.advance i | none => y)
  let d2 := ((d1.endStreams 0 (fun s => s.nsid == nsid)).dropCopies (fun c => zNs c.zone == nsid)).journal (.nsdef nsid false Ns.absent)
  { d2 with zone := { d2.zone with nss := d2.zone.nss.del nsid, zones := d2.zone.zones.keep (fun k _ => zNs k != nsid) } }

/-- The peer has acknowledged a packet, or the pair is no longer MIRRORED. -/
def Dev.peerHas (d : Dev) (p : Nat) : Bool := d.acked (some p)

/-! ## Sanitize (R412, R413) -/

/-- Whether a command of an I/O queue is held. -/
def Dev.ioHeld (d : Dev) : Bool := d.host.ctxs.any (fun e => e.2.sq != 0)

/-- Steps 3 and 4: every namespace re-keyed, every zone reset. -/
def Dev.sanAll (d : Dev) : Dev :=
  let d1 := d.each (d.zone.nss.map Prod.fst) (fun x n =>
    let y := (x.eraseKey n).newKey n
    y.journal (.nsdef n true ((y.ns n).getD Ns.absent)))
  d1.each ((d1.zone.zones.filter (fun e => e.2.st != .empty)).map Prod.fst) (fun x z => x.resetZone z)

/-- Step 6: the record is cleared, and event 0x0804. -/
def Dev.sanEnd (d : Dev) (s : Sanitize) : Dev :=
  (({ d with cryp := { d.cryp with san := none } }).cfgMake 6 0 [0]).raise pCRYP 4
    [d.zone.nss.length, s.zones, (d.now - s.started) / 1000000, if s.resumed then 0 else 1]

/-- Sanitize goes on as far as it can: once the held commands have ended, steps 3 to 5; once the peer has the new keys, step 6. -/
def Dev.sanStep (d : Dev) : Dev :=
  match d.cryp.san with
  | none => d
  | some s =>
    match s.phase with
    | .draining =>
      if d.ioHeld then d
      else
        let zones := (d.zone.zones.filter (fun e => e.2.st != .empty)).length
        let d1 := d.sanAll.sendKeys true [] (d.zone.nss.map Prod.fst)
        (match d1.awaitPsn with
         | some p => { d1 with cryp := { d1.cryp with san := some { s with phase := .peerWait, psn := p, zones := zones } } }
         | none => d1.sanEnd { s with zones := zones })
    | .peerWait => if d.peerHas s.psn then d.sanEnd s else d

/-- What waits for the peer to have a key goes on (R410, R411, R412). -/
def Dev.keysSettle (d : Dev) : Dev :=
  d.sanStep

end Sys2Proof.Machine
end

