-- ==== Sys2Proof/Machine/TenOps.lean ====
section
/-! DEFINITION. Shared operations of PART and SLIC: partitions, token buckets, slice reservations, slice reset and removal, and
mailbox messages (R342 to R373, R559). -/

namespace Sys2Proof.Machine

/-! ## Slices and partitions (R343 to R347) -/

/-- The base slice of a slice's partition. -/
def baseOf (s : Nat) : Nat := s / 64 * 64

/-- The offset of a slice's register in its page (R371). -/
def slicOff (s reg : Nat) : Nat := 0x100 + 0x20 * (s % 16) + reg

/-- Contexts and areas reserved for a slice and not held. -/
def Slice.freeCtx (s : Slice) : Nat := s.resCtx - s.heldCtx
def Slice.freeArea (s : Slice) : Nat := s.resArea - s.heldArea

/-- A PF of a port takes a context from the base slice with the most free contexts, ties to the lower partition (R347). -/
def Dev.lenderOf (d : Dev) (port : Nat) : Option Nat :=
  match firstMin (fun s => 4096 - (d.slice s).freeCtx) ((d.portParts port).map (· * 64)) with
  | some s => if (d.slice s).freeCtx = 0 then none else some s
  | none => none

/-- Contexts a port's PF has borrowed. -/
def Dev.pfCtxs (d : Dev) (port : Nat) : Nat :=
  (d.host.ctxs.filter (fun e => ctxPort e.1 == port && e.2.slice.isNone && e.2.lender.isSome)).length

/-- A created slice exists (R342). -/
def Dev.anyCreated (d : Dev) : Bool := d.ten.slices.any (fun e => e.1 % 64 != 0 && e.2.exists_)

/-- Contexts that a PF holds when tenancy is enabled count as borrowed from then on (R367). -/
def Dev.chargeCtx (d : Dev) (c : Nat) : Dev :=
  match d.lenderOf (ctxPort c) with
  | some s => (d.modCtx c (fun x => { x with lender := some s })).setSlice s (fun y => { y with heldCtx := y.heldCtx + 1 })
  | none => d

/-- Areas that are in use when tenancy is enabled count as borrowed by the PF of the port that serves their namespace (R367). -/
def Dev.chargeArea (d : Dev) (a : Nat) : Dev :=
  let x := d.area a
  let n := if x.pair then 2 else 1
  let port := match d.ns (zNs x.zone) with | some v => v.attached.headD 0 / 256 | none => 0
  match firstMin (fun s => 4096 - (d.slice s).freeArea) ((d.portParts port).map (· * 64)) with
  | some s => (d.setArea a (fun y => { y with charge := some s, pf := some port })).setSlice s (fun y => { y with heldArea := y.heldArea + n })
  | none => d

/-- The heads of areas: for a pair its first area only. -/
def Dev.areaHeads (d : Dev) : List Nat :=
  (d.zone.areas.map Prod.fst).filter (fun a => a == 0 || !(d.area (a - 1)).pair)

/-- A partition's bucket is full; its base slice holds the whole share (R342, R344, R349). -/
def Dev.makePartition (d : Dev) (p : Nat) : Dev :=
  let depth := d.rf pPART 0x10C 0 16
  let y := d.slice (64 * p)
  let s : Slice := { Slice.reset with exists_ := true, gen := y.gen, result := y.result, discard := y.discard, drops := y.drops
                                      cls := d.ten.baseCls, resCtx := 1024, resArea := 128 }
  (d.setPart p (fun x => { x with avail := depth, spent := 0 })).setSlice (64 * p) (fun _ => s)

/-- Partitions 0 to 63 and their base slices come into being (R342); the credit pools are to be split (R109). -/
def Dev.makePartitions (d : Dev) : Dev :=
  let cls := match d.rf pPART 0x100 8 2 with | 0 => Cls.a | 1 => Cls.b | _ => Cls.c
  let d0 := { d with ten := { d.ten with active := true, baseCls := cls, fillAt := d.now, pfTold := [] }
                     sched := { d.sched with splitting := if d.sched.splitting = some false then none else some true } }
  let d1 := d0.each (List.range 64) Dev.makePartition
  let d2 := d1.each (d1.host.ctxs.map Prod.fst) Dev.chargeCtx
  d2.each d2.areaHeads Dev.chargeArea

/-- Leaving PARTITIONED: partitions and base slices go; what they lent is the device's again (R109, R342). -/
def Dev.dropPartitions (d : Dev) : Dev :=
  let d1 := { d with
    ten := { d.ten with active := false, pfTold := []
                        parts := d.ten.parts.mapVals (fun _ p => { p with avail := 0, spent := 0 })
                        slices := d.ten.slices.mapVals (fun _ y => { Slice.reset with gen := y.gen, result := y.result, discard := y.discard, drops := y.drops }) }
    sched := { d.sched with splitting := if d.sched.splitting = some true then none else some false }
    host := { d.host with ctxs := d.host.ctxs.mapVals (fun _ x => { x with slice := none, lender := none }) } }
  { d1 with zone := { d1.zone with areas := d1.zone.areas.mapVals (fun _ a => { a with charge := none, pf := none })
                                   zones := d1.zone.zones.mapVals (fun _ z => { z with slice := none }) } }

/-! ## Bandwidth tokens (R348 to R350) -/

/-- The tokens of a command of a VF. -/
def Dev.tokenCost (d : Dev) (c : NvCmd) : Nat :=
  let depth := d.rf pPART 0x10C 0 16
  match c with
  | .read _ n _ | .write _ n _ | .zoneAppend _ n _ => if 512 < n then 0 else if depth < n then depth else n
  | .writeZeroes _ n _ => if depth < n then depth else n
  | _ => 0

/-- The lenders that a partition meets in turn, with what each lends. -/
def Dev.lenders (d : Dev) (p : Nat) : List (Nat × Nat) :=
  let floor := d.rf pPART 0x10C 16 16
  if bitOf (d.cell pPART 0x800) 0 = false then []
  else
    let all := (List.range 63).map (fun i => (p + 1 + i) % 64)
    let near := all.filter (fun q => d.portMode = 0 || decide (q / 32 = p / 32))
    (near.filter (fun q => decide (floor < (d.part q).avail))).map (fun q => (q, (d.part q).avail - floor))

/-- A lender gives what it can of the tokens still wanted. -/
def lend (a : Dev × Nat) (l : Nat × Nat) : Dev × Nat :=
  let n := min a.2 l.2
  if n = 0 then a else (a.1.setPart l.1 (fun x => { x with avail := x.avail - n, spent := x.spent + n, lent := x.lent + u32 n }), a.2 - n)

/-- Tokens are taken: a partition's own first, the rest from lenders in turn; with the state, what they are short of the cost. -/
def Dev.payTokens (d : Dev) (p cost : Nat) : Dev × Nat :=
  let own := min cost (d.part p).avail
  let d1 := d.setPart p (fun x => { x with avail := x.avail - own, spent := x.spent + own })
  let r := (d.lenders p).foldl lend (d1, cost - own)
  (r.1.setPart p (fun x => { x with borrowed := x.borrowed + u32 (cost - own) }), r.2)

/-! ## Mailbox messages (R357 to R362) -/

/-- Bytes that the spec does not state. -/
def Dev.freeBytes (d : Dev) : Nat → List Byte × Dev
  | 0 => ([], d)
  | n + 1 =>
    let r := d.takeFree.freeBytes n
    (BitVec.ofNat 8 (Config.freeNat d.free) :: r.1, r.2)

/-- The greatest version the controller knows. -/
def negonMax : Nat := 0x12

/-- A message of the controller to a slice waits for the DOWN slot: its type, identifier, flags, payload length, status and payload, of
which what the spec does not state is free. -/
def Dev.postDown (d : Dev) (s type tid flags len status : Nat) (payload : List Byte) : Dev :=
  let y := d.slice s
  let rest := d.freeBytes (24 - payload.length)
  let bytes := ([y.version.getD negonMax, type, tid, flags].map (BitVec.ofNat 8)) ++ leBytes 2 y.gen ++ [BitVec.ofNat 8 len, BitVec.ofNat 8 status] ++ payload ++ rest.1
  rest.2.setSlice s (fun x => { x with waiting := x.waiting ++ [{ manager := false, at_ := d.now, words := wordsOf 8 bytes }] })

/-- A NOTICE with a code; its identifier, and the length of what follows the code, are not stated. -/
def Dev.notice (d : Dev) (s code : Nat) : Dev :=
  let tid := Config.freeNat d.free % 256
  let len := 1 + Config.freeNat (d.free + 1) % 24
  d.takeFree.takeFree.postDown s 3 tid 0 len 0 [BitVec.ofNat 8 code]

/-- TYPE and GEN of a message. -/
def msgType (w : List Word) : Nat := fld (w.headD 0) 8 8
def msgGen (w : List Word) : Nat := fld (w.getD 1 0) 0 16

/-- A message is dropped: counted to 255. -/
def Slice.drop (y : Slice) : Slice := { y with drops := satAt 255 (y.drops + 1) }

/-! ## Reset and removal (R363 to R366) -/

/-- A VF's queues bound to a slice are HELD: for a base slice its unbound I/O SQs, never its admin SQ. -/
def Dev.holdQueues (d : Dev) (s : Nat) : Dev :=
  let vf := d.fnOfPart (s / 64)
  d.setFn vf.1 vf.2 (fun f =>
    let qs := if s % 64 = 0 then ((f.sqs.map Prod.fst).filter (fun q => q ≠ 0 && (f.binds.get SqBind.reset q).index == 0))
      else (f.binds.filter (fun e => e.2.index == s % 64)).map Prod.fst
    { f with binds := qs.foldl (fun b q => b.upd SqBind.reset q (fun x => { x with held := true })) f.binds })

/-- A die operation serves a sub-request: its own read, or a member read of its reconstruction. -/
def Dev.serves (d : Dev) (id : Nat) (u : DieUse) : Bool :=
  match u with
  | .sub i => i == id
  | .member r _ => (d.sched.recons.find r).any (fun x => decide (x.who = .sub id))
  | _ => false

/-- The die operations issued for a slice's reads. -/
def Dev.opsOfSlice (d : Dev) (s : Nat) : List (Nat × Nat) :=
  let subs := (d.sched.subs.filter (fun e => e.2.req.pf == false && e.2.req.slice == s)).map (fun e => (e.1, e.2.gen))
  (d.media.ops.filter (fun e => subs.any (fun i => d.serves i.1 e.2.d.use && e.2.d.gen == i.2))).map (fun e => (e.1, e.2.issued))

/-- One pending manager post is dropped. -/
def Dev.dropPost (s : Nat) (d : Dev) (m : DownMsg) : Dev := (d.setSlice s Slice.drop).raise (pSLIC s) 4 [s, 1, msgType m.words, 1]

/-- Pending manager posts of the old generation are dropped (R364 step 4). -/
def Dev.dropPosts (d : Dev) (s old : Nat) : Dev :=
  let stale (m : DownMsg) : Bool := m.manager && msgGen m.words == old
  let gone := (d.slice s).waiting.filter stale
  (d.setSlice s (fun y => { y with waiting := y.waiting.filter (fun m => !stale m) })).each gone (Dev.dropPost s)

/-- Steps 1 to 4 of a slice reset (R364). -/
def Dev.sliceReset (d : Dev) (s : Nat) : Dev :=
  let old := (d.slice s).gen
  let ops := d.opsOfSlice s
  let d1 := (d.setSlice s (fun y => { y with gen := (y.gen + 1) % 65536, draining := true, oldGen := old, resetAt := d.now, oldOps := y.oldOps ++ ops
                                             version := none, up := [], upFull := false })).holdQueues s
  let cs := (d1.host.ctxs.filter (fun e => e.2.slice == some s && e.2.gen == old)).map Prod.fst
  let d2 := d1.each cs (fun x c => x.endSilent c 0)
  let d3 := d2.setSlice s (fun y => { y with resetN := cs.length, discard := y.discard + u32 cs.length })
  let d4 := d3.endStreams 4 (fun t => t.req.pf == false && t.req.slice == s)
  (d4.dropPosts s old).epochRetire

/-- REMOVE runs (R366 steps 1 and 2). -/
def Dev.sliceRemove (d : Dev) (s : Nat) : Dev :=
  ((d.setSlice s (fun y => { y with removing := true, removeWait := false })).notice s 2).sliceReset s

/-- Steps 3 to 5 of a removal. -/
def Dev.sliceGone (d : Dev) (s : Nat) : Dev :=
  let y := d.slice s
  let b := baseOf s
  let vf := d.fnOfPart (s / 64)
  let d1 := d.setFn vf.1 vf.2 (fun f => { f with binds := (f.binds.keep (fun _ x => x.index != s % 64)) })
  let d2 := { d1 with zone := { d1.zone with
    areas := d1.zone.areas.mapVals (fun _ a => if a.charge = some s then { a with charge := some b } else a)
    zones := d1.zone.zones.mapVals (fun _ z => if z.slice = some s then { z with slice := some b } else z) } }
  let d3 := d2.setSlice b (fun x => { x with resCtx := x.resCtx + y.resCtx, resArea := x.resArea + y.resArea, heldArea := x.heldArea + y.heldArea })
  let d4 := d3.setSlice s (fun x => { Slice.reset with gen := x.gen, result := x.result, discard := x.discard, drops := x.drops })
  d4.raise (pSLIC s) 3 [s, y.pasid, y.heldArea]

/-- A pending shrink takes effect as far as the slice's holdings allow; with both amounts in force, NOTICE code 1 (R354). -/
def Dev.resizeSettle (d : Dev) (s : Nat) : Dev :=
  let y := d.slice s
  match y.resizing with
  | none => d
  | some (c, a) =>
    let c1 := if y.heldCtx ≤ c then min y.resCtx c else y.resCtx
    let a1 := if y.heldArea ≤ a then min y.resArea a else y.resArea
    let fin : Bool := c1 == c && a1 == a
    let d1 := d.setSlice s (fun x => { x with resCtx := c1, resArea := a1, resizing := if fin then none else some (c, a) })
    let d2 := d1.setSlice (baseOf s) (fun x => { x with resCtx := x.resCtx + (y.resCtx - c1), resArea := x.resArea + (y.resArea - a1) })
    if fin then d2.notice s 1 else d2

/-- A slice operation's result; a refusal records event 0x8006, and code 5 EPOCH_RESULT too (R352, R559). -/
def Dev.sliceResult (d : Dev) (s code operation master : Nat) : Dev :=
  let d1 := d.setSlice s (fun y => { y with result := code })
  let d2 := if code = 5 then d1.refuseChange 5 master else d1
  d2.raise (pSLIC s) 6 [s, code, operation]

/-! ## Access from the VF (R355, R356) -/

/-- Whether an access from a VF to something of a slice is refused: the slice is strict and the access does not carry its PASID. -/
def Slice.refuses (y : Slice) (pasid : Option Nat) : Bool := y.exists_ && y.strict && pasid != some y.pasid

/-- An access is refused by the strict check: event 0x8005. -/
def Dev.strictEvent (d : Dev) (s off : Nat) (pasid : Option Nat) (kind : Nat) : Dev :=
  d.raise (pSLIC s) 5 [s, off, pasid.getD 0xFFFFFFFF, kind]

/-- The slice that index `i` of a VF's window names. -/
def Dev.sliceOfVf (d : Dev) (port fn i : Nat) : Nat := 64 * d.partOfFn port fn + i % 64

/-- An access of a VF to something of a slice of its window: taken where the partition exists and the strict check allows it. -/
def Dev.onSlice (d : Dev) (port fn i off : Nat) (pasid : Option Nat) (k : Dev → Nat → Dev) : Dev :=
  if d.ten.active = true ∧ fn ≠ 0 ∧ (d.fn port fn).present = true ∧ i < 64 then
    let s := d.sliceOfVf port fn i
    if (d.slice s).exists_ = false then d
    else if (d.slice s).refuses pasid = true then d.strictEvent s off pasid 1
    else k d s
  else d

end Sys2Proof.Machine
end

