-- ==== Sys2Proof/Machine/PeerOps.lean ====
section
/-! DEFINITION. Shared operations of PEER: the pair's state, mirroring to and on the standby, fencing, takeover and handover (R241 to
R257, R407 to R410). -/

namespace Sys2Proof.Machine

/-! ## The pair's state (R247 to R249) -/

/-- The pair changes state: event 0x2801, with the cause as the model codes it (DESIGN CHOICE, log entry 39): 0 progress, 1 the peer's report, 2 activation on
the standby, 3 removed, 4 handover or takeover. -/
def Dev.setPair (d : Dev) (s : PairState) (cause : Nat) : Dev :=
  if d.peer.pair = s then d
  else ({ d with peer := { d.peer with pair := s } }).raise pPEER 1 [d.peer.pair.code, s.code, cause, d.lanesUp]

/-- The PSN series of both directions starts over; what was outstanding counts as acknowledged, since the next RESYNC copies it (R244). -/
def Dev.newSeries (d : Dev) : Dev :=
  { d with peer := { d.peer with txPsn := 0, unacked := [], txAcked := d.peer.txAcked + u32 d.peer.unacked.length, rxPsn := 0, early := []
                                 resyncPsn := 0 } }

/-- The commands that wait for an acknowledgement of their data, as zone and context (R248). -/
def Dev.dataWaits (d : Dev) : List (Nat × Nat) :=
  d.zone.zones.flatMap (fun e => e.2.cmds.filterMap (fun x => match x with
    | .write c _ len staged _ _ (some p) => if staged = len ∧ d.acked (some p) = false then some (e.1, c) else none
    | _ => none))

/-- The pair leaves MIRRORED or RESYNC (R249): what waited for its data's acknowledgement is abandoned with cause 4 and Command
Interrupted; what waited otherwise goes on. -/
def Dev.leaveMirror (d : Dev) : Dev :=
  let ws := d.dataWaits
  ((d.each ws (fun x e => x.abandon e.1 e.2 4 (some 0x021))).newSeries).keysSettle

/-- The pair falls to SOLO with a cause. -/
def Dev.toSolo (d : Dev) (cause : Nat) : Dev :=
  if d.peer.pair = .mirrored ∨ d.peer.pair = .resync then d.leaveMirror.setPair .solo cause else d

/-- The pair is removed: UNPAIRED, with the lanes OFF (R247, R262, R409). -/
def Dev.pairOff (d : Dev) : Dev :=
  let d1 := if d.peer.pair = .mirrored ∨ d.peer.pair = .resync then d.leaveMirror else d
  let d2 := { d1.setPair .unpaired 3 with peer := { (d1.setPair .unpaired 3).peer with peerMode := 7, peerPairSt := 0, peerHold := false, wasMirrored := false, checking := false } }
  d2.each [0, 1, 2, 3] (fun x n => if (x.lane n).st = .off then x else x.resetLane n 9 .off)

/-! ## Resynchronisation (R247) -/

/-- `k` blocks of an area's copy from an offset on, in MIRROR packets. -/
def Dev.sendBlocks (d : Dev) (x : Area) (a off k : Nat) : Dev :=
  d.each (List.range (ceilDiv k 4)) (fun w i =>
    let m := if k - 4 * i < 4 then k - 4 * i else 4
    w.psn { typ := 8, vc := 1, len := 128 * m, op := 0, tag := 0, seq := 0, args := [a, off + 16384 * i, m, x.gen]
            data := w.bytes (areaBase a + off + 16384 * i) (4096 * m) })

/-- The row events that tell how far one data unit of the row has come. -/
def Dev.tellUnit (x : Area) (a rs : Nat) (d : Dev) (u : Nat) : Dev :=
  let d1 := d.rowevt a .fold u rs
  if x.flight.contains u then d1.rowevt a .issue u rs
  else if x.degraded ∧ u = 0 then d1.rowevt a .skip u rs else d1.rowevt a .confirm u rs

/-- The same of a parity unit. -/
def Dev.tellParity (x : Area) (n : Ns) (a rs : Nat) (d : Dev) (j : Nat) : Dev :=
  if x.flight.contains j then d.rowevt a .issue (n.unitCode j) rs
  else if (j = n.d ∧ x.pOk) ∨ (j = n.d + 1 ∧ x.qOk) then d.rowevt a .confirm (n.unitCode j) rs else d

/-- The row events of an area's row. -/
def Dev.sendRow (d : Dev) (x : Area) (n : Ns) (a : Nat) : Dev :=
  match x.accRow with
  | none => if x.unit / n.d = 0 then d else d.rowevt a .release 0 (x.unit / n.d - 1)
  | some rs => (d.each (List.range x.accN) (Dev.tellUnit x a rs)).each [n.d, n.d + 1] (Dev.tellParity x n a rs)

/-- The descriptor of an area, told by the row events that lead to it (DESIGN CHOICE, log entry 40), and its bytes: the data slot, and P and Q where a row is
open. -/
def Dev.sendArea (d : Dev) (a : Nat) : Dev :=
  let x := d.area a
  let n := d.zns x.zone
  let d2 := (d.rowevt a .bind 0 0).sendRow x n a
  let d3 := if x.st = .draining then d2.rowevt a .drain 0 0 else d2
  let d4 := if x.accRow.isSome then (d3.sendBlocks x a (partAddr n.plc a 1 - areaBase a) n.lpu).sendBlocks x a (partAddr n.plc a 2 - areaBase a) n.lpu else d3
  d4.sendBlocks x a 0 x.fill

/-- The journal that the peer has not acknowledged: what is on flash since the checkpoint, and the ring. -/
def Dev.journalTail (d : Dev) : List JRec :=
  ((d.valt.flash.flatMap JPage.recs ++ d.valt.ring).filter (fun r => decide (d.peer.ackedSeq ≤ r.seq)))

/-- RESYNC begins (R247): held areas in full, the journal tail and the full list of keys, in one PSN series. -/
def Dev.startResync (d : Dev) : Dev :=
  let d1 := d.setPair .resync 0
  let d2 := d1.each d1.journalTail (fun x r =>
    x.psn { typ := 10, vc := 3, len := (16 * r.body.len + 31) / 32, op := r.body.type, tag := 0, seq := 0, args := [r.seq], data := r.bytes })
  let d3 := (d2.each d2.areaHeads Dev.sendArea).sendKeys true [] (d2.zone.nss.map Prod.fst)
  { d3 with peer := { d3.peer with resyncPsn := d3.lastPsn } }

/-! ## What the standby applies (R244, R246, R410) -/

/-- A namespace's key slots are zeroed, and its record is erased. -/
def Dev.dropKey (d : Dev) (nsid : Nat) : Dev :=
  (d.each ((d.cryp.slots.filter (fun e => e.2.nsid == nsid && e.2.st != .empty)).map Prod.fst) (fun y s => y.setKslot s (fun _ => KeySlot.reset))).cfgEraseKey nsid

/-- One wrapped key is stored and loaded. -/
def Dev.takeKey (d : Dev) (k : Nat × Nat × List Byte) : Dev :=
  let nsid := k.1
  let slot := k.2.1
  let y := (d.dropKey nsid).cfgMake 4 nsid (u32 slot :: wordsOf 18 k.2.2)
  match Config.unwrap y.cryp.kPw (nsIv nsid) (fitBytes 72 k.2.2) with
  | some key => y.setKslot slot (fun _ => { st := .loaded, nsid := nsid, key := fitBytes 64 key, inflight := 0 })
  | none => y.raise pCRYP 1 [slot, 2, 3, nsid]

/-- Wrapped keys replace those stored and loaded (R410): gone ones are erased, of a whole list also those it does not name; each key listed
is stored and loaded. -/
def Dev.takeKeys (d : Dev) (full : Bool) (gone : List Nat) (ks : List (Nat × Nat × List Byte)) : Dev :=
  let held := (d.cryp.slots.filter (fun e => e.2.st == .loaded)).map (fun e => e.2.nsid)
  let stored := (d.cfgWindow.flatMap (fun s => (d.cfgRecs s.1).filter (fun f => f.rcd.type == 4)) |>.map (fun f => f.rcd.key)) ++ (d.fsto.ring.filter (fun r => r.type == 4)).map (fun r => r.key)
  let out := if full then ((held ++ stored).eraseDups).filter (fun n => !ks.any (fun k => k.1 == n)) else gone
  (d.each out Dev.dropKey).each ks Dev.takeKey

/-- The slot that a UNIT code names. -/
def Ns.slotOfCode (n : Ns) (u : Nat) : Nat := if u < 14 then u else n.d + (u - 14)

/-- A staging-area transition of the active takes place here (R243, R246). -/
def Dev.applyRow (d : Dev) (a event unit rs zgen zone nsid : Nat) : Dev :=
  let z := zoneKey nsid zone
  let n := d.zns z
  let j := n.slotOfCode unit
  match event with
  | 0 =>
    let x : Area := { Area.reset with st := .filling, zone := z, gen := zgen, pair := n.plc }
    let d1 := d.setArea a (fun _ => x)
    let d2 := if n.plc then d1.setArea (a + 1) (fun _ => { x with pair := false }) else d1
    d2.setZn z (fun y => { y with area := some a })
  | 1 =>
    let x := d.area a
    let d1 := if x.fill < n.lpu then d.padSlot a else d
    let d2 := (d1.foldBytes a unit).setArea a (fun y => { y with accRow := some rs, accN := unit + 1, unit := rs * n.d + unit, folded := true })
    (d2.areaSt a (if x.st = .draining then .draining else .programming)).setZn z (fun y => { y with phys := rs * n.d + unit + 1 })
  | 2 => d.setArea a (fun y => { y with flight := if y.flight.contains j then y.flight else y.flight ++ [j] })
  | 3 =>
    let s := n.sledOf j rs
    let d1 := d.settleSlot a j
    match (d.zn z).groupOf rs with
    | some g =>
      if g.blockOn s = 0x1FFF then d1
      else d1.setBlk (blkKey s g.pos (g.blockOn s)) (fun y => { y with confirmed := Nat.max y.confirmed (rs % 768 + 1) })
    | none => d1
  | 4 => (d.settleSlot a j).setArea a (fun y => { y with degraded := y.degraded || decide (j < n.d) })
  | 5 => d.setArea a (fun y => { y with accRow := none, accN := 0, pOk := false, qOk := false, degraded := false, unit := (rs + 1) * n.d })
  | 6 => d.areaSt a .draining
  | _ =>
    let x := d.area a
    let d1 := d.setArea a (fun _ => Area.reset)
    let d2 := if x.pair then d1.setArea (a + 1) (fun _ => Area.reset) else d1
    d2.setZn x.zone (fun y => if y.area = some a then { y with area := none } else y)

/-- One packet of the series is applied. -/
def Dev.applyItem (d : Dev) (i : PeerItem) : Dev :=
  match i with
  | .mirror a off blocks _ data =>
    let n := d.zns (d.area a).zone
    let d1 := d.store (areaBase a + off) (data.take (4096 * blocks))
    if off / 4096 < n.lpu then d1.setArea a (fun y => { y with fill := off / 4096 + blocks }) else d1
  | .rowevt a e u rs g z ns => d.applyRow a e u rs g z ns
  | .journal recs tables =>
    let d0 := match tables with | some c => d.loadTables c | none => d
    let d1 := d0.each recs Dev.replayRec
    { d1 with valt := { d1.valt with nextSeq := Nat.max d1.valt.nextSeq (lastSeq recs) } }
  | .keys full gone ks => d.takeKeys full gone ks

/-- Packets that came early are applied once their turn has come, with fuel for each. -/
def Dev.applyEarly : Nat → Dev → Dev
  | 0, d => d
  | n + 1, d =>
    match d.peer.early.find? (fun e => e.1 == d.peer.rxPsn) with
    | none => d
    | some e =>
      let d1 := { d with peer := { d.peer with rxPsn := (d.peer.rxPsn + 1) % 4294967296, early := d.peer.early.filter (fun x => x.1 != e.1) } }
      (d1.applyItem e.2).applyEarly n

/-- A packet of the series arrives on a lane (R244): one already applied is dropped, one that is early is held back; ACK names the highest
PSN up to which all is applied. -/
def Dev.acceptPsn (d : Dev) (lane psn : Nat) (i : PeerItem) : Dev :=
  if (d.lane lane).st ≠ .up ∨ d.peer.standby = false then d
  else
    let ahead := (psn + 4294967296 - d.peer.rxPsn) % 4294967296
    let d1 := if ahead < 2147483648 ∧ d.peer.early.all (fun e => e.1 != psn) = true then
        { d with peer := { d.peer with early := d.peer.early ++ [(psn, i)] } } else d
    let d2 := d1.applyEarly (d1.peer.early.length)
    d2.send (.lane lane) { typ := 11, vc := 2, len := 0, op := 0, tag := (d2.peer.rxPsn + 4294967295) % 4294967296, seq := 0, args := [], data := [] }

/-! ## Fencing (R250 to R252) -/

/-- The body of FENCE: SUB, the expected and the new token. -/
def fenceBody (sub exp new : Nat) : List Byte := BitVec.ofNat 8 sub :: List.replicate 7 0 ++ leBytes 8 exp ++ leBytes 8 new ++ List.replicate 8 0

def Dev.fence (d : Dev) (n sub exp new : Nat) : Dev := d.mgmtSend (.port n) 6 [sub] (fenceBody sub exp new)

/-- The adopted sleds, and those of them that can be reached. -/
def Dev.adoptedSleds (d : Dev) : List Nat := (d.media.sleds.filter (fun e => e.2.adopted)).map Prod.fst
def Dev.reachedSleds (d : Dev) : List Nat := d.adoptedSleds.filter (fun s => (d.port s).st == .up)

/-- FENCE READ of every adopted sled that can be reached. -/
def Dev.readLeases (d : Dev) : Dev := d.each d.reachedSleds (fun x s => x.fence s 0 0 0)

/-- The token that this controller sets on a sled: COUNT + 1, its own index. -/
def Dev.nextToken (d : Dev) (s : Nat) : Nat := ((d.port s).token / 256 + 1) * 256 + d.peer.index

/-- A sled this controller holds: its token names it, and no other has been seen to hold it (R250). -/
def Dev.holdsSled (d : Dev) (s : Nat) : Bool := (d.port s).token % 256 == d.peer.index && !hasBit d.peer.fenceLost s

/-! ## Takeover (R253 to R255) -/

/-- One zone's rows that its area has left count as confirmed. -/
def Dev.confirmZone (d : Dev) (z : Nat) : Dev :=
  let n := d.zns z
  let zn := d.zn z
  let rows := match zn.area with
    | some a => (d.area a).unit / n.d
    | none => ceilDiv zn.wp n.row
  d.each (zn.groups.mapIdx (fun i g => (i, g))) (fun w e =>
    w.each e.2.keys (fun v b => v.setBlk b (fun q => { q with confirmed := Nat.max q.confirmed (satAt 768 (rows - 768 * e.1) ) })))

/-- Word lines of each block that are known to be written: those of the rows below the row in hand, or below the write pointer where no
area is held. -/
def Dev.confirmRows (d : Dev) : Dev := d.each (d.zone.zones.map Prod.fst) Dev.confirmZone

/-- What becomes of one zone's uncommitted commands and of its slot. -/
def Dev.settleMirrorZone (d : Dev) (z : Nat) : Dev :=
  let zn := d.zn z
  let n := d.zns z
  let y := d.setZn z (fun q => { q with cmds := [], sptr := q.wp })
  match zn.area with
  | none => y
  | some a =>
    if zn.st.active = false then y.drain z
    else if zn.wp < zn.phys * n.lpu then y.ctrlFinish z 4
    else y.setArea a (fun q => { q with fill := satAt q.fill (zn.wp - q.unit * n.lpu) })

/-- Mirrored areas are treated as vault recovery treats its own (R255 step 3): staged bytes beyond the write pointer are discarded, or where
they have been folded the zone is finished with cause 4. -/
def Dev.settleMirror (d : Dev) : Dev := d.each (d.zone.zones.map Prod.fst) Dev.settleMirrorZone

/-- Units issued and not confirmed are resolved by read-back once their dies report idle; those whose sled is away exist only through their
rows (R255 step 3). -/
def Dev.mirrorUnits (d : Dev) : Dev :=
  let units := d.zone.areas.flatMap (fun e => if e.2.st = .free then [] else e.2.flight.map (fun j => (e.2.zone, e.2.accRow.getD 0, j)))
  d.each units (fun x u =>
    let z := u.1
    let rs := u.2.1
    let j := u.2.2
    let n := x.zns z
    let s := n.sledOf j rs
    match (x.zn z).groupOf rs with
    | none => x
    | some g =>
      if (x.port s).st ≠ .up ∨ hasBit x.peer.fenceLost s = true ∨ g.blockOn s = 0x1FFF ∨ g.missing.contains s = true then x.unitSkipped z rs j
      else
        let rb : ReadBack := { left := 0, good := true, wl := rs % 768, use := .unit z rs j }
        let y := x.setDie (dieKey s g.pos) (fun q => { q with st := .offline, wait := .poll })
        { y with media := { y.media with unconfirmed := y.media.unconfirmed.set (blkKey s g.pos (g.blockOn s)) rb } })

/-- The vault, the journal and the anchor of the other controller are not this one's: their blocks wait for an erase, the tables become this
controller's checkpoint, and it takes blocks of its own. -/
def Dev.newVault (d : Dev) : Dev :=
  let vs := (d.media.blocks.filter (fun e => e.2.st == .vault)).map Prod.fst
  let d1 := d.each vs (fun x b => x.releaseBlk b)
  let ck : Ckpt := { num := d1.valt.ckptNum, begin_ := d1.valt.nextSeq, nss := d1.zone.nss, zones := d1.zone.zones, blocks := d1.media.blocks
                     retired := d1.retiredDies }
  { d1 with valt := { d1.valt with anchor := Anchor.reset, image := none, unsealedNum := 0, ring := [], flash := [], pages := 0, triples := [], nextTriple := []
                                   ckptOn := none, ckptNew := none, ckpt := some ck } }

/-- The PFs of this controller, as port × 256. -/
def Dev.pfs (d : Dev) : List Nat := if d.portMode = 0 then [0] else [0, 256]

/-- Functions that waited for the recovery become ready. -/
def Dev.readyFns (d : Dev) : Dev :=
  d.each d.fnList (fun x e =>
    x.setFn e.1 e.2 (fun f => if f.wantRdy ∧ (e.2 = 0 ∨ x.partitioned) then { f with rdy := true, wantRdy := false } else f))

/-- Namespaces are attached to the PFs, with Namespace Attribute Changed (R25, R255 step 4). -/
def Dev.attachAll (d : Dev) : Dev :=
  d.each (d.zone.nss.map Prod.fst) (fun x n => (x.modNs n (fun v => { v with attached := x.pfs })).tellNs n x.pfs)

/-- Steps 2 to 4 of a takeover (R255), once every FENCE SET has been answered.  Where no heartbeat has told the peer's base mode, STANDALONE
is entered (DESIGN CHOICE, log entry 70).  Every position cursor starts over (R82). -/
def Dev.takeoverFinish (d : Dev) : Dev :=
  match d.peer.taking with
  | none => d
  | some (kind, start) =>
    let lost := d.adoptedSleds.filter (fun s => !d.peer.won.contains s)
    let base := d.peer.peerBase.getD .standalone
    let p := { d.peer with taking := none, fencing := [], standby := false, checking := false, wasMirrored := false, early := [], fenceLost := maskOf lost
                           takeovers := d.peer.takeovers + 1, ackedSeq := 0 }
    let d1 := (({ d with peer := p }).newSeries).setPair .solo 4
    let d2 := ({ d1 with sysc := { d1.sysc with base := some base, ret := none } }).storeModes
    let d3 := (d2.markUncertain.confirmRows.mirrorUnits.settleMirror.newVault).resumeAreas
    let d4 := ((d3.resetCursors.settleMembers []).eraseWaiting.poolService).vaultRefresh
    let d5 := ({ d4 with host := { d4.host with recovered := true } }).setMode base
    let d6 := (if base = .partitioned then d5.makePartitions else d5).readyFns.attachAll
    let won := d.peer.won.length
    match kind with
    | .planned => d6.raise pPEER 6 [won, (d.now - start) / 1000]
    | .auto => d6.raise pPEER 3 [won, lost.length, 0, (d.now - start) / 1000000]
    | .forced => d6.raise pPEER 3 [won, lost.length, 1, (d.now - start) / 1000000]

/-- Step 1 of a takeover: FENCE SET to every adopted sled. -/
def Dev.takeoverStart (d : Dev) (k : TakeoverKind) : Dev :=
  let ss := d.reachedSleds
  let d1 := { d with peer := { d.peer with taking := some (k, d.now), fencing := ss, won := [], checking := false } }.modeBusy
  let d2 := d1.each ss (fun x s => x.fence s 1 (x.port s).token (x.nextToken s))
  if ss = [] then d2.takeoverFinish else d2

/-- A FENCE SET has been answered, or its sled can no longer be reached. -/
def Dev.fenced (d : Dev) (s : Nat) (won : Bool) : Dev :=
  if d.peer.fencing.contains s then
    let f := d.peer.fencing.filter (· != s)
    let d1 := { d with peer := { d.peer with fencing := f, won := if won then d.peer.won ++ [s] else d.peer.won } }
    if f = [] then d1.takeoverFinish else d1
  else d

/-! ## Planned handover (R257) -/

/-- The old active becomes the standby (R257 step 5): its namespaces are detached, its areas and queues are the peer's to mirror from now
on, and PEER-STANDBY is stored.  The streams that end with it have no cause of event 0x2108's table; 0 is told (DESIGN CHOICE, log entry
71). -/
def Dev.becomeStandby (d : Dev) : Dev :=
  let d1 := d.each (d.zone.nss.map Prod.fst) (fun x n =>
    let was := ((x.ns n).map Ns.attached).getD []
    (x.modNs n (fun v => { v with attached := [] })).tellNs n was)
  let d2 := (d1.endStreams 0 (fun _ => true)).dropCopies (fun _ => true)
  let d3 := { d2 with
    zone := { d2.zone with areas := [], zones := d2.zone.zones.mapVals (fun _ z => { z with area := none, cmds := [], slice := none }) }
    media := { d2.media with dies := d2.media.dies.mapVals (fun _ x => { x with queue := [] }), unconfirmed := [] }
    prty := { d2.prty with jobs := [], running := none, rebuild := none, targets := [] }
    valt := { d2.valt with ring := [], ckptOn := none, ckptNew := none }
    peer := { d2.peer with standby := true, handover := none, wasMirrored := false, checking := false, ackedSeq := 0, peerBase := d2.sysc.ret }
    sysc := { d2.sysc with base := some .peerStandby, ret := none, service := none } }
  let d4 := if d3.ten.active then d3.dropPartitions else d3
  ((d4.newSeries).setPair .solo 4).storeModes.setMode .peerStandby

/-- A handover that can no longer be made is abandoned: event 0x2807, and the return mode goes on. -/
def Dev.abandonHandover (d : Dev) : Dev :=
  (({ d with peer := { d.peer with handover := none } }).raise pPEER 7 [2]).leaveService

end Sys2Proof.Machine
end

