-- ==== Sys2Proof/Machine/HostQueue.lean ====
section
/-! DEFINITION. The commands of HOST's queues: doorbells, fetching with the checks of R316, host data, completions and interrupts (R295 to
R301, R311 to R324, R337). -/

namespace Sys2Proof.Machine

/-! ## Doorbells (R314, R337, R356) -/

/-- A doorbell reaches a function: it votes or wakes (R337, R472), and a controller in PS3 or PS4 returns to its last operational state. -/
def Dev.doorbell (d : Dev) (port fn : Nat) : Dev :=
  let d1 := d.setFn port fn (fun f => { f with idleAt := d.now, ps := if 3 ≤ f.ps then f.lastPs else f.ps })
  (d1.wakeIn port (pHOST port)).idleCheck

/-- The slice under which a queue's commands run (R346). -/
def Dev.sliceOfSq (d : Dev) (port fn q : Nat) : Option Nat :=
  if fn = 0 ∨ d.ten.active = false then none
  else
    let i := if q = 0 then 0 else ((d.fn port fn).binds.get SqBind.reset q).index
    some (64 * d.partOfFn port fn + i)

/-- SQ_TAIL_DOORBELL (R337, R356). -/
def Dev.sqTailDoorbell (d : Dev) (port fn q tail : Nat) (pasid : Option Nat) : Dev :=
  match (d.fn port fn).sqs.find q with
  | none => d
  | some sq =>
    if (d.fn port fn).en = false ∨ sq.size ≤ tail then d
    else
      let refused : Option Nat := match d.sliceOfSq port fn q with
        | some s => if q ≠ 0 ∧ (d.slice s).refuses pasid = true then some s else none
        | none => none
      match refused with
      | some s => d.strictEvent s (0x1000 + 8 * q) pasid 0
      | none => (d.setFn port fn (fun f => { f with sqs := f.sqs.modify q (fun x => { x with tail := tail }) })).doorbell port fn

/-- CQ_HEAD_DOORBELL (R314). -/
def Dev.cqHeadDoorbell (d : Dev) (port fn q head : Nat) : Dev :=
  match (d.fn port fn).cqs.find q with
  | none => d
  | some cq =>
    if (d.fn port fn).en = false ∨ cq.size ≤ head then d
    else (d.setFn port fn (fun f => { f with cqs := f.cqs.modify q (fun x => { x with head := head }) })).doorbell port fn

/-! ## The checks of R316 -/

/-- Commands of the admin set. -/
def NvCmd.admin : NvCmd → Bool
  | .read .. | .write .. | .writeZeroes .. | .zoneAppend .. | .flush | .zoneSend .. | .zoneReceive .. => false
  | _ => true

/-- Commands that the PF alone may send (R305). -/
def NvCmd.pfOnly : NvCmd → Bool
  | .nsCreate _ | .nsDelete | .nsAttach .. | .virtMgmt .. | .fwDownload .. | .fwCommit .. | .sanitize _ => true
  | _ => false

/-- Commands that RECOVERY accepts (R309), with those whose own rules refuse them there with code 7 (R332, R412). -/
def NvCmd.inRecovery : NvCmd → Bool
  | .identify .. | .setFeatures _ | .getFeatures _ | .asyncEvent | .abort .. | .createSq .. | .createCq .. | .deleteSq _ | .deleteCq _
  | .fwDownload .. | .fwCommit .. | .sanitize _ => true
  | .getLog lid _ _ _ => lid == 1 || lid == 3 || lid == 7
  | _ => false

/-- Check 1: the opcode. -/
def Dev.checkOpcode (d : Dev) (fn q : Nat) (c : NvCmd) : Option Nat :=
  if d.fsto.recovery = true ∧ c.inRecovery = false then some 0x00C
  else match c with
    | .other _ => some 0x001
    | _ => if (c.admin != (q == 0)) || (c.pfOnly && fn != 0) then some 0x001 else none

/-- A namespace as a function sees it: none, not attached, or one of a standby. -/
def Dev.nsAt (d : Dev) (port fn nsid : Nat) : Option Nat :=
  match d.ns nsid with
  | none => some 0x00B
  | some n => if d.sysc.cur = .peerStandby then some 0x082 else if n.attached.contains (port * 256 + fn) then none else some 0x00B

/-- Check 2: the namespace, for I/O commands; a Sanitize refuses every one of them (R412), and PEER-STANDBY those of the pair's (R309). -/
def Dev.checkNs (d : Dev) (port fn : Nat) (e : Sqe) : Option Nat :=
  if e.cmd.admin then none
  else if d.cryp.san.isSome then some 0x01D
  else
    match e.cmd with
    | .flush => if e.nsid = 0xFFFFFFFF then none else d.nsAt port fn e.nsid
    | _ => d.nsAt port fn e.nsid

/-- Check 3: fields. -/
def Sqe.checkFields (e : Sqe) : Option Nat :=
  if e.badAt.isSome ∨ (e.cmd.admin = true ∧ e.psdt = true) then some 0x002 else none

/-- Check 4: the transfer's length (R303, R323). -/
def NvCmd.checkLength : NvCmd → Option Nat
  | .read _ n _ | .write _ n _ | .zoneAppend _ n _ => if 512 < n then some 0x002 else none
  | _ => none

/-- Check 5: the LBA range against NSZE (R55). -/
def Dev.checkRange (d : Dev) (e : Sqe) : Option Nat :=
  let n := (d.ns e.nsid).getD Ns.absent
  let nsze := n.zones * n.zsze
  match e.cmd with
  | .read s k _ | .write s k _ | .writeZeroes s k _ | .zoneAppend s k _ => if nsze < s + k then some 0x080 else none
  | .zoneSend s _ all _ => if all = false ∧ nsze ≤ s then some 0x080 else none
  | .zoneReceive s _ _ _ _ => if nsze ≤ s then some 0x080 else none
  | _ => none

/-- Whether protection information is generated or stripped, so that its 8 bytes are no part of the transfer (R324). -/
def Ns.piLocal (n : Ns) (pr : PrInfo) : Bool := pr.act && n.pi != 0 && n.meta_ == 8

/-- Bytes of metadata that a command transfers for each block. -/
def Ns.metaMoved (n : Ns) (c : NvCmd) : Nat :=
  match c with
  | .read _ _ pr | .write _ _ pr | .zoneAppend _ _ pr => if n.piLocal pr then 0 else n.meta_
  | _ => n.meta_

/-- Check 6: the data pointer (R320 to R322). -/
def Dev.checkPtr (d : Dev) (e : Sqe) : Option Nat :=
  match e.ptr with
  | .prp ok => if ok then none else some 0x013
  | .sgl ds md =>
    let n := (d.ns e.nsid).getD Ns.absent
    let isRead : Bool := match e.cmd with | .read .. => true | _ => false
    let moves : Bool := match e.cmd with | .read .. | .write .. | .zoneAppend .. => true | _ => false
    let bad : Bool := ds.any (fun x => match x.1 with | .keyed | .transport => true | .bitBucket => !isRead | _ => false)
    let sum := (ds.map (fun x => match x.1 with | .data | .bitBucket => x.2 | _ => 0)).sum
    let k := e.cmd.nlb
    if 1024 < ds.length then some 0x00E
    else if bad then some 0x011
    else if moves = true ∧ (sum < k * 4096 ∨ sum + md < k * (4096 + n.metaMoved e.cmd)) then some 0x00F
    else none

/-- Another command of the queue with this CID is held. -/
def Dev.cidHeld (d : Dev) (port fn q cid : Nat) : Bool :=
  d.host.ctxs.any (fun x => ctxPort x.1 == port && x.2.fn == fn && x.2.sq == q && x.2.e.cid == cid)

/-- The first check that fails (R316). -/
def Dev.checkSqe (d : Dev) (port fn q : Nat) (e : Sqe) : Option Nat :=
  if d.cidHeld port fn q e.cid then some 0x003
  else ((d.checkOpcode fn q e.cmd).or (d.checkNs port fn e)).or ((e.checkFields.or e.cmd.checkLength).or ((d.checkRange e).or (d.checkPtr e)))

/-! ## COMMAND_FETCH (R312, R313, R345 to R350) -/

/-- What a fetch takes: the slice and the lender, or a reason to pass the queue over. -/
inductive FetchEnd where
  | take (slice lender : Option Nat)
  /-- No context: counted for a partition where there is one. -/
  | noCtx (part : Option Nat)
  /-- The PF has reached its limit (R347). -/
  | limit

/-- Whether a context is free for a queue, and whose it is (R312, R345, R347). -/
def Dev.fetchFor (d : Dev) (port fn q : Nat) : FetchEnd :=
  if d.ctxTotal port ≤ d.ctxHeld port then .noCtx none
  else
    match d.sliceOfSq port fn q with
    | some s => if (d.slice s).heldCtx < (d.slice s).ctxLimit then .take (some s) none else .noCtx (some (s / 64))
    | none =>
      if d.ten.active = false then .take none none
      else if d.rf pPART 0x110 0 13 ≤ d.pfCtxs port then .limit
      else match d.lenderOf port with
        | some s => .take none (some s)
        | none => .noCtx none

/-- HOST may fetch from a queue: its controller is ready and nothing has stopped fetching (R273, R326, R329, R331, R333, R355, R467). -/
def Dev.fetchOpen (d : Dev) (port fn q : Nat) : Bool :=
  let f := d.fn port fn
  f.en && f.rdy && !f.stopping && !d.host.stopped && d.host.act == .idle && d.peer.handover.isNone && d.valt.st == .idle && d.sysc.cur != .dormant
    && !(d.hport port).perst && !(q != 0 && (f.binds.get SqBind.reset q).held)

/-- The class of a command (R92). -/
def Dev.cmdClass (d : Dev) (slice : Option Nat) : Cls :=
  d.classOf d.sysc.epoch (match slice with | some s => { pf := false, slice := s, gen := 0 } | none => { pf := true, slice := 0, gen := 0 })

/-- An entry is fetched into a context, with its stamp (R10), and checked. -/
def Dev.admitCmd (d : Dev) (port fn q : Nat) (e : Sqe) (slice lender : Option Nat) : Dev :=
  let c := d.host.ctxs.fresh 65536 (port * 65536)
  let st := d.checkSqe port fn q e
  let gen := match slice with | some s => (d.slice s).gen | none => 0
  let x : Ctx :=
    { fn := fn, sq := q, e := e, st := if st.isSome then .committed else .executing, slice := slice, gen := gen, epoch := d.sysc.epoch, lender := lender
      cls := d.cmdClass slice, admitted := d.now, order := d.host.nextFetch, deadline := 0, begun := false, status := st.getD 0, dnr := dnrOf (st.getD 0), dw0 := 0, marked := false
      dmaDone := false, data := [], got := [], path := 0, left := 0, stalled := false, recorded := false, psn := none }
  let d1 := { d with host := { d.host with ctxs := d.host.ctxs.set c { x with dnr := st.isSome && x.dnr }, nextFetch := d.host.nextFetch + 1 } }
  let d2 := d1.setFn port fn (fun f => { f with sqs := f.sqs.modify q (fun s => { s with head := (s.head + 1) % s.size }) })
  let d3 := match slice, lender with
    | some s, _ => d2.setSlice s (fun y => { y with heldCtx := y.heldCtx + 1, fetched := y.fetched + 1 })
    | none, some s => d2.setSlice s (fun y => { y with heldCtx := y.heldCtx + 1 })
    | none, none => d2
  let d4 := d3.count (pHOST port) 0x12C 1
  if st = some 0x00F then d4.count (pHOST port) 0x144 1 else d4

/-- COMMAND_FETCH: the entry at the head of an SQ, as host memory holds it. -/
def Dev.commandFetch (d : Dev) (port fn q : Nat) (e : Sqe) : Dev :=
  match (d.fn port fn).sqs.find q with
  | none => d
  | some sq =>
    if d.fetchOpen port fn q = false ∨ sq.head = sq.tail ∨ sq.deleting.isSome = true then d
    else
      match d.fetchFor port fn q with
      | .noCtx none => d
      | .noCtx (some p) => d.setPart p (fun x => { x with ctxWait := x.ctxWait + 1 })
      | .limit =>
        if d.ten.pfTold.contains port then d
        else ({ d with ten := { d.ten with pfTold := d.ten.pfTold ++ [port] } }).raise pPART 3 [port, d.pfCtxs port, d.pfAreas port]
      | .take slice lender =>
        let a := d.applyEpoch (pHOST port)
        let a1 := if lender.isSome then { a with ten := { a.ten with pfTold := a.ten.pfTold.filter (· != port) } } else a
        match slice with
        | none => a1.admitCmd port fn q e slice lender
        | some s =>
          let p := s / 64
          let cost := a1.tokenCost e.cmd
          let b := a1.payTokens p cost
          if b.2 = 0 then b.1.admitCmd port fn q e slice lender
          else (d.setPart p (fun x => { x with tokWait := x.tokWait + 1 })).raise pPART 4 [p, (d.part p).avail, cost, (d.lenders p).length]

/-! ## Host data (R301, R313, R322, R324) -/

/-- The protection checks of a transfer: the status of the first block that fails. -/
def Ns.checkData (n : Ns) (c : NvCmd) (data : List Byte) : Option Nat :=
  let run (pr : PrInfo) : Option Nat :=
    ((chunks c.nlb n.blockBytes data).mapIdx (fun i b => piCheck n.pi n.guard pr i (b.take 4096) (b.drop 4096))).foldl (fun a x => a.or x) none
  match c with
  | .read _ _ pr => run pr
  | .write _ _ pr => if pr.act then none else run pr
  | .zoneAppend z _ pr =>
    if pr.act then none
    else if n.pi = 1 ∧ pr.ref = true ∧ pr.first % 256 ^ refLen n.guard ≠ z % 256 ^ refLen n.guard then some 0x284 else run pr
  | _ => none

/-- The blocks of a write as they enter the pipeline: with PRACT 1 the controller's protection information is put in its place. -/
def Ns.writeData (n : Ns) (c : NvCmd) (data : List Byte) : List Byte :=
  let gen (pr : PrInfo) : List Byte :=
    if pr.act = true ∧ n.pi ≠ 0 then
      let size := 4096 + n.metaMoved c
      ((chunks c.nlb size data).mapIdx (fun i b =>
        let p := piBytes n.guard (b.take 4096) pr.tag (refOf n.pi pr.first i n.guard)
        b.take 4096 ++ fitBytes n.meta_ (p ++ b.drop (4096 + p.length)))).flatten
    else data
  match c with | .write _ _ pr => gen pr | .zoneAppend _ _ pr => gen pr | _ => data

/-- The bytes of a read that go to the host. -/
def Ns.readData (n : Ns) (c : NvCmd) (data : List Byte) : List Byte :=
  match c with
  | .read _ k pr => if n.piLocal pr then (chunks k n.blockBytes data).flatMap (fun b => b.take 4096) else data
  | _ => data

/-- HOST_DMA_COMPLETE: the data of a write has come, with the pages translated under ATS; or the data of a read, all of which is ready, has
been written to the host. -/
def Dev.hostDmaComplete (d : Dev) (c : Nat) (data : List Byte) (pages : List Nat) : Dev :=
  match d.ctx c with
  | none => d
  | some x =>
    let port := ctxPort c
    let n := (d.ns x.e.nsid).getD Ns.absent
    let pasid := match x.slice with | some s => (d.slice s).pasid | none => 0
    let seen := pages.map (fun p => (pasid, p))
    let d0 := if (d.fn port x.fn).ats then d.setFn port x.fn (fun f => { f with atc := f.atc ++ seen.filter (fun p => !f.atc.contains p) }) else d
    if x.st ≠ .executing ∨ x.dmaDone = true then d
    else
      match x.e.cmd with
      | .write _ k _ | .zoneAppend _ k _ =>
        if data.length ≠ k * (4096 + n.metaMoved x.e.cmd) then d
        else
          match n.checkData x.e.cmd data with
          | some s => d0.endFailed c 2 s
          | none => d0.modCtx c (fun y => { y with dmaDone := true, data := n.writeData x.e.cmd data })
      | .read _ k _ =>
        if x.begun = false ∨ x.left ≠ 0 ∨ x.data.length ≠ k * n.blockBytes then d
        else
          let d1 := (d0.modCtx c (fun y => { y with dmaDone := true })).emit (.hostData port x.fn (if pasid = 0 then none else some pasid) (n.readData x.e.cmd x.data))
          (match n.checkData x.e.cmd x.data with
           | some s => d1.commitCtx c s true 0
           | none => d1.done c)
      | _ => d

/-- DMA_ERROR (R301, R317, R340): the kinds of `DMA_ERR_INFO`, 1 translation refused to 5 timeout. -/
def Dev.dmaError (d : Dev) (c kind addr : Nat) : Dev :=
  match d.ctx c with
  | none => d
  | some x =>
    if x.st ≠ .executing ∨ x.dmaDone = true then d
    else
      let port := ctxPort c
      let page := pHOST port
      let pasid := match x.slice with | some s => (d.slice s).pasid | none => 0
      let d1 := (d.count page 0x148 1).raise page 5 [x.fn, pasid, kind, addr % 4294967296]
      let d2 := if (d.hport port).dmaArmed then
          (((d1.setCell page 0x14C (u32 addr)).setCell page 0x150 (u32 (addr / 4294967296))).setCell page 0x154
            (u32 (kind % 16 * 2 ^ 28 + x.fn % 128 * 2 ^ 20 + pasid % 2 ^ 20))).setHport port (fun h => { h with dmaArmed := false })
        else d1
      d2.endFailed c 2 0x004

/-- DMA_ERR_INFO_READ (R340). -/
def Dev.dmaErrInfoRead (d : Dev) (port master : Nat) : Dev :=
  d.onRead (pHOST port) 0x154 master (fun x =>
    (((x.emit (.word (x.cell (pHOST port) 0x154) false)).setCell (pHOST port) 0x154 0).setHport port (fun h => { h with dmaArmed := true })))

/-! ## Completions (R115, R313, R314, R319, R326) -/

/-- A command that completes after its deadline is a miss (R115). -/
def Dev.noteMiss (d : Dev) (x : Ctx) : Dev :=
  if x.deadline = 0 ∨ d.now ≤ x.deadline then d
  else
    let ps := [x.slice.getD 0xFFFFFFFF, x.e.nsid, (d.now - x.deadline) / 1000, x.path]
    match x.cls with
    | .a => (d.count pSCHD 0x1B8 1).raise pSCHD 1 ps
    | .b => (d.count pSCHD 0x1BC 1).raise pSCHD 2 ps
    | .c => d

/-- The byte and bit of the parameter that checks 3 to 6 found wrong, by the layout of an NVMe entry. -/
def Sqe.badParam (e : Sqe) (status : Nat) : Option (Nat × Nat) :=
  if status = 0x002 then (match e.badAt with | some p => some p | none => if e.psdt ∧ e.cmd.admin then some (1, 6) else some (48, 0))
  else if status = 0x080 then some (40, 0)
  else if status = 0x00E ∨ status = 0x00F ∨ status = 0x011 ∨ status = 0x013 then some (24, 0)
  else none

/-- The Error Information entry of a command that did not succeed (R319): the newest 256 are kept. -/
def Dev.logError (d : Dev) (port : Nat) (x : Ctx) : Dev :=
  if x.status = 0 then d
  else d.setFn port x.fn (fun f =>
    let e : ErrEntry := { count := f.errCount + 1, sq := x.sq, cid := x.e.cid, status := x.status, loc := x.e.badParam x.status, lba := x.e.cmd.slba, nsid := x.e.nsid }
    { f with errs := (e :: f.errs).take 256, errCount := f.errCount + 1 })

/-- CQ_ENTRY_POST: a COMMITTED context that waits for no acknowledgement, with room in its CQ. -/
def Dev.cqEntryPost (d : Dev) (c : Nat) : Dev :=
  match d.ctx c with
  | none => d
  | some x =>
    let port := ctxPort c
    let f := d.fn port x.fn
    let qid := ((f.sqs.find x.sq).map (fun (s : Sq) => s.cq)).getD 0
    match f.cqs.find qid with
    | none => d
    | some cq =>
      if x.st ≠ .committed ∨ d.acked x.psn = false ∨ d.valt.st ≠ .idle then d
      else if (cq.tail + 1) % cq.size = cq.head then
        if x.stalled then d else (d.count (pHOST port) 0x158 1).modCtx c (fun y => { y with stalled := true })
      else
        let nt := (cq.tail + 1) % cq.size
        let d1 := ((d.noteMiss x).logError port x).emit (.cqe port x.fn qid x.sq x.e.cid x.status (x.status != 0 && x.dnr) cq.phase x.dw0)
        let d2 := d1.setFn port x.fn (fun g => { g with cqs := g.cqs.modify qid (fun q => { q with tail := nt, phase := if nt = 0 then !q.phase else q.phase }) })
        let d3 := ((d2.count (pHOST port) 0x130 1).freeCtx c).cqSignal port x.fn qid
        (((d3.sqGone port x.fn x.sq).shutDone port x.fn).epochRetire).sanStep

/-! ## Interrupts and translations (R295, R299, R306) -/

/-- MSIX_UNMASK: of a vector, or of the function; what is pending and no longer masked is sent. -/
def Dev.msixUnmask (d : Dev) (port fn : Nat) (vec : Option Nat) : Dev :=
  let d1 := d.setFn port fn (fun f => match vec with
    | some v => { f with masked := f.masked.filter (· != v) }
    | none => { f with msiMask := false })
  let f := d1.fn port fn
  if f.msiMask then d1
  else
    let go := f.pba.filter (fun v => !f.masked.contains v)
    (d1.setFn port fn (fun g => { g with pba := g.pba.filter (fun v => g.masked.contains v) })).each go (fun x v => x.emit (.msix port fn v))

/-- INTERRUPT_COALESCING_TIMEOUT: the held message of a CQ is sent. -/
def Dev.coalescingTimeout (d : Dev) (port fn q : Nat) : Dev :=
  match (d.fn port fn).cqs.find q with
  | some cq =>
    if cq.coal = 0 then d
    else (d.setFn port fn (fun f => { f with cqs := f.cqs.modify q (fun x => { x with coal := 0 }) })).signal port fn cq.vec
  | none => d

/-- ATS_INVALIDATE_REQUEST (R295): the translations named are dropped, and the completion answers. -/
def Dev.atsInvalidate (d : Dev) (port fn pasid : Nat) (pages : List Nat) : Dev :=
  (d.setFn port fn (fun f => { f with atc := f.atc.filter (fun p => !(p.1 == pasid && pages.contains p.2)) })).emit (.invalidated port fn)

end Sys2Proof.Machine
end

