-- ==== Sys2Proof/Machine/HostAdmin.lean ====
section
/-! DEFINITION. The admin commands (R303 to R311, R325 to R327, R403, R411, R412, R305): queues, Identify, logs, features, events, Abort,
namespaces and Sanitize. -/

namespace Sys2Proof.Machine

/-! ## Queues (R311, R326, R327) -/

/-- The status with which a queue's identifier and size are refused. -/
def queueRefusal (allot qid size : Nat) (used : Bool) : Option Nat :=
  if qid = 0 ∨ allot < qid ∨ used = true then some 0x101
  else if size < 2 ∨ 16384 < size then some 0x102
  else none

/-- CREATE_IO_SQ. -/
def Dev.createIoSq (d : Dev) (c : Nat) : Dev :=
  match d.fresh c with
  | none => d
  | some x =>
    match x.e.cmd with
    | .createSq qid size cqid contiguous =>
      let port := ctxPort c
      let f := d.fn port x.fn
      let a := d.begin_ c
      if contiguous = false then a.fail c 0x002
      else
        match queueRefusal f.allot qid size (f.sqs.find qid).isSome with
        | some st => a.fail c st
        | none =>
          if cqid = 0 ∨ (f.cqs.find cqid).isNone = true then a.fail c 0x100
          else (a.setFn port x.fn (fun g => { g with sqs := g.sqs.set qid (Sq.mk cqid size 0 0 none) })).done c
    | _ => d

/-- CREATE_IO_CQ. -/
def Dev.createIoCq (d : Dev) (c : Nat) : Dev :=
  match d.fresh c with
  | none => d
  | some x =>
    match x.e.cmd with
    | .createCq qid size vec ien contiguous =>
      let port := ctxPort c
      let f := d.fn port x.fn
      let a := d.begin_ c
      if contiguous = false then a.fail c 0x002
      else
        match queueRefusal f.allot qid size (f.cqs.find qid).isSome with
        | some st => a.fail c st
        | none =>
          if 2047 < vec then a.fail c 0x108
          else (a.setFn port x.fn (fun g => { g with cqs := g.cqs.set qid (Cq.mk size 0 0 true vec ien 0 0) })).done c
    | _ => d

/-- DELETE_IO_SQ (R326): fetching stops, every context is marked at once, those not COMMITTED are abandoned with 0/08h, and the deletion
completes when every entry has been written. -/
def Dev.deleteIoSq (d : Dev) (c : Nat) : Dev :=
  match d.fresh c with
  | none => d
  | some x =>
    match x.e.cmd with
    | .deleteSq qid =>
      let port := ctxPort c
      let f := d.fn port x.fn
      let a := d.begin_ c
      (match f.sqs.find qid with
       | none => a.fail c 0x101
       | some sq =>
         if qid = 0 ∨ sq.deleting.isSome = true then a.fail c 0x101
         else
           let mine := (d.host.ctxs.filter (fun e => ctxPort e.1 == port && e.2.fn == x.fn && e.2.sq == qid))
           let stood := (mine.filter (fun e => e.2.st == .committed)).length
           let go := (mine.filter (fun e => e.2.st != .committed)).map Prod.fst
           let a1 := a.setFn port x.fn (fun g => { g with sqs := g.sqs.modify qid (fun s => { s with head := s.tail, deleting := some (c, go.length, stood) }) })
           let a2 := a1.each (mine.map Prod.fst) (fun y k => y.modCtx k (fun v => { v with marked := true }))
           let a3 := a2.each go (fun y k => y.endFailed k 1 0x008)
           ((a3.count (pHOST port) 0x138 go.length).count (pHOST port) 0x13C stood).sqGone port x.fn qid)
    | _ => d

/-- DELETE_IO_CQ (R327). -/
def Dev.deleteIoCq (d : Dev) (c : Nat) : Dev :=
  match d.fresh c with
  | none => d
  | some x =>
    match x.e.cmd with
    | .deleteCq qid =>
      let port := ctxPort c
      let f := d.fn port x.fn
      let a := d.begin_ c
      if qid = 0 ∨ (f.cqs.find qid).isNone = true then a.fail c 0x101
      else if f.sqs.any (fun e => e.2.cq == qid) then a.fail c 0x10C
      else (a.setFn port x.fn (fun g => { g with cqs := g.cqs.del qid })).done c
    | _ => d

/-! ## Identify (R303, R304) -/

def bit (b : Bool) (n : Nat) : Nat := if b then n else 0

/-- Identify Controller, and the Zoned Namespace structure's ZASL. -/
def Dev.idCtrl (d : Dev) (port fn : Nat) : List (String × Nat) :=
  [("VID", 0x1F5C), ("SSVID", ofLe (cut d.sysc.manifest.pcie 0 2)), ("SSID", ofLe (cut d.sysc.manifest.pcie 2 2)), ("SUBNQN", ofLe (cut d.sysc.manifest.pcie 4 256)), ("MDTS", 9), ("CNTLID", d.cntlid port fn), ("VER", 0x20000), ("RTD3R", 15000000), ("RTD3E", 200000),
   ("CMIC", bit (d.portMode == 1) 1 + 6), ("OACS", 0x8C), ("ACL", 3), ("AERL", 7), ("FRMW", 0x14), ("LPA", 0x0E), ("ELPE", 255)]
  ++ [("NPSS", 4), ("APSTA", 1), ("MTFA", 2), ("SANICAP", 1), ("SQES", 0x66), ("CQES", 0x44), ("NN", 1024), ("ONCS", 8), ("VWC", 0), ("SGLS", 0x150001),
      ("MP0", 12000), ("MP1", 9000), ("MP2", 6000), ("MP3", 1400), ("MP4", 150), ("EXLAT3", 2000), ("ENLAT3", 1000), ("EXLAT4", 60000), ("ENLAT4", 40000)]

/-- What a function's configuration space identifies it by, and the sizes of its BARs in bytes (R2, R297, R298): the same in every mode. -/
def Dev.pciHeader (d : Dev) (fn : Nat) : List (String × Nat) :=
  [("VendorID", 0x1F5C), ("DeviceID", if fn = 0 then 0x1600 else 0x1601), ("RevisionID", 0xA1), ("ClassCode", 0x010802),
   ("SubsystemVendorID", ofLe (cut d.sysc.manifest.pcie 0 2)), ("SubsystemID", ofLe (cut d.sysc.manifest.pcie 2 2)),
   ("BAR0", if fn = 0 then 0x40000 else 0x4000), ("BAR2", if fn = 0 then 0x4000000 else 0), ("BAR4", 0x10000), ("MSIX", 2048)]

/-- The controller registers whose values are fixed (R302). -/
def nvmeRegs : List (String × Nat) :=
  [("CAP.MQES", 0x3FFF), ("CAP.CQR", 1), ("CAP.AMS", 0), ("CAP.TO", 120), ("CAP.DSTRD", 0), ("CAP.NSSRS", 0), ("CAP.CSS", 0x41),
   ("CAP.MPSMIN", 0), ("CAP.MPSMAX", 4), ("CAP.PMRS", 0), ("CAP.CMBS", 0), ("CAP.BPS", 0), ("VS", 0x20000)]

/-- The Zoned Namespace values that every namespace has alike (R58): variable capacity, excursions, read across boundaries, random write area,
and the recommended limits. -/
def zonedFields : List (String × Nat) :=
  [("ZOC.VZCAP", 0), ("ZOC.ZAE", 0), ("OZCS.RAZB", 1), ("OZCS.ZRWASUP", 0), ("RRL", 0), ("FRL", 0), ("RRL1", 0), ("RRL2", 0), ("RRL3", 0),
   ("FRL1", 0), ("FRL2", 0), ("FRL3", 0), ("ZDES", 1)]

/-- A namespace's figures (R53, R55, R58, R59, R304). -/
def Ns.idFields (n : Ns) : List (String × Nat) :=
  [("NSZE", n.zones * n.zsze), ("NCAP", n.zones * n.zcap), ("FLBAS", n.lbaf), ("DPS", bit (n.pi != 0) (8 + n.pi)), ("MC", 3), ("ZSZE", n.zsze), ("ZCAP", n.zcap), ("GROUPS", n.groups)]
  ++ zonedFields

/-- MAR and MOR of a function, 0's based (R59). -/
def Dev.marOf (d : Dev) (fn : Nat) (plc : Bool) : Nat :=
  let k := if d.partitioned = true ∧ fn ≠ 0 then 128 else 8192
  (if plc then k / 2 else k) - 1

/-- The NSIDs attached to a function, as PEER-STANDBY and RECOVERY expose none (R309). -/
def Dev.activeNs (d : Dev) (port fn : Nat) : List Nat :=
  if d.sysc.cur = .peerStandby ∨ d.fsto.recovery = true then []
  else (d.zone.nss.filter (fun e => e.2.attached.contains (port * 256 + fn))).map Prod.fst

/-- The structure that a CNS names. -/
def Dev.idReport (d : Dev) (port fn nsid cns : Nat) : Report :=
  let n := (d.ns nsid).getD Ns.absent
  if cns = 0 ∨ cns = 5 then
    .fields (if (d.activeNs port fn).contains nsid then n.idFields ++ [("MAR", d.marOf fn n.plc), ("MOR", d.marOf fn n.plc)] else [])
  else if cns = 1 then .fields (d.idCtrl port fn)
  else if cns = 2 then .list ((d.activeNs port fn).filter (fun k => nsid < k))
  else if cns = 3 then .fields [("CSI", 2), ("NSID", nsid)]
  else if cns = 6 then .fields [("ZASL", 9)]
  else if cns = 0x10 then .list ((d.zone.nss.map Prod.fst).filter (fun k => nsid < k))
  else if cns = 0x11 then .fields n.idFields
  else if cns = 0x12 then .list (n.attached.map (fun k => d.cntlid (k / 256) (k % 256)))
  else if cns = 0x13 then .list (d.fnList.map (fun k => d.cntlid k.1 k.2))
  else if cns = 0x14 then .fields [("CNTLID", d.cntlid port 0), ("VFS", if d.portMode = 0 then 64 else 32)]
  else if cns = 0x15 then .list ((d.fnList.filter (fun k => k.1 == port && k.2 != 0)).map (fun k => d.cntlid k.1 k.2))
  else .fields [("IOCS", 5)]

def knownCns : List Nat := [0, 1, 2, 3, 5, 6, 0x10, 0x11, 0x12, 0x13, 0x14, 0x15, 0x1C]

/-- IDENTIFY. -/
def Dev.identify (d : Dev) (c : Nat) : Dev :=
  match d.fresh c with
  | none => d
  | some x =>
    match x.e.cmd with
    | .identify cns _ _ =>
      let port := ctxPort c
      let a := d.begin_ c
      if knownCns.contains cns = false then a.fail c 0x002
      else if (cns = 0 ∨ cns = 3 ∨ cns = 5 ∨ cns = 0x11 ∨ cns = 0x12) ∧ (x.e.nsid = 0 ∨ 1024 < x.e.nsid) then a.fail c 0x00B
      else (a.emit (.report port x.fn (d.idReport port x.fn x.e.nsid cns))).done c
    | _ => d

/-! ## Logs (R307, R319) -/

/-- The composite temperature in kelvin: *Tj* rounded to the nearest (R307, R500). -/
def Dev.composite (d : Dev) : Nat := ((100 * d.thrm.tj + 437840 + 800) / 1600).toNat

/-- Available Spare (R307): the lowest reserve left of any die of a member sled, in percent of SPARE_RESV. -/
def Dev.availSpare (d : Dev) : Nat :=
  let members := d.zone.nss.flatMap (fun e => e.2.members)
  let left := (d.media.dies.filter (fun e => members.contains (e.1 / 256) && d.diePresent e.1)).map (fun e => d.reserveLeft e.1)
  let resv := d.rf pMEDI 0x80C 0 13
  let pct := if resv = 0 then 100 else (left.foldl (fun a y => if y < a then y else a) resv) * 100 / resv
  if 100 < pct then 100 else pct

/-- The content of a log page; Telemetry's is in Uanemet's own format, of which only the sizes are given. -/
def Dev.logReport (d : Dev) (port fn lid : Nat) : Option Report :=
  let f := d.fn port fn
  if lid = 1 then some (.errors f.errs)
  else if lid = 2 then some (.fields [("CRITICAL", d.warnBits), ("TEMPERATURE", d.composite), ("SPARE", d.availSpare), ("THRESHOLD", 25), ("POWER_CYCLES", d.clkr.pwrCycles), ("HOURS", d.clkr.opHours)])
  else if lid = 3 then some (.fields [("ACTIVE", d.fsto.bank + 1), ("NEXT", d.fsto.nextBank + 1), ("SLOT1", d.fsto.slotVer.getD 0 0), ("SLOT2", d.fsto.slotVer.getD 1 0)])
  else if lid = 4 then some (.list f.changedNs)
  else if lid = 5 then some (.list [0x00, 0x01, 0x02, 0x04, 0x05, 0x06, 0x08, 0x09, 0x0A, 0x0C, 0x0D, 0x10, 0x11, 0x15, 0x1C, 0x84, 0x100, 0x101, 0x102, 0x108, 0x179, 0x17A, 0x17D])
  else if lid = 7 ∨ lid = 8 then some (.fields [("AREA1", 65536), ("AREA2", 4194304), ("AREA3", 16777216), ("SNAPSHOTS", d.host.telemetry)])
  else if lid = 0x81 then some (.fields [("STATUS", if d.cryp.san.isSome then 2 else if (d.cfgRead 6 0).isSome then 1 else 0), ("CRYPTO_SECONDS", 10)])
  else if lid = 0xBF then some (.list f.changedZones)
  else none

/-- GET_LOG_PAGE; the lists of what has changed are empty once they have been read. -/
def Dev.getLogPage (d : Dev) (c : Nat) : Dev :=
  match d.fresh c with
  | none => d
  | some x =>
    match x.e.cmd with
    | .getLog lid rae _ _ =>
      let port := ctxPort c
      let a := d.begin_ c
      (match d.logReport port x.fn lid with
       | none => a.fail c 0x109
       | some r =>
         let a1 := if rae then a else a.setFn port x.fn (fun f =>
           { f with changedNs := if lid = 4 then [] else f.changedNs, changedZones := if lid = 0xBF then [] else f.changedZones })
         (a1.emit (.report port x.fn r)).done c)
    | _ => d

/-! ## Features (R306, R310, R335 to R338) -/

/-- A feature's value is permitted. -/
def Dev.featureOk (d : Dev) (f : Feature) : Bool :=
  match f with
  | .arbitration ab => decide (ab ≤ 7)
  | .power ps => decide (ps < 4) || (ps == 4 && !d.paired)
  | .tempThreshold _ _ composite => composite
  | .queues .. | .asyncEvents _ => true
  | .coalescing _ n => decide (n ≤ 256)
  | .vectorConfig v _ => decide (v ≤ 2047)
  | .apst _ t => t.all (fun e => e.1 == 0 || e.2 == 3 || e.2 == 4)
  | .other _ => false

/-- Two values of one setting. -/
def Feature.same (a b : Feature) : Bool :=
  match a, b with
  | .vectorConfig v _, .vectorConfig w _ => v == w
  | .tempThreshold _ o _, .tempThreshold _ p _ => o == p
  | _, _ => a.fid == b.fid

/-- The power state of a controller changes (R336), and with it the device level. -/
def Dev.setPs (d : Dev) (port fn ps : Nat) : Dev :=
  (d.setFn port fn (fun f => { f with ps := ps, lastPs := if ps ≤ 2 then ps else f.lastPs })).idleCheck

/-- Number of Queues as it is reported (R310). -/
def Fn.queuesDw (f : Fn) : Nat := (f.allot - 1) * 65537

/-- SET_FEATURES. -/
def Dev.setFeaturesCmd (d : Dev) (c : Nat) : Dev :=
  match d.fresh c with
  | none => d
  | some x =>
    match x.e.cmd with
    | .setFeatures f =>
      let port := ctxPort c
      let a := d.begin_ c
      if d.featureOk f = false then a.fail c 0x002
      else
        match f with
        | .power ps => (a.setPs port x.fn ps).done c
        | .queues .. => a.commitCtx c 0 false (d.fn port x.fn).queuesDw
        | _ => (a.setFn port x.fn (fun g => { g with feats := g.feats.filter (fun y => !y.same f) ++ [f] })).done c
    | _ => d

/-- The value of a feature as Dword 0 gives it. -/
def Feature.dword : Feature → Nat
  | .arbitration ab => ab
  | .power ps => ps
  | .tempThreshold k above _ => k + bit (!above) (2 ^ 20)
  | .queues a b => a + b * 65536
  | .coalescing t n => (n - 1) + t * 256
  | .vectorConfig v dis => v + bit dis 65536
  | .asyncEvents m => m
  | .apst on _ => bit on 1
  | .other _ => 0

/-- GET_FEATURES: the value set, or its default, 0. -/
def Dev.getFeaturesCmd (d : Dev) (c : Nat) : Dev :=
  match d.fresh c with
  | none => d
  | some x =>
    match x.e.cmd with
    | .getFeatures fid =>
      let port := ctxPort c
      let f := d.fn port x.fn
      let a := d.begin_ c
      if [1, 2, 4, 7, 8, 9, 0xB, 0xC].contains fid = false then a.fail c 0x002
      else if fid = 2 then a.commitCtx c 0 false f.ps
      else if fid = 7 then a.commitCtx c 0 false f.queuesDw
      else
        let mine := f.feats.filter (fun y => y.fid == fid)
        let a1 := if fid = 0xC ∨ fid = 9 then a.emit (.report port x.fn (.list (mine.flatMap (fun y => match y with | .apst _ t => t.flatMap (fun e => [e.1, e.2]) | .vectorConfig v dis => [v, bit dis 1] | _ => [])))) else a
        a1.commitCtx c 0 false ((mine.getLast?.map Feature.dword).getD 0)
    | _ => d

/-! ## Asynchronous events and Abort (R303, R308, R325) -/

/-- Commands of a kind that a function holds, other than one context. -/
def Dev.othersHeld (d : Dev) (c fn : Nat) (p : NvCmd → Bool) : Nat :=
  (d.host.ctxs.filter (fun e => ctxPort e.1 == ctxPort c && e.1 != c && e.2.fn == fn && e.2.begun && p e.2.e.cmd)).length

/-- ASYNC_EVENT_REQUEST: held until an event comes; one that waits already completes it. -/
def Dev.asyncEventRequest (d : Dev) (c : Nat) : Dev :=
  match d.fresh c with
  | none => d
  | some x =>
    match x.e.cmd with
    | .asyncEvent =>
      let port := ctxPort c
      let a := d.begin_ c
      if 8 ≤ d.othersHeld c x.fn (fun k => k == .asyncEvent) then a.fail c 0x105
      else
        (match (d.fn port x.fn).aens with
         | [] => a
         | e :: r => (a.setFn port x.fn (fun f => { f with aens := r })).commitCtx c 0 false (e.type + e.info * 256 + e.log * 65536))
    | _ => d

/-- ABORT: it never aborts. -/
def Dev.abortCmd (d : Dev) (c : Nat) : Dev :=
  match d.fresh c with
  | none => d
  | some x =>
    match x.e.cmd with
    | .abort .. =>
      let a := (d.begin_ c).count (pHOST (ctxPort c)) 0x140 1
      if 4 ≤ d.othersHeld c x.fn (fun k => match k with | .abort .. => true | _ => false) then a.fail c 0x103
      else a.commitCtx c 0 false 1
    | _ => d

/-! ## Namespaces (R52, R55, R403, R410, R411) -/

/-- The refusal of R41 that R22 and R21 give to a change of the namespaces. -/
def Dev.nsRefusal (d : Dev) : Option Nat :=
  if d.sysc.cur = .service then some 5 else if d.active = false then some 6 else none

/-- A sled may become a member of a new namespace: adopted, its geometry one of R133's columns, and in the set of R22.  Before a set is
fixed, by blank start-up or by a layout change, any adopted sled may (DESIGN CHOICE, log entry 63). -/
def Dev.mayJoin (d : Dev) (s : Nat) : Bool :=
  let m := d.media.sleds.get SledMedia.reset s
  m.adopted && m.valid && (match d.zone.usable with | none => true | some l => l.contains s)

/-- The parameters of a creation describe a namespace that the device can form. -/
def Dev.nsParamsOk (d : Dev) (p : NsParams) : Bool :=
  let distinct := (List.range 16).filter p.members.contains
  (p.d == 14 || p.d == 10 || p.d == 6) && p.members.length == p.d + 2 && distinct.length == p.d + 2
    && p.members.all (fun s => d.sledPlc s == p.plc && d.mayJoin s)
    && (p.groups == 1 || p.groups == 2 || p.groups == 4) && decide (p.lbaf ≤ 4) && decide (p.pi ≤ 3) && (p.lbaf != 0 || p.pi == 0) && decide (0 < p.zones)

/-- The NSID that a creation takes: the one it names, or the lowest that is free. -/
def Dev.pickNsid (d : Dev) (want : Nat) : Option Nat :=
  if want = 0 then ((List.range 1024).map (· + 1)).find? (fun k => (d.zone.nss.find k).isNone)
  else if want ≤ 1024 ∧ (d.zone.nss.find want).isNone = true then some want
  else none

def NsParams.toNs (p : NsParams) : Ns :=
  { d := p.d, members := (List.range 16).filter p.members.contains, plc := p.plc, groups := p.groups
    meta_ := if p.lbaf = 0 then 0 else if p.lbaf = 1 then 8 else 64, pi := p.pi
    guard := if p.lbaf = 3 then 32 else if p.lbaf = 4 then 64 else 16
    zones := p.zones, slot := 0, attached := [], cond := 0, rebuild := [], cursors := [] }

/-- NAMESPACE_CREATE.  On a blank controller it stores STANDALONE, so that the next start finds the namespace (DEDUCED, log entry 32). -/
def Dev.namespaceCreate (d : Dev) (c : Nat) : Dev :=
  match d.fresh c with
  | none => d
  | some x =>
    match x.e.cmd with
    | .nsCreate p =>
      let a := d.begin_ c
      (match d.nsRefusal with
       | some code => a.refuseCmd c code
       | none =>
         if d.nsParamsOk p = false then a.fail c 0x002
         else
           match d.pickNsid p.nsid with
           | none => a.fail c 0x116
           | some n =>
             if d.freeGroups p.members < d.promised p.members + p.zones * p.groups then a.fail c 0x115
             else
               let a0 := if a.sysc.base.isNone then ({ a with sysc := { a.sysc with base := some .standalone } }).storeModes else a
               let a1 := (a0.makeNs n p.toNs).sendKeys false [] [n]
               (a1.modCtx c (fun y => { y with psn := a1.awaitPsn })).commitCtx c 0 false n)
    | _ => d

/-- A namespace is deleted (R411): detached at once, its commands abandoned (event 0x2001 has no cause for this: a free value), its key
erased, its zones and staging gone. -/
def Dev.dropNs (d : Dev) (nsid : Nat) : Dev :=
  let ctrls := ((d.ns nsid).map (fun n => n.attached)).getD []
  let d1 := (d.modNs nsid (fun n => { n with attached := [] })).tellNs nsid ctrls
  let mine := (d1.host.ctxs.filter (fun e => e.2.e.nsid == nsid && e.2.sq != 0 && e.2.st != .committed)).map Prod.fst
  (((d1.each mine (fun y k => y.endFailed k (Config.freeNat d.free) 0x00B)).takeFree).eraseKey nsid).deleteNs nsid

/-- NAMESPACE_DELETE: of one namespace, or of all. -/
def Dev.namespaceDelete (d : Dev) (c : Nat) : Dev :=
  match d.fresh c with
  | none => d
  | some x =>
    match x.e.cmd with
    | .nsDelete =>
      let a := d.begin_ c
      (match d.nsRefusal with
       | some code => a.refuseCmd c code
       | none =>
         let gone := if x.e.nsid = 0xFFFFFFFF then d.zone.nss.map Prod.fst else [x.e.nsid]
         if gone.any (fun n => (d.ns n).isNone) then a.fail c 0x00B
         else if gone.any (fun n => match d.ns n with | some v => !v.rebuild.isEmpty | none => false) then a.refuseCmd c 4
         else
           let a1 := (a.each gone Dev.dropNs).sendKeys false gone []
           (a1.modCtx c (fun y => { y with psn := a1.awaitPsn })).done c)
    | _ => d

/-- NAMESPACE_ATTACHMENT. -/
def Dev.namespaceAttachment (d : Dev) (c : Nat) : Dev :=
  match d.fresh c with
  | none => d
  | some x =>
    match x.e.cmd with
    | .nsAttach attach ctrls =>
      let a := d.begin_ c
      (match d.ns x.e.nsid with
       | none => a.fail c 0x00B
       | some n =>
         let ks := ctrls.filterMap (fun k => (d.ofCntlid k).map (fun e => e.1 * 256 + e.2))
         if d.active = false then a.refuseCmd c 6
         else if n.rebuild.isEmpty = false then a.refuseCmd c 4
         else if ctrls.isEmpty = true ∨ ks.length ≠ ctrls.length then a.fail c 0x11C
         else if attach = true ∧ ks.any n.attached.contains = true then a.fail c 0x118
         else if attach = false ∧ ks.all n.attached.contains = false then a.fail c 0x11A
         else
           let now := if attach then n.attached ++ ks else n.attached.filter (fun k => !ks.contains k)
           let a1 := a.modNs x.e.nsid (fun v => { v with attached := now })
           ((a1.journal (.nsdef x.e.nsid true { n with attached := now })).tellNs x.e.nsid ks).done c)
    | _ => d

/-- VIRTUALIZATION_MANAGEMENT (R305): the resources of a VF controller are fixed (R310), so the actions NVMe knows complete without a
change. -/
def Dev.virtualizationManagement (d : Dev) (c : Nat) : Dev :=
  match d.fresh c with
  | none => d
  | some x =>
    match x.e.cmd with
    | .virtMgmt act _ _ => if [1, 7, 8, 9].contains act then (d.begin_ c).done c else (d.begin_ c).fail c 0x002
    | _ => d

/-- SANITIZE (R412). -/
def Dev.sanitizeCmd (d : Dev) (c : Nat) : Dev :=
  match d.fresh c with
  | none => d
  | some x =>
    match x.e.cmd with
    | .sanitize act =>
      let a := d.begin_ c
      if d.fsto.recovery then a.refuseCmd c 7
      else if act ≠ 4 then a.fail c 0x002
      else if d.sysc.cur = .peerStandby then a.fail c 0x00C
      else if d.cryp.san.isSome then a.fail c 0x01D
      else if d.zone.nss.any (fun e => !e.2.rebuild.isEmpty) then a.refuseCmd c 4
      else if d.sysc.cur = .service then a.refuseCmd c 5
      else
        let s : Sanitize := { phase := .draining, ctx := some c, started := d.now, resumed := false, psn := 0, zones := 0 }
        let a1 := a.cfgMake 6 0 [1]
        (({ a1 with cryp := { a1.cryp with san := some s } }).done c).sanStep
    | _ => d

end Sys2Proof.Machine
end

