-- ==== Sys2Proof/Machine/HostCtrl.lean ====
section
/-! DEFINITION. Firmware download, commit and activation; controller resets and enables; port signals, links, power transitions and
configuration writes (R294, R296, R300, R329 to R338, R445, R453, R454). -/

namespace Sys2Proof.Machine

/-! ## Firmware images (R332, R445, R450, R453) -/

/-- The bank the controller did not boot from. -/
def Dev.otherBank (d : Dev) : Nat := 1 - d.fsto.bank

/-- A sector is erased at the download's first write into it. -/
def Dev.dlErase (d : Dev) (b s : Nat) : Dev :=
  if d.fsto.dlErased.contains s then d
  else
    let d1 := d.norErase (sectorAddr b s)
    { d1 with fsto := { d1.fsto with dlErased := d1.fsto.dlErased ++ [s] } }

/-- The versions that FSTO shows of the slots (R462). -/
def Dev.slotsSeen (d : Dev) : Dev := { d with fsto := { d.fsto with slotVer := [d.slotVersion 0, d.slotVersion 1] } }

/-- FIRMWARE_IMAGE_DOWNLOAD: a piece of an image at a byte offset, whole words, into the slot of the inactive bank. -/
def Dev.firmwareImageDownload (d : Dev) (c : Nat) : Dev :=
  match d.fresh c with
  | none => d
  | some x =>
    match x.e.cmd with
    | .fwDownload off data =>
      let b := d.otherBank
      if d.bankBusy b = true ∨ d.fsto.pfail = true then d
      else
        let a := d.begin_ c
        if d.host.act ≠ .idle then a.refuseCmd c 5
        else if off % 4 ≠ 0 ∨ data.length % 4 ≠ 0 ∨ data.length = 0 ∨ 192 * 65536 < off + data.length then a.fail c 0x002
        else
          let first := off / 65536
          let last := (off + data.length - 1) / 65536
          let a1 := a.each ((List.range (last + 1 - first)).map (· + first)) (fun y s => y.dlErase b s)
          let a2 := (a1.norProgs (bankBase b + off) (wordsOf (data.length / 4) data)).slotsSeen
          let ty := (a2.hdrAt (bankBase b)).type
          ({ a2 with fsto := { a2.fsto with dlType := if off = 0 then ty else a2.fsto.dlType } }).done c
    | _ => d

/-- What a commit of an action and a slot is refused with: the slot, then the kind of image (R445). -/
def Dev.commitRefusal (d : Dev) (act slot : Nat) : Option Nat :=
  if 3 < act then some 0x002
  else if 2 < slot then some 0x106
  else if act ≠ 2 ∧ slot = d.fsto.bank + 1 then some 0x106
  else if d.fsto.dlType = 2 ∧ 2 ≤ act then some 0x002
  else none

/-- Words of a bank's slot. -/
def slotWords : Nat := 16384

/-- The words of the downloaded manifest. -/
def Dev.manifestWords (d : Dev) : List Word :=
  let src := bankBase d.otherBank
  d.norWords src (Nat.min (ceilDiv (4096 + (d.hdrAt src).bodyLen) 4) slotWords)

/-- The manifest's sector of a bank is written. -/
def Dev.placeAt (ws : List Word) (d : Dev) (b : Nat) : Dev := (d.norErase (sectorAddr b 192)).norProgs (sectorAddr b 192) ws

/-- A verified manifest goes to sector 192 of the inactive bank, then of the active one (R445). -/
def Dev.placeManifest (d : Dev) : Dev := d.each [d.otherBank, d.fsto.bank] (Dev.placeAt d.manifestWords)

/-- A SELECT entry for a bank; the bank is the next that a start tries (R449, R450), and a commit in RECOVERY resets the device (R453). -/
def Dev.selectBank (d : Dev) (b : Nat) : Dev :=
  let d1 := (d.tallySelect b).tallyRotate
  let next := (bankOrder (fld d1.sysc.straps 1 2) d1.failedCount d1.preferredBank).1
  { d1 with fsto := { d1.fsto with nextBank := (next.headD (b, 0)).1, recReset := d1.fsto.recReset || d1.fsto.recovery } }

/-- A download has been committed: the next one erases its sectors anew. -/
def Dev.dlDone (d : Dev) : Dev := { d with fsto := { d.fsto with dlErased := [], dlType := 0 } }

/-- FIRMWARE_COMMIT with action 0, 1 or 2. -/
def Dev.firmwareCommit (d : Dev) (c : Nat) : Dev :=
  match d.fresh c with
  | none => d
  | some x =>
    match x.e.cmd with
    | .fwCommit act slot =>
      if act = 3 ∨ d.bankBusy 0 = true ∨ d.bankBusy 1 = true ∨ d.fsto.pfail = true then d
      else
        let a := d.begin_ c
        (match d.commitRefusal act slot with
         | some st => a.fail c st
         | none =>
           if act = 2 then
             let b := if slot = 0 then d.otherBank else slot - 1
             if b = d.fsto.bank ∧ d.fsto.recovery = false then a.done c
             else if d.slotOk b = false then a.fail c 0x107
             else (a.selectBank b).done c
           else if d.fsto.dlType = 2 then
             if (d.verifyAt 2 (bankBase d.otherBank)).isSome then a.fail c 0x107 else a.placeManifest.slotsSeen.dlDone.done c
           else if d.slotOk d.otherBank = false then a.fail c 0x107
           else if act = 0 then a.slotsSeen.dlDone.done c
           else (a.slotsSeen.dlDone.selectBank d.otherBank).done c)
    | _ => d

/-! ## Activation without reset (R23, R254, R333, R334, R454) -/

/-- The contexts that an activation waits for: all but its own and the Asynchronous Event Requests that no event has met. -/
def Dev.actWaits (d : Dev) (c : Nat) : Nat :=
  (d.host.ctxs.filter (fun e => e.1 != c && !(e.2.e.cmd == .asyncEvent && e.2.st == .executing))).length

/-- CSTS.PP of every enabled controller. -/
def Dev.setPp (d : Dev) (on : Bool) : Dev := d.each d.fnList (fun x e => x.setFn e.1 e.2 (fun f => { f with pp := on && f.en }))

/-- HOLDOFF on every UP lane, where an active controller of a pair activates (R254). -/
def Dev.sendHoldoff (d : Dev) : Dev :=
  if d.paired = true ∧ d.peer.standby = false then
    d.each ([0, 1, 2, 3].filter (fun n => (d.lane n).st == .up)) (fun x n => x.control (.lane n) 0x0B [d.rf pPEER 0x80C 0 16])
  else d

/-- The image of a bank's slot, header and body. -/
def Dev.slotImage (d : Dev) (b : Nat) : List Byte :=
  d.norBytes (bankBase b) 4096 ++ d.norBytes (bankBase b + 4096) (d.hdrAt (bankBase b)).bodyLen

/-- ACTIVATION_WITHOUT_RESET: Firmware Commit with action 3.  The image that has been verified is copied at once, so that what a later write
leaves in the slot does not matter (R3, R454). -/
def Dev.activationStart (d : Dev) (c : Nat) : Dev :=
  match d.fresh c with
  | none => d
  | some x =>
    match x.e.cmd with
    | .fwCommit act slot =>
      if act ≠ 3 then d
      else
        let a := d.begin_ c
        if d.fsto.recovery then a.refuseCmd c 7
        else if d.sysc.cur = .service ∨ d.host.act ≠ .idle then a.refuseCmd c 5
        else
          match d.commitRefusal act slot with
          | some st => a.fail c st
          | none =>
            if d.slotOk d.otherBank = false then a.fail c 0x107
            else
              let a1 := a.sendHoldoff
              let a2 := if d.sysc.cur = .peerStandby then a1.toSolo 2 else a1.enterService .activation
              let a3 := (a2.aen aenFirmware).setPp true
              let h := { a3.host with actAt := d.now, actCtx := c, actSlot := d.otherBank + 1, actImage := d.slotImage d.otherBank }
              { a3 with host := { h with act := .draining, actHeld := d.actWaits c } }
    | _ => d

/-- ACTIVATION_SWAP: the drain has ended; the new image, verified and copied while commands drained, takes over with its SELECT and ATTEMPT
entries and the watchdog. -/
def Dev.activationSwap (d : Dev) : Dev :=
  if d.host.act ≠ .draining ∨ d.actWaits d.host.actCtx ≠ 0 then d
  else
    let b := d.host.actSlot - 1
    let h := readHdr (d.host.actImage.take 4096)
    let d1 := (((d.store h.load (d.host.actImage.drop 4096)).slotsSeen.dlDone.selectBank b).tallyAttempt b)
    { d1 with
        fsto := { d1.fsto with bank := b, imgVer := h.version, imgSvn := h.svn, imgKey := h.key, watchdog := true, bootOk := false }
        host := { d1.host with act := .swapping, actImage := [] } }

/-- Slices of a VF are reset by its FLR (R330), save those that drain already (R365). -/
def Dev.flrSlices (d : Dev) (port fn : Nat) : Dev :=
  if fn = 0 ∨ d.ten.active = false then d
  else
    let p := d.partOfFn port fn
    d.each (((List.range 64).map (· + 64 * p)).filter (fun s => (d.slice s).exists_ && !(d.slice s).draining)) (fun x s => x.sliceReset s)

/-- Configuration space of a function at its reset: D0, ATS off, MSI-X without masks. -/
def Fn.cfgReset (f : Fn) : Fn := { f with d3 := false, ats := false, atc := [], msiMask := false, masked := [] }

/-- FLR of a function (R330). -/
def Dev.flr (d : Dev) (port fn : Nat) : Dev := ((d.ctrlReset port fn 1).setFn port fn Fn.cfgReset).flrSlices port fn

/-- PERST_N on a port: every function at once, and its configuration space with VF Enable (R296, R330). -/
def Dev.portReset (d : Dev) (port cause : Nat) : Dev :=
  let fns := (d.fnList.filter (fun e => e.1 == port)).map Prod.snd
  let ended := (d.host.ctxs.filter (fun e => ctxPort e.1 == port)).length
  let d1 := d.each fns (fun x k => (x.ctrlEnd port k).setFn port k (fun f => { f.cfgReset with present := f.present && k == 0 }))
  (d1.raise (pHOST port) 2 [cause, ended]).epochRetire.sanStep.idleCheck

/-- ACTIVATION_RESUME. -/
def Dev.activationResume (d : Dev) : Dev :=
  if d.host.act ≠ .swapping then d
  else
    let ms := (d.now - d.host.actAt) / 1000000
    let old := d.fsto.slotVer.getD (1 - d.fsto.bank) 0
    let d1 := d.setPp false
    let d2 := { d1 with host := { d1.host with act := .idle, actLast := ms } }
    let d3 := if d2.sysc.service = some .activation then d2.leaveService else d2
    let d4 := (d3.done d.host.actCtx).raise (pHOST (ctxPort d.host.actCtx)) 6 [ms, d.host.actHeld, old, d.fsto.imgVer]
    let flrs := d4.fnList.filter (fun e => (d4.fn e.1 e.2).later == 2)
    let perst := [0, 1].filter (fun p => d4.fnList.any (fun e => e.1 == p && (d4.fn e.1 e.2).later == 3))
    let d5 := d4.each (d4.fnList.filter (fun e => (d4.fn e.1 e.2).later == 1)) (fun x e => x.ctrlReset e.1 e.2 0)
    (d5.each flrs (fun x e => x.flr e.1 e.2)).each perst (fun x p => x.portReset p 1)

/-- ACTIVATION_DRAIN_TIMEOUT (R334). -/
def Dev.activationDrainTimeout (d : Dev) : Dev :=
  if d.host.act ≠ .draining then d
  else
    let ms := (d.now - d.host.actAt) / 1000000
    let c := d.host.actCtx
    let d1 := d.setPp false
    let d2 := { d1 with host := { d1.host with act := .idle, actLast := ms } }
    let d3 := if d2.sysc.service = some .activation then d2.leaveService else d2
    (d3.fail c 0x112).raise (pHOST (ctxPort c)) 7 [ms, d.actWaits c]

/-! ## Controllers (R300, R302, R310, R329 to R331) -/

/-- CONTROLLER_DISABLE: CC.EN from 1 to 0. -/
def Dev.controllerDisable (d : Dev) (port fn : Nat) : Dev :=
  if (d.fn port fn).en = false then d
  else if d.host.act = .swapping then d.setFn port fn (fun f => { f with later := if f.later = 0 then 1 else f.later })
  else d.ctrlReset port fn 0

/-- CONTROLLER_ENABLE: CC.EN from 0 to 1, with the entry sizes in CC and the sizes of the admin queues. -/
def Dev.controllerEnable (d : Dev) (port fn iosqes iocqes asq acq : Nat) : Dev :=
  let f := d.fn port fn
  if d.fnExists port fn = false ∨ f.en = true ∨ (fn ≠ 0 ∧ f.present = false) ∨ (d.hport port).perst = true then d
  else if iosqes ≠ 6 ∨ iocqes ≠ 4 then
    (d.setFn port fn (fun g => { g with en := true, cfs := true, present := true })).idleCheck
  else
    let now := fn == 0 && (d.fsto.recovery || d.host.recovered)
    (d.setFn port fn (fun g =>
      { g with present := true, en := true, cfs := false, rdy := now, wantRdy := !now, allot := d.allotFor fn, idleAt := d.now
               sqs := [(0, Sq.mk 0 asq 0 0 none)], cqs := [(0, Cq.mk acq 0 0 true 0 true 0 0)] })).idleCheck

/-- VF_READY (R300, R310). -/
def Dev.vfReady (d : Dev) (port fn : Nat) : Dev :=
  let f := d.fn port fn
  let free := (d.fn port 0).sqs.all (fun e => decide (e.1 ≤ d.allotFor 0))
  if fn = 0 ∨ f.en = false ∨ f.cfs = true ∨ f.rdy = true ∨ d.partitioned = false ∨ d.host.recovered = false ∨ free = false then d
  else d.setFn port fn (fun g => { g with rdy := true, wantRdy := false, allot := d.allotFor fn })

/-- SHUTDOWN_REQUEST: requests for events end, since no other work of theirs is to come. -/
def Dev.shutdownRequest (d : Dev) (port fn : Nat) : Dev :=
  if (d.fn port fn).en = false ∨ (d.fn port fn).stopping = true then d
  else
    let reqs := (d.host.ctxs.filter (fun e => ctxPort e.1 == port && e.2.fn == fn && e.2.e.cmd == .asyncEvent && e.2.st == .executing)).map Prod.fst
    ((d.setFn port fn (fun f => { f with stopping := true, shst := 1 })).each reqs (fun x c => x.endSilent c 0)).shutDone port fn

/-- FUNCTION_LEVEL_RESET. -/
def Dev.functionLevelReset (d : Dev) (port fn : Nat) : Dev :=
  if d.fnExists port fn = false then d
  else if d.host.act = .swapping then d.setFn port fn (fun f => { f with later := if f.later = 3 then 3 else 2 })
  else d.flr port fn

/-! ## Ports (R294, R296, R482) -/

/-- The port exists in this port mode (R293). -/
def Dev.hportOn (d : Dev) (port : Nat) : Bool := port == 0 || (port == 1 && d.portMode == 1)

/-- A port's functions are reset, at once or at step 4 of an activation (R334). -/
def Dev.hostReset (d : Dev) (port cause : Nat) : Dev :=
  if d.host.act = .swapping then
    d.each ((d.fnList.filter (fun e => e.1 == port)).map Prod.snd) (fun x k => x.setFn port k (fun f => { f with later := 3 }))
  else d.portReset port cause

/-- PERST_N_ASSERT. -/
def Dev.perstAssert (d : Dev) (port : Nat) : Dev :=
  if d.hportOn port = false ∨ (d.hport port).perst = true then d
  else (d.setHport port (fun h => { h with perst := true, gen := 0, width := 0, lstate := 0 })).hostReset port 1

/-- PERST_N_RELEASE. -/
def Dev.perstRelease (d : Dev) (port : Nat) : Dev :=
  if (d.hport port).perst = false then d
  else (d.setHport port (fun h => { h with perst := false, wakeN := false, lstate := 1 })).wakeIn 2 (pHOST port)

/-- Widths of a port in its mode (R294). -/
def Dev.widths (d : Dev) : List Nat := if d.portMode = 0 then [1, 2, 4, 8, 16] else [1, 2, 4, 8]

/-- PCIE_LINK_UP: training has ended at a generation, capped by MAX_GEN, and a width. -/
def Dev.pcieLinkUp (d : Dev) (port gen width : Nat) : Dev :=
  let cap := d.rf (pHOST port) 0x108 0 3
  if d.hportOn port = false ∨ (d.hport port).perst = true ∨ gen = 0 ∨ cap < gen ∨ d.widths.contains width = false then d
  else (d.setHport port (fun h => { h with gen := gen, width := width, lstate := 2 })).raise (pHOST port) 1 [gen, width]

/-- PCIE_LINK_DOWN. -/
def Dev.pcieLinkDown (d : Dev) (port : Nat) : Dev :=
  if (d.hport port).lstate = 0 then d
  else (d.setHport port (fun h => { h with gen := 0, width := 0, lstate := 0 })).hostReset port 0

/-- PCIE_LINK_RETRAIN: LINK_CTRL written with RETRAIN, and the generation cap beside it. -/
def Dev.pcieLinkRetrain (d : Dev) (port maxGen master : Nat) : Dev :=
  d.onWrite (pHOST port) 0x108 master (fun x =>
    if maxGen = 0 ∨ 5 < maxGen then x.deny (pHOST port)
    else
      let y := x.setCell (pHOST port) 0x108 (u32 maxGen)
      if (x.hport port).lstate = 0 then y else y.setHport port (fun h => { h with lstate := 1 }))

/-! ## Power transitions and configuration writes (R300, R336, R338, R464, R472) -/

/-- The host's table of idle times and targets (R338). -/
def Fn.apstTable (f : Fn) : Option (List (Nat × Nat)) :=
  f.feats.foldl (fun a x => match x with | .apst on t => if on then some t else none | _ => a) none

/-- APST_TRANSITION: an idle controller goes to the target of its state; to PS3 in place of PS4 while a peer is paired. -/
def Dev.apstTransition (d : Dev) (port fn : Nat) : Dev :=
  let f := d.fn port fn
  let busy := d.host.ctxs.any (fun e => ctxPort e.1 == port && e.2.fn == fn && !(e.2.e.cmd == .asyncEvent)) || f.sqs.any (fun e => e.2.head != e.2.tail)
  match f.apstTable with
  | none => d
  | some t =>
    let e := t.getD f.ps (0, 0)
    let target := if e.2 = 4 ∧ d.paired = true then 3 else e.2
    if f.en = false ∨ busy = true ∨ e.1 = 0 ∨ e.2 < 3 ∨ 4 < e.2 ∨ target ≤ f.ps then d
    else d.setPs port fn target

/-- VFs from 1 to `n` are enabled, the others disabled: a disabled VF's controller is reset. -/
def Dev.vfEnable (d : Dev) (port n : Nat) : Dev :=
  let most := if d.portMode = 0 then 64 else 32
  let k := if most < n then most else n
  let gone := (d.fnList.filter (fun e => e.1 == port && decide (k < e.2) && (d.fn port e.2).present)).map Prod.snd
  let d1 := d.each gone (fun x f => ((if (x.fn port f).en then x.ctrlReset port f 0 else x).setFn port f (fun y => { y.cfgReset with present := false })))
  d1.each ((List.range k).map (· + 1)) (fun x f => x.setFn port f (fun y => { y with present := true }))

/-- CONFIGURATION_WRITE: it takes effect in configuration space and is a wake source (R472, R474). -/
def Dev.configurationWrite (d : Dev) (port : Nat) (op : ConfigOp) : Dev :=
  if d.hportOn port = false ∨ (d.hport port).perst = true then d
  else
    let d1 := match op with
      | .vfEnable n => d.vfEnable port n
      | .dState fn d3 => (d.setFn port fn (fun f => { f with d3 := d3 })).idleCheck
      | .ats fn on => d.setFn port fn (fun f => { f with ats := on, atc := if on then f.atc else [] })
      | .maskFn fn on => d.setFn port fn (fun f => { f with msiMask := on })
      | .maskVec fn vec => d.setFn port fn (fun f => { f with masked := if f.masked.contains vec then f.masked else f.masked ++ [vec] })
      | .linkState l => if 2 ≤ l ∧ l ≤ 7 ∧ 2 ≤ (d.hport port).lstate then d.setHport port (fun h => { h with lstate := l }) else d
    match op with
    | .linkState l => if l = 2 ∧ 6 ≤ (d.hport port).lstate then d1.wakeIn 2 (pHOST port) else d1
    | _ => d1.wakeIn port (pHOST port)

end Sys2Proof.Machine
end

