-- ==== Sys2Proof/Machine/Link.lean ====
section
/-! DEFINITION. The effects of the commands of the sled ports and of the serial links: sideband, training, frames, control and management
packets, removal (R178 to R219, R557). -/

namespace Sys2Proof.Machine

/-! ## Slot sideband (R202, R203, R211) -/

/-- The LED of a slot: its mode in `SLOT_CTRL` (R202, R212). -/
def Dev.setLed (d : Dev) (n v : Nat) : Dev := d.setCell (pSLK n) 0x10C (setFld (d.cell (pSLK n) 0x10C) 0 2 v)

/-- SLOT_INSERTION (R203, R211), with the bytes read from the management pair; none where the address does not answer.  While no port is
served, in DORMANT or before the firmware runs, it waits for the wake or the start (R209). -/
def Dev.slotInsertion (d : Dev) (n : Nat) (record : List Byte) : Dev :=
  if (d.port n).prsnt ∨ 16 ≤ n then d
  else
    let d1 := (d.setPort n (fun x => { x with prsnt := true, slotRec := record })).wakeIn 4 (48 + n)
    if d.portsRun = false ∨ d.sysc.cur = .dormant then d1 else d1.takeSlot n

/-- What a port forgets of its sled when the slot is empty; a sled put in since stays known. -/
def Port.vacate (x : Port) : Port :=
  { x with st := .empty, gone := false, orderly := false, recStat := 0, recSerial := 0, serial := 0, verMax := 0, verMin := 0, verUsed := 0,
           features := 0, plc := false, owner := 0, dies := 0, token := 0, authFails := 0, authed := false, nc := [], kSled := [], mgmt := [], naks := [],
           adopting := false, adoptForce := false, firstReads := false, quiesceSent := false, slotoffWait := false, vaulted := false }

/-- A port whose slot has been emptied goes to EMPTY (R211, R213): orderly after the steps of R212, else a surprise, with the link reset of
cause 8. -/
def Dev.removeSled (d : Dev) (n : Nat) : Dev :=
  let x := d.port n
  let s := x.st
  let d1 := d.drainRx n
  let ops := d1.openOn n
  let d2 := if s.linked ∨ s = .training then d1.resetPort n 8 .empty else d1
  let d3 := (d2.setPort n Port.vacate).raise (pSLK n) 12 [if s = .off ∧ x.orderly then 0 else 1, ops]
  let d4 := (d3.sledGone n).redundancy
  { d4 with media := { d4.media with sleds := d4.media.sleds.upd SledMedia.reset n (fun x => { x with adopted := false }) } }.vaultLeft n

/-- SLED_REMOVAL (R211, R213): SLOT_PWREN falls at once; the rest waits, while no port is served, for the wake (R209); in RECOVERY the port
stays OFF. -/
def Dev.sledRemoval (d : Dev) (n : Nat) : Dev :=
  let x := d.port n
  if (x.st = .empty ∧ x.prsnt = false) ∨ 16 ≤ n then d
  else
    let d1 := (d.setPort n (fun y => { y with prsnt := false, pwren := false, slotRec := [] })).wakeIn 4 (48 + n)
    if d.sysc.cur = .dormant then d1.setPort n (fun y => { y with gone := y.gone || decide (x.st ≠ .empty) })
    else if d.portsRun = false ∨ x.st = .empty then d1
    else d1.removeSled n

/-- The slots that changed while no port was served are taken up at the wake (R209, R211). -/
def Dev.slotsWake (d : Dev) : Dev := (d.each ((List.range 16).filter (fun n => (d.port n).gone)) Dev.removeSled).portsStart

/-- SLOT_ATTN_SAMPLE (R202): low in two windows in a row is a press. -/
def Dev.slotAttnSample (d : Dev) (n : Nat) (low : Bool) : Dev :=
  let k := (d.port n).lows
  if low = false then d.setPort n (fun x => { x with lows := 0 })
  else if k = 1 then (d.setPort n (fun x => { x with lows := 2, button := true })).raise (pSLK n) 13 []
  else d.setPort n (fun x => { x with lows := satAt 2 (k + 1) })

/-- POWER_WAIT_EXPIRY (R211). -/
def Dev.powerWaitExpiry (d : Dev) (n : Nat) : Dev :=
  if (d.port n).st = .powering then d.setPort n (fun x => { x with st := .training, link := { x.link with trial := none } }) else d

/-! ## Training (R184, R204) -/

/-- TRAIN_TRIAL_START (R204 step 1). -/
def Dev.trainTrialStart (d : Dev) (l : LinkId) : Dev :=
  let idle : Bool := match (d.lnk l).trial with | none => true | some t => decide (t.phase = .idleGap)
  if d.lst l = .training ∧ idle then d.setLnk l (fun x => x.startTrial (d.runStart l) (d.trialRate l) (d.lrf l 0x800 0 16) d.now) else d

/-- PRBS_PHASE_END (R204 step 2). -/
def Dev.prbsPhaseEnd (d : Dev) (l : LinkId) : Dev :=
  if d.lst l = .training ∧ (d.lnk l).trial.any (fun t => t.phase == .prbs) then d.setLnk l Link.prbsEnd else d

/-- ALIGNMENT_MARKER (R184): a match at a position, or none where one was expected.  A lock lost on a link in use resets it; in a trial the
window is counted once locked (R204 step 3). -/
def Dev.alignmentMarker (d : Dev) (l : LinkId) (found : Option Nat) : Dev :=
  let r := (d.lnk l).marker found
  let d1 := d.setLnk l (fun _ => r.1)
  if r.2 ∧ (d.lst l).linked then d1.resetLink l 1
  else if d.lst l = .training ∧ r.1.align = .locked then
    d1.setLnk l (fun x => { x with trial := x.trial.map (fun t => if t.phase = .locking then { t with phase := .counting } else t) })
  else d1

/-- LOSS_OF_SIGNAL (R184, R213). -/
def Dev.lossOfSignal (d : Dev) (l : LinkId) : Dev :=
  let d1 := d.setLnk l (fun x => { x with align := .search })
  if (d.lst l).linked then d1.resetLink l 2 else d1

/-- TRAINING_WINDOW_END (R204 step 3). -/
def Dev.trainingWindowEnd (d : Dev) (l : LinkId) (corrected : Nat) (uncorr : Bool) : Dev :=
  if d.lst l = .training ∧ (d.lnk l).trial.any (fun t => t.phase == .counting) then
    (d.setLnk l (fun x => { x with trial := x.trial.map (fun t =>
      { t with phase := .verdict, corrected := corrected, uncorr := uncorr, windowDone := true }) })).trialVerdict l
  else d

/-- TRAIN_RECEIVE (R204 step 4). -/
def Dev.trainReceive (d : Dev) (l : LinkId) (ok : Bool) (count : Nat) : Dev :=
  let d1 := d.setLnk l (fun x => x.free (fun p => p.typ == 5 && p.op == 1))
  if d.lst l = .training ∧ (d.lnk l).trial.any (fun t => t.phase == .counting || t.phase == .verdict) then
    (d1.setLnk l (fun x => { x with trial := x.trial.map (fun t => { t with other := some (ok, count) }) })).trialVerdict l
  else d1

/-- TRIAL_TIMEOUT (R204 step 5). -/
def Dev.trialTimeout (d : Dev) (l : LinkId) : Dev :=
  match (d.lnk l).trial with
  | some t => if d.lst l = .training ∧ t.phase ≠ .idleGap then d.trialFailed l t else d
  | none => d

/-- HOLD_EXPIRY (R211). -/
def Dev.holdExpiry (d : Dev) (l : LinkId) : Dev :=
  if d.lst l = .hold then (d.setLst l .training).setLnk l (fun x => { x with trial := none }) else d

/-! ## Frames (R180 to R187) -/

/-- FRAME_RECEIVE (R182, R186, R187). -/
def Dev.frameReceive (d : Dev) (l : LinkId) (f : RxFrame) : Dev :=
  if (d.lst l).linked ∨ d.lst l = .training then
    d.takeResult l ((d.lnk l).receive l.peer f d.now (d.lrf l 0x804 0 8 * 1000) (d.lrf l 0x804 8 4))
  else d

/-- A COMMAND or VAULT packet of a port is on its way: its bridge delay counts from now (R231). -/
def Dev.noteSent (l : LinkId) (d : Dev) (p : Pkt) : Dev :=
  match l with
  | .port n => if p.typ = 1 ∨ p.typ = 7 then d.modOp (n * 65536 + p.tag) (fun o => { o with txAt := d.now }) else d
  | .lane _ => d

/-- FRAME_TRANSMIT (R185): the next frame, or none while the lane is idle. -/
def Dev.frameTransmit (d : Dev) (l : LinkId) : Dev :=
  if (d.lst l).linked ∨ (d.lst l = .training ∧ (d.lnk l).trial.any (fun t => t.phase != .idleGap && t.phase != .prbs)) then
    let r := (d.lnk l).transmit l.source d.now
    ((d.setLnk l (fun _ => r.2.2)).each r.2.1 (Dev.noteSent l)).emit (.frame l r.1)
  else d

/-- REPLAY_TIMEOUT (R187): a replay from the oldest held frame, or replay exhaustion. -/
def Dev.replayTimeout (d : Dev) (l : LinkId) : Dev :=
  if (d.lst l).linked ∧ (d.lnk l).held ≠ [] then
    match (d.lnk l).replay d.now (d.lrf l 0x804 0 8 * 1000) (d.lrf l 0x804 8 4) with
    | some x => d.setLnk l (fun _ => x)
    | none => d.resetLink l 0
  else d

/-- CREDIT_RECEIVE (R199, R206): the one CREDIT of a link instance sets the limits and is followed by the CAP request; a second is
malformed. -/
def Dev.creditReceive (d : Dev) (l : LinkId) (limits : List Nat) : Dev :=
  if (d.lst l).linked = false then d
  else
    let x := (d.lnk l).free (fun p => p.typ == 4)
    if (d.lnk l).credited then
      d.takeResult l { link := { x with malformed := x.malformed + 1 }, cause := some 3, bad := some (4, 0, limits.headD 0 % 256, 0) }
    else
      let d1 := d.setLnk l (fun _ => x.credit limits)
      if d.lst l = .exchange then d1.mgmtSend l 1 [] [] else d1

/-- LINK_RESET_RECEIVE (R213). -/
def Dev.linkResetReceive (d : Dev) (l : LinkId) : Dev := d.resetLink l 7

/-- LINK_RESET (R213), with its cause. -/
def Dev.linkReset (d : Dev) (l : LinkId) (cause : Nat) : Dev := d.resetLink l cause

/-! ## Time (R210) -/

/-- ECHO_RECEIVE (R210): the round trip, and TIME with half of it added. -/
def Dev.echoReceive (d : Dev) (l : LinkId) (t : Nat) : Dev :=
  let d1 := d.setLnk l (fun x => x.free (fun p => p.typ == 5 && p.op == 4))
  if (d.lnk l).probeAt ≠ t ∨ (d.lst l).linked = false then d1
  else
    let rtt := d.now - t
    let d2 := d1.setLnk l (fun x => { x with rtt := rtt })
    if l.peer ∧ d.peer.standby then d2 else d2.control l 2 [d.now + rtt / 2]

/-- LINK_TIME_SYNC (R210): PROBE and TIME on each UP port. -/
def Dev.linkTimeSync (d : Dev) : Dev :=
  d.each ((List.range 16).filter (fun n => (d.port n).st == .up)) (fun x n =>
    (x.probe (.port n)).control (.port n) 2 [d.now + (d.port n).link.rtt / 2])

/-! ## Management (R194, R206 to R208) -/

/-- MANAGEMENT_TIMEOUT (R194). -/
def Dev.managementTimeout (d : Dev) (l : LinkId) (op xid : Nat) : Dev :=
  match d.mgmtReq l op xid with
  | none => d
  | some r =>
    if r.again then d.resetLink l 5
    else
      (d.setMgmt l (fun rs => rs.map (fun x => if x.op = op ∧ x.xid = xid then { x with again := true } else x))).setLnk l (fun x =>
        x.queue { typ := 6, vc := 3, len := ceilDiv r.data.length 32, op := op, tag := xid, seq := 0, args := r.args, data := r.data })

/-- The negotiated version: the lower of VER_MAX and 1.3. -/
def Cap.used (c : Cap) : Nat := if c.verMax < 0x13 then c.verMax else 0x13

/-- A version that cannot be agreed on. -/
def Cap.refused (c : Cap) : Bool := decide (c.used < c.verMin) || decide (c.used < 0x10) || c.used / 16 != 1

/-- The CAP answer of a sled port (R206, R208, R211). -/
def Dev.capPort (d : Dev) (n : Nat) (c : Cap) : Dev :=
  let d1 := d.setPort n (fun x =>
    { x with serial := c.serial, verMax := c.verMax, verMin := c.verMin, features := c.features, plc := c.plc, owner := c.owner, dies := c.dies,
             token := c.token, verUsed := c.used })
  if c.refused then
    (((d1.setPort n (fun x => { x with st := .refused, mgmt := [], link := { x.link.reset1 10 with resets := x.link.resets } })).raise (pSLK n) 7
      [c.verMax, c.verMin]).sledGone n)
  else if c.owner = d.cryp.pairId ∧ c.owner ≠ 0 then
    -- an ADOPT that was cut off before its answer has taken place (R208)
    if (d.media.cutOff.find c.serial).isSome then (d1.adopted n).authStart (.port n) else d1.authStart (.port n)
  else
    let foreign := c.owner ≠ 0
    let d2 := d1.setPort n (fun x => { x with st := if foreign then .foreign else .unadopted, adopting := false })
    let d2 := { d2 with media := { d2.media with cutOff := d2.media.cutOff.del c.serial } }
    let d3 := d2.raise (pSLK n) 10 [c.serial % 2 ^ 32, c.owner % 2 ^ 32, c.owner / 2 ^ 32, if foreign then 1 else 0]
    d3.adoptNow n foreign

/-- The CAP answer of the peer (R242): a lane whose peer presents another pair identifier is REFUSED, save while the two are being paired. -/
def Dev.capLane (d : Dev) (n : Nat) (c : Cap) : Dev :=
  let d1 := d.setLane n (fun x => { x with peerSerial := c.serial, peerPair := c.owner, verUsed := c.used })
  if c.refused ∨ (c.owner ≠ d.cryp.pairId ∧ d.pairing = false) then
    d1.setLane n (fun x => { x with st := .refused, mgmt := [], link := { x.link.reset1 10 with resets := x.link.resets } })
  else d1.authStart (.lane n)

/-- CAP_RESPONSE (R206). -/
def Dev.capResponse (d : Dev) (l : LinkId) (xid : Nat) (c : Cap) : Dev :=
  if (d.mgmtReq l 1 xid).isNone ∨ d.lst l ≠ .exchange then d.mgmtFree l 1
  else
    let d1 := d.mgmtTake l 1 xid
    match l with
    | .port n => d1.capPort n c
    | .lane n => d1.capLane n c

/-- ADOPT_RESPONSE (R208): status 0 done. -/
def Dev.adoptResponse (d : Dev) (n xid status : Nat) : Dev :=
  if (d.mgmtReq (.port n) 4 xid).isNone then d.mgmtFree (.port n) 4
  else
    let d1 := d.mgmtTake (.port n) 4 xid
    if status = 0 then (d1.adopted n).authStart (.port n)
    else { d1 with media := { d1.media with cutOff := d1.media.cutOff.del (d.port n).serial } }.setPort n (fun x => { x with adopting := false })

/-- What an AUTH answer leads to. -/
inductive AuthEnd where
  /-- No such exchange is under way. -/
  | none
  /-- The bridge's answer is good: it is answered in its turn. -/
  | answered
  | failed
  | verified
  deriving DecidableEq, Repr

/-- An AUTH answer (R207): the first carries the far side's HMAC and its nonce, the second only its status. -/
def Dev.authAnswer (d : Dev) (l : LinkId) (xid status : Nat) (mac nb : List Byte) : Dev × AuthEnd :=
  match d.mgmtReq l 3 xid with
  | Option.none => (d.mgmtFree l 3, .none)
  | some r =>
    if d.lst l ≠ .auth then (d.mgmtFree l 3, .none)
    else
      let d1 := d.mgmtTake l 3 xid
      if r.args = [1] then
        if status = 0 ∧ mac = hmac384 (d.authKey l) (ascii "KATRE1" ++ d.ncOf l ++ d.farId l) then
          (d1.mgmtSend l 3 [2] (hmac384 (d.authKey l) (ascii "KATRE2" ++ nb ++ d.ownId l)), .answered)
        else (d1.authFail l 0, .failed)
      else if status = 0 then
        (match l with
         | .port n => (d1.portUp n, .verified)
         | .lane n => (d1.laneUp n, .verified))
      else (d1.authFail l 1, .failed)

/-- The replacement that this sled ends (R240 steps 4 and 5): its cell type must be that of every namespace that has the slot as member;
then it becomes their rebuild target. -/
def Dev.replaceEnd (d : Dev) (n : Nat) : Dev :=
  if d.sysc.service = some .replacement ∧ d.prty.replace.any (fun r => r.slot == n) then
    let d1 := { d with prty := { d.prty with replace := none } }
    let ns := d.nssOf n
    if ns.any (fun i => (d.ns i).any (fun x => x.plc != (d.port n).plc)) then
      (d1.raise pPRTY 6 [n, 1, (d.port n).serial % 2 ^ 32]).leaveService
    else (d1.addTarget n .replacement).redundancy.leaveService
  else d

/-- A column of R133. -/
def Geom.column (plc : Bool) : Geom :=
  { bits := if plc then 5 else 4, planes := 4, page := 18432, paired := if plc then 5 else 4, wls := 768, blocks := 1400 }

/-- GEOM_RESPONSE (R133, R134, R160): a die that answers enters use with its factory-bad blocks; one that matches no column, or the other
column, makes its sled unused, with event 0x220D. -/
def Dev.geomResponse (d : Dev) (n xid status : Nat) (g : Geom) (bad : List Nat) : Dev :=
  match d.mgmtReq (.port n) 2 xid with
  | none => d.mgmtFree (.port n) 2
  | some r =>
    let d1 := d.mgmtTake (.port n) 2 xid
    let k := dieKey n (r.args.headD 0)
    if status ≠ 0 then d1
    else
      let s := d.media.sleds.get SledMedia.reset n
      let fits := 35 < bad.length ∨ g = Geom.column s.plc
      let d2 := d1.setDie k (fun x => { x with geomRead := true, factoryBad := bad, st := if (d.port n).st = .up ∧ x.wait ≠ .poll then .idle else x.st
                                               vectors := if (d.port n).vtab then x.vectors else Config.vectorTable s.plc })
      let d3 := if fits then d2
        else if s.valid then
          ({ d2 with media := { d2.media with sleds := d2.media.sleds.set n { s with valid := false } } }).raise pMEDI 13
            [n, (if s.plc then 2 else 1) ||| (if g.bits = 5 then 2 else if g.bits = 4 then 1 else 0), popN 256 (d.port n).dies]
        else d2
      if d.host.recovered ∨ d.sysc.base.isNone then (d3.eraseAll k).poolService else d3

/-- Read levels of a cell type (R133). -/
def readLevels (plc : Bool) : Nat := if plc then 31 else 15

/-- VTABLE_RESPONSE (R151): a table of 64 vectors, each with one offset for each read level, is loaded; without one, the built-in table. -/
def Dev.vtableResponse (d : Dev) (n xid status : Nat) (vectors : List (List Int)) : Dev :=
  match d.mgmtReq (.port n) 8 xid with
  | none => d.mgmtFree (.port n) 8
  | some r =>
    let plc := d.sledPlc n
    let fits := status = 0 ∧ vectors.length = 64 ∧ vectors.all (fun v => v.length == readLevels plc) = true
    (d.mgmtTake (.port n) 8 xid).setDie (dieKey n (r.args.headD 0)) (fun x => { x with vectors := if fits then vectors else Config.vectorTable plc })

/-- DIE_STATUS_POLL (R214): STATUS is sent to a die that has to report idle first. -/
def Dev.dieStatusPoll (d : Dev) (sled pos : Nat) : Dev :=
  let k := dieKey sled pos
  if (d.port sled).st = .up ∧ (d.die k).wait = .poll ∧ d.controlOps k = [] ∧ (d.port sled).vaulted = false then
    d.sendDesc { Desc.at_ sled pos 0 .status with op := 0x40 } d.now
  else d

/-! ## The manager's writes (R208, R211, R212, R218) -/


/-- The first namespace that a departure would bring to three members missing, with how many it would miss (R212 step 1). -/
def Dev.wouldLose (d : Dev) (n : Nat) : Option (Nat × Nat) :=
  ((d.nssOf n).filterMap (fun i =>
    match d.ns i with
    | none => none
    | some x =>
      let m := (d.missing x).length + (if d.memberMissing x n then 0 else 1)
      if 3 ≤ m then some (i, m) else none)).head?

/-- The removal of an UP sled begins, or is refused (R212 step 1). -/
def Dev.quiesceStart (d : Dev) (n : Nat) : Dev :=
  if (d.port n).st ≠ .up then d
  else
    match d.wouldLose n with
    | some (i, m) => d.raise (pSLK n) 14 [i, m, 0]
    | none =>
      (((d.setPort n (fun p => { p with st := .quiescing, quiesceSent := false })).depart n).redundancy.vaultRefresh).quiesceCheck n

/-- PORT_QUIESCE (R212 step 1). -/
def Dev.portQuiesce (d : Dev) (n master : Nat) : Dev := d.onWrite (pSLK n) 0x100 master (fun x => x.quiesceStart n)

/-- PORT_RETRAIN (R205, R211, R218); with QUIESCE in the same write or the same cycle it acts as QUIESCE (R215). -/
def Dev.portRetrain (d : Dev) (n master : Nat) (quiesce : Bool) : Dev :=
  d.onWrite (pSLK n) 0x100 master (fun x =>
    let y := x.setLnk (.port n) (fun l => { l with capRate := 0 })
    if quiesce then x.quiesceStart n
    else if (x.port n).st = .refused then (y.setPort n (fun p => { p with authFails := 0 })).powerPort n
    else if (x.port n).st = .hold then y.holdExpiry (.port n)
    else (y.resetLink (.port n) 6).setLnk (.port n) (fun l => { l with capRate := 0 }))

/-- A port goes OFF without a link reset's event: its sled is released (R212 step 4). -/
def Dev.portOff (d : Dev) (n : Nat) : Dev :=
  let d1 := d.reconcile n 10 .off
  let d2 := d1.setPort n (fun x => { x with pwren := false, orderly := true, link := { x.link with resets := (d.port n).link.resets } })
  (d2.sledGone n).redundancy

/-- The sled is released on the other controller too, and the LED follows (R212 steps 4 and 5): the answer to SLOTOFF is awaited, or 10 ms
pass; a removal that timed out and that nobody confirms blinks, with event 0x0E. -/
def Dev.removalEnd (d : Dev) (n : Nat) (timedOut : Bool) : Dev :=
  let d1 := d.portOff n
  if d.peer.pair = .unpaired then d1.setLed n 1
  else
    match d1.upLane 3 with
    | some l => (d1.mgmtSend (.lane l) 0x14 [n] (leBytes 32 n)).setPort n (fun x => { x with slotoffWait := true })
    | none =>
      if timedOut then (d1.setLed n 3).raise (pSLK n) 14 [0, 0, 2]
      else d1.setPort n (fun x => { x with slotoffWait := true })

/-- QUIESCED_RECEIVE (R212 steps 3 to 5): also on a port whose sled this controller does not hold. -/
def Dev.quiescedReceive (d : Dev) (n : Nat) : Dev :=
  let d1 := d.setLnk (.port n) (fun x => x.free (fun p => p.typ == 5 && p.op == 8))
  let s := (d.port n).st
  if s = .quiescing then (d1.removalEnd n false).vaultLeft n
  else if s.linked ∧ (d.port n).token % 256 ≠ d.peer.index then d1.portOff n
  else d1

/-- QUIESCE_TIMEOUT (R211, R212 step 5). -/
def Dev.quiesceTimeout (d : Dev) (n : Nat) : Dev :=
  if (d.port n).st = .quiescing then (d.removalEnd n true).vaultLeft n else d

/-- QUIESCED_WAIT_EXPIRY (R212 step 5). -/
def Dev.quiescedWaitExpiry (d : Dev) (n : Nat) : Dev :=
  if (d.port n).st = .off ∧ (d.port n).slotoffWait ∧ d.lanesUp = 0 then
    (d.setPort n (fun x => { x with slotoffWait := false })).setLed n 1
  else d

/-- SLOTOFF_RECEIVE (R212 step 4): the port goes OFF and the request is answered done. -/
def Dev.slotoffReceive (d : Dev) (lane xid slot : Nat) : Dev :=
  let d1 := d.setLnk (.lane lane) (fun x => x.free (fun p => p.typ == 6 && p.op == 0x14))
  let s := (d.port slot).st
  let d2 := if s = .empty ∨ s = .off ∨ 16 ≤ slot then d1 else d1.portOff slot
  d2.setLnk (.lane lane) (fun x => x.queue { typ := 6, vc := 3, len := 0, op := 0x14, tag := xid, seq := 1, args := [0], data := [] })

/-- SLOTOFF_RESPONSE (R212 step 5): the LED is lit. -/
def Dev.slotoffResponse (d : Dev) (lane xid status : Nat) : Dev :=
  match d.mgmtReq (.lane lane) 0x14 xid with
  | none => d.mgmtFree (.lane lane) 0x14
  | some r =>
    let n := r.args.headD 0
    let d1 := (d.mgmtTake (.lane lane) 0x14 xid).setPort n (fun x => { x with slotoffWait := false })
    if status = 0 then d1.setLed n 1 else (d1.setLed n 3).raise (pSLK n) 14 [0, 0, 2]

/-- PORT_RESTORE (R211). -/
def Dev.portRestore (d : Dev) (n master : Nat) : Dev :=
  d.onWrite (pSLK n) 0x100 master (fun x =>
    if (x.port n).st = .off ∧ x.portsRun then (x.setPort n (fun p => { p with slotoffWait := false })).powerPort n else x)

/-- PORT_ENABLE_WRITE (R211, R213): EN written 0 takes a port OFF, written 1 powers it again. -/
def Dev.portEnableWrite (d : Dev) (n master : Nat) (en : Bool) : Dev :=
  d.onWrite (pSLK n) 0x100 master (fun x =>
    let y := x.setCell (pSLK n) 0x100 (putBit (x.cell (pSLK n) 0x100) 0 en)
    let s := (x.port n).st
    if en then (if s = .off ∧ x.portsRun then y.powerPort n else y)
    else if s = .empty ∨ s = .off then y
    else
      let z := if s.linked ∨ s = .training then y.resetPort n 9 .off else y.setPort n (fun p => { p with st := .off })
      (((z.setPort n (fun p => { p with pwren := false, orderly := false })).sledGone n).redundancy).vaultLeft n)

/-- SLED_RELEASE_WRITE (R208): RELEASE is sent only while the sled is a member of no namespace. -/
def Dev.sledReleaseWrite (d : Dev) (n master : Nat) : Dev :=
  d.onWrite (pSLK n) 0x810 master (fun x =>
    match x.nssOf n with
    | i :: _ => x.raise (pSLK n) 14 [i, ((x.ns i).map (fun y => (x.missing y).length)).getD 0, 1]
    | [] =>
      if (x.port n).st = .up then (x.setCell (pSLK n) 0x810 (setBit (x.cell (pSLK n) 0x810) 8)).mgmtSend (.port n) 5 [] []
      else x.raise (pSLK n) 14 [0, 0, 1])

/-- RELEASE_RESPONSE (R208, R211): K_sled is zeroed, the port is UNADOPTED with its link kept, and its pool is no longer VALT's. -/
def Dev.releaseResponse (d : Dev) (n xid status : Nat) : Dev :=
  if (d.mgmtReq (.port n) 5 xid).isNone then d.mgmtFree (.port n) 5
  else
    let d1 := (d.mgmtTake (.port n) 5 xid).setCell (pSLK n) 0x810 (clrBit (d.cell (pSLK n) 0x810) 8)
    if status ≠ 0 then d1
    else
      let d2 := (d1.newSled n).setPort n (fun x => { x with st := .unadopted, authed := false, owner := 0, token := 0, kSled := [] })
      let d3 := { d2 with media := { d2.media with sleds := d2.media.sleds.del n, dies := d2.media.dies.keep (fun k _ => k / 256 != n) }
                          valt := { d2.valt with anchor := { d2.valt.anchor with pool := d2.valt.anchor.pool.del n } } }
      (d3.saveAnchor.redundancy.vaultRefresh).vaultLeft n

/-- PROGRAM_SETTLE_TIMEOUT (R557): a port has been away from UP for 1 s. -/
def Dev.programSettleTimeout (d : Dev) (n : Nat) : Dev := if (d.port n).st = .up then d else d.sledGone n

end Sys2Proof.Machine
end

