-- ==== Sys2Proof/Machine/Prty.lean ====
section
/-! DEFINITION. The effects of the commands of PRTY: slow sleds, replacement and rebuild (R231 to R240). -/

namespace Sys2Proof.Machine

/-- A management command votes against a DORMANT entry that is being prepared, and then runs (R24, R468). -/
def Dev.mgmtVote (d : Dev) (block : Nat) : Dev := d.prepRefuse block 7

/-! ## Slow sleds (R231, R232) -/

/-- Slow events in a sled's window: the newest WINDOW_S buckets. -/
def Dev.slowCount (d : Dev) (sled : Nat) : Nat := ((d.prty.slow.get [] sled).take (d.rf pPRTY 0x120 16 8)).sum

/-- One sled's part of the tick (R232). -/
def Dev.slowTick (d : Dev) (s : Nat) : Dev :=
  let n := d.slowCount s
  let forced := bitOf (d.cell pPRTY 0x128) s
  let thresh := d.rf pPRTY 0x120 0 16
  let calm := if n ≤ thresh / 4 then d.prty.calm.get 0 s + 1 else 0
  let shifted := ((0 : Nat) :: d.prty.slow.get [] s).take (d.rf pPRTY 0x120 16 8)
  let kept := if shifted.all (· == 0) then [] else shifted
  let d1 := { d with prty := { d.prty with calm := d.prty.calm.put 0 s calm, slow := d.prty.slow.put [] s kept } }
  if hasBit d.prty.demoted s then
    if forced = false ∧ d.rf pPRTY 0x120 24 8 ≤ calm then
      ({ d1 with prty := { d1.prty with demoted := d1.prty.demoted - 2 ^ s } }).raise pPRTY 5 [s, n]
    else d1
  else if forced ∨ thresh ≤ n then
    ({ d1 with prty := { d1.prty with demoted := d1.prty.demoted + 2 ^ s } }).raise pPRTY 4 [s, n, if thresh ≤ n then 0 else 1]
  else d1

/-- SLOW_WINDOW_TICK (R231, R232): every sled's window moves on by one second. -/
def Dev.slowWindowTick (d : Dev) : Dev := d.each (List.range 16) Dev.slowTick

/-! ## Replacing a sled (R240) -/

/-- A service action may start (R21, R22): in STANDALONE or PARTITIONED. -/
def Dev.mayServe (d : Dev) : Bool := d.sysc.cur == .standalone || d.sysc.cur == .partitioned

/-- REPLACE_START (R240 step 2): the service action begins, and a sled that waits in the slot is adopted; refused with code 5 while another
action runs. -/
def Dev.replaceStart (d : Dev) (slot master : Nat) : Dev :=
  d.onWrite pPRTY 0x104 master (fun x =>
    let x := (x.mgmtVote pPRTY).setCell pPRTY 0x104 (u32 (slot % 16))
    if x.mayServe then
      let y := ({ x with prty := { x.prty with replace := some { slot := slot % 16, started := x.now } } }).enterService .replacement
      let s := (y.port (slot % 16)).st
      if s = .unadopted then y.sendAdopt (slot % 16) false
      else if s = .foreign ∧ y.mayAdopt (slot % 16) true then y.sendAdopt (slot % 16) true
      else y
    else x.refuseChange (if x.sysc.cur = .service then 5 else 6) master)

/-- REPLACE_WAIT_EXPIRY (R240): the action is abandoned, with event 0x2306. -/
def Dev.replaceWaitExpiry (d : Dev) : Dev :=
  match d.prty.replace with
  | some r =>
    if d.sysc.service = some .replacement then
      (({ d with prty := { d.prty with replace := none } }).raise pPRTY 6 [r.slot, 0, (d.port r.slot).serial % 2 ^ 32]).leaveService
    else d
  | none => d

/-- REBUILD_ROW (R234, R236): a rebuild token has come; with RATE 0, or while the target's port is not UP, nothing moves. -/
def Dev.rebuildRow (d : Dev) : Dev :=
  match d.prty.rebuild with
  | some r =>
    if d.rf pPRTY 0x100 0 8 ≠ 0 ∧ (d.port r.target.sled).st = .up ∧ d.valt.st = .idle then d.rebuildStep else d
  | none => d

end Sys2Proof.Machine
end

