-- ==== Sys2Proof/Machine/PeerLink.lean ====
section
/-! DEFINITION. The effects of the commands of PEER, with pairing and fencing (R241 to R257, R407 to R410). -/

namespace Sys2Proof.Machine

/-! ## Heartbeats and time (R245, R247, R253, R254) -/

/-- The lowest UP peer lane. -/
def Dev.lowLane (d : Dev) : Option Nat := [0, 1, 2, 3].find? (fun n => (d.lane n).st == .up)

/-- HEARTBEAT_SEND (R245): on every UP lane. -/
def Dev.heartbeatSend (d : Dev) : Dev :=
  let hold := d.host.act != .idle
  let d1 := { d with peer := { d.peer with hbCount := (d.peer.hbCount + 1) % 4294967296 } }
  d1.each ([0, 1, 2, 3].filter (fun n => (d1.lane n).st == .up)) (fun x n =>
    x.control (.lane n) 0x0A [x.sysc.cur.code, x.peer.pair.code, if x.peer.standby then 1 else 0, if hold then 1 else 0, x.peer.hbCount])

/-- The pair states by code. -/
def pairOf (n : Nat) : PairState := if n = 1 then .solo else if n = 2 then .resync else if n = 3 then .mirrored else .unpaired

/-- HEARTBEAT_RECEIVE (R245, R247, R254). -/
def Dev.heartbeatReceive (d : Dev) (lane mode pair role : Nat) (hold : Bool) (_count : Nat) : Dev :=
  let d0 := d.setLnk (.lane lane) (fun x => x.free (fun p => p.typ == 5 && p.op == 0x0A))
  if (d.lane lane).st ≠ .up ∨ d.peer.pair = .unpaired then d0
  else
    let base := if mode = 1 then some Mode.standalone else if mode = 2 then some Mode.partitioned else d.peer.peerBase
    let d1 := { d0 with peer := { d0.peer with peerMode := mode % 8, peerPairSt := pair % 4, peerHold := hold, lastHb := d.now, checking := false
                                               holdMs := if hold then d.peer.holdMs else 0, peerBase := base } }
    let d2 :=
      if d1.peer.standby then
        if role % 2 = 1 ∨ d1.peer.taking.isSome then d1
        else
          let s := pairOf (pair % 4)
          if s = .unpaired ∨ s = d1.peer.pair then d1
          else if s = .solo then (d1.newSeries).setPair .solo 1
          else d1.setPair s 1
      else if role % 2 = 0 then d1
      else if hold = true ∧ (d1.peer.pair = .mirrored ∨ d1.peer.pair = .resync) then d1.toSolo 2
      else if hold = false ∧ pair % 4 = 1 ∧ d1.peer.pair = .solo ∧ d1.active = true then d1.startResync
      else d1
    { d2 with peer := { d2.peer with wasMirrored := d2.peer.pair == .mirrored } }

/-- HEARTBEAT_TIMEOUT (R247, R249, R253, R257): no heartbeat for the time-out beyond any hold. -/
def Dev.heartbeatTimeout (d : Dev) : Dev :=
  if d.peer.pair = .unpaired ∨ d.peer.taking.isSome then d
  else if d.peer.pair = .solo then { d with peer := { d.peer with peerMode := 7 } }
  else
    let age := (d.now - d.peer.lastHb) / 1000
    let d1 := ({ d with peer := { d.peer with peerMode := 7 } }).raise pPEER 2 [age, d.peer.pair.code, d.lanesUp]
    if d.peer.standby then
      let d2 := { (d1.newSeries) with peer := { (d1.newSeries).peer with pair := .solo, lostAt := d.now, leases := [], checking := d.peer.wasMirrored } }
      if d.peer.wasMirrored then d2.readLeases else d2
    else
      match d.peer.handover with
      | some .sent => d1.becomeStandby
      | some .draining => ({ d1.abandonHandover.leaveMirror with peer := { d1.abandonHandover.leaveMirror.peer with pair := .solo } })
      | none => ({ d1.leaveMirror with peer := { d1.leaveMirror.peer with pair := .solo } })

/-- HOLDOFF_RECEIVE (R254). -/
def Dev.holdoffReceive (d : Dev) (lane ms : Nat) : Dev :=
  let d0 := d.setLnk (.lane lane) (fun x => x.free (fun p => p.typ == 5 && p.op == 0x0B))
  if (d.lane lane).st = .up ∧ d.peer.standby = true then { d0 with peer := { d0.peer with holdMs := ms } } else d0

/-- PEER_TIME_SYNC (R245): PROBE and TIME on the lowest UP lane. -/
def Dev.peerTimeSync (d : Dev) : Dev :=
  match d.lowLane with
  | some n => if d.peer.standby ∨ d.paired = false then d else (d.probe (.lane n)).control (.lane n) 2 [d.now + (d.lane n).link.rtt / 2]
  | none => d

/-- PEER_PROBE_RECEIVE (R245): ECHO. -/
def Dev.peerProbeReceive (d : Dev) (lane t : Nat) : Dev :=
  let d0 := d.setLnk (.lane lane) (fun x => x.free (fun p => p.typ == 5 && p.op == 3))
  if (d.lane lane).st = .up ∧ d.peer.standby = true then d0.control (.lane lane) 4 [t] else d0

/-- PEER_TIME_RECEIVE (R50, R245): the offset from the peer's time; the firmware trims the rate against it, by how much the spec does not
say; event 0x2808 above 200 ns. -/
def Dev.peerTimeReceive (d : Dev) (lane t : Nat) : Dev :=
  let d0 := d.setLnk (.lane lane) (fun x => x.free (fun p => p.typ == 5 && p.op == 2))
  if (d.lane lane).st = .up ∧ d.peer.standby = true then
    let ofs : Int := (d.now : Int) - (t : Int)
    let trim := 1 + Config.freeNat d.free % 32767
    let slew := if ofs = 0 then 0 else if 0 < ofs then 65536 - trim else trim
    let d1 := { (d0.takeFree.setCell pSYSC 0x808 (setFld (d0.cell pSYSC 0x808) 16 16 slew)) with peer := { d0.peer with timeOfs := ofs } }
    if 200 < ofs.natAbs then d1.raise pPEER 8 [ofSigned ofs, lane] else d1
  else d0

/-! ## Mirroring (R243, R244, R246) -/

/-- The packet of the series has been taken off its lane. -/
def Dev.freeSeries (d : Dev) (lane typ : Nat) : Dev := d.setLnk (.lane lane) (fun x => x.free (fun p => p.typ == typ))

/-- MIRROR_RECEIVE (R246). -/
def Dev.mirrorReceive (d : Dev) (lane psn area off blocks zgen : Nat) (data : List Byte) : Dev :=
  (d.freeSeries lane 8).acceptPsn lane psn (.mirror (area % 8192) off blocks zgen data)

/-- ROWEVT_RECEIVE (R246). -/
def Dev.rowevtReceive (d : Dev) (lane psn area event unit rs zgen zone nsid : Nat) : Dev :=
  (d.freeSeries lane 9).acceptPsn lane psn (.rowevt (area % 8192) event unit rs zgen zone nsid)

/-- JOURNAL_RECEIVE (R246): the records of the body, with the tables that its checkpoint records spell. -/
def Dev.journalReceive (d : Dev) (lane psn : Nat) (recs : List JRec) (tables : Option Ckpt) : Dev :=
  (d.freeSeries lane 10).acceptPsn lane psn (.journal recs tables)

/-- KEYS_RECEIVE (R407, R410): in the PSN series, or, from the giver of a pairing, outside it, after which the taker resets itself. -/
def Dev.keysReceive (d : Dev) (lane : Nat) (psn : Option Nat) (full : Bool) (gone : List Nat) (ks : List (Nat × Nat × List Byte)) : Dev :=
  let d0 := d.setLnk (.lane lane) (fun x => x.free (fun p => p.typ == 6 && p.op == 0x13))
  match psn with
  | some p => d0.acceptPsn lane p (.keys full gone ks)
  | none =>
    if (d.lane lane).st = .up ∧ d.sysc.base = some .peerStandby ∧ d.sysc.cur ≠ .peerStandby then
      ((d0.takeKeys full gone ks).cfgFlush).warmNow 6 false .none
    else d0

/-- PEER_ACK_RECEIVE (R244, R247, R248): what it covers is acknowledged; RESYNC ends with its last packet; what waited goes on. -/
def Dev.peerAckReceive (d : Dev) (lane psn : Nat) : Dev :=
  let d0 := d.freeSeries lane 11
  if (d.lane lane).st ≠ .up ∨ d.peer.unacked.all (fun e => e.psn != psn) = true then d0
  else
    let k := d.peer.unacked.findIdx (fun e => e.psn == psn) + 1
    let seqs := ((d.peer.unacked.take k).filter (fun e => e.pkt.typ == 10)).map (fun e => e.pkt.args.headD 0 + 1)
    let d1 : Dev := { d0 with peer := { d0.peer with unacked := d0.peer.unacked.drop k, txAcked := d0.peer.txAcked + u32 k
                                                     ackedSeq := seqs.foldl Nat.max d0.peer.ackedSeq } }
    let d2 := if d1.peer.pair = .resync ∧ d1.peer.unacked.all (fun (e : PsnPkt) => e.psn != d1.peer.resyncPsn) = true then d1.setPair .mirrored 0 else d1
    d2.keysSettle

/-- PSN_RESEND (R244): on any UP lane, with the same PSN. -/
def Dev.psnResend (d : Dev) (psn : Nat) : Dev :=
  match d.peer.unacked.find? (fun e => e.psn == psn) with
  | none => d
  | some e =>
    match d.upLane e.pkt.vc with
    | none => d
    | some n =>
      let d1 : Dev := { d with peer := { d.peer with resends := d.peer.resends + 1
                                                     unacked := d.peer.unacked.map (fun (x : PsnPkt) => if x.psn = psn then { x with sentAt := d.now } else x) } }
      d1.send (.lane n) e.pkt

/-! ## Fencing and takeover (R251 to R255) -/

/-- LEASE_RENEW (R252): RENEW to every sled held, while no HANDOVER has been sent. -/
def Dev.leaseRenew (d : Dev) : Dev :=
  if d.active = false ∨ d.peer.handover = some .sent then d
  else d.each (d.reachedSleds.filter d.holdsSled) (fun x s => x.fence s 2 0 0)

/-- FENCE_RESPONSE (R251 to R253, R255): the token and lease of a READ; the outcome of a SET; a RENEW that is denied is followed by a READ. -/
def Dev.fenceResponse (d : Dev) (n xid status token leaseAge : Nat) (heldHere : Bool) : Dev :=
  match d.mgmtReq (.port n) 6 xid with
  | none => d.mgmtFree (.port n) 6
  | some r =>
    let d1 := d.mgmtTake (.port n) 6 xid
    let sub := r.args.headD 0
    if sub = 0 then
      if status ≠ 0 then d1
      else
        let d2 : Dev := { (d1.setPort n (fun x => { x with token := token })) with peer := { d1.peer with leases := d1.peer.leases.set n leaseAge } }
        if d2.active = true ∧ (token % 256 ≠ d2.peer.index ∨ heldHere = false) then d2.sledFenced n token else d2
    else if sub = 1 then
      let d2 := if status = 0 then d1.setPort n (fun x => { x with token := d.nextToken n }) else d1
      d2.fenced n (decide (status = 0))
    else if status = 2 then d1.fence n 0 0 0
    else d1

/-- TAKEOVER_LEASE_CHECK (R253): with leases stale on more than half of the adopted sleds the takeover begins; once the stale time has
passed with leases still fresh it is withheld; until then they are read again.  A SET to a sled that has gone is given up. -/
def Dev.takeoverLeaseCheck (d : Dev) : Dev :=
  if d.peer.taking.isSome then d.each (d.peer.fencing.filter (fun s => (d.port s).st != .up)) (fun x s => x.fenced s false)
  else if d.peer.checking = false ∨ d.sysc.cur ≠ .peerStandby then d
  else
    let toUs := (d.rf pPEER 0x804 16 8 + d.peer.holdMs) * 1000
    let all := d.adoptedSleds
    let stale := (all.filter (fun s => match d.peer.leases.find s with | some a => decide (toUs ≤ a) | none => false)).length
    if all.length < 2 * stale then d.takeoverStart .auto
    else if d.peer.lostAt + toUs * 1000 ≤ d.now then
      ({ d with peer := { d.peer with checking := false, wasMirrored := false } }).raise pPEER 4 [d.peer.leases.length, d.peer.leases.length - stale, d.peer.pair.code]
    else d.readLeases

/-- FORCE_TAKEOVER (R21, R253): acts in PEER-STANDBY; in another mode it is refused under code 6 of R41. -/
def Dev.forceTakeover (d : Dev) (master : Nat) : Dev :=
  d.onWrite pPEER 0x100 master (fun x =>
    if x.sysc.cur ≠ .peerStandby then x.refuseChange 6 master
    else if x.peer.taking.isNone = true then x.takeoverStart .forced
    else x)

/-! ## Planned handover (R257) -/

/-- HANDOVER_START (R257 steps 1 and 2), with whether every member sled is UP on the standby's ports. -/
def Dev.handoverStart (d : Dev) (membersUp : Bool) (master : Nat) : Dev :=
  d.onWrite pPEER 0x100 master (fun x0 =>
    let x := x0.prepRefuse pPEER 7
    if x.sysc.cur = .service then x.refuseChange 5 master
    else if x.mayServe = false then x.refuseChange 6 master
    else if x.peer.pair ≠ .mirrored then (x.refuseChange 6 master).raise pPEER 7 [0]
    else if membersUp = false then (x.refuseChange 6 master).raise pPEER 7 [1]
    else ({ x with peer := { x.peer with handover := some .draining, handoverAt := x.now } }).enterService .handover)

/-- Commands in flight that a handover drains: all but asynchronous event requests. -/
def Dev.toDrain (d : Dev) : List Nat :=
  (d.host.ctxs.filter (fun e => match e.2.e.cmd with | .asyncEvent => false | _ => true)).map Prod.fst

/-- HANDOVER_SEND (R257 steps 2 and 3): drained, or 200 ms past, and every PSN acknowledged. -/
def Dev.handoverSend (d : Dev) : Dev :=
  match d.peer.handover, d.lowLane with
  | some .draining, some n =>
    if (d.toDrain.isEmpty = true ∨ d.peer.handoverAt + 200000000 ≤ d.now) ∧ d.peer.unacked.isEmpty = true then
      ({ (d.mgmtSend (.lane n) 0x11 [] []) with peer := { (d.mgmtSend (.lane n) 0x11 [] []).peer with handover := some .sent } }).modeBusy
    else d
  | _, _ => d

/-- An answer to a request of the peer. -/
def Dev.answerPeer (d : Dev) (lane op xid status : Nat) : Dev :=
  d.setLnk (.lane lane) (fun x => x.queue { typ := 6, vc := 3, len := 0, op := op, tag := xid, seq := 1, args := [status], data := [] })

/-- HANDOVER_RECEIVE (R257 steps 4 and 5): the standby answers and takes over; on the old active it is the answer, and it becomes the
standby. -/
def Dev.handoverReceive (d : Dev) (lane xid : Nat) : Dev :=
  if d.peer.standby then
    let d0 := d.setLnk (.lane lane) (fun x => x.free (fun p => p.typ == 6 && p.op == 0x11))
    if (d.lane lane).st = .up ∧ d.sysc.cur = .peerStandby ∧ d.peer.taking.isNone = true then (d0.answerPeer lane 0x11 xid 0).takeoverStart .planned else d0
  else
    match d.mgmtReq (.lane lane) 0x11 xid with
    | none => d.mgmtFree (.lane lane) 0x11
    | some _ => if d.peer.handover = some .sent then (d.mgmtTake (.lane lane) 0x11 xid).becomeStandby else d.mgmtTake (.lane lane) 0x11 xid

/-! ## Pairing (R407 to R409) -/

/-- GIVE or TAKE is refused with code 5 during a service action; else the lanes retrain and authenticate under K_pc. -/
def Dev.pairStart (d : Dev) (give : Bool) (master : Nat) : Dev :=
  d.onWrite pCRYP 0x830 master (fun x0 =>
    let x := x0.prepRefuse pCRYP 7
    if x.sysc.cur = .service then x.refuseChange 5 master
    else if x.cryp.pairCode.isNone then x
    else
      let y := { x with cryp := { x.cryp with give := give, take := !give, pairPhase := .exchanging, pairResult := 0 } }
      if bitOf (y.cell pPEER 0x100) 0 = false then y
      else y.each [0, 1, 2, 3] (fun w n => if (w.lane n).st.linked ∨ (w.lane n).st = .refused then w.resetLane n 6 .training else w))

/-- PAIR_GIVE (R407 step 1). -/
def Dev.pairGive (d : Dev) (master : Nat) : Dev := d.pairStart true master
/-- PAIR_TAKE (R407 step 1). -/
def Dev.pairTake (d : Dev) (master : Nat) : Dev := d.pairStart false master

/-- The body of PAIR (R407 step 3). -/
def Dev.pairBody (d : Dev) (lane : Nat) : List Byte :=
  leBytes 8 d.cryp.pairId ++ leBytes 1 d.peer.index ++ fitBytes 40 (Config.wrap ((d.kPcOf (d.lane lane).peerSerial).take 32) stdIv d.cryp.kPair)

/-- What a lane does once it is UP (R407 steps 3 and 5): the giver sends PAIR; after pairing it sends the keys. -/
def Dev.laneServe (d : Dev) (lane : Nat) : Dev :=
  if d.pairing = true ∧ d.cryp.give = true ∧ d.peer.keysDue = false then d.mgmtSend (.lane lane) 0x12 [] (d.pairBody lane)
  else if d.peer.keysDue then
    let ks := d.zone.nss.map (fun e => (e.1, e.2.slot))
    let d1 := { d with peer := { d.peer with keysDue := false } }
    d1.mgmtSend (.lane lane) 0x13 ([1, 0] ++ ks.flatMap (fun e => [e.1, e.2])) (ks.flatMap (fun e => d.wrapped e.2))
  else d

/-- The pairing code is cleared, with a result. -/
def Dev.pairEnd (d : Dev) (result : Nat) : Dev :=
  { d with cryp := { d.cryp with pairCode := none, pairPhase := .idle, pairResult := result, give := false, take := false } }

/-- The lanes train again under K_peer. -/
def Dev.retrainLanes (d : Dev) : Dev := d.each [0, 1, 2, 3] (fun x n => if (x.lane n).st.linked then x.resetLane n 6 .training else x)

/-- PAIR_RECEIVE (R407 step 4, R408): the taker takes K_pair, or answers denied. -/
def Dev.pairReceive (d : Dev) (lane xid pairId giver : Nat) (wrappedKey : List Byte) : Dev :=
  let d0 := d.setLnk (.lane lane) (fun x => x.free (fun p => p.typ == 6 && p.op == 0x12))
  if (d.lane lane).st ≠ .up then d0
  else
    let key := Config.unwrap ((d.kPcOf (d.lane lane).peerSerial).take 32) stdIv (fitBytes 40 wrappedKey)
    if d.pairing = false ∨ d.cryp.take = false ∨ d.zone.nss.isEmpty = false ∨ d.adoptedSleds.isEmpty = false then d0.answerPeer lane 0x12 xid 2
    else
      match key with
      | none => d0.answerPeer lane 0x12 xid 2
      | some k0 =>
        let k := fitBytes 32 k0
        let d1 := { d0 with cryp := { d0.cryp with kPair := k, pairId := pairId, kPw := kPwOf k, pwLoaded := true }, peer := { d0.peer with index := (giver + 1) % 2 } }
        let d2 := ({ (d1.savePair true) with sysc := { (d1.savePair true).sysc with base := some .peerStandby } }).storeModes
        let d3 := (d2.emit (.packet (.lane lane) { typ := 6, vc := 3, len := 0, op := 0x12, tag := xid, seq := 1, args := [0], data := [] })).pairEnd 1
        (d3.setPair .solo 0).retrainLanes

/-- PAIR_RESPONSE (R407 step 5, R408): done makes the pair SOLO, and the keys are sent once a lane is UP under K_peer; denied records event
0x0803. -/
def Dev.pairResponse (d : Dev) (lane xid status : Nat) : Dev :=
  match d.mgmtReq (.lane lane) 0x12 xid with
  | none => d.mgmtFree (.lane lane) 0x12
  | some _ =>
    let d1 := d.mgmtTake (.lane lane) 0x12 xid
    let serial := (d.lane lane).peerSerial
    if status = 0 then
      let d2 := ((d1.pairEnd 1).savePair true).setPair .solo 0
      ({ d2 with peer := { d2.peer with keysDue := true, ackedSeq := 0 } }).retrainLanes
    else (d1.pairEnd 2).raise pCRYP 3 [2, serial % 4294967296]

/-- UNPAIR (R409): the pair is UNPAIRED and the lanes stop; a controller in PEER-STANDBY also forgets K_pair, the pair identifier and every
wrapped key, and is blank. -/
def Dev.unpair (d : Dev) (master : Nat) : Dev :=
  d.onWrite pCRYP 0x830 master (fun x0 =>
    let x := x0.prepRefuse pCRYP 7
    let y := x.pairOff
    if x.sysc.cur = .peerStandby then
      let z := y.takeKeys true [] []
      let w := { z with cryp := { z.cryp with kPair := List.replicate 32 0, pairId := 0, kPw := [], pwLoaded := false }
                        sysc := { z.sysc with base := none, ret := none } }
      (w.cfgErase 3 0).storeModes
    else y.savePair false)

/-- PAIR_CODE_EXPIRY (R408): 600 s after it was written; a pairing under way has timed out. -/
def Dev.pairCodeExpiry (d : Dev) : Dev :=
  if d.cryp.pairCode.isNone then d
  else if d.cryp.pairPhase = .exchanging then
    (d.pairEnd 3).raise pCRYP 3 [3, (([0, 1, 2, 3].map (fun n => (d.lane n).peerSerial)).find? (· != 0)).getD 0 % 4294967296]
  else d.pairEnd d.cryp.pairResult

/-- PEER_ENABLE_WRITE (R262): EN 0 takes the lanes OFF and the pair UNPAIRED; EN 1 brings the lanes back, SOLO where the two are paired. -/
def Dev.peerEnableWrite (d : Dev) (en : Bool) (master : Nat) : Dev :=
  d.onWrite pPEER 0x100 master (fun x =>
    let was := bitOf (x.cell pPEER 0x100) 0
    let y := x.setCell pPEER 0x100 (u32 (if en then 1 else 0))
    if en = was then y
    else if en then
      let ix := match y.cfgRead 3 0 with | some ws => (ws.getD 2 0).toNat | none => 0
      let z := if 256 ≤ ix then y.setPair .solo 0 else y
      z.each [0, 1, 2, 3] (fun w n => w.setLane n (fun q => { q with st := .training }))
    else y.pairOff)

end Sys2Proof.Machine
end

