-- ==== Sys2Proof/Machine/State.lean ====
section
/-! DEFINITION. The machine: the part and the queue of waiting commands. -/

namespace Sys2Proof.Machine

/-- The part and the commands that wait for it, first in, first out. -/
structure State where
  dev     : Dev
  pending : List Instr
  deriving DecidableEq, Repr

/-- Why the machine would stop with a fault: every command of this block has an effect, so none is ever raised. -/
inductive Fault where
  /-- Raised by no command.  Safe: nothing rests on it. -/
  | unused
  deriving DecidableEq, Repr

/-- Why a command is refused by the model. -/
inductive Refusal where
  /-- The command has no meaning yet in this model.  Safe: no claim can be proved of it. -/
  | notModelled (mnemonic : String)
  deriving DecidableEq, Repr

/-- The machine right after reset: no command waits. -/
def State.reset : State := { dev := Dev.reset, pending := [] }

end Sys2Proof.Machine
end

