-- ==== Sys2Proof/Machine/Tenancy.lean ====
section
/-! DEFINITION. The effects of the commands of tenancy: enabling and disabling it, slices, tokens and mailboxes (R342 to R373, R559). -/

namespace Sys2Proof.Machine

/-- TENANCY_ENABLE (R21, R41, R109, R342): from STANDALONE; with BASE_CLASS as the write gives it, 3 being dropped (R369).  The commands of
the new mode are stamped with a new epoch, so that it is refused with code 1 while the previous one has not retired (DEDUCED, log entry
69). -/
def Dev.tenancyEnable (d : Dev) (baseCls master : Nat) : Dev :=
  d.onWrite pPART 0x100 master (fun x0 =>
    if baseCls % 4 = 3 then x0.deny pPART
    else
      let x := (x0.prepRefuse pPART 7).setCell pPART 0x100 (u32 (baseCls % 4 * 256))
      if x.sysc.cur = .standalone ∧ x.epochBusy = true then x.refuseChange 1 master
      else if x.sysc.cur = .standalone then
        let y := (({ x with sysc := { x.sysc with base := some .partitioned } }).storeModes.makePartitions).applyPending.newEpoch []
        (y.raise pPART 1 [baseCls % 4, y.sysc.epoch.toNat]).setMode .partitioned
      else x.refuseChange (if x.sysc.cur = .service then 5 else 6) master)

/-- TENANCY_DISABLE (R21): refused while a created slice exists or a VF is enabled. -/
def Dev.tenancyDisable (d : Dev) (master : Nat) : Dev :=
  d.onWrite pPART 0x100 master (fun x0 =>
    let x := x0.prepRefuse pPART 7
    let may := x.sysc.cur = .partitioned ∧ x.anyCreated = false ∧ x.fnList.all (fun e => e.2 == 0 || !(x.fn e.1 e.2).present) = true
    if may ∧ x.epochBusy = true then x.refuseChange 1 master
    else if may then
      let y := (({ x with sysc := { x.sysc with base := some .standalone } }).storeModes.dropPartitions).applyPending.newEpoch []
      (y.raise pPART 2 [y.sysc.epoch.toNat]).setMode .standalone
    else x.refuseChange (if x.sysc.cur = .service then 5 else 6) master)

/-- The first condition of R352 that fails, or 0. -/
def Dev.createCode (d : Dev) (s : Nat) : Nat :=
  let y := d.slice s
  let b := d.slice (baseOf s)
  let pasid := d.rf (pSLIC s) (slicOff s 8) 0 20
  let cls := d.rf (pSLIC s) (slicOff s 12) 30 2
  let ctx := d.rf (pSLIC s) (slicOff s 12) 16 11
  let area := d.rf (pSLIC s) (slicOff s 12) 0 8
  if d.partitioned = false then 4
  else if d.sysc.service.isSome then 5
  else if s % 64 = 0 then 7
  else if y.exists_ then 1
  else if pasid = 0 ∨ d.ten.slices.any (fun e => e.2.exists_ && e.2.pasid == pasid) = true ∨ cls = 3 ∨ 1024 < ctx ∨ 128 < area then 2
  else if b.freeCtx < ctx ∨ b.freeArea < area then 3
  else 0

/-- SLICE_CREATE (R351 to R353). -/
def Dev.sliceCreate (d : Dev) (s master : Nat) : Dev :=
  d.onWrite (pSLIC s) (slicOff s 0) master (fun x0 =>
    let x := x0.prepRefuse (pSLIC s) 7
    let code := x.createCode s
    if code ≠ 0 then x.sliceResult s code 0 master
    else
      let w := x.cell (pSLIC s) (slicOff s 8)
      let q := x.cell (pSLIC s) (slicOff s 12)
      let cls := match fld q 30 2 with | 0 => Cls.a | 1 => Cls.b | _ => Cls.c
      let y := x.slice s
      let made : Slice := { Slice.reset with exists_ := true, gen := (y.gen + 1) % 65536, discard := y.discard, drops := y.drops, pasid := fld w 0 20
                                             strict := bitOf w 31, cls := cls, resCtx := fld q 16 11, resArea := fld q 0 8 }
      let d1 := (x.setSlice s (fun _ => made)).setSlice (baseOf s) (fun b => { b with resCtx := b.resCtx - made.resCtx, resArea := b.resArea - made.resArea })
      d1.raise (pSLIC s) 1 [s, made.pasid, fld q 30 2, made.resCtx * 65536 + made.resArea])

/-- SLICE_RESET (R363, R364, R559). -/
def Dev.sliceResetWrite (d : Dev) (s master : Nat) : Dev :=
  d.onWrite (pSLIC s) (slicOff s 0) master (fun x0 =>
    let x := x0.prepRefuse (pSLIC s) 7
    let y := x.slice s
    let code := if x.partitioned = false then 4 else if y.exists_ = false ∨ y.removing = true ∨ y.draining = true then 1 else 0
    if code ≠ 0 then x.sliceResult s code 1 master
    else (x.setSlice s (fun z => { z with result := 0 })).sliceReset s)

/-- SLICE_REMOVE (R365, R366, R559). -/
def Dev.sliceRemoveWrite (d : Dev) (s master : Nat) : Dev :=
  d.onWrite (pSLIC s) (slicOff s 0) master (fun x0 =>
    let x := x0.prepRefuse (pSLIC s) 7
    let y := x.slice s
    let code := if x.partitioned = false then 4 else if x.sysc.service.isSome then 5 else if s % 64 = 0 then 7
      else if y.exists_ = false ∨ y.removing = true ∨ y.removeWait = true ∨ y.resizing.isSome = true then 1 else 0
    if code ≠ 0 then x.sliceResult s code 2 master
    else
      let x1 := x.setSlice s (fun z => { z with result := 0 })
      if y.draining then x1.setSlice s (fun z => { z with removeWait := true }) else x1.sliceRemove s)

/-- SLICE_RESIZE (R354, R559). -/
def Dev.sliceResize (d : Dev) (s master : Nat) : Dev :=
  d.onWrite (pSLIC s) (slicOff s 0) master (fun x0 =>
    let x := x0.prepRefuse (pSLIC s) 7
    let y := x.slice s
    let b := x.slice (baseOf s)
    let ctx := x.rf (pSLIC s) (slicOff s 12) 16 11
    let area := x.rf (pSLIC s) (slicOff s 12) 0 8
    let code := if x.partitioned = false then 4 else if s % 64 = 0 then 7
      else if y.exists_ = false ∨ y.removing = true ∨ y.removeWait = true ∨ y.resizing.isSome = true then 1
      else if 1024 < ctx ∨ 128 < area then 2
      else if b.freeCtx < ctx - y.resCtx ∨ b.freeArea < area - y.resArea then 3 else 0
    if code ≠ 0 then x.sliceResult s code 3 master
    else
      let x1 := x.setSlice s (fun z => { z with result := 0, resizing := some (ctx, area), resCtx := max z.resCtx ctx, resArea := max z.resArea area })
      (x1.setSlice (baseOf s) (fun z => { z with resCtx := z.resCtx - (ctx - y.resCtx), resArea := z.resArea - (area - y.resArea) })).resizeSettle s)

/-- SLICE_DRAIN_COMPLETE (R364 step 5, R365, R366): no context and no die operation of the old generation remains. -/
def Dev.sliceDrainComplete (d : Dev) (s : Nat) : Dev :=
  let y := d.slice s
  let busy := y.oldOps.any (fun (k : Nat × Nat) => (d.op k.1).any (fun o => o.issued == k.2))
    || d.host.ctxs.any (fun e => e.2.slice == some s && e.2.gen == y.oldGen)
  if y.draining = true ∧ busy = false then
    let d1 := (d.setSlice s (fun z => { z with draining := false, oldOps := [] })).raise (pSLIC s) 2 [s, y.oldGen, y.resetN, (d.now - y.resetAt) / 1000]
    let d2 := d1.notice s 0
    if y.removing then d2.sliceGone s else if y.removeWait then d2.sliceRemove s else d2
  else d

/-- RESIZE_SHRINK_COMPLETE (R354). -/
def Dev.resizeShrinkComplete (d : Dev) (s : Nat) : Dev := d.resizeSettle s

/-- SQ_BIND_WRITE (R355): index 0 unbinds; a created slice's index binds; another index is dropped.  A write that is taken clears HELD. -/
def Dev.sqBindWrite (d : Dev) (port fn q index : Nat) : Dev :=
  if d.ten.active = true ∧ fn ≠ 0 ∧ (d.fn port fn).present = true ∧ 1 ≤ q ∧ q ≤ 191 then
    let i := index % 64
    if i ≠ 0 ∧ (d.slice (d.sliceOfVf port fn i)).exists_ = false then d
    else d.setFn port fn (fun f => { f with binds := f.binds.put SqBind.reset q { index := i, held := false } })
  else d

/-- TOKEN_REFILL (R349): each partition moves one of its own tokens from SPENT back to AVAIL. -/
def Dev.tokenRefill (d : Dev) : Dev :=
  if d.ten.active then
    { d with ten := { d.ten with fillAt := d.now, parts := d.ten.parts.mapVals (fun _ p => if p.spent = 0 then p else { p with avail := p.avail + 1, spent := p.spent - 1 }) } }
  else d

/-! ## Mailboxes -/

/-- A message of a slice is posted (R357): while UP is FULL it is dropped and counted; GEN is the slice's own (R358); `k` goes on with it. -/
def Dev.upPost (d : Dev) (port fn i : Nat) (pasid : Option Nat) (type : Nat) (words : List Word) (k : Dev → Nat → Dev) : Dev :=
  d.onSlice port fn i (0x2000 + 0x40 * i) pasid (fun x s =>
    let y := x.slice s
    if y.upFull then x.setSlice s Slice.drop
    else
      let w (j : Nat) : Word := words.getD j 0
      let msg := setFld (w 0) 8 8 type :: setFld (w 1) 0 16 y.gen :: (List.range 6).map (fun j => w (j + 2))
      k (x.setSlice s (fun z => { z with up := msg, upFull := true })) s)

/-- The firmware's reply: it empties the slot and answers with the request's TID (R358, R362). -/
def Dev.fwReply (d : Dev) (s status : Nat) (payload : List Byte) : Dev :=
  let w := (d.slice s).up
  (d.setSlice s (fun y => { y with up := [], upFull := false })).postDown s (msgType w) (fld (w.headD 0) 16 8) 1 payload.length status payload

/-- The status with which the firmware turns a message away (R359 to R361), if it does: no version agreed; a type introduced after it;
MORE below 1.2; a length that is not one. -/
def Dev.upRefusal (d : Dev) (s since least : Nat) : Option Nat :=
  let y := d.slice s
  let w0 := y.up.headD 0
  let len := fld (y.up.getD 1 0) 16 8
  match y.version with
  | none => some 2
  | some v => if v < since then some 1 else if bitOf w0 25 = true ∧ v < 0x12 then some 4 else if 24 < len ∨ len < least then some 4 else none

/-- NEGON_HELLO (R360). -/
def Dev.negonHello (d : Dev) (port fn i : Nat) (pasid : Option Nat) (words : List Word) : Dev :=
  d.upPost port fn i pasid 1 words (fun x s =>
    let w2 := (x.slice s).up.getD 2 0
    let top := min (fld w2 0 8) negonMax
    if top < fld w2 8 8 ∨ top < 0x10 then (x.setSlice s (fun y => { y with version := none })).fwReply s 2 []
    else (x.setSlice s (fun y => { y with version := some top })).fwReply s 0 [BitVec.ofNat 8 top, BitVec.ofNat 8 negonMax])

/-- NEGON_INFO (R359). -/
def Dev.negonInfo (d : Dev) (port fn i : Nat) (pasid : Option Nat) (words : List Word) : Dev :=
  d.upPost port fn i pasid 2 words (fun x s =>
    match x.upRefusal s 0x10 0 with
    | some st => x.fwReply s st []
    | none =>
      let y := x.slice s
      x.fwReply s 0 (leBytes 2 s ++ [BitVec.ofNat 8 (s / 64), BitVec.ofNat 8 y.cls.code] ++ leBytes 4 y.pasid ++ leBytes 2 y.resCtx ++ leBytes 2 y.heldCtx
        ++ [BitVec.ofNat 8 y.resArea, BitVec.ofNat 8 y.heldArea]))

/-- NEGON_STATS (R359). -/
def Dev.negonStats (d : Dev) (port fn i : Nat) (pasid : Option Nat) (words : List Word) : Dev :=
  d.upPost port fn i pasid 6 words (fun x s =>
    match x.upRefusal s 0x12 0 with
    | some st => x.fwReply s st []
    | none =>
      let y := x.slice s
      let p := x.part (s / 64)
      x.fwReply s 0 (leBytes 4 y.fetched.toNat ++ leBytes 4 y.discard.toNat ++ leBytes 4 p.avail ++ leBytes 4 p.tokWait.toNat))

/-- A message for the manager stays in the UP slot and sets the slice's flag (R362). -/
def Dev.forManager (d : Dev) (s since least : Nat) : Dev :=
  match d.upRefusal s since least with
  | some st => d.fwReply s st []
  | none => d.setFlag (pSLIC s) (s % 16)

/-- NEGON_USER (R361, R362). -/
def Dev.negonUser (d : Dev) (port fn i : Nat) (pasid : Option Nat) (words : List Word) : Dev :=
  d.upPost port fn i pasid 4 words (fun x s => x.forManager s 0x10 0)

/-- NEGON_RESIZE (R359, R362). -/
def Dev.negonResize (d : Dev) (port fn i : Nat) (pasid : Option Nat) (words : List Word) : Dev :=
  d.upPost port fn i pasid 5 words (fun x s => x.forManager s 0x11 3)

/-- MAILBOX_DOWN_ACK (R357). -/
def Dev.mailboxDownAck (d : Dev) (port fn i : Nat) (pasid : Option Nat) : Dev :=
  d.onSlice port fn i (0x2020 + 0x40 * i) pasid (fun x s => x.setSlice s (fun y => { y with downFull := false }))

/-- MAILBOX_UP_ACK (R362). -/
def Dev.mailboxUpAck (d : Dev) (s master : Nat) : Dev :=
  d.onWrite (pSLIC s) (slicOff s 0x1C) master (fun x => x.setSlice s (fun y => { y with up := [], upFull := false }))

/-- The DOWN staging buffer of a slice (R371). -/
def Dev.downStaging (d : Dev) (s : Nat) : List Word := (List.range 8).map (fun j => d.cell (pSLIC s) (0x320 + 0x40 * (s % 16) + 4 * j))

/-- A manager post waits. -/
def Slice.posting (y : Slice) : Bool := y.waiting.any (fun m => m.manager)

/-- MAILBOX_POST (R362). -/
def Dev.mailboxPost (d : Dev) (s master : Nat) : Dev :=
  d.onWrite (pSLIC s) (slicOff s 0x1C) master (fun x =>
    if (x.slice s).exists_ = true ∧ (x.slice s).posting = false then
      x.setSlice s (fun y => { y with waiting := y.waiting ++ [{ manager := true, at_ := x.now, words := x.downStaging s }] })
    else x)

/-- MAILBOX_DOWN_DELIVER (R357, R362): what was posted first, or a drop where its GEN is not the slice's. -/
def Dev.mailboxDownDeliver (d : Dev) (s : Nat) : Dev :=
  let y := d.slice s
  match y.waiting with
  | [] => d
  | m :: rest =>
    if y.downFull = true ∨ y.exists_ = false then d
    else
      let d1 := d.setSlice s (fun z => { z with waiting := rest })
      if msgGen m.words ≠ y.gen then (d1.setSlice s Slice.drop).raise (pSLIC s) 4 [s, 1, msgType m.words, 0]
      else
        let d2 := d1.setSlice s (fun z => { z with down := m.words, downFull := true })
        let vf := d.fnOfPart (s / 64)
        if bitOf y.mbxVec 31 then d2.signal vf.1 vf.2 (fld y.mbxVec 0 11) else d2

end Sys2Proof.Machine
end

