-- ==== Sys2Proof/Machine/Ledg.lean ====
section
/-! DEFINITION. The ledgers' identities and the audit (R315, R367, R110, R128, R116, R88, R268, R172, R173, R216, R244, R227, R258, R394,
R425, R471, R520, R525 to R534). -/

namespace Sys2Proof.Machine

/-! ## Identities (R527): what the left side exceeds the right side by, for each instance that may differ from zero -/

/-- A difference of counters modulo 2^32, as a signed number. -/
def diff32 (l r : Nat) : Int :=
  let k : Nat := (l + 2 ^ 32 - r % 2 ^ 32) % 2 ^ 32
  if k < 2 ^ 31 then (k : Int) else (k : Int) - 2 ^ 32

/-- What a held quantity exceeds its bound by. -/
def excess (held bound : Nat) : Int := if held ≤ bound then 0 else ((held : Int) - bound)

/-- The first difference that is not zero. -/
def firstOff (l : List Int) : Int := (l.find? (· != 0)).getD 0

def Dev.ctr (d : Dev) (page off : Nat) : Nat := (d.cell page off).toNat

/-- Ledger 0 (R315). -/
def Dev.ledCtx (d : Dev) : List (Nat × Int) :=
  [0, 1].map (fun p => (p, diff32 (d.ctr (pHOST p) 0x12C) (d.ctr (pHOST p) 0x130 + d.ctr (pHOST p) 0x134 + d.ctxHeld p)))

/-- Areas that are not FREE. -/
def Dev.busyAreas (d : Dev) : Nat := d.zone.areas.count (fun _ a => a.st != .free)

/-- Ledger 1 (R367, first four items). -/
def Dev.ledSlices (d : Dev) : List (Nat × Int) :=
  if d.ten.active = false then []
  else
    let part (p : Nat) : Int :=
      let s := (List.range 64).map (fun i => d.slice (64 * p + i))
      firstOff ([((s.map Slice.resCtx).sum : Int) - 1024, ((s.map Slice.resArea).sum : Int) - 128]
        ++ s.map (fun x => excess x.heldCtx x.resCtx) ++ s.map (fun x => excess x.heldArea x.resArea))
    let port (q : Nat) : Int := (((d.portParts q).flatMap (fun p => (List.range 64).map (fun i => (d.slice (64 * p + i)).heldCtx))).sum : Int) - d.ctxHeld q
    let areas : Int := ((d.ten.slices.map (fun e => e.2.heldArea)).sum : Int) - d.busyAreas
    (List.range 64).map (fun p => (p, part p)) ++ [(64, port 0), (65, port 1), (66, areas)]

/-- Ledger 2 (R367, fifth item). -/
def Dev.ledTokens (d : Dev) : List (Nat × Int) :=
  if d.ten.active = false then []
  else
    let depth := d.rf pPART 0x10C 0 16
    let sum (f : Partition → Word) : Nat := ((List.range 64).map (fun p => (f (d.part p)).toNat)).sum
    (List.range 64).map (fun p => (p, (((d.part p).avail + (d.part p).spent : Nat) : Int) - depth)) ++ [(64, diff32 (sum Partition.lent) (sum Partition.borrowed))]

/-- Ledger 3 (R110). -/
def Dev.ledPools (d : Dev) : List (Nat × Int) :=
  (List.range 66).map (fun p => (p, (((d.pool p).avail + (d.pool p).held : Nat) : Int) - (d.pool p).share))

/-- Ledger 4 (R128). -/
def Dev.ledBufs (d : Dev) : List (Nat × Int) :=
  let held := (d.sched.streams.map (fun e => e.2.held.length)).sum
  (0, ((d.sched.bufFree + held : Nat) : Int) - 65536) ::
    (if d.ten.active then (List.range 64).map (fun p => (1 + p, excess ((d.sched.streams.filter (fun e => e.2.partn == p)).map (fun e => e.2.held.length)).sum 1024)) else [])

/-- Die operations that SCHD has issued and that have not ended (R116). -/
def Dev.subInflight (d : Dev) : Nat :=
  d.media.ops.count (fun _ o => (o.d.op == 1 || o.d.op == 2 || o.d.op == 0x10 || o.d.op == 0x20)
    && (match o.d.use with | .check | .vaultRow _ _ => false | _ => true)) + d.media.checks.length

/-- Ledger 5 (R116). -/
def Dev.ledSubs (d : Dev) : List (Nat × Int) := [(0, diff32 (d.ctr pSCHD 0x204) (d.ctr pSCHD 0x208 + d.subInflight))]

/-- Ledger 6 (R88): no more areas are busy than there are, and the areas charged to a slice are those it holds. -/
def Dev.ledAreas (d : Dev) : List (Nat × Int) :=
  (0, excess d.busyAreas 8192) ::
    (if d.ten.active then d.ten.slices.map (fun e => (1 + e.1, excess e.2.heldArea e.2.resArea)) else [])

/-- Ledger 7 (R268). -/
def Dev.ledVault (d : Dev) : List (Nat × Int) :=
  let segs := (d.zone.areas.map (fun e => ceilDiv (e.2.fill * 4096) 65536)).sum
  let acc := (d.zone.areas.map (fun e => if e.2.degraded then (if (d.zns e.2.zone).plc then 10 else 8) else 0)).sum
  [(0, ((d.vaultLoad : Nat) : Int) - (1024 + segs + acc : Nat))]

/-- Ledger 8 (R172), for the dies that are present. -/
def Dev.ledBlocks (d : Dev) : List (Nat × Int) :=
  (d.media.dies.filter (fun e => d.diePresent e.1)).map (fun e =>
    (e.1, ((([BlockState.erased, .allocated, .queued, .erasing, .uncertain, .vault, .retired, .factoryBad].map (d.inState e.1)).sum : Nat) : Int) - 1400))

/-- Descriptors sent whose end has not come (R173). -/
def Dev.opsOpen (d : Dev) : Nat := d.media.ops.count (fun _ o => o.phase == .sent || o.phase == .held)

/-- Ledger 9 (R173). -/
def Dev.ledOps (d : Dev) : List (Nat × Int) := [(0, diff32 (d.ctr pMEDI 0x1B8) (d.ctr pMEDI 0x1BC + d.opsOpen))]

/-- The identities of one VC in one direction (R216): the credits available and outstanding against the limit, and the counters. -/
def Vc.off (v : Vc) : Int :=
  firstOff [((v.avail + v.out : Nat) : Int) - v.limit, diff32 v.used.toNat (v.retd.toNat + v.reclaimed.toNat + v.out)]

/-- What the replay buffer holds above its bound (R216): 19 flits for each frame held, never above 8,189. -/
def Link.replayOff (l : Link) : Int := excess (19 * l.held.length) 8189

/-- The instances of one link: each VC, transmit and receive; the bound of the replay buffer goes with VC0's transmit instance. -/
def Link.ledger (l : Link) (base : Nat) : List (Nat × Int) :=
  [0, 1, 2, 3].flatMap (fun vc =>
    [(base + 2 * vc, firstOff ((l.txVc vc).off :: if vc = 0 then [l.replayOff] else [])), (base + 2 * vc + 1, (l.rxVc vc).off)])

/-- Ledger 10 (R216). -/
def Dev.ledLinks (d : Dev) : List (Nat × Int) := d.ports.flatMap (fun e => e.2.link.ledger (8 * e.1))

/-- Ledger 11 (R216, R244). -/
def Dev.ledPeer (d : Dev) : List (Nat × Int) :=
  d.peer.lanes.flatMap (fun e => e.2.link.ledger (8 * e.1)) ++ [(32, diff32 d.peer.txSent.toNat (d.peer.txAcked.toNat + d.peer.unacked.length))]

/-- Reconstruction jobs that PRTY has accepted and that have not ended (`JOBS_OPEN`, R227). -/
def Dev.jobsOpen (d : Dev) : Nat := d.sched.recons.count (fun _ r => r.begun && !r.dead)

/-- Ledger 12 (R227). -/
def Dev.ledJobs (d : Dev) : List (Nat × Int) := [(0, diff32 (d.ctr pPRTY 0x140) (d.ctr pPRTY 0x144 + d.jobsOpen))]

/-- Ledger 13 (R258). -/
def Dev.ledRebuild (d : Dev) : List (Nat × Int) :=
  match d.prty.rebuild with
  | some r => [(0, ((r.total : Nat) : Int) - (r.done + r.lost + r.left : Nat))]
  | none => []

/-- Ledger 14 (R394). -/
def Dev.ledDram (d : Dev) : List (Nat × Int) :=
  [0, 1, 2, 3].flatMap (fun c => (d.chan c).ports.map (fun e => (8 * c + e.1, diff32 e.2.issued.toNat (e.2.done.toNat + e.2.opened.toNat))))

/-- Ledger 15 (R425): slots 1 to 8,191, of which those not listed are EMPTY; and the digest jobs. -/
def Dev.ledKeys (d : Dev) : List (Nat × Int) :=
  [(0, excess (d.cryp.slots.count (fun k s => s.st != .empty && k != 0)) 8191),
   (1, diff32 (d.ctr pDGST 0x120) (d.ctr pDGST 0x124 + d.ctr pDGST 0x128 + d.dgst.queue.length + d.dgst.running.toList.length))]

/-- Ledger 16 (R471). -/
def Dev.ledDormant (d : Dev) : List (Nat × Int) :=
  [(0, diff32 (d.ctr pPOWR 0x118) (d.ctr pPOWR 0x11C + d.ctr pPOWR 0x120 + (if d.powr.entry = .prepare then 1 else 0)))]

/-- Ledger 17, its identity (R520). -/
def Dev.ledEvents (d : Dev) : List (Nat × Int) :=
  [(0, diff32 (d.ctr pEVNT 0x10C) (d.ctr pEVNT 0x110 + d.ctr pEVNT 0x114 + d.ctr pEVNT 0x118))]

/-- Every ledger's instances by number. -/
def Dev.ledger (d : Dev) (n : Nat) : List (Nat × Int) :=
  match n with
  | 0 => d.ledCtx | 1 => d.ledSlices | 2 => d.ledTokens | 3 => d.ledPools | 4 => d.ledBufs | 5 => d.ledSubs | 6 => d.ledAreas | 7 => d.ledVault
  | 8 => d.ledBlocks | 9 => d.ledOps | 10 => d.ledLinks | 11 => d.ledPeer | 12 => d.ledJobs | 13 => d.ledRebuild | 14 => d.ledDram | 15 => d.ledKeys
  | 16 => d.ledDormant | 17 => d.ledEvents | _ => []

/-- Instances of each ledger (R527). -/
def ledgerInstances (n : Nat) : Nat :=
  [2, 67, 65, 66, 65, 1, 4097, 1, 4096, 1, 128, 33, 1, 1, 32, 2, 1, 1 + allPages.length].getD n 0

/-- The enabled instances whose identity fails: ledger, instance, difference. -/
def Dev.ledgerFails (d : Dev) : List (Nat × Nat × Int) :=
  ((List.range 18).filter (fun n => bitOf (d.cell pLEDG 0x800) n)).flatMap (fun n => ((d.ledger n).filter (fun e => e.2 != 0)).map (fun e => (n, e.1, e.2)))

/-! ## The audit (R529 to R531) -/

/-- Passes are suspended (R530): in RECOVERY, until a start or a wake has completed, in DORMANT, and from the freeze of a vault pass on. -/
def Dev.auditSuspended (d : Dev) : Bool :=
  d.fsto.recovery || d.powr.phase != .running || d.powr.entry == .waking || d.sysc.cur == .dormant || d.valt.st != .idle

def Dev.setLedg (d : Dev) (f : Ledg → Ledg) : Dev := { d with ledg := f d.ledg }

/-- A strobe: one snapshot of every ledger and of every page's EVT_COUNT; or a skipped one where a pass has not ended. -/
def Dev.strobe (d : Dev) : Dev :=
  if d.auditSuspended = true ∨ bitOf (d.cell pLEDG 0x100) 0 = false then d
  else
    match d.ledg.pass with
    | some s => (d.count pLEDG 0x12C 1).raise pLEDG 2 [(d.now - s.time) / 1000, (d.ctr pLEDG 0x12C + 1) % 2 ^ 32]
    | none => d.setLedg (fun l => { l with pass := some { time := d.now, fails := d.ledgerFails, counts := allPages.map (fun p => (p, (d.hdr p).evtCount)) }, poisonedOnce := false })

/-- AUDIT_STROBE. -/
def Dev.auditStrobe (d : Dev) : Dev := d.strobe

/-- AUDIT_NOW (R533): AUDIT_CTRL written with NOW, and EN beside it. -/
def Dev.auditNow (d : Dev) (en : Bool) (master : Nat) : Dev :=
  d.onWrite pLEDG 0x100 master (fun x =>
    let was := bitOf (x.cell pLEDG 0x100) 0
    let y := x.setCell pLEDG 0x100 (if en then 1 else 0)
    let z := if was = true ∧ en = false then y.raise pLEDG 4 [x.ctr pLEDG 0x800, x.ctr pLEDG 0x800, master] else y
    z.strobe)

/-- The pages whose EVT_COUNT has moved backwards since the last pass (R528). -/
def Ledg.backward (l : Ledg) (counts : List (Nat × Word)) : List (Nat × Nat × Int) :=
  if l.lastCounts.isEmpty then []
  else
    (counts.mapIdx (fun i e => (i, e))).filterMap (fun x =>
      let old := ((l.lastCounts.find? (fun y => y.1 == x.2.1)).map Prod.snd).getD 0
      let k : Nat := (x.2.2 - old).toNat
      if k < 2 ^ 31 ∨ l.resets.contains x.2.1 then none else some (17, 1 + x.1, (k : Int) - 2 ^ 32))

/-- A violation (R531). -/
def Dev.violation (d : Dev) (time : Nat) (v : Nat × Nat × Int) : Dev :=
  let d1 := d.setLedg (fun l => { l with latched := if l.latched.isSome then l.latched else some (v.1, v.2.1, v.2.2, time) })
  (d1.count pLEDG 0x10C 1).raise pLEDG 1 [v.1, v.2.1, ofSigned v.2.2, time % 2 ^ 32]

/-- A pass has its data: every enabled instance is judged. -/
def Dev.judge (d : Dev) (s : Snapshot) (us : Nat) : Dev :=
  let fails := s.fails ++ (if bitOf (d.cell pLEDG 0x800) 17 then d.ledg.backward s.counts else [])
  let d1 := d.each fails (fun x v => x.violation s.time v)
  let d2 := (d1.count pLEDG 0x108 1).setLedg (fun l =>
    { l with pass := none, poisonedOnce := false, lastCounts := s.counts, resets := [], result := if fails.isEmpty then 1 else 2, lastUs := us
             violMask := maskOf (fails.map Prod.fst)
             info := (List.range 18).map (fun n => ((fails.filter (fun v => v.1 == n)).length, if bitOf (d.cell pLEDG 0x800) n then ledgerInstances n else 0)) })
  if fails.isEmpty then d2 else ({ d2 with host := { d2.host with telemetry := d2.host.telemetry + 1 } }).aen aenTelemetry

/-- AUDIT_PASS_END, with what it took in µs, and the channel and address where its data came poisoned. -/
def Dev.auditPassEnd (d : Dev) (us : Nat) (poisoned : Option (Nat × Nat)) : Dev :=
  match d.ledg.pass with
  | none => d
  | some s =>
    match poisoned with
    | none => d.judge s us
    | some (ch, a) =>
      if d.ledg.poisonedOnce = false then d.setLedg (fun l => { l with poisonedOnce := true })
      else ((d.count pLEDG 0x108 1).setLedg (fun l => { l with pass := none, poisonedOnce := false, result := 3, lastUs := us })).raise pLEDG 3 [ch, a]

/-- LEDGER_AUDIT_DISABLE (R534): LEDGER_EN written with a value, or AUDIT_CTRL.EN cleared. -/
def Dev.ledgerAuditDisable (d : Dev) (v : Option Word) (master : Nat) : Dev :=
  match v with
  | some w =>
    d.onWrite pLEDG 0x800 master (fun x =>
      let old := x.ctr pLEDG 0x800
      let new := w.toNat % 2 ^ 18
      let y := x.setCell pLEDG 0x800 (u32 new)
      if (List.range 18).any (fun i => hasBit old i && !hasBit new i) then y.raise pLEDG 4 [old, new, master] else y)
  | none =>
    d.onWrite pLEDG 0x100 master (fun x =>
      if bitOf (x.cell pLEDG 0x100) 0 then (x.setCell pLEDG 0x100 0).raise pLEDG 4 [x.ctr pLEDG 0x800, x.ctr pLEDG 0x800, master] else x)

/-- VIOL_LEDGER_READ (R533): returns and clears, and re-arms the capture. -/
def Dev.violLedgerRead (d : Dev) (master : Nat) : Dev :=
  d.onRead pLEDG 0x114 master (fun x =>
    let w := match x.ledg.latched with | some (l, i, _, _) => 2 ^ 31 + l % 32 * 2 ^ 24 + i % 2 ^ 13 | none => 0
    (x.setLedg (fun l => { l with latched := none })).emit (.word (u32 w) false))

/-- VIOL_TIME_LO_READ (R533). -/
def Dev.violTimeLoRead (d : Dev) (master : Nat) : Dev :=
  d.onRead pLEDG 0x11C master (fun x =>
    let t := match x.ledg.latched with | some (_, _, _, t) => t | none => 0
    (x.setLedg (fun l => { l with hiLatch := l.hiLatch.put 0 master (t / 2 ^ 32 % 2 ^ 32) })).emit (.word (u32 t) false))

end Sys2Proof.Machine
end

