-- ==== Sys2Proof/Machine/Startup.lean ====
section
/-! DEFINITION. The start: the choice of the mode, blank start-up, and recovery (R21, R25, R26, R287 to R289, R413). -/

namespace Sys2Proof.Machine

/-! ## Blank start-up (R25, R26) -/


/-- A sled is on its way: its adoption or its geometry is not yet answered. -/
def Dev.sledsComing (d : Dev) : Bool :=
  (List.range 16).any (fun n => (d.port n).adopting || (d.port n).st == .auth || (d.port n).mgmt.any (fun r => r.op == 2))

/-- The controller is blank and waits for its sleds. -/
def Dev.blank (d : Dev) : Bool := d.sysc.base.isNone && d.sysc.cur == .standalone && d.zone.nss.isEmpty && d.powr.phase == .running

/-- Steps 2 to 4 of R25: namespace 1 over the lowest-numbered healthy sleds, attached to the PF of every port; STANDALONE is stored. -/
def Dev.blankFormat (d : Dev) (members : List Nat) (dn : Nat) : Dev :=
  let plc := members.any (fun n => (d.port n).plc)
  let n : Ns := { d := dn, members := members, plc := plc, groups := 1, meta_ := 0, pi := 0, guard := 16, zones := d.freeGroups members, slot := 0
                  attached := d.pfs, cond := 0, rebuild := [], cursors := [] }
  let d1 := (d.makeNs 1 n).tellNs 1 d.pfs
  ({ d1 with sysc := { d1.sysc with base := some .standalone } }).storeModes

/-- Blank start-up goes on as far as it can: once every sled under way has answered.  The sleds healthy then are those that new namespaces
may use (R22); where adoptions have failed and leave too few, that is told (R26). -/
def Dev.blankTry (d : Dev) : Dev :=
  if d.blank = false ∨ d.sledsComing = true then d
  else
    let l := d.mainType (d.healthy.filter (fun s => (d.media.sleds.get SledMedia.reset s).valid))
    let off (e : Dev) : Dev := { e with zone := { e.zone with blankOn := false } }
    match blankLayout l.length with
    | none => if d.zone.blankOn then (off d).tooFew else d
    | some dn =>
      let members := l.take (dn + 2)
      if d.freeGroups members = 0 then d
      else (off { d with zone := { d.zone with usable := some l } }).poolService.blankFormat members dn

/-- Step 1 of R25 at a start: every adoptable sled is adopted. -/
def Dev.blankStart (d : Dev) : Dev :=
  let d1 := d.blankAdopt
  (if d.blankCount < 8 then ({ d1 with zone := { d1.zone with blankOn := false } }).tooFew else d1).blankTry

/-! ## STARTUP_MODE_SELECT (R21) -/

/-- Reached adopted sleds, and those of them whose token names the other controller. -/
def Dev.reachedAdopted (d : Dev) : List Nat := d.healthy
def Dev.takenSleds (d : Dev) : List Nat := d.healthy.filter (fun n => (d.port n).token % 256 != d.peer.index)

/-- A mode is entered at start-up. -/
def Dev.startIn (d : Dev) (m : Mode) (ph : RunPhase) : Dev :=
  let d1 := d.setMode m
  { d1 with powr := { d1.powr with phase := ph } }

/-- PEER-STANDBY is entered: nothing is restored, and no sled is fenced or written. -/
def Dev.startStandby (d : Dev) : Dev :=
  let d1 := { d with peer := { d.peer with standby := true, pair := .solo }, host := { d.host with recovered := true } }
  (d1.startIn .peerStandby .running).readyFns

/-- STARTUP_MODE_SELECT: every port has reached UP, or 1 s has passed. -/
def Dev.startupModeSelect (d : Dev) : Dev :=
  if d.powr.phase ≠ .starting then d
  else
    let e := d.loadEpoch
    match d.sysc.base with
    | none =>
      let d1 := { e with host := { e.host with recovered := true } }
      ((d1.startIn .standalone .running).readyFns).blankStart
    | some .peerStandby => e.startStandby
    | some m =>
      let taken := e.takenSleds
      if (e.reachedAdopted).length < 2 * taken.length ∧ e.paired = true then
        let num := (e.valt.image.map Image.num).getD 0
        let d1 := { e with sysc := { e.sysc with base := some .peerStandby }, valt := { e.valt with anchor := { e.valt.anchor with cleared := Nat.max e.valt.anchor.cleared num } } }
        ((d1.storeModes.saveAnchor).raise pPEER 10 [taken.length, (e.reachedAdopted).length, m.code]).startStandby
      else (e.each taken (fun x n => x.sledFenced n (x.port n).token)).startIn m .recovering

/-! ## STARTUP_RECOVERY (R287, R288) -/

/-- Steps 3 and 4: the image's content, the checkpoint and the journal, as far as they can be read. -/
def Dev.replayAll (d : Dev) (im : Option Image) (pages : Nat) : Dev :=
  let d1 := match im with | some i => d.restoreImage i | none => d
  let flash := d.valt.flash.take pages
  let recs := flash.flatMap JPage.recs
  let last := Nat.max (lastSeq recs) ((d.valt.ckpt.map Ckpt.begin_).getD 0)
  let ring := (im.map Image.ring).getD []
  let first := ((ring.head?).map JRec.seq).getD last
  let rest := ring.filter (fun r => decide (last ≤ r.seq))
  let d2 := (d1.replayFrom d.valt.ckpt recs).each rest Dev.replayRec
  let d3 := { d2 with valt := { d2.valt with flash := flash, ring := rest, nextSeq := Nat.max last (lastSeq rest) } }
  if last < first then d3.raise pVALT 8 [last - 1, first] else d3

/-- Step 2: the test of the newest image, and what it says. -/
def Dev.tellImage (d : Dev) (t : ImageTest) (closed : Nat) : Dev :=
  match t with
  | .usable _ => d
  | .discarded im s => d.raise pVALT 6 [im.num, s, (d.port s).token / 256, im.tokens.getD s 0 / 256]
  | .none_ num cause => d.raise pVALT 2 [num, cause, closed]

/-- The events that arose while the controller was frozen are recorded from the seal (R292). -/
def Dev.tellSeal (d : Dev) (im : Image) : Dev :=
  let st : Stamp := { seconds := im.opSeconds, hours := im.opHours, cycles := im.cycles }
  let d1 := d.present { page := pVALT, num := 1, params := [im.num, im.rows, im.us, im.width], stamp := st }
  if im.rose then d1.present { page := pVALT, num := 10, params := [im.num, im.roseMs], stamp := st } else d1

/-- A Sanitize that was under way runs again (R413). -/
def Dev.resumeSanitize (d : Dev) : Dev :=
  if d.cfgRead 6 0 = some [1] then
    ({ d with cryp := { d.cryp with san := some { phase := .draining, ctx := none, started := d.now, resumed := true, psn := 0, zones := 0 } } }).sanStep
  else d

/-- Step 10: namespaces are attached and host I/O is admitted. -/
def Dev.admitHost (d : Dev) : Dev :=
  let d1 := { d with host := { d.host with recovered := true }, powr := { d.powr with phase := .running } }
  let d2 := if d1.sysc.base = some .partitioned then d1.makePartitions else d1
  let d3 := d2.each (d2.zone.nss.map Prod.fst) (fun x n => x.tellNs n (((x.ns n).map Ns.attached).getD []))
  d3.resumeSanitize.readyFns.idleCheck

/-- Steps 5 to 8 where an image is used, and what stands in their place where none is (R288). -/
def Dev.settleAll (d : Dev) (im : Option Image) (r : Readout) : Dev × Nat × Nat :=
  match im with
  | some i =>
    let d1 := ((d.mergeZones i).mergeBlocks i).vaultBlocks
    let d2 := (d1.settleMembers i.targets).recomputeAcc r.unread
    let u := d2.resolveUnits r.bad
    (u.1.settleCommands, u.2, 0)
  | none =>
    let c := d.closeActive
    ((c.1.vaultBlocks).settleMembers [], 0, c.2)

/-- Step 9: the ring is flushed, CLEARED set, and the pool renewed. -/
def Dev.clearImage (d : Dev) : Dev :=
  let num := (d.valt.image.map Image.num).getD 0
  let d1 := Dev.flushRing (d.valt.ring.length + 1) d
  (({ d1 with valt := { d1.valt with anchor := { d1.valt.anchor with cleared := Nat.max d1.valt.anchor.cleared num } } }).saveAnchor).poolRenew

/-- Step 10 and what is told of the recovery (R288, R292). -/
def Dev.recoverEnd (d : Dev) (im : Option Image) (segs ms lost : Nat) : Dev :=
  let d1 := (({ d with valt := { d.valt with restoreMs := ms, recSegs := segs } }).resetCursors).admitHost.raise pVALT 3 [((im.map Image.num).getD 0), segs, ms, lost]
  match im with | some i => d1.tellSeal i | none => d1

/-- STARTUP_RECOVERY. -/
def Dev.startupRecovery (d : Dev) (r : Readout) : Dev :=
  if d.powr.phase ≠ .recovering then d
  else
    let t := d.imageTest r.segs
    let im := match t with | .usable i => some i | _ => none
    let d1 := (d.replayAll im r.pages).markUncertain
    let s := d1.settleAll im r
    let d2 := (s.1.tellImage t s.2.2).loadKeys
    let d3 := match im with | some i => (d2.applyCfg i.cfg).loadEpoch | none => d2
    let d4 := (d3.clearImage.eraseWaiting).resumeAreas
    d4.recoverEnd im (match im with | some i => d.segsRebuilt i r.segs | none => 0) r.ms s.2.1

/-! ## LAYOUT_CHANGE (R22) -/

/-- LAYOUT_CHANGE: a service action that sets the sleds new namespaces may use; it is over as soon as the set is taken. -/
def Dev.layoutChange (d : Dev) (sleds master : Nat) : Dev :=
  let v := d.mgmtVote pZONE
  if v.sysc.cur = .service then v.refuseChange 5 master
  else if v.mayServe = false then v.refuseChange 6 master
  else
    let d1 := v.enterService .layout
    ({ d1 with zone := { d1.zone with usable := some ((List.range 16).filter (hasBit sleds)) } }).leaveService

end Sys2Proof.Machine
end

