-- ==== Sys2Proof/Machine/Power.lean ====
section
/-! DEFINITION. The commands of POWR, CLKR and SIDE (R464 to R494). -/

namespace Sys2Proof.Machine

/-! ## The prepare phase (R466 to R468) -/

/-- Held contexts of a port that the host waits for: all but Asynchronous Event Requests. -/
def Dev.heldOn (d : Dev) (port : Nat) : Nat :=
  d.host.ctxs.count (fun k e => ctxPort k == port && (match e.e.cmd with | .asyncEvent => false | _ => true))

/-- An SQ of a port holds an entry that has not been fetched. -/
def Dev.sqWaits (d : Dev) (port : Nat) : Bool :=
  (d.hport port).fns.any (fun e => e.2.en && e.2.sqs.any (fun q => q.2.head != q.2.tail))

/-- Port states that vote against an entry at step 11. -/
def PortState.transient : PortState → Bool
  | .powering | .training | .exchange | .auth | .quiescing => true
  | _ => false

/-- What the block of a prepare step answers: none where it has stopped or agrees, else its block code and reason (R467). -/
def Dev.prepAnswer (d : Dev) (step : Nat) : Option (Nat × Nat) :=
  match step with
  | 1 =>
    if d.sysc.cur ≠ .standalone ∧ d.sysc.cur ≠ .partitioned then some (pSYSC, 4)
    else if d.peer.pair ≠ .unpaired then some (pSYSC, 5)
    else if d.valt.ckptOn.isSome then some (pSYSC, 2)
    else none
  | 2 =>
    match [0, 1].find? (fun p => decide (d.heldOn p ≠ 0) || d.sqWaits p) with
    | some p => some (pHOST p, if d.heldOn p ≠ 0 then 2 else 1)
    | none => none
  | 3 =>
    if d.media.dies.any (fun e => !e.2.queue.isEmpty) then some (pSCHD, 1)
    else if d.sched.streams.isEmpty = false then some (pSCHD, 2)
    else none
  | 4 =>
    if d.zone.areas.any (fun e => e.2.st == .programming || e.2.st == .draining) then some (pZONE, 2)
    else if d.zone.zones.any (fun e => !e.2.cmds.isEmpty) then some (pZONE, 1)
    else none
  | 5 =>
    if d.prty.rebuild.isSome ∧ d.rf pPRTY 0x100 0 8 ≠ 0 then some (pPRTY, 2)
    else if d.prty.jobs.isEmpty = false then some (pPRTY, 1)
    else none
  | 6 => if d.opsOpen ≠ 0 ∨ d.media.copies.isEmpty = false then some (pMEDI, 2) else none
  | 7 => if d.dgst.running.isSome ∨ d.dgst.queue.isEmpty = false then some (pDGST, 2) else none
  | 8 => if d.ledgerFails.isEmpty then none else some (pLEDG, 8)
  | 9 => ([0, 1, 2, 3].find? (fun c => (d.chan c).st == .copying)).map (fun c => (pDRAM c, 2))
  | 10 => if d.valt.budget < d.vaultLoad ∨ d.vaultBudget.1.length < 4 then some (pVALT, 9) else none
  | 11 =>
    match (List.range 16).find? (fun n => (d.port n).st.transient || decide (d.openOn n ≠ 0)) with
    | some n => some (pSLK n, if (d.port n).st.transient then 3 else 2)
    | none => none
  | 12 =>
    if d.bankBusy 0 ∨ d.bankBusy 1 then some (pFSTO, 2)
    else if d.thrm.step ≠ 0 then some (pTHRM, 10)
    else none
  | _ => none

/-- The block asked at a step, where none has answered. -/
def prepBlock (step : Nat) : Nat :=
  [pSYSC, pSYSC, pHOST 0, pSCHD, pZONE, pPRTY, pMEDI, pDGST, pLEDG, pDRAM 0, pVALT, pSLK 0, pFSTO].getD step 0

/-- IDLE_TIMER_EXPIRY (R466): the prepare phase begins with step 1. -/
def Dev.idleTimerExpiry (d : Dev) : Dev :=
  if d.powr.entry = .timing ∧ d.idleMay then
    ({ d with powr := { d.powr with entry := .prepare, step := 1, timerAt := none, expiredAt := d.now, stopped := [] } }).modeBusy.count pPOWR 0x118 1
  else d

/-- PREPARE_STEP_ANSWER (R467): the block of the present step stops, votes for the entry, or refuses.  After the twelfth, COMMIT is sent. -/
def Dev.prepareStepAnswer (d : Dev) : Dev :=
  if d.powr.entry ≠ .prepare ∨ 12 < d.powr.step then d
  else
    match d.prepAnswer d.powr.step with
    | some (b, r) => d.prepRefuse b r
    | none =>
      { d with powr := { d.powr with step := d.powr.step + 1, stopped := if d.powr.step ≤ 7 then d.powr.stopped ++ [d.powr.step] else d.powr.stopped }
               host := { d.host with stopped := d.host.stopped || d.powr.step == 2 } }

/-- PREPARE_STEP_TIMEOUT (R467): reason 6. -/
def Dev.prepareStepTimeout (d : Dev) : Dev :=
  if d.powr.entry ≠ .prepare ∨ 12 < d.powr.step then d else d.prepRefuse (prepBlock d.powr.step) 6

/-- VOTE_WITHDRAW (R467): a block of the steps 8 to 12 that has voted finds its condition changed before the commit. -/
def Dev.voteWithdraw (d : Dev) (step : Nat) : Dev :=
  if d.powr.entry ≠ .prepare ∨ step < 8 ∨ d.powr.step ≤ step then d
  else
    match d.prepAnswer step with
    | some (b, r) => ({ d with powr := { d.powr with step := step } }).prepRefuse b r
    | none => d

/-- DORMANT_COMMIT (R469): the commit is taken; a wake latched before turns it into a refusal.  The vault pass of cause 1 begins, and what
follows it is taken at its end. -/
def Dev.dormantCommit (d : Dev) : Dev :=
  if d.powr.entry ≠ .prepare ∨ d.powr.step ≠ 13 then d
  else if d.powr.wakeLatch ≠ 0 then d.prepRefuse pPOWR 7
  else
    (({ d with powr := { d.powr with entry := .commit, backoff := 0, step := 0, wakeSrc := 0 } }).count pPOWR 0x11C 1).vaultFreeze 1 none false

/-! ## Wake (R472 to R475, R504) -/

/-- Steps 1 to 4 of R475: the PLLs lock, the gates open, DRAM leaves self-refresh, and the ports train. -/
def Dev.wakeStart (d : Dev) : Dev :=
  let d1 := d.each allPages (fun x p => x.setHdr p (fun h => if h.pwr = 0 then h else { h with pwr := 3, wakingFrom := if h.pwr = 1 then 3 else 2 }))
  let d2 := (d1.dramWake).padFree 2
  { d2 with powr := { d2.powr with entry := .waking, wokeAt := d.now }, sysc := { d2.sysc with busy := d.sysc.busy || decide (d.sysc.cur = .dormant) }, clkr := { d2.clkr with pllLock := d2.clkr.pllLock ||| 3 } }

/-- DORMANT_WAKE (R475): the latched sources begin a wake. -/
def Dev.dormantWake (d : Dev) : Dev :=
  if d.sysc.cur = .dormant ∧ d.powr.entry = .none ∧ d.powr.wakeLatch ≠ 0 ∧ d.valt.st ≠ .halt then
    ({ d with powr := { d.powr with wakeSrc := d.powr.wakeLatch, wakeLatch := 0 }, ledg := { d.ledg with lastCounts := [], pass := none } }).wakeStart
  else d

/-- VALT leaves PARKED (R272): the image is cleared in the anchor, the pool renewed, and what the seal holds is recorded. -/
def Dev.unpark (d : Dev) : Dev :=
  if d.valt.st ≠ .parked then d
  else
    match d.valt.image with
    | none => { d with valt := { d.valt with st := .idle } }
    | some im =>
      let v := { d.valt with st := .idle, anchor := { d.valt.anchor with cleared := Nat.max d.valt.anchor.cleared im.num } }
      ((({ d with valt := v }).saveAnchor).poolRenew).tellSeal im

/-- WAKE_COMPLETE (R475 steps 5 to 7): every member port is UP, or 40 ms have passed.  After an orderly stop the mode has stayed (R504). -/
def Dev.wakeComplete (d : Dev) : Dev :=
  if d.powr.entry ≠ .waking ∨ d.valt.st = .halt then d
  else
    let up := ((List.range 16).filter (fun n => (d.port n).st == .up)).length
    let took := (d.now - d.powr.wokeAt) / 100000
    let d1 := d.each allPages (fun x p => x.setHdr p (fun h => { h with pwr := 0 }))
    let d2 := { d1 with powr := { d1.powr with entry := .none }, host := { d1.host with stopped := false } }
    if d.sysc.cur = .dormant then
      let m := d2.sysc.ret.getD .standalone
      let d3 := { d2 with powr := { d2.powr with timeWake := took }, sysc := { d2.sysc with ret := none }, side := { d2.side with running := bitOf (d2.cell pSIDE 0x104) 0 } }
      ((((((d3.storeModes).setMode m).slotsWake).presentHeld).unpark).raise pPOWR 3 [d.powr.wakeSrc, took, up]).redundancy.vaultRefresh
    else (((d2.idleCheck).presentHeld).unpark).redundancy.vaultRefresh

/-- POWR_WAKE_WRITE (R472): WAKE_CTRL with WAKE. -/
def Dev.powrWakeWrite (d : Dev) (v : Word) (master : Nat) : Dev :=
  d.onWrite pPOWR 0x110 master (fun x => if bitOf v 0 then x.wakeIn 5 pPOWR else x)

/-- The SMBus address (R473). -/
def Dev.smbAddr (d : Dev) : Nat := 0x6A + fld d.sysc.straps 4 2

/-- SMBUS_ADDRESS_MATCH (R473): a START with the device's address.  While SIDE does not run, the address is not acknowledged; in DORMANT it
wakes the device; in the prepare phase it is a refusal (R468). -/
def Dev.smbusAddressMatch (d : Dev) (addr : Nat) : Dev :=
  if addr ≠ d.smbAddr ∨ d.powr.phase = .inReset then d
  else
    let asleep := d.powr.entry = .commit ∨ (d.sysc.cur = .dormant ∧ d.powr.entry ≠ .waking)
    if asleep then
      let d1 := { d with side := { d.side with wakes := (d.side.wakes + 1) % 2 ^ 32, addrNacks := (d.side.addrNacks + 1) % 2 ^ 32 } }
      (d1.raise pSIDE 1 [addr, d1.side.wakes]).wakeIn 3 pSIDE
    else if d.side.running then d.wakeIn 3 pSIDE
    else { d with side := { d.side with addrNacks := (d.side.addrNacks + 1) % 2 ^ 32 } }

/-! ## Pad holds (R476, R477) -/

/-- Pads of the SLOT group that count for its release: those of the slots that are occupied. -/
def Dev.slotPads (d : Dev) (v : Nat) : Nat :=
  maskOf ((List.range 16).filter (fun n => (d.port n).prsnt && hasBit v n))
    + 65536 * maskOf ((List.range 16).filter (fun n => (d.port n).prsnt && hasBit (v / 65536) n))

/-- The owning block drives every pad of a held group at its held level. -/
def Dev.padMatches (d : Dev) (g : Nat) : Bool :=
  let held := (d.powr.padLevel.find g).getD 0
  let asleep := decide (d.sysc.cur = .dormant) && decide (d.powr.entry ≠ .waking)
  if asleep then false
  else if g = 0 then d.slotPads (d.padDriven 0) == d.slotPads held
  else if g = 2 then [0, 1, 2, 3].all (fun c => (d.chan c).st != .selfRefresh)
  else if g = 3 then d.side.running && d.padDriven 3 == held
  else d.padDriven g == held

/-- PAD_HOLD_RELEASE (R477). -/
def Dev.padHoldRelease (d : Dev) (g : Nat) : Dev :=
  if hasBit d.powr.padHeld g = true ∧ g < 4 ∧ d.padMatches g = true then d.padFree g else d

/-- The held levels are loaded into the owning block's output registers. -/
def Dev.padLoad (d : Dev) (g : Nat) : Dev :=
  let held := (d.powr.padLevel.find g).getD 0
  if g = 0 then
    d.each ((List.range 16).filter (fun n => (d.port n).prsnt)) (fun x n =>
      (x.setPort n (fun p => { p with pwren := hasBit held n })).setCell (pSLK n) 0x10C
        (setFld (x.cell (pSLK n) 0x10C) 0 2 (if hasBit (held / 65536) n then 0 else 1)))
  else if g = 1 then
    { d with thrm := { d.thrm with fans := (List.range 4).foldl (fun (m : SMap Fan) n =>
        m.put Fan.reset n { m.get Fan.reset n with duty := if hasBit held n then 100 else 0 }) d.thrm.fans } }
  else if g = 3 then { d with side := { d.side with alert := decide (held = 0) } }
  else d

/-- PAD_HOLD_TIMEOUT (R477): PAD_CTRL.MS after the wake or the reset. -/
def Dev.padHoldTimeout (d : Dev) (g : Nat) : Dev :=
  if hasBit d.powr.padHeld g = false ∨ 4 ≤ g ∨ (d.sysc.cur = .dormant ∧ d.powr.entry ≠ .waking) then d
  else
    let held := (d.powr.padLevel.find g).getD 0
    (({ (d.padLoad g).padFree g with free := d.free + 1 }).raise pPOWR 5 [g, held, d.padDriven g])

/-! ## Rails, references and clocks (R478 to R482) -/

/-- The nominal voltages of the rails, mV. -/
def railNominal : List Nat := [750, 1800, 1200, 750, 850, 800, 800, 1100]

/-- A rail lies outside its nominal ± tolerance, the tolerance in units of 0.5 %. -/
def railOut (nom tol mv : Nat) : Bool := decide (nom * tol < 200 * (if nom < mv then mv - nom else nom - mv))

/-- One rail of a sample: ten samples in a row outside make an excursion. -/
def Dev.railOne (d : Dev) (e : Nat × Nat) : Dev :=
  let old := (d.powr.rails.find e.1).getD (0, 0, 0)
  let tol := ((d.sysc.manifest.rails.find? (fun t => t.1 == e.1)).map (fun t => t.2 % 16)).getD 0
  if d.sysc.manifest.valid = true ∧ railOut (railNominal.getD e.1 0) tol e.2 = true then
    let n := if old.2.2 < 11 then old.2.2 + 1 else 11
    if n = 10 then
      ({ d with powr := { d.powr with rails := d.powr.rails.set e.1 (e.2, satAt 255 (old.2.1 + 1), n) } }).raise pPOWR 4 [e.1, e.2, tol]
    else { d with powr := { d.powr with rails := d.powr.rails.set e.1 (e.2, old.2.1, n) } }
  else { d with powr := { d.powr with rails := d.powr.rails.set e.1 (e.2, old.2.1, 0) } }

/-- RAIL_SAMPLE (R480): the eight rails in mV, every 10 µs. -/
def Dev.railSample (d : Dev) (mvs : List Nat) : Dev :=
  d.each ((List.range 8).filterMap (fun i => (mvs[i]?).map (fun v => (i, v)))) Dev.railOne

/-- Every link that is in use goes down with loss of signal (R213, R482). -/
def Dev.linksLost (d : Dev) : Dev :=
  let d1 := d.each ((List.range 16).filter (fun n => (d.port n).st.linked)) (fun x n => x.resetLink (.port n) 2)
  d1.each ([0, 1, 2, 3].filter (fun n => (d.lane n).st.linked)) (fun x n => x.resetLink (.lane n) 2)

/-- REFERENCE_LOSS (R482): 0 the crystal, 1 and 2 the PCIe references, 3 the link reference. -/
def Dev.referenceLoss (d : Dev) (input : Nat) : Dev :=
  if hasBit d.clkr.refs input = false ∨ 3 < input then d
  else
    let d1 := ({ d with clkr := { d.clkr with refs := d.clkr.refs - 2 ^ input } }).raise pCLKR 2 [input]
    if input = 0 then d1.warmNow 8 false .crystal
    else if input = 3 then d1.linksLost
    else d1.pcieLinkDown (input - 1)

/-- The PLLs that have lock (R481): 0 core, 1 DRAM, 2 and 3 HOST A and B, then the link PLLs of ports and lanes. -/
def Dev.pllLocked (d : Dev) (pll : Nat) : Bool :=
  if pll < 2 then hasBit d.clkr.pllLock pll
  else if pll < 4 then
    let p := pll - 2
    hasBit d.clkr.refs (1 + p) && d.hportOn p && (d.hport p).lstate != 6 && (d.hport p).lstate != 7 && d.powr.phase != .inReset
  else if pll < 20 then hasBit d.clkr.refs 3 && (d.port (pll - 4)).st.linked
  else decide (pll < 24) && hasBit d.clkr.refs 3 && (d.lane (pll - 20)).st.linked

/-- PLL_LOCK_LOSS (R482): event 0x0301, then the reset of the crystal row, or link loss. -/
def Dev.pllLockLoss (d : Dev) (pll : Nat) : Dev :=
  if d.pllLocked pll = false then d
  else
    let d1 := { d with clkr := { d.clkr with losses := satAt 255 (d.clkr.losses + 1) } }
    let d2 := d1.raise pCLKR 1 [pll, d1.clkr.losses]
    if pll < 2 then d2.warmNow 8 false (if hasBit d.clkr.refs 0 then .none else .crystal)
    else if pll < 4 then d2.pcieLinkDown (pll - 2)
    else if pll < 20 then d2.resetLink (.port (pll - 4)) 2
    else d2.resetLink (.lane (pll - 20)) 2

/-- REFERENCE_APPEARS (R482): the crystal has run for 1 ms, or a reference is back. -/
def Dev.referenceAppears (d : Dev) (input : Nat) (trains : Bool) : Dev :=
  if hasBit d.clkr.refs input = true ∨ 3 < input then d
  else
    let d1 := { d with clkr := { d.clkr with refs := d.clkr.refs + 2 ^ input } }
    if input = 0 ∧ d.clkr.hold = .crystal then Dev.boot bootTries d1 trains else d1

/-- AON_CALIBRATION (R481), with the error found, while the core PLL runs. -/
def Dev.aonCalibration (d : Dev) (ppm : Int) : Dev :=
  if hasBit d.clkr.pllLock 0 = false ∨ d.sysc.cur = .dormant then d
  else
    let d1 := { d with clkr := { d.clkr with aonPpm := ppm } }
    if ppm < -20000 ∨ 20000 < ppm then d1.raise pCLKR 4 [ofSigned ppm] else d1

/-- The firmware runs. -/
def Dev.fwRuns (d : Dev) : Bool :=
  (d.powr.phase == .starting || d.powr.phase == .recovering || d.powr.phase == .running) && d.sysc.cur != .dormant

/-- HOUR_TICK (R484): the hour changes; the firmware makes a BOOTCNT record. -/
def Dev.hourTick (d : Dev) : Dev :=
  let d1 := { d with clkr := { d.clkr with opHours := (d.clkr.opHours + 1) % 2 ^ 32, opSeconds := 0 } }
  if d1.fwRuns then d1.saveBootcnt else d1

/-! ## The sideband (R492 to R494) -/

/-- SMBUS_PACKET_RECEIVE (R492): an MCTP packet from a source address; with a good PEC it may carry the bus owner's assignment of an endpoint
ID, and is answered by the packets `replies`. -/
def Dev.smbusPacketReceive (d : Dev) (src : Nat) (pecOk : Bool) (eid : Option Nat) (replies : List (List Byte)) : Dev :=
  if d.side.running = false then d
  else if pecOk then
    let d1 := (d.count pSIDE 0x114 1).count pSIDE 0x118 replies.length
    let d2 := match eid with | some e => { d1 with side := { d1.side with eid := e % 256 } } | none => d1
    d2.each replies (fun x r => x.emit (.smbus r))
  else
    let d1 := d.count pSIDE 0x11C 1
    d1.raise pSIDE 2 [src, (d1.cell pSIDE 0x11C).toNat]

/-- SMBUS_TIMEOUT (R492): SCL has been low for SMB_TIMING.MS; the bus is released. -/
def Dev.smbusTimeout (d : Dev) : Dev :=
  if d.side.running = false then d
  else
    let d1 := ({ d with side := { d.side with busy := false, master := false } }).count pSIDE 0x120 1
    let stat := 1 + (if d.side.busy then 2 else 0) + (if d.side.master then 4 else 0)
    d1.raise pSIDE 3 [(d1.cell pSIDE 0x120).toNat, stat]

/-- ALERT_ACK (R492): ALERT_CTRL with ACK; its threshold is taken with it. -/
def Dev.alertAck (d : Dev) (v : Word) (master : Nat) : Dev :=
  d.onWrite pSIDE 0x10C master (fun x =>
    let y := x.setCell pSIDE 0x10C (u32 (fld v 0 2))
    if bitOf v 8 then { y with side := { y.side with alert := false } } else y)

end Sys2Proof.Machine
end

