-- ==== Sys2Proof/Machine/Therm.lean ====
section
/-! DEFINITION. The commands of THRM: sensors, ladder, orderly stop, trip, sled temperatures and fans (R495 to R509). -/

namespace Sys2Proof.Machine

/-! ## Sensors (R495 to R500) -/

/-- The neighbour groups G0 to G6. -/
def groupsG : List (List Nat) :=
  [[0, 1, 2, 3], [4, 5, 6, 7], [8, 9, 10, 11], [12, 13, 14, 15], [16, 17, 21], [18, 19, 20], [22, 23]]

/-- The group of a sensor. -/
def groupOfSensor (i : Nat) : List Nat := (groupsG.find? (fun g => g.contains i)).getD []

/-- `n` bits from bit `lo` of the TRIM bytes 48 to 63, which are words 12 to 15 of the row. -/
def Dev.trim (d : Dev) (lo n : Nat) : Nat :=
  let w (k : Nat) : Nat := (d.otp.get otpDefault (12 + k)).toNat
  (w 0 + w 1 * 2 ^ 32 + w 2 * 2 ^ 64 + w 3 * 2 ^ 96) / 2 ^ lo % 2 ^ n

/-- A count as a temperature in 1/16 °C (R496); with a SLOPE of 0 nothing says what it is. -/
def Dev.tempOf (d : Dev) (i n : Nat) : Int :=
  let slope : Int := (d.trim 16 8 : Nat)
  let ofs := signedOf 4 (d.trim (24 + 4 * i) 4)
  if slope = 0 then (Config.freeNat d.free : Int) else 400 + 16 * ((n : Int) - (d.trim 0 16 : Nat) + 8 * ofs) / slope

/-- The mean of the results held. -/
def Sensor.filtered (s : Sensor) : Int := if s.hist.isEmpty then 0 else s.hist.sum / (s.hist.length : Nat)

def Dev.sensor (d : Dev) (i : Nat) : Sensor := d.thrm.sensors.get Sensor.reset i

def Dev.setSensor (d : Dev) (i : Nat) (f : Sensor → Sensor) : Dev :=
  { d with thrm := { d.thrm with sensors := d.thrm.sensors.upd Sensor.reset i f } }

/-- Insert into a rising list. -/
def insInt (x : Int) : List Int → List Int
  | [] => [x]
  | y :: t => if x ≤ y then x :: y :: t else y :: insInt x t

def sortInt (l : List Int) : List Int := l.foldl (fun a x => insInt x a) []

/-- The median: of an even number, the mean of the two in the middle. -/
def median (l : List Int) : Int :=
  let s := sortInt l
  let n := s.length
  if n = 0 then 0
  else if n % 2 = 1 then s.getD (n / 2) 0
  else (s.getD (n / 2 - 1) 0 + s.getD (n / 2) 0) / 2

/-- Working members of a sensor's group, by their filtered values; `but` left out. -/
def Dev.workingOf (d : Dev) (g : List Nat) (but : List Nat) : List Int :=
  (g.filter (fun j => !but.contains j && !(d.sensor j).broken && !(d.sensor j).hist.isEmpty)).map (fun j => (d.sensor j).filtered)

/-- A result enters a sensor: its count, how long it has been the same, and the last four results. -/
def Dev.senseOne (d : Dev) (i n : Nat) : Dev :=
  let t := d.tempOf i n
  let d0 := if d.trim 16 8 = 0 then d.takeFree else d
  d0.setSensor i (fun s => { s with count := n, same := if s.hist.isEmpty = false ∧ s.count = n then s.same + 1 else 1, hist := (t :: s.hist).take 4 })

/-- A sensor is marked broken: event 0x0404. -/
def Dev.markBroken (d : Dev) (i cause : Nat) : Dev :=
  (d.setSensor i (fun s => { s with broken := true })).raise pTHRM 4 [i, cause, (d.sensor i).count, d.rf pTHRM 0x80C 0 1]

/-- Range and stuck marks (R498). -/
def Dev.markOwn (d : Dev) (i : Nat) : Dev :=
  let s := d.sensor i
  let t := s.hist.headD 0
  if s.broken then d
  else if t < -640 ∨ 2400 < t then d.markBroken i 0
  else if 16 ≤ s.same then d.markBroken i 1
  else d

/-- Sensors that differ from the median of their group's working members in this result, while at least two others agree within 5 °C. -/
def Dev.isOff (d : Dev) (i : Nat) : Bool :=
  let g := groupOfSensor i
  let all := d.workingOf g []
  let others := sortInt (d.workingOf g [i])
  let f := (d.sensor i).filtered
  let m := median all
  let delta : Int := ((16 * d.rf pTHRM 0x80C 16 8 : Nat) : Int)
  let far := decide (delta < f - m) || decide (delta < m - f)
  let agree := decide (2 ≤ others.length) && decide (others.getLastD 0 - others.headD 0 ≤ 80)
  !(d.sensor i).broken && far && agree

/-- The neighbour mark (R498): eight results in a row. -/
def Dev.markOff (d : Dev) (i : Nat) (off : Bool) : Dev :=
  let n := if off then (d.sensor i).off + 1 else 0
  let d1 := d.setSensor i (fun s => { s with off := satAt 8 n })
  if off = true ∧ 8 ≤ n then d1.markBroken i 2 else d1

/-- The results of one window, for the sensors that count: results, then marks. -/
def Dev.senseAll (d : Dev) (rs : List (Nat × Nat)) : Dev :=
  let d1 := d.each rs (fun x e => x.senseOne e.1 e.2)
  let d2 := d1.each (rs.map Prod.fst) Dev.markOwn
  let offs := (rs.map Prod.fst).map (fun i => (i, d2.isOff i))
  d2.each offs (fun x e => x.markOff e.1 e.2)

/-- A group of which every member is broken is unwatched: event 0x0405, once (R499). -/
def Dev.blindCheck (d : Dev) : Dev :=
  let now := (List.range 7).filter (fun g => (groupsG.getD g []).all (fun i => (d.sensor i).broken))
  let new := now.filter (fun g => !d.thrm.blind.contains g)
  (({ d with thrm := { d.thrm with blind := now } }).each new (fun x g => x.raise pTHRM 5 [g]))

/-- The effective value of a sensor (R499, R500). -/
def Dev.effective (d : Dev) (i : Nat) : Int :=
  let s := d.sensor i
  if s.broken = false then s.filtered
  else if d.rf pTHRM 0x80C 0 1 = 0 then 1680
  else
    match d.workingOf (groupOfSensor i) [] with
    | [] => 1680
    | t :: ts => ts.foldl (fun a b => if a < b then b else a) t + ((16 * d.rf pTHRM 0x80C 8 8 : Nat) : Int)

/-- *Tj* and its sensor, of equal ones the lower. -/
def Dev.setTj (d : Dev) : Dev :=
  let seen := (List.range 24).filter (fun i => (d.sensor i).broken || !(d.sensor i).hist.isEmpty)
  match seen with
  | [] => d
  | i :: is =>
    let b := is.foldl (fun (a : Nat × Int) j => let t := d.effective j; if a.2 < t then (j, t) else a) (i, d.effective i)
    { d with thrm := { d.thrm with tj := b.2, tjSensor := b.1 } }

/-! ## The ladder (R503 to R505) -/

/-- The threshold of a step, 1/16 °C. -/
def Dev.stepAt (d : Dev) (k : Nat) : Int := ((16 * d.rf pTHRM 0x800 (8 * (k - 1)) 8 : Nat) : Int)

/-- The lowest step permitted: FORCE, an unwatched group, a hot DRAM. -/
def Dev.stepFloor (d : Dev) : Nat :=
  let f := d.rf pTHRM 0x804 8 3
  let force := if f < 4 then f else 3
  Nat.max force (Nat.max (if d.thrm.blind.isEmpty then 0 else 2) (if d.thrm.hot = 0 then 0 else 1))

/-- The highest step whose threshold is met. -/
def Dev.stepMet (d : Dev) : Nat := [4, 3, 2, 1].find? (fun k => decide (d.stepAt k ≤ d.thrm.tj)) |>.getD 0

/-- The ladder changes: event 0x0401, STEP_UPS for each step entered, and the critical warning (R307). -/
def Dev.setStep (d : Dev) (k : Nat) : Dev :=
  let old := d.thrm.step
  if k = old then d
  else
    let d1 := ({ d with thrm := { d.thrm with step := k } }).count pTHRM 0x128 (k - old)
    (d1.raise pTHRM 1 [old, k, ofSigned d.thrm.tj, d.thrm.tjSensor]).warnCheck

/-- The service action that a stop abandons (R504): all but an activation that is swapping. -/
def Dev.abandonService (d : Dev) : Dev :=
  match d.sysc.service with
  | some .activation => d.activationDrainTimeout
  | some .replacement => ({ d with prty := { d.prty with replace := none } }).leaveService
  | some .handover => d.abandonHandover
  | some .layout => d.leaveService
  | none => d

/-- The number that the next image takes. -/
def Dev.nextImage (d : Dev) : Nat := Nat.max ((d.valt.image.map Image.num).getD 0) d.valt.unsealedNum + 1

/-- An orderly stop begins (R504 step 1): event 0x0402.  A prepare phase ends as a refusal with reason 10; where a DORMANT entry has been
committed, its pass goes on. -/
def Dev.stopStart (d : Dev) : Dev :=
  let d1 := d.prepRefuse pTHRM 10
  if d1.powr.entry = .commit ∨ d1.sysc.cur = .dormant ∨ d1.thrm.stoppedAt.isSome then d1
  else
    let d2 := if d1.sysc.cur = .service ∧ d1.host.act ≠ .swapping then d1.abandonService else d1
    let d3 := { d2 with thrm := { d2.thrm with stoppedAt := some d2.now }, host := { d2.host with stopped := true } }
    (d3.count pTHRM 0x12C 1).raise pTHRM 2 [ofSigned d.thrm.tj, d.thrm.tjSensor, d.nextImage]

/-- Step 2 of R504: once the commands already fetched have ended, the vault pass of DORMANT entry.  A controller that owns no sled has nothing
to save. -/
def Dev.stopGoOn (d : Dev) : Dev :=
  if d.thrm.stoppedAt.isNone ∨ d.valt.st ≠ .idle ∨ d.thrm.step ≠ 4 ∨ d.host.act = .swapping then d
  else if d.heldOn 0 ≠ 0 ∨ d.heldOn 1 ≠ 0 then d
  else if d.active = true ∧ d.host.recovered = true ∧ d.sysc.base.isSome = true then d.vaultFreeze 1 none false
  else if (d.chan 0).st = .selfRefresh then d
  else d.stopTail

/-- The ladder is evaluated (R503). -/
def Dev.ladder (d : Dev) : Dev :=
  let want := Nat.max d.stepMet d.stepFloor
  let d1 := if d.thrm.step < want then d.setStep want else d
  let d2 := if d1.thrm.step = 4 then d1.stopStart else d1
  d2.stopGoOn

/-- The sensor whose reading trips the part: a working one at 118 °C (R505). -/
def Dev.tripper (d : Dev) (is : List Nat) : Option Nat :=
  is.find? (fun i => !(d.sensor i).broken && decide (1888 ≤ (d.sensor i).hist.headD 0))

/-- The hardware trip (R505): the FAN hold cells go high and a warm reset with cause 5 is held. -/
def Dev.trip (d : Dev) (i : Nat) : Dev :=
  let d1 := { d with clkr := { d.clkr with tripToTell := some (i, (d.sensor i).hist.headD 0) } }
  let d2 := d1.warmNow 5 false .thermal
  { d2 with powr := { d2.powr with padLevel := d2.powr.padLevel.set 1 15 } }

/-- SENSOR_RESULT (R496 to R505): the 24 counts of one window.  While a trip holds the reset, it ends once the sensors 22 and 23 read below
100 °C. -/
def Dev.sensorResult (d : Dev) (counts : List Nat) : Dev :=
  if counts.length ≠ 24 ∨ d.sysc.cur = .dormant then d
  else if d.powr.phase = .inReset then
    if d.clkr.hold = .thermal then
      let d1 := d.senseAll [(22, counts.getD 22 0), (23, counts.getD 23 0)]
      if [22, 23].all (fun i => decide ((d1.sensor i).hist.headD 0 < 1600)) then Dev.boot bootTries d1 true else d1
    else d
  else
    let d1 := (d.senseAll ((List.range 24).map (fun i => (i, counts.getD i 0)))).blindCheck
    match d1.tripper (List.range 24) with
    | some i => d1.trip i
    | none => (d1.setTj).ladder

/-- DORMANT_SENSOR_RESULT (R497, R505): the sensors of the daisy island, once a second. -/
def Dev.dormantSensorResult (d : Dev) (c22 c23 : Nat) : Dev :=
  if d.sysc.cur ≠ .dormant then d
  else
    let d1 := d.senseAll [(22, c22), (23, c23)]
    match d1.tripper [22, 23] with
    | some i => d1.trip i
    | none =>
      let at_ : Int := ((16 * d1.rf pTHRM 0x81C 0 8 : Nat) : Int)
      if [22, 23].any (fun i => !(d1.sensor i).broken && decide (at_ ≤ (d1.sensor i).filtered)) then d1.wakeIn 6 pTHRM else d1

/-- LADDER_STEP_LEAVE (R503): *Tj* has been below the threshold less HYST for 1 s. -/
def Dev.ladderStepLeave (d : Dev) : Dev :=
  let k := d.thrm.step
  let hyst : Int := ((16 * d.rf pTHRM 0x804 0 8 : Nat) : Int)
  if k = 0 ∨ 3 < k ∨ k ≤ d.stepFloor ∨ d.stepAt k - hyst ≤ d.thrm.tj then d else d.setStep (k - 1)

/-- STOP_RESUME (R504): *Tj* has been below RESUME for 1 s; the device resumes as a wake does, at step 3. -/
def Dev.stopResume (d : Dev) : Dev :=
  match d.thrm.stoppedAt with
  | none => d
  | some t =>
    if d.thrm.step ≠ 4 ∨ ((16 * d.rf pTHRM 0x804 16 8 : Nat) : Int) ≤ d.thrm.tj ∨ (d.valt.st ≠ .parked ∧ d.valt.st ≠ .idle) then d
    else
      let d1 := ({ d with thrm := { d.thrm with stoppedAt := none } }).raise pTHRM 3 [ofSigned d.thrm.tj, (d.now - t) / 1000000]
      let d2 := (d1.setStep 3).wakeStart
      { d2 with ledg := { d2.ledg with lastCounts := [], pass := none } }

/-! ## Sled temperatures (R502) -/

/-- SLED_SENSOR_POLL (R502): SENSOR to every UP sled of version 1.2 or later. -/
def Dev.sledSensorPoll (d : Dev) : Dev :=
  d.each ((List.range 16).filter (fun n => (d.port n).st == .up && decide (0x12 ≤ (d.port n).verUsed))) (fun x n => x.mgmtSend (.port n) 7 [] [])

/-- A sled's temperature in °C: the higher of bytes 0 and 1. -/
def sledTemp (b0 b1 : Nat) : Int := let a := signedOf 8 b0; let b := signedOf 8 b1; if a < b then b else a

/-- SENSOR_RESPONSE (R502): body bytes 0 to 2; event 0x0407 once per excursion to 85 °C. -/
def Dev.sensorResponse (d : Dev) (n xid status b0 b1 b2 : Nat) : Dev :=
  match d.mgmtReq (.port n) 7 xid with
  | none => d.mgmtFree (.port n) 7
  | some _ =>
    let d1 := d.mgmtTake (.port n) 7 xid
    if status ≠ 0 then d1
    else
      let v := b0 % 256 + b1 % 256 * 256 + b2 % 256 * 65536
      let hot := decide (85 ≤ sledTemp (b0 % 256) (b1 % 256))
      let told := hasBit d.thrm.sledTold n
      let mask := if hot = told then d.thrm.sledTold else if hot then d.thrm.sledTold + 2 ^ n else d.thrm.sledTold - 2 ^ n
      let d2 := { d1 with thrm := { d1.thrm with sleds := d1.thrm.sleds.set n (v, d.now), sledTold := mask } }
      if hot = true ∧ told = false then d2.raise pTHRM 7 [n, b0 % 256, b1 % 256, b2 % 256] else d2

/-! ## Fans (R506) -/

/-- The curve value for a temperature in 1/16 °C, %. -/
def Dev.fanCurve (d : Dev) (t : Int) : Nat :=
  let lo := d.rf pTHRM 0x810 0 8
  let t0 : Int := ((16 * d.rf pTHRM 0x810 8 8 : Nat) : Int)
  let t1 : Int := ((16 * d.rf pTHRM 0x810 16 8 : Nat) : Int)
  if t ≤ t0 then lo
  else if t1 ≤ t then 100
  else lo + (((100 - lo : Nat) : Int) * (t - t0) / (t1 - t0)).toNat

/-- Temperatures of the sleds whose last answer is no older than 3 s, 1/16 °C with SLED_ADD. -/
def Dev.sledTemps (d : Dev) : List Int :=
  (d.thrm.sleds.filter (fun e => decide (d.now ≤ e.2.2 + 3000000000))).map (fun e =>
    16 * (sledTemp (e.2.1 % 256) (e.2.1 / 256 % 256) + ((d.rf pTHRM 0x810 24 8 : Nat) : Int)))

/-- Every fan must run at 100 %: the ladder, or a hot DRAM. -/
def Dev.fansFull (d : Dev) : Bool := decide (1 ≤ d.thrm.step) || decide (d.thrm.hot ≠ 0)

/-- The duty that a fan is to have. -/
def Dev.fanWant (d : Dev) (n : Nat) : Nat :=
  if d.fansFull then 100
  else if bitOf (d.cell pTHRM 0x814) 31 then d.rf pTHRM 0x814 16 7
  else if d.thrm.fans.any (fun e => e.1 != n && e.2.failed) then 100
  else d.sledTemps.foldl (fun a t => Nat.max a (d.fanCurve t)) (d.fanCurve d.thrm.tj)

/-- One update's step of a duty: at once to 100, else by at most 10 points. -/
def fanStep (old want : Nat) : Nat :=
  if want = 100 then 100
  else if old + 10 < want then old + 10
  else if want + 10 < old then old - 10
  else want

def Dev.setFan (d : Dev) (n : Nat) (f : Fan → Fan) : Dev := { d with thrm := { d.thrm with fans := d.thrm.fans.upd Fan.reset n f } }

/-- Fans of the board. -/
def Dev.fanCount (d : Dev) : Nat := if d.sysc.manifest.fans ≤ 4 then d.sysc.manifest.fans else 4

/-- FAN_UPDATE (R506): every 100 ms, with the speeds that the tachometers show; a failed fan that turns again is failed no more. -/
def Dev.fanUpdate (d : Dev) (rpms : List Nat) : Dev :=
  if d.sysc.cur = .dormant ∨ d.powr.phase = .inReset then d
  else
    let fs := List.range d.fanCount
    let d1 := d.each fs (fun x n => x.setFan n (fun f =>
      { f with rpm := rpms.getD n 0, failed := f.failed && decide (rpms.getD n 0 < d.rf pTHRM 0x814 0 16) }))
    let wants := fs.map (fun n => (n, d1.fanWant n))
    d1.each wants (fun x e => x.setFan e.1 (fun f => { f with duty := fanStep f.duty e.2 }))

/-- FAN_FAILURE (R506): a fan has been below FAIL_RPM for 2 s at a duty of 30 % or more. -/
def Dev.fanFailure (d : Dev) (n rpm : Nat) : Dev :=
  let f := d.thrm.fans.get Fan.reset n
  if d.fanCount ≤ n ∨ f.failed = true ∨ f.duty < 30 ∨ d.rf pTHRM 0x814 0 16 ≤ rpm then d
  else
    let d1 := (d.setFan n (fun x => { x with failed := true, rpm := rpm })).raise pTHRM 6 [n, rpm, f.duty]
    d1.each ((List.range d.fanCount).filter (fun m => m != n)) (fun x m => x.setFan m (fun y => { y with duty := fanStep y.duty (d1.fanWant m) }))

/-- BROKEN_CLR_WRITE (R498): the named sensors are broken no more. -/
def Dev.brokenClrWrite (d : Dev) (v : Word) (master : Nat) : Dev :=
  d.onWrite pTHRM 0x818 master (fun x =>
    (x.each ((List.range 24).filter (fun i => bitOf v i)) (fun y i => y.setSensor i (fun s => { s with broken := false, same := 0, off := 0 }))).blindCheck)

end Sys2Proof.Machine
end

