-- ==== Sys2Proof/Machine/RegView.lean ====
section
/-! DEFINITION. What a read of a register returns: the header, the registers that are stored, those that a selector chooses, and those that show
the state of their block (R30, R31, R36, R38, R48 to R50, and the register tables of the chapters). -/

namespace Sys2Proof.Machine

/-- A word from its fields: lowest bit, width and value of each. -/
def packFields (l : List (Nat × Nat × Nat)) : Word := u32 (l.foldl (fun a f => a + f.2.2 % 2 ^ f.2.1 * 2 ^ f.1) 0)

/-- A flag as a field's value. -/
def flagBit (b : Bool) : Nat := if b then 1 else 0

/-- A signed value in a field of `n` bits. -/
def signedField (n : Nat) (i : Int) : Nat := (i % 2 ^ n).toNat

/-! ## The header -/

/-- `PAGE_STAT.BUSY` (R31): the block has work in progress.  Which work counts, the chapters do not say (DEDUCED, log entry 73). -/
def Dev.pageBusy (d : Dev) (page : Nat) : Bool :=
  if page = pSYSC then d.sysc.busy
  else if page = pLEDG then d.ledg.pass.isSome
  else if page = pPOWR then d.powr.entry == .prepare || d.powr.entry == .commit || d.powr.entry == .waking
  else if page = pEVNT then d.evnt.sealing.isSome
  else if page = pFSTO then d.fsto.op0.isSome || d.fsto.op1.isSome
  else if page = pDGST then d.dgst.running.isSome || !d.dgst.queue.isEmpty
  else if page = pCRYP then d.cryp.busy
  else if page = pSIDE then d.side.busy
  else if page = pHOST 0 ∨ page = pHOST 1 then d.host.ctxs.any (fun e => ctxPort e.1 == page - 16)
  else if page = pZONE then d.zone.zones.any (fun e => !e.2.cmds.isEmpty)
  else if page = pSCHD then !d.sched.subs.isEmpty || !d.sched.recons.isEmpty || d.media.dies.any (fun e => !e.2.queue.isEmpty)
  else if page = pMEDI then !d.media.ops.isEmpty
  else if page = pPRTY then !d.prty.jobs.isEmpty || d.prty.rebuild.isSome
  else if page = pVALT then d.vaulting
  else if page = pPEER then d.peer.taking.isSome || !d.peer.unacked.isEmpty
  else if 48 ≤ page ∧ page ≤ 63 then d.openOn (page - 48) != 0 || !(d.port (page - 48)).link.txq.isEmpty
  else if 64 ≤ page ∧ page ≤ 67 then !(d.chan (page - 64)).reqs.isEmpty
  else if 256 ≤ page then (List.range 16).any (fun k => (d.slice ((page - 256) * 16 + k)).posting)
  else false

/-- Header words 0x000 to 0x00C, as the FABRIC copy holds them (R31, R46).  No chapter defines a bit of `PAGE_CAP` 28:0: they read 0
(DESIGN CHOICE, log entry 67). -/
def Dev.headerWord (d : Dev) (page off : Nat) : Word :=
  let h := d.hdr page
  let rs := pageRegs page
  match off / 4 with
  | 0 => u32 (0x10000 + blockCode page)
  | 1 => u32 ((if rs.any (fun r => decide (0x800 ≤ r.off)) then 2 ^ 31 else 0) + (if rs.any (fun r => r.staged) then 2 ^ 30 else 0))
  | 2 => u32 ((if h.en then 1 else 0) + (if h.unlocked then 2 else 0) + (if h.lock then 4 else 0))
  | 3 => u32 (h.epochApplied.toNat % 65536 * 65536 + (if d.pageBusy page then 4 else 0) + h.pwr)
  | _ => 0

/-- Header words (R30). -/
def Dev.headerRead (d : Dev) (page off : Nat) : Word :=
  let h := d.hdr page
  match off / 4 with
  | 4 => h.evtStat
  | 5 => h.evtEn
  | 7 => h.evtCount
  | 8 => h.epochStage
  | 9 => h.epochApplied
  | _ => if off < 0x10 then d.headerWord page off else 0

/-! ## System pages -/

/-- SYSC (R48 to R50): TIME_HI as latched for the reading master. -/
def Dev.viewSysc (d : Dev) (off master : Nat) : Option Word :=
  let s := d.sysc
  match off with
  | 0x104 => some (packFields [(0, 3, s.cur.code), (4, 3, modeCode s.base), (8, 3, modeCode s.ret), (16, 1, flagBit s.busy)])
  | 0x108 => some s.straps
  | 0x10C => some (packFields [(0, 1, flagBit s.manifest.valid), (1, 1, flagBit s.manifest.sigOk), (16, 16, s.manifest.version)])
  | 0x110 => some s.epoch
  | 0x114 => some s.epochRetired
  | 0x11C => some (u32 s.epochResult)
  | 0x120 => some (u32 s.time)
  | 0x124 => some (u32 (s.hiLatch.get 0 master))
  | 0x128 => some (u32 s.fabErr.addr)
  | 0x12C => some (u32 (s.fabErr.addr / 2 ^ 32))
  | 0x130 => some (packFields [(0, 6, s.fabErr.master), (16, 2, s.fabErr.cause), (31, 1, flagBit s.fabErr.write)])
  | 0x134 => some (u32 s.fabErr.count)
  | _ => none

/-- LEDG (R532, R533). -/
def Dev.viewLedg (d : Dev) (off master : Nat) : Option Word :=
  let l := d.ledg
  let info := l.info.getD (d.rf pLEDG 0x124 0 5) (0, 0)
  match off with
  | 0x104 => some (packFields [(0, 16, satAt 65535 l.lastUs), (24, 2, l.result), (31, 1, flagBit d.auditSuspended)])
  | 0x110 => some (u32 l.violMask)
  | 0x114 => some (match l.latched with | some (n, i, _, _) => packFields [(0, 13, i), (24, 5, n), (31, 1, 1)] | none => 0)
  | 0x118 => some (match l.latched with | some (_, _, x, _) => u32 (ofSigned x) | none => 0)
  | 0x11C => some (match l.latched with | some (_, _, _, t) => u32 t | none => 0)
  | 0x120 => some (u32 (l.hiLatch.get 0 master))
  | 0x128 => some (packFields [(0, 13, info.2), (16, 16, info.1)])
  | _ => none

/-- The code of an entry phase (`LEVEL.ENTRY`). -/
def EntryPhase.code : EntryPhase → Nat
  | .none => 0 | .timing => 1 | .prepare => 2 | .commit => 3 | .waking => 4 | .rollingBack => 5

/-- POWR (R487). -/
def Dev.viewPowr (d : Dev) (off : Nat) : Option Word :=
  let p := d.powr
  let rail := (p.rails.find (d.rf pPOWR 0x130 0 3)).getD (0, 0, 0)
  let tol := ((d.sysc.manifest.rails.find? (fun t => t.1 == d.rf pPOWR 0x130 0 3)).map (fun t => t.2 % 16)).getD 0
  match off with
  | 0x100 => some (packFields [(0, 3, d.level), (4, 3, p.entry.code), (8, 4, if p.entry = .prepare then p.step else 0), (16, 1, flagBit d.allPs4)])
  | 0x108 =>
    let left := match p.timerAt with | some t => d.idlePeriod - (d.now - t) / 1000000 | none => 0
    some (packFields [(0, 23, left), (24, 3, p.backoff), (31, 1, flagBit p.timerAt.isSome)])
  | 0x114 => some (packFields [(8, 4, p.refStep), (16, 8, p.refReason), (24, 8, p.refBlock)])
  | 0x124 => some (packFields [(0, 7, p.wakeSrc)])
  | 0x128 => some (packFields [(0, 16, p.timeEntry), (16, 16, p.timeWake)])
  | 0x12C => some (packFields [(0, 4, p.padHeld)])
  | 0x134 => some (packFields [(0, 4, tol), (8, 8, rail.2.1), (16, 16, rail.1)])
  | _ => none

/-- CLKR (R490). -/
def Dev.viewClkr (d : Dev) (off : Nat) : Option Word :=
  let c := d.clkr
  match off with
  | 0x100 => some (packFields [(0, 4, c.cause), (8, 1, flagBit c.vaulted)])
  | 0x104 => some (u32 c.warmResets)
  | 0x108 => some (u32 c.pwrCycles)
  | 0x10C => some (u32 c.opHours)
  | 0x110 => some (u32 c.opSeconds)
  | 0x114 => some (packFields [(0, 4, maskOf ((List.range 4).filter d.pllLocked)), (8, 8, c.losses)])
  | 0x118 => some (packFields [(0, 20, maskOf ((List.range 20).filter (fun n => d.pllLocked (n + 4))))])
  | 0x11C => some (packFields [(0, 4, c.refs)])
  | 0x120 => some (packFields [(0, 16, signedField 16 c.aonPpm)])
  | 0x128 =>
    let page := d.rf pCLKR 0x124 0 10
    some (packFields [(0, 2, if pageExists page then (d.hdr page).pwr else 0), (31, 1, flagBit (pageExists page))])
  | _ => none

/-- THRM (R507). -/
def Dev.viewThrm (d : Dev) (off : Nat) : Option Word :=
  let t := d.thrm
  let s := d.rf pTHRM 0x10C 0 5
  let fan := t.fans.get Fan.reset (d.rf pTHRM 0x120 0 2)
  match off with
  | 0x100 => some (packFields [(0, 16, signedField 16 t.tj), (16, 5, t.tjSensor)])
  | 0x104 => some (packFields [(0, 3, t.step), (8, 1, flagBit t.tripped)])
  | 0x108 => some (packFields [(0, 24, maskOf ((List.range 24).filter (fun i => (d.sensor i).broken)))])
  | 0x110 => some (if s < 24 then packFields [(0, 16, signedField 16 (d.effective s)), (16, 16, (d.sensor s).count)] else 0)
  | 0x114 => some (packFields [(0, 4, t.hot)])
  | 0x11C =>
    some (match t.sleds.find (d.rf pTHRM 0x118 0 4) with
      | some (v, at_) => packFields [(0, 24, v), (31, 1, flagBit (decide (d.now ≤ at_ + 3000000000)))]
      | none => 0)
  | 0x124 => some (packFields [(0, 16, fan.rpm), (16, 7, fan.duty), (31, 1, flagBit fan.failed)])
  | _ => none

/-- EVNT (R522).  RD_BASE counts positions of the ring from its oldest record (DEDUCED, log entry 83). -/
def Dev.viewEvnt (d : Dev) (off : Nat) : Option Word :=
  let e := d.evnt
  match off with
  | 0x104 => some (packFields [(0, 9, if e.frozen then e.hold.length else 0), (30, 1, flagBit e.logUp), (31, 1, flagBit e.frozen)])
  | 0x108 => some (packFields [(0, 16, satAt 65535 e.ring.length), (16, 16, satAt 65535 (e.ring.filter (fun r => !r.written)).length)])
  | 0x134 => some (packFields [(0, 6, e.pageNo % 64), (8, 24, e.pageNo / 64)])
  | 0x138 => some (u32 (e.sealedExtent.getD 0))
  | _ =>
    if 0x13C ≤ off ∧ off < 0x16C then some (u32 (ofLe (cut e.sealLast (off - 0x13C) 4)))
    else if 0x1000 ≤ off ∧ off < 0x2000 then
      match e.ring[d.rf pEVNT 0x16C 0 15 + (off - 0x1000) / 32]? with
      | some r => some (u32 (ofLe (cut r.bytes ((off - 0x1000) % 32) 4)))
      | none => some 0xFFFFFFFF
    else none

/-- An operation of a NOR bank (`BANK_STAT`). -/
def norOpCode (o : Option NorOp) : Nat := match o with | none => 0 | some x => if x.erase then 2 else 1

/-- FSTO (R461). -/
def Dev.viewFsto (d : Dev) (off : Nat) : Option Word :=
  let f := d.fsto
  match off with
  | 0x100 =>
    some (packFields [(0, 1, f.bank), (8, 2, f.path), (16, 4, f.failed), (24, 3, if f.recovery then f.cause else 0), (31, 1, flagBit f.recovery)])
  | 0x104 => some (u32 f.imgVer)
  | 0x108 => some (packFields [(0, 9, f.imgSvn), (16, 9, d.rollback)])
  | 0x10C => some (u32 (f.slotVer.getD 0 0))
  | 0x110 => some (u32 (f.slotVer.getD 1 0))
  | 0x114 => some (packFields [(0, 1, f.nextBank)])
  | 0x11C => some (packFields [(0, 2, norOpCode f.op0), (4, 2, norOpCode f.op1)])
  | 0x124 => some (packFields [(0, 25, f.faultAddr)])
  | 0x128 =>
    let live := d.cfgLive
    some (packFields [(0, 16, f.ringBytes / 16), (16, 6, live.length), (24, 7, (live.getLast?.map Prod.fst).getD 0)])
  | 0x808 => some (packFields [(0, 4, f.result0), (31, 1, flagBit f.op0.isSome)])
  | 0x818 => some (packFields [(0, 4, f.result1), (31, 1, flagBit f.op1.isSome)])
  | 0x828 => some (d.cell pFSTO 0x828 ||| packFields [(0, 4, f.otpResult)])
  | _ =>
    if 0x2000 ≤ off ∧ off < 0x2400 then some (if off < 0x2020 then 0 else d.otp.get otpDefault ((off - 0x2000) / 4))
    else if 0x8000 ≤ off then some (d.norWord (d.rf pFSTO 0x12C 15 10 * 32768 + (off - 0x8000)))
    else none

/-- DGST (R429).  A job's importing, exporting and comparing are part of the step that does them, so ENG_STAT shows a job as running. -/
def Dev.viewDgst (d : Dev) (off master : Nat) : Option Word :=
  let g := d.dgst
  match off with
  | 0x104 => some (u32 (g.submit.get 0 master))
  | 0x108 => some (packFields [(0, 16, (g.running.map DJob.num).getD 0), (16, 5, g.queue.length), (29, 3, if g.running.isSome then 2 else 0)])
  | 0x11C => some (packFields [(0, 2, g.cmpResult)])
  | _ => none

/-- The code of a key slot's state. -/
def SlotState.code : SlotState → Nat
  | .empty => 0 | .loaded => 1 | .draining => 2

/-- The code of a pairing phase. -/
def PairPhase.code : PairPhase → Nat
  | .idle => 0 | .codeHeld => 1 | .exchanging => 2

/-- CRYP (R426). -/
def Dev.viewCryp (d : Dev) (off : Nat) : Option Word :=
  let c := d.cryp
  let k := d.kslot d.slotSel
  let used := d.slotsIn .loaded + d.slotsIn .draining
  match off with
  | 0x100 =>
    some (packFields [(0, 13, used + flagBit c.seedOk), (29, 1, flagBit c.pwLoaded), (30, 1, flagBit c.drbgOk), (31, 1, flagBit c.seedOk)])
  | 0x10C => some (packFields [(0, 16, k.inflight), (30, 2, k.st.code)])
  | 0x114 => some (packFields [(0, 4, c.result), (31, 1, flagBit c.busy)])
  | 0x11C => some (packFields [(0, 13, 8191 - used), (16, 13, used)])
  | 0x12C => some (packFields [(0, 2, c.pairPhase.code), (2, 2, c.pairResult)])
  | _ => none

/-- SIDE (R493). -/
def Dev.viewSide (d : Dev) (off : Nat) : Option Word :=
  let s := d.side
  match off with
  | 0x100 => some (packFields [(0, 7, d.smbAddr)])
  | 0x108 => some (packFields [(0, 8, s.eid)])
  | 0x10C => some (d.cell pSIDE 0x10C ||| packFields [(16, 1, flagBit s.alert)])
  | 0x110 => some (packFields [(0, 1, flagBit s.running), (1, 1, flagBit s.busy), (2, 1, flagBit s.master)])
  | 0x124 => some (u32 s.addrNacks)
  | 0x128 => some (u32 s.wakes)
  | _ => none

/-! ## Host and tenancy -/

/-- HOST (R339). -/
def Dev.viewHost (d : Dev) (port off : Nat) : Option Word :=
  let h := d.hport port
  let page := pHOST port
  let k := d.rf page 0x110 0 7
  let f := d.fn port k
  match off with
  | 0x100 => some (packFields [(0, 1, d.portMode), (8, 1, port)])
  | 0x104 => some (packFields [(0, 3, h.gen), (8, 5, h.width), (16, 4, h.lstate), (31, 1, flagBit h.perst)])
  | 0x114 =>
    some (packFields [(0, 3, f.ps), (7, 1, flagBit f.en), (8, 1, flagBit f.rdy), (9, 1, flagBit f.pp), (31, 1, flagBit f.present)])
  | 0x118 => some (packFields [(0, 14, f.allot), (16, 14, (f.sqs.filter (fun e => e.1 != 0)).length)])
  | 0x11C => some (packFields [(0, 17, (d.ctxsOf port k).length)])
  | 0x120 => some (packFields [(0, 17, d.ctxTotal port)])
  | 0x124 => some (packFields [(0, 17, d.ctxTotal port - d.ctxHeld port)])
  | 0x128 => some (packFields [(0, 17, d.ctxHeld port)])
  | 0x15C => some (packFields [(0, 3, d.host.act.code), (16, 16, d.host.actLast)])
  | _ => none

/-- The slices of a partition. -/
def Dev.slicesOf (d : Dev) (p : Nat) : List Slice := (List.range 64).map (fun i => d.slice (64 * p + i))
/-- Those that have been created, the base slice apart. -/
def Dev.createdOf (d : Dev) (p : Nat) : List Slice := (d.slicesOf p).tail.filter (fun s => s.exists_)

/-- PART (R368). -/
def Dev.viewPart (d : Dev) (off : Nat) : Option Word :=
  let p := d.rf pPART 0x120 0 6
  let x := d.part p
  let ss := d.slicesOf p
  let cs := d.createdOf p
  let fn := d.fnOfPart p
  match off with
  | 0x104 =>
    some (packFields [(0, 1, flagBit d.ten.active), (16, 12, (d.ten.slices.filter (fun e => e.1 % 64 != 0 && e.2.exists_)).length)])
  | 0x114 => some (packFields [(0, 13, d.pfCtxs 0), (16, 16, d.pfAreas 0)])
  | 0x118 => some (packFields [(0, 13, d.pfCtxs 1), (16, 16, d.pfAreas 1)])
  | 0x124 => some (packFields [(0, 11, (cs.map Slice.resCtx).sum), (16, 11, (ss.map Slice.heldCtx).sum)])
  | 0x128 => some (packFields [(0, 8, (cs.map Slice.resArea).sum), (16, 8, (ss.map Slice.heldArea).sum)])
  | 0x12C => some (packFields [(0, 16, x.avail), (16, 16, x.spent)])
  | 0x130 => some x.lent
  | 0x134 => some x.borrowed
  | 0x138 => some x.tokWait
  | 0x13C => some x.ctxWait
  | 0x140 => some (packFields [(0, 7, (ss.filter (fun s => s.exists_)).length), (31, 1, flagBit (d.fn fn.1 fn.2).present)])
  | _ => none

/-- The slice that a SLIC register belongs to. -/
def sliceAt (page off : Nat) : Nat := (page - 256) * 16 + (slicFold off).2

/-- SLIC (R371, R372), by the slice that an offset shows. -/
def Dev.viewSlic (d : Dev) (page off : Nat) : Option Word :=
  let s := sliceAt page off
  let y := d.slice s
  let o := (slicFold off).1
  match o with
  | 0x104 =>
    some (packFields [(0, 16, y.gen), (16, 8, y.result), (27, 1, flagBit (s % 64 == 0 && y.exists_)), (28, 1, flagBit y.resizing.isSome), (29, 1, flagBit y.removing),
                      (30, 1, flagBit y.draining), (31, 1, flagBit y.exists_)])
  | 0x110 => some (packFields [(0, 8, y.resArea), (16, 11, y.resCtx), (30, 2, y.cls.code)])
  | 0x114 => some (packFields [(0, 8, y.heldArea), (16, 11, y.heldCtx)])
  | 0x118 => some y.discard
  | 0x11C =>
    some (packFields [(0, 1, flagBit y.posting), (8, 1, flagBit y.upFull), (9, 1, flagBit y.downFull), (10, 1, flagBit y.posting), (16, 8, y.drops)])
  | _ => if 0x300 ≤ o ∧ o < 0x320 then some (y.up.getD ((o - 0x300) / 4) 0) else none

/-! ## Zones, scheduler and media -/

/-- The field LAYOUT and the field ZSIZE of `NS_GEOM`. -/
def layoutCode (data : Nat) : Nat := if data = 14 then 0 else if data = 10 then 1 else 2
def zsizeCode (groups : Nat) : Nat := if groups = 1 then 0 else if groups = 2 then 1 else 2

/-- Areas in a state. -/
def Dev.areasIn (d : Dev) (p : AreaState → Bool) : Nat := d.zone.areas.count (fun _ a => p a.st)

/-- Write commands of a zone that wait for room in a data slot (R66). -/
def Zone.waits (z : Zone) : Nat := (z.cmds.filter (fun c => match c with | .write _ _ len staged _ _ _ => decide (staged < len) | .action _ _ => false)).length

/-- The fewest erased blocks of a position over the present sleds. -/
def Dev.fewestErased (d : Dev) (p : Nat) : Nat :=
  match ((List.range 16).filter (fun s => (d.port s).st == .up && d.diePresent (dieKey s p))).map (fun s => (d.erasedOf (dieKey s p)).length) with
  | [] => 0
  | x :: xs => xs.foldl Nat.min x

/-- ZONE (R89, R90): NS_SEL, POS_SEL, ZONE_SEL and BLK_SEL choose what is shown.  A zone's activation waits while a write of it finds no area
or no stripe group. -/
def Dev.viewZone (d : Dev) (off : Nat) : Option Word :=
  let nsid := (d.cell pZONE 0x110).toNat
  let n := d.ns nsid
  let p := d.rf pZONE 0x190 0 8
  let z := d.zn (zoneKey nsid (d.cell pZONE 0x808).toNat)
  let g := z.groups.getD (d.rf pZONE 0x820 8 2) { pos := 0, blocks := [], missing := [] }
  match off with
  | 0x104 => some (packFields [(0, 16, 8192 - d.busyAreas), (16, 16, d.areasIn (fun s => s == .filling || s == .programming))])
  | 0x108 =>
    some (packFields [(0, 16, d.areasIn (· == .draining)),
                      (16, 16, d.zone.zones.count (fun _ x => x.waiting.isSome || (x.area.isNone && decide (0 < x.waits))))])
  | 0x10C => some (packFields [(0, 17, (d.zone.zones.map (fun e => e.2.waits)).sum)])
  | 0x114 =>
    some (match n with
      | some x => packFields [(0, 2, zsizeCode x.groups), (4, 2, layoutCode x.d), (8, 1, flagBit x.plc), (31, 1, 1)]
      | none => 0x30)
  | 0x118 => some (match n with | some x => u32 x.zones | none => 0)
  | 0x11C =>
    some (match n with
      | some x => packFields [(0, 2, satAt 3 (d.missing x).length), (16, 16, maskOf (d.missing x))]
      | none => 0)
  | 0x120 => some (match n with | some x => packFields [(0, 16, maskOf x.members)] | none => 0)
  | 0x124 => some (packFields [(0, 16, d.zone.zones.count (fun k x => zNs k == nsid && x.st.active))])
  | 0x194 => some (packFields [(0, 16, d.activeGroups p), (16, 16, d.fewestErased p)])
  | 0x80C => some (packFields [(0, 4, z.st.code), (8, 1, flagBit z.zfc), (9, 1, flagBit z.zdev), (16, 16, z.gen)])
  | 0x810 => some (u32 z.wp)
  | 0x814 => some (u32 z.sptr)
  | 0x818 =>
    some (packFields [(0, 4, z.cls), (4, 3, z.groups.length), (8, 8, (z.groups.getLast?.map Group.pos).getD 0), (16, 16, z.area.getD 0xFFFF)])
  | 0x81C => some (match z.slice with | some s => packFields [(0, 12, s), (31, 1, 1)] | none => 0)
  | 0x824 => some (packFields [(0, 13, g.blockOn (d.rf pZONE 0x820 0 4))])
  | _ => none

/-- Items of a kind that a die queue holds. -/
def Die.queued (x : Die) (k : ItemKind) : Nat := (x.queue.filter (fun i => i.kind == k)).length

/-- SCHD (R130, R131): POOL_SEL, DIE_SEL and STREAM_SEL choose what is shown. -/
def Dev.viewSchd (d : Dev) (off : Nat) : Option Word :=
  let pool := d.pool (d.rf pSCHD 0x180 0 7)
  let k := d.rf pSCHD 0x1C0 0 12
  let x := d.die k
  let st := d.sched.streams.find (d.rf pSCHD 0x1EC 0 10)
  let held := (d.sched.streams.map (fun e => e.2.held.length)).sum
  match off with
  | 0x184 => some (packFields [(0, 17, pool.share)])
  | 0x188 => some (packFields [(0, 17, pool.avail)])
  | 0x18C => some (packFields [(0, 17, pool.held)])
  | 0x190 => some pool.refused
  | 0x1C4 =>
    some (packFields [(0, 4, x.st.code), (4, 1, flagBit x.urgent), (8, 8, x.esusp), (16, 4, x.psusp), (20, 12, satAt 4095 (x.queued .read))])
  | 0x1C8 => some (packFields [(0, 16, x.queued .program), (16, 16, x.queued .erase)])
  | 0x1CC => some (u32 (d.freeAt d.sysc.epoch k))
  | 0x1D0 => some (packFields ((List.range 16).map (fun n => (2 * n, 2, if (d.port n).st.linked then (d.port n).link.rate else 0))))
  | 0x1E0 => some (packFields [(0, 11, d.sched.streams.length)])
  | 0x1E4 => some (packFields [(0, 17, d.sched.bufFree)])
  | 0x1E8 => some (packFields [(0, 17, held)])
  | 0x1F0 =>
    some (match st with
      | some s => packFields [(0, 9, s.held.length), (16, 12, if s.req.pf then 0 else s.req.slice), (30, 1, flagBit s.req.pf), (31, 1, 1)]
      | none => 0)
  | 0x1F4 => some (match st with | some s => u32 s.zone | none => 0)
  | 0x1F8 => some (match st with | some s => packFields [(0, 16, satAt 65535 (s.target / 10000000)), (16, 16, satAt 65535 (s.measured / 100000))] | none => 0)
  | 0x1FC => some (match st with | some s => u32 s.hostPos | none => 0)
  | 0x200 => some (match st with | some s => u32 s.nsid | none => 0)
  | 0x20C => some (u32 d.subInflight)
  | _ => none

/-- The erase counts of a die's good blocks: of all 1,400 but those retired or bad from the factory. -/
def Dev.goodErases (d : Dev) (k : Nat) : List Nat :=
  ((d.dieBlocks k).filter (fun e => e.2.st != .retired && e.2.st != .factoryBad)).map (fun e => e.2.erases)

/-- MEDI (R174, R175): DIE_SEL and BLK_SEL choose what is shown; RAW_DATA holds the raw read's bytes. -/
def Dev.viewMedi (d : Dev) (off : Nat) : Option Word :=
  let k := d.rf pMEDI 0x100 0 12
  let s := k / 256
  let m := d.media.sleds.get SledMedia.reset s
  let x := d.die k
  let two (a b : BlockState) : Word := packFields [(0, 13, d.inState k a), (16, 13, d.inState k b)]
  let b := d.blk (blkKey (d.rf pMEDI 0x820 24 4) (d.rf pMEDI 0x820 16 8) (d.rf pMEDI 0x820 0 13))
  let track (g : Nat) : Word := packFields ((List.range 4).map (fun i => (8 * i, 6, b.shift.getD (g + i) 0)))
  let raw := d.media.raw
  match off with
  | 0x104 =>
    some (packFields [(0, 9, ((List.range 256).filter (fun p => d.diePresent (dieKey s p))).length), (24, 1, flagBit m.plc), (25, 1, flagBit m.ms5),
                      (31, 1, flagBit (m.adopted && m.valid))])
  | 0x108 =>
    some (packFields [(0, 13, d.reserveLeft k), (16, 4, satAt 8 x.faultRun), (30, 1, flagBit (d.diePresent k)), (31, 1, flagBit x.retired)])
  | 0x10C => some (two .erased .allocated)
  | 0x110 => some (two .queued .erasing)
  | 0x114 => some (two .uncertain .vault)
  | 0x118 => some (two .retired .factoryBad)
  | 0x11C =>
    some (match d.goodErases k with
      | [] => 0
      | e :: es => packFields [(0, 16, es.foldl Nat.min e), (16, 16, es.foldl Nat.max e)])
  | 0x1C0 => some (u32 d.opsOpen)
  | 0x824 => some (packFields [(0, 11, b.erases), (24, 3, b.attempts), (27, 1, flagBit b.slc), (28, 4, b.st.code)])
  | 0x828 => some (track 0)
  | 0x82C => some (track 4)
  | 0x830 => some (u32 b.reads)
  | 0x848 =>
    some (packFields [(0, 1, flagBit raw.busy), (1, 1, flagBit raw.done), (2, 1, flagBit raw.indet), (3, 1, flagBit raw.fail), (8, 4, raw.result),
                      (16, 16, satAt 65535 raw.zeros)])
  | _ => if 0x2000 ≤ off ∧ off < 0x6800 then some (u32 (ofLe (cut raw.data (off - 0x2000) 4))) else none

/-! ## Parity, vault and peer -/

/-- Bytes that a rebuild has programmed in the last second (R236). -/
def Dev.achievedBytes (d : Dev) : Nat := ((d.prty.achieved.filter (fun e => decide (d.now ≤ e.1 + 1000000000))).map Prod.snd).sum

/-- PRTY (R258). -/
def Dev.viewPrty (d : Dev) (off : Nat) : Option Word :=
  let r := d.prty.rebuild
  let num (f : Rebuild → Nat) : Word := match r with | some x => u32 (f x) | none => 0
  match off with
  | 0x108 =>
    some (packFields [(0, 2, (r.map (fun x => x.target.kind.code)).getD 0), (16, 4, d.prty.targets.length),
                      (24, 4, (r.map (fun x => x.target.sled)).getD 0), (31, 1, flagBit r.isSome)])
  | 0x10C => some (num Rebuild.total)
  | 0x110 => some (num Rebuild.done)
  | 0x114 => some (num Rebuild.lost)
  | 0x118 => some (num Rebuild.left)
  | 0x11C => some (packFields [(0, 8, satAt 255 (d.achievedBytes / 100000000))])
  | 0x124 => some (packFields [(0, 16, maskOf ((List.range 16).filter d.isDemoted))])
  | 0x130 => some (packFields [(0, 16, satAt 65535 (d.slowCount (d.rf pPRTY 0x12C 0 4)))])
  | 0x148 => some (u32 d.jobsOpen)
  | _ => none

/-- VALT (R290): JSEQ_HI as latched for the reading master. -/
def Dev.viewValt (d : Dev) (off master : Nat) : Option Word :=
  let v := d.valt
  let set := if v.st = .idle ∨ v.st = .restore then v.bset else v.set
  let rates := set.map (fun s => (d.port s).link.rate)
  match off with
  | 0x104 => some (packFields [(0, 4, v.st.code), (8, 5, set.length), (16, 2, v.last), (31, 1, flagBit v.holdup)])
  | 0x108 => some (packFields [(0, 16, maskOf set), (16, 2, match rates with | [] => 0 | r :: rs => rs.foldl Nat.min r)])
  | 0x10C => some (u32 v.budget)
  | 0x110 => some (u32 d.vaultLoad)
  | 0x114 => some (u32 (Nat.max v.peak d.vaultLoad))
  | 0x11C => some (u32 (d.nextImage - 1))
  | 0x120 => some (u32 ((v.image.map Image.rows).getD 0))
  | 0x124 => some (u32 v.lastUs)
  | 0x128 => some (u32 v.restoreMs)
  | 0x12C => some (u32 v.recSegs)
  | 0x130 => some (u32 v.nextSeq)
  | 0x134 => some (u32 (v.hiLatch.get 0 master))
  | 0x138 => some (u32 v.ringBytes)
  | 0x13C => some (u32 v.pages)
  | 0x140 => some (packFields [(0, 1, flagBit v.ckptOn.isSome), (16, 16, v.ckptNum)])
  | _ => none

/-- The six credit registers of a VC in one direction (R216), by their place; in the receive direction AVAIL counts free space. -/
def Vc.view (v : Vc) (i : Nat) : Word :=
  match i with
  | 0 => u32 v.limit | 1 => u32 v.avail | 2 => u32 v.out | 3 => v.used | 4 => v.retd | _ => v.reclaimed

/-- The counters that a port and a lane show alike: corrected symbols, uncorrectable codewords, CRC errors, replays. -/
def Link.viewErr (l : Link) (i : Nat) : Word :=
  match i with
  | 0 => l.fecCorr | 1 => l.fecUncorr | 2 => l.crcErr | _ => l.replays

/-- Flits held for replay (R216). -/
def Link.replayUsed (l : Link) : Word := packFields [(0, 14, 19 * l.held.length)]

/-- PEER (R261). -/
def Dev.viewPeer (d : Dev) (off : Nat) : Option Word :=
  let p := d.peer
  let x := d.lane (d.rf pPEER 0x140 0 2)
  let vc := if bitOf (d.cell pPEER 0x140) 12 then x.link.rxVc (d.rf pPEER 0x140 8 2) else x.link.txVc (d.rf pPEER 0x140 8 2)
  match off with
  | 0x104 =>
    some (packFields [(0, 2, p.pair.code), (4, 1, flagBit p.standby), (5, 1, p.index), (8, 4, d.laneMask), (16, 1, flagBit (p.standby && p.pair == .mirrored)),
                      (24, 3, p.peerMode)])
  | 0x108 => some (packFields ((List.range 4).map (fun n => (2 * n, 2, if (d.lane n).st.linked then (d.lane n).link.rate else 0))))
  | 0x10C => some (u32 d.cryp.pairId)
  | 0x110 => some (u32 (d.cryp.pairId / 2 ^ 32))
  | 0x114 => some (u32 (ofSigned p.timeOfs))
  | 0x118 => some (u32 (satAt 0xFFFFFFFF ((d.now - p.lastHb) / 1000)))
  | 0x11C => some p.txSent
  | 0x120 => some p.txAcked
  | 0x124 => some (u32 p.unacked.length)
  | 0x128 => some (u32 p.rxPsn)
  | 0x12C => some p.resends
  | 0x130 => some p.takeovers
  | 0x134 => some (packFields [(0, 16, p.fenceLost)])
  | 0x144 => some (packFields [(0, 4, x.st.code)])
  | 0x158 => some x.link.resets
  | 0x15C => some x.link.malformed
  | 0x178 => some x.link.replayUsed
  | _ =>
    if 0x148 ≤ off ∧ off < 0x158 then some (x.link.viewErr ((off - 0x148) / 4))
    else if 0x160 ≤ off ∧ off < 0x178 then some (vc.view ((off - 0x160) / 4))
    else none

/-! ## Sled ports and DRAM -/

/-- SLOT_ATTN_N is driven: the LED is on, or in the lit half of a blink.  Where a blink's halves begin is the model's (DESIGN CHOICE, log entry
83). -/
def Dev.attnDriven (d : Dev) (n : Nat) : Bool :=
  match d.rf (pSLK n) 0x10C 0 2 with
  | 0 => false
  | 1 => true
  | 2 => d.now / 500000000 % 2 == 0
  | _ => d.now / 125000000 % 2 == 0

/-- SLK0 to SLK15 (R217, R218). -/
def Dev.viewSlk (d : Dev) (n off : Nat) : Option Word :=
  let x := d.port n
  let l := x.link
  let sel := d.cell (pSLK n) 0x170
  let vc := if bitOf sel 4 then l.rxVc (fld sel 0 2) else l.txVc (fld sel 0 2)
  match off with
  | 0x104 =>
    some (packFields [(0, 4, x.st.code), (4, 2, l.rate), (9, 1, flagBit x.authed), (10, 1, flagBit (l.align == .locked)), (16, 4, x.verUsed % 16)])
  | 0x108 => some (packFields [(0, 1, flagBit x.prsnt), (1, 1, flagBit x.pwren), (2, 1, flagBit (d.attnDriven n)), (8, 1, flagBit x.button)])
  | 0x110 => some (u32 x.serial)
  | 0x114 => some (u32 (x.serial / 2 ^ 32))
  | 0x118 => some (packFields [(0, 8, x.verMax), (8, 8, x.verMin), (16, 8, x.verUsed), (24, 3, x.features)])
  | 0x11C => some (u32 x.owner)
  | 0x120 => some (u32 (x.owner / 2 ^ 32))
  | 0x124 => some (u32 l.rtt)
  | 0x128 => some l.trainLast
  | 0x140 => some l.amMiss
  | 0x144 => some l.lockLoss
  | 0x148 => some l.resets
  | 0x14C => some x.burstNakRx
  | 0x150 => some x.burstNakTx
  | 0x154 => some x.burstFail
  | 0x158 => some l.malformed
  | 0x15C => some x.stray
  | 0x160 => some x.authFailCount
  | 0x164 => some l.txFrames
  | 0x168 => some l.rxFrames
  | 0x18C => some l.replayUsed
  | 0x190 => some (packFields [(0, 16, d.openOn n)])
  | _ =>
    if 0x130 ≤ off ∧ off < 0x140 then some (l.viewErr ((off - 0x130) / 4))
    else if 0x174 ≤ off ∧ off < 0x18C then some (vc.view ((off - 0x174) / 4))
    else none

/-- A progress in per cent. -/
def percent (n total : Nat) : Nat := if total = 0 then 0 else satAt 100 (100 * n / total)

/-- The code of a channel's state (R395). -/
def DramState.code : DramState → Nat
  | .off => 0 | .training => 1 | .running => 2 | .pause => 3 | .copying => 4 | .selfRefresh => 5

/-- DRA to DRD (R396, R397): PORT_SEL chooses the port shown. -/
def Dev.viewDram (d : Dev) (c off : Nat) : Option Word :=
  let x := d.chan c
  let p := d.rf (pDRAM c) 0x110 0 3
  let q := x.ports.get DramPort.reset p
  let reqs := x.reqs.filter (fun r => r.port == p)
  let each4 (l : List Nat) : Word := packFields ((List.range 4).map (fun i => (8 * i, 8, satAt 255 (l.getD i 0))))
  match off with
  | 0x100 =>
    some (packFields [(0, 1, flagBit (d.drec.width == 8)), (4, 2, d.drec.ranks), (8, 4, d.drec.density / 8), (16, 7, x.usableGiB), (24, 2, x.retired),
                      (31, 1, flagBit (x.st != .off))])
  | 0x104 =>
    some (packFields [(0, 4, x.st.code), (16, 2, flagBit (x.dbl.getD 0 false) + 2 * flagBit (x.dbl.getD 1 false)),
                      (24, 8, match x.retiring with | some r => percent r.copied d.drec.rankBursts | none => 0)])
  | 0x108 => some (each4 x.temp)
  | 0x10C => some (each4 (d.hourCe c))
  | 0x118 => some (packFields [(0, 16, reqs.length), (24, 2, (reqs.map (d.urgOf c)).foldl Nat.max 0)])
  | 0x11C => some q.issued
  | 0x120 => some q.done
  | 0x124 => some q.opened
  | 0x128 => some (u32 q.latMax)
  | 0x12C => some q.late
  | 0x148 => some (packFields [(0, 8, percent x.scrubPos (d.chanBursts c)), (16, 16, x.scrubPasses)])
  | 0x15C => some (u32 x.pauseMax)
  | _ => none

/-! ## A read (R30, R36, R38) -/

/-- What a page shows of its block's state at an offset; none where the register is stored. -/
def Dev.view (d : Dev) (page off master : Nat) : Option Word :=
  if page = pSYSC then d.viewSysc off master
  else if page = pLEDG then d.viewLedg off master
  else if page = pPOWR then d.viewPowr off
  else if page = pCLKR then d.viewClkr off
  else if page = pTHRM then d.viewThrm off
  else if page = pEVNT then d.viewEvnt off
  else if page = pFSTO then d.viewFsto off
  else if page = pDGST then d.viewDgst off master
  else if page = pCRYP then d.viewCryp off
  else if page = pSIDE then d.viewSide off
  else if page = pHOST 0 ∨ page = pHOST 1 then d.viewHost (page - 16) off
  else if page = pPART then d.viewPart off
  else if page = pZONE then d.viewZone off
  else if page = pSCHD then d.viewSchd off
  else if page = pMEDI then d.viewMedi off
  else if page = pPRTY then d.viewPrty off
  else if page = pVALT then d.viewValt off master
  else if page = pPEER then d.viewPeer off
  else if 48 ≤ page ∧ page ≤ 63 then d.viewSlk (page - 48) off
  else if 64 ≤ page ∧ page ≤ 67 then d.viewDram (page - 64) off
  else if 256 ≤ page then d.viewSlic page off
  else none

/-- A register that is stored: as the instance its selector shows; a write-only register and a reserved offset read 0. -/
def Dev.stored (d : Dev) (page off : Nat) : Word :=
  match regDesc page off with
  | some r => if r.wmask = 0 ∧ r.reset = 0 ∧ r.act ≠ 0 then 0 else d.cellI page off (if r.sel = 0 then 0 else (d.cell page r.sel).toNat)
  | none =>
    match liveOff off with
    | none => 0
    | some live =>
      match regDesc page live with
      | some r => if r.staged then d.regs.shadow.get (cellReset page live (if r.sel = 0 then 0 else (d.cell page r.sel).toNat))
          (cellKey page live (if r.sel = 0 then 0 else (d.cell page r.sel).toNat)) else 0
      | none => 0

/-- What a read of a register of 32 bits returns to a master, on a page that is served. -/
def Dev.regRead (d : Dev) (page off master : Nat) : Word :=
  if off < 0x100 then d.headerRead page off
  else (d.view page off master).getD (d.stored page off)

/-- The bytes that a read of 1, 2, 4 or 8 bytes returns (R36): a narrow one the addressed bytes of the whole register, one of eight those of
two registers, the one at the lower address first. -/
def Dev.readBytes (d : Dev) (page off bytes master : Nat) : List Byte :=
  let w (o : Nat) : List Byte := leBytes 4 (d.regRead page o master).toNat
  if bytes = 8 then w (off / 4 * 4) ++ w (off / 4 * 4 + 4) else cut (w (off / 4 * 4)) (off % 4) bytes

end Sys2Proof.Machine
end

