-- ==== Sys2Proof/Machine/Sys.lean ====
section
/-! DEFINITION. The commands of reset and start, of the fabric and of the register pages (R15, R30 to R51, R451, R483 to R486). -/

namespace Sys2Proof.Machine

/-! ## Reset and start (R451, R453, R482 to R486) -/

/-- POR_N_ASSERT (R483). -/
def Dev.porAssert (d : Dev) : Dev := d.coldReset

/-- POR_N_RELEASE (R451, R484): the straps as the balls show them; `trains` where the DRAM training passes.  The crystal and the link
reference run by then (R479). -/
def Dev.porRelease (d : Dev) (straps : Word) (trains : Bool) : Dev :=
  if d.powr.phase = .inReset ∧ d.clkr.hold = .por then
    let d1 := { d with sysc := { d.sysc with straps := u32 (fld straps 0 6) }, clkr := { d.clkr with refs := d.clkr.refs ||| 9 } }
    Dev.boot bootTries d1.countCycle trains
  else d

/-- Causes that a vault pass precedes, after recovery step 10 (R486). -/
def passFirst (cause : Nat) : Bool := cause == 1 || cause == 6 || cause == 9

/-- A warm reset (R486): at once, or at the HALT of the vault pass that its cause calls for.  A cause that meets a pass under way for another
counts, and the lower is kept. -/
def Dev.warmReset (d : Dev) (cause : Nat) : Dev :=
  let hold : ResetHold := if cause = 5 then .thermal else if cause = 8 ∧ hasBit d.clkr.refs 0 = false then .crystal else .none
  if passFirst cause ∧ d.host.recovered ∧ d.active ∧ d.sysc.base.isSome then
    match d.valt.st with
    | .idle => d.vaultFreeze 0 (some cause) false
    | .freeze | .save | .seal =>
      let old := d.valt.thenReset
      let kept := match old with | some c => if c < cause then c else cause | none => cause
      { d with valt := { d.valt with thenReset := some kept }
               clkr := { d.clkr with warmResets := if old.isSome then (d.clkr.warmResets + 1) % 2 ^ 32 else d.clkr.warmResets } }
    | .parked => d.warmNow cause true hold
    | .halt | .restore => d.warmNow cause false hold
  else d.warmNow cause (decide (d.valt.st = .parked)) hold

/-- JTAG_LOCK of the one-time row (R439). -/
def Dev.jtagLocked (d : Dev) : Bool := bitOf (d.otp.get otpDefault 24) 9

/-- WARM_RESET (R486), with its cause, 1 to 9; JTAG's only while JTAG_LOCK is 0. -/
def Dev.warmResetCause (d : Dev) (cause : Nat) : Dev :=
  if cause = 0 ∨ 9 < cause ∨ d.powr.phase = .inReset ∨ (cause = 9 ∧ d.jtagLocked = true) then d else d.warmReset cause

/-- MANAGER_WARM_RESET (R490): RST_CTRL with WARM; without CONFIRM it is dropped. -/
def Dev.managerWarmReset (d : Dev) (v : Word) (master : Nat) : Dev :=
  d.onWrite pCLKR 0x800 master (fun x =>
    if bitOf v 0 = false then x.setCell pCLKR 0x800 (putBit 0 31 (bitOf v 31))
    else if bitOf v 31 = false then x.deny pCLKR
    else (x.setCell pCLKR 0x800 (putBit 0 31 true)).warmReset 6)

/-- BOOT_WATCHDOG_EXPIRY (R451): the boot counts as failed, since its ATTEMPT entry stays without a mark. -/
def Dev.watchdogExpiry (d : Dev) : Dev :=
  if d.fsto.watchdog = true ∧ d.fsto.bootOk = false ∧ d.powr.phase ≠ .inReset then d.warmReset 1 else d

/-- RECOVERY_COMMIT_RESET (R453). -/
def Dev.recoveryCommitReset (d : Dev) : Dev := if d.fsto.recovery = true ∧ d.fsto.recReset = true then d.warmReset 3 else d

/-! ## The fabric (R14, R15, R46, R47) -/

/-- The regions of R14 other than the register pages.  After a rank's retirement DRAM ends with its usable half (DESIGN CHOICE, log entry
68). -/
def Dev.mapped (d : Dev) (a : Nat) : Bool :=
  decide (a < 0x4000000) || (decide (0xF0000000 ≤ a) && decide (a < 0xF0040000))
    || (decide (0x8000000000 ≤ a) && decide (a < 0x8000000000 + d.dramBytes))

/-- The cause of the error that an access to an address meets; none where it lies in a region, or on a page that holds a block. -/
def Dev.unmapped (d : Dev) (a : Nat) : Option Nat :=
  if 0x1000000000 ≤ a ∧ a < 0x1004000000 then if pageExists ((a - 0x1000000000) / 0x10000) then none else some 1
  else if d.mapped a then none
  else some 0

/-- FABRIC_ACCESS_ERROR (R15). -/
def Dev.fabricAccessError (d : Dev) (addr : Nat) (write : Bool) (master : Nat) : Dev :=
  match d.unmapped (addr % 2 ^ 40) with
  | none => d
  | some c =>
    let d1 := d.fabricError (addr % 2 ^ 40) c master write
    if write then d1 else d1.emit (.word 0xFFFFFFFF (master != 33))

/-- UNSERVED_PAGE_ACCESS (R46): a page whose block is off, clock-stopped or waking.  A read of a page that is served by then returns the
register (DESIGN CHOICE, log entry 84). -/
def Dev.unservedPageAccess (d : Dev) (page off : Nat) (write : Bool) (master : Nat) : Dev :=
  if pageExists page = false then d
  else if (d.hdr page).pwr = 0 then (if write then d else d.emit (.word (d.regRead page off master) false))
  else if write = false ∧ off < 0x10 then d.emit (.word (d.headerWord page off) false)
  else
    let c := (d.pageError page).getD 0
    let d1 := d.fabricError (pageAddr page off) c master write
    if write then d1 else d1.emit (.word 0xFFFFFFFF (master != 33))

/-! ## Register writes (R30 to R38) -/

/-- A field lies from `lo` to `hi`. -/
def within (v : Word) (lo n min max : Nat) : Bool := decide (min ≤ fld v lo n) && decide (fld v lo n ≤ max)

/-- The shadow of a staged register. -/
def Dev.shadowI (d : Dev) (page off inst : Nat) : Word := d.regs.shadow.get (cellReset page off inst) (cellKey page off inst)

/-- The values that the tables say are dropped under R35: pages of SYSC to EVNT and of the link. -/
def fitsA (page off : Nat) (v : Word) : Bool :=
  if page = pLEDG then (if off = 0x124 then within v 0 5 0 17 else true)
  else if page = pPOWR then (if off = 0x104 then within v 0 16 100 65535 else true)
  else if page = pTHRM then
    (if off = 0x800 then within v 24 8 0 110 && within v 16 8 0 106 && within v 8 8 0 103 && within v 0 8 0 100 else true)
  else if page = pEVNT then (if off = 0x804 then within v 0 9 8 256 else if off = 0x808 then within v 0 16 10 1000 else true)
  else if page = pFSTO then (if off = 0x830 then within v 0 6 4 32 else if off = 0x834 then within v 0 16 10 600 else true)
  else if page = pCRYP then (if off = 0x104 then within v 0 13 1 8191 else true)
  else if page = pSIDE then (if off = 0x800 then within v 0 8 25 35 else true)
  else if page = pHOST 0 ∨ page = pHOST 1 then (if off = 0x108 then within v 0 3 1 5 else if off = 0x800 then within v 0 8 10 150 else true)
  else if 48 ≤ page ∧ page ≤ 63 then (if off = 0x100 then within v 4 2 1 3 else if off = 0x800 then within v 16 8 10 255 else true)
  else if 64 ≤ page ∧ page ≤ 67 then
    (if off = 0x114 then within v 0 16 50 65535
     else if off = 0x804 then within v 24 4 0 4
     else if off = 0x808 then within v 0 16 500 2000
     else true)
  else true

/-- The same, for the pages of the data path; the staged ones are checked at their shadows.  STREAM_LIM's ranges come with no drop: it is stored
as written (DESIGN CHOICE, log entry 85). -/
def Dev.fitsB (d : Dev) (page off : Nat) (v : Word) : Bool :=
  if page = pPART then
    (if off = 0x100 then within v 8 2 0 2
     else if off = 0x108 then within v 0 10 1 1000
     else if off = 0x10C then within v 0 16 512 4096 && decide (fld v 16 16 ≤ fld v 0 16) && !d.partitioned
     else true)
  else if page = pZONE then (if off = 0x184 then within v 0 8 0 63 || fld v 0 8 == 255 else true)
  else if page = pSCHD then
    (if off = 0x100 then within v 8 8 0 15
     else if off = 0x114 then within v 8 2 0 2
     else if off = 0x118 then within v 16 2 1 2
     else if off = 0x128 then within v 16 8 2 255
     else true)
  else if page = pMEDI then
    (let lim := d.shadowI pMEDI 0x124 0
     let ceil := d.shadowI pMEDI 0x120 0
     if off = 0x120 then decide (fld v 16 16 ≤ fld lim 16 16) && decide (fld v 0 16 ≤ fld lim 0 16)
     else if off = 0x124 then decide (fld ceil 16 16 ≤ fld v 16 16) && decide (fld ceil 0 16 ≤ fld v 0 16)
     else if off = 0x128 then within v 0 3 0 5
     else true)
  else if page = pPRTY then
    (if off = 0x100 then within v 0 8 0 125
     else if off = 0x120 then within v 16 8 1 60
     else if off = 0x134 then within v 0 16 100 65535
     else true)
  else if page = pVALT then (if off = 0x100 then within v 16 8 10 30 && within v 0 8 16 64 else true)
  else if page = pPEER then (if off = 0x804 then decide (d.rf pPEER 0x800 16 8 < fld v 16 8) else true)
  else true

/-- Bits that a register stores but only a command of its own changes: the enables of ports, peer and audit, RELEASE, the ledger enables and
the log. -/
def ownBits (page off : Nat) : Word :=
  if 48 ≤ page ∧ page ≤ 63 ∧ off = 0x100 then 1
  else if 48 ≤ page ∧ page ≤ 63 ∧ off = 0x810 then 0x100
  else if page = pPEER ∧ off = 0x100 then 1
  else if page = pEVNT ∧ off = 0x100 then 0xFFFFFFFF
  else if page = pLEDG ∧ off = 0x800 then 0xFFFFFFFF
  else if page = pDGST ∧ off = 0x804 then 0xFFFFFFFF
  else 0

/-- A value with the stored bits of a write put in. -/
def mixed (old v mask : Word) : Word := (old &&& ~~~ mask) ||| (v &&& mask)

/-- What follows a plain store: SIDE's enable, the idle hold, the pool and the budget, and the adoption of a FOREIGN sled that FORCE now
permits (R208). -/
def Dev.afterWrite (d : Dev) (page off : Nat) : Dev :=
  if page = pSIDE ∧ off = 0x104 then
    { d with side := { d.side with running := bitOf (d.cell pSIDE 0x104) 0 && (d.powr.phase != .inReset) && (d.sysc.cur != .dormant) } }
  else if page = pPOWR ∧ off = 0x10C then d.idleCheck
  else if page = pVALT ∧ off = 0x100 then d.poolService.vaultRefresh
  else if 48 ≤ page ∧ page ≤ 63 ∧ off = 0x810 ∧ (d.port (page - 48)).st = .foreign ∧ (d.port (page - 48)).adopting = false then
    d.adoptNow (page - 48) true
  else d

/-- A write to a slice's registers (R362, R372): PASID and CLASS only while the slice does not exist, and the staging buffer not while a post
waits. -/
def Dev.slicWrite (d : Dev) (page off : Nat) (v mask : Word) : Dev :=
  let o := (slicFold off).1
  let y := d.slice (sliceAt page off)
  let old := d.cell page off
  if o = 0x108 ∧ y.exists_ = true then d.deny page
  else if o = 0x10C ∧ y.exists_ = true then
    let d1 := d.setCell page off (mixed old v (mask &&& 0x3FFFFFFF))
    if fld v 30 2 = fld old 30 2 then d1 else d1.deny page
  else if 0x320 ≤ o ∧ y.posting = true then d.deny page
  else d.setCell page off (mixed old v mask)

/-- Key words that are written and never read (R402, R407). -/
def setWord (bs : List Byte) (n i : Nat) (v : Word) : List Byte :=
  let b := fitBytes n bs
  b.take (4 * i) ++ leBytes 4 v.toNat ++ b.drop (4 * i + 4)

/-- A write that a register takes. -/
def Dev.storeReg (d : Dev) (page off : Nat) (r : RegDesc) (v : Word) : Dev :=
  let inst := if r.sel = 0 then 0 else (d.cell page r.sel).toNat
  let mask := u32 r.wmask &&& ~~~ (ownBits page off)
  if 256 ≤ page then d.slicWrite page off v mask
  else if page = pCRYP ∧ 0x800 ≤ off ∧ off < 0x820 then
    { d with cryp := { d.cryp with kPw := setWord d.cryp.kPw 32 ((off - 0x800) / 4) v, pwLoaded := true } }
  else if page = pCRYP ∧ 0x820 ≤ off ∧ off < 0x830 then
    { d with cryp := { d.cryp with pairCode := some (setWord ((d.cryp.pairCode.map Prod.fst).getD []) 16 ((off - 0x820) / 4) v, d.now) } }
  else if 48 ≤ page ∧ page ≤ 63 ∧ off = 0x108 then
    if bitOf v 8 then d.setPort (page - 48) (fun p => { p with button := false }) else d
  else if page = pLEDG ∧ off = 0x100 then
    if bitOf v 0 then d.setCell page off (mixed (d.cell page off) v 1) else d
  else (d.setCellI page off inst (mixed (d.cellI page off inst) v mask)).afterWrite page off

/-- A write to the shadow of a staged register (R38). -/
def Dev.storeShadow (d : Dev) (page live : Nat) (r : RegDesc) (v : Word) : Dev :=
  let inst := if r.sel = 0 then 0 else (d.cell page r.sel).toNat
  if d.fitsB page live v then
    let nv := mixed (d.shadowI page live inst) v (u32 r.wmask)
    { d with regs := { d.regs with shadow := d.regs.shadow.put (cellReset page live inst) (cellKey page live inst) nv } }
  else d.deny page

/-- A write to the header (R31): EN, LOCK and EVT_EN; its other registers have commands of their own or take no write. -/
def Dev.storeHdr (d : Dev) (page off : Nat) (v : Word) : Dev :=
  if off = 0x008 then d.setHdr page (fun h => { h with en := bitOf v 0, lock := h.lock || bitOf v 2 })
  else if off = 0x014 then d.setHdr page (fun h => { h with evtEn := v })
  else d

/-- A register takes some write. -/
def RegDesc.writable (r : RegDesc) : Bool := r.wmask != 0 || r.act != 0 || r.w1c != 0

/-- A write on a page that serves it (R35, R38). -/
def Dev.regWrite (d : Dev) (page off : Nat) (v : Word) : Dev :=
  if off < 0x100 then d.storeHdr page off v
  else
    let locked := decide (0x800 ≤ off) && !(d.hdr page).unlocked
    match regDesc page off with
    | some r =>
      if r.writable = false then d
      else if locked then d.deny page
      else if r.staged then d.deny page
      else if fitsA page off v = false ∨ d.fitsB page off v = false then d.deny page
      else d.storeReg page off r v
    | none =>
      match liveOff off with
      | none => d
      | some live =>
        match regDesc page live with
        | some r => if r.staged = false then d else if locked then d.deny page else d.storeShadow page live r v
        | none => d

/-- One 32-bit write, or part of one (R35): one of fewer than four bytes is dropped. -/
def Dev.writeWord (d : Dev) (page off : Nat) (v : Word) (bytes master : Nat) : Dev :=
  match d.pageError page with
  | some c => d.fabricError (pageAddr page off) c master true
  | none => if bytes < 4 then d.deny page else d.regWrite page (off / 4 * 4) v

/-- REGISTER_WRITE (R35, R36): a write of `bytes` bytes; one of eight is two of four, the one at the lower address first. -/
def Dev.registerWrite (d : Dev) (page off : Nat) (v hi : Word) (bytes master : Nat) : Dev :=
  if bytes = 8 then (d.writeWord page off v 4 master).writeWord page (off + 4) hi 4 master
  else d.writeWord page off v bytes master

/-- EXPERT_KEY_WRITE (R33). -/
def Dev.expertKeyWrite (d : Dev) (page : Nat) (v : Word) (master : Nat) : Dev :=
  d.onWrite page 0x028 master (fun x =>
    if v = 0x45585054 then x.setHdr page (fun h => { h with unlocked := true })
    else ((x.setHdr page (fun h => { h with unlocked := false })).deny page).raise pSYSC 2 [page, v.toNat, master])

/-! ## Flags (R43 to R45) -/

/-- The event number of a flag, where it has one. -/
def numOfFlag (page flag : Nat) : Option Nat :=
  let n := if 256 ≤ page then flag - 15 else if page = pDGST then flag else flag + 1
  if n ≠ 0 ∧ n ≤ (sevList page).length ∧ evtFlag page n = flag then some n else none

/-- Flags that a page defines without an event: DENIED, the message flags, DGST's job-end flag. -/
def plainFlag (page flag : Nat) : Bool := flag == 31 || (decide (256 ≤ page) && decide (flag < 16)) || (page == pDGST && flag == 0)

/-- One flag that is forced. -/
def Dev.forceFlag (page : Nat) (d : Dev) (i : Nat) : Dev :=
  match numOfFlag page i with
  | some n => d.raise page n [0, 0, 0, 0]
  | none => if plainFlag page i then d.setFlag page i else d

/-- EVT_FORCE_WRITE (R43). -/
def Dev.evtForceWrite (d : Dev) (page : Nat) (v : Word) (master : Nat) : Dev :=
  d.onWrite page 0x018 master (fun x => x.each ((List.range 32).filter (fun i => bitOf v i)) (Dev.forceFlag page))

/-- EVT_STAT_CLEAR (R44): all flags named, but those that a source sets in the same cycle. -/
def Dev.evtStatClear (d : Dev) (page : Nat) (v same : Word) (master : Nat) : Dev :=
  d.onWrite page 0x010 master (fun x => x.setHdr page (fun h =>
    { h with evtStat := h.evtStat &&& ~~~ (v &&& ~~~ same), irq := h.irq &&& ~~~ (v &&& ~~~ same) }))

/-! ## SYSC (R47 to R50) -/

/-- FAB_ERR_COUNT_READ (R47). -/
def Dev.fabErrCountRead (d : Dev) (master : Nat) : Dev :=
  d.onRead pSYSC 0x134 master (fun x =>
    ({ x with sysc := { x.sysc with fabErr := { x.sysc.fabErr with count := 0, armed := true } } }).emit (.word (u32 x.sysc.fabErr.count) false))

/-- TIME_LO_READ (R50). -/
def Dev.timeLoRead (d : Dev) (master : Nat) : Dev :=
  d.onRead pSYSC 0x120 master (fun x =>
    ({ x with sysc := { x.sysc with hiLatch := x.sysc.hiLatch.put 0 master (x.sysc.time / 4294967296 % 4294967296) } }).emit (.word (u32 x.sysc.time) false))

/-- TIME_LOAD (R49): TIME_CTRL written with LOAD, and the slew beside it. -/
def Dev.timeLoad (d : Dev) (v : Word) (master : Nat) : Dev :=
  d.onWrite pSYSC 0x808 master (fun x =>
    let y := x.setCell pSYSC 0x808 (mixed 0 v 0xFFFF0000)
    if bitOf v 0 then
      { y with sysc := { y.sysc with time := (y.cell pSYSC 0x800).toNat + 4294967296 * (y.cell pSYSC 0x804).toNat, timeFrac := 0 } }
    else y)

/-! ## Epochs (R39 to R42) -/

/-- The shadows that differ from their live values, by cell key. -/
def Dev.changed (d : Dev) : List (Nat × Word) :=
  let live (k : Nat) : Word := d.cellI (keyPage k) (k % 0x10000) (k / 0x4000000)
  let stored := d.regs.shadow.filter (fun e => e.2 != live e.1)
  let back := (d.regs.cells.filter (fun e => (d.regs.shadow.find e.1).isNone && ((regDesc (keyPage e.1) (e.1 % 0x10000)).any (fun r => r.staged)))).map
    (fun e => (e.1, cellReset (keyPage e.1) (e.1 % 0x10000) (e.1 / 0x4000000)))
  stored ++ back

/-- The staged snapshot as the configuration store keeps it (R42): every shadow that is not at its reset value. -/
def Dev.stagedWords (d : Dev) : List Word :=
  d.regs.shadow.flatMap (fun e => [u32 (e.1 % 0x4000000), u32 (e.1 / 0x4000000), e.2])


/-- EPOCH_COMMIT (R39 to R42). -/
def Dev.epochCommit (d : Dev) (master : Nat) : Dev :=
  d.onWrite pSYSC 0x118 master (fun x0 =>
    let x := x0.prepRefuse pSYSC 7
    if x.epochBusy then x.refuseChange 1 master
    else if x.sysc.cur = .recovery then x.refuseChange 7 master
    else
      let y := x.applyPending
      (y.cfgMake 7 (y.sysc.epoch + 1).toNat y.stagedWords).newEpoch y.changed)

/-- A unit holds commands or operations that carry an epoch stamp (R39 step 4). -/
def Dev.stampedWork (d : Dev) (page : Nat) : Bool :=
  if page = pHOST 0 ∨ page = pHOST 1 then d.host.ctxs.any (fun e => ctxPort e.1 == page - 16)
  else if page = pZONE then d.zone.zones.any (fun e => !e.2.cmds.isEmpty)
  else if page = pSCHD then !d.sched.subs.isEmpty || !d.sched.recons.isEmpty
  else if page = pMEDI then d.media.ops.any (fun e => match e.2.d.use with | .sub _ | .member _ _ => true | _ => false)
  else false

/-- EPOCH_APPLY_ON_DRAIN (R39 step 4). -/
def Dev.epochApplyOnDrain (d : Dev) (page : Nat) : Dev :=
  if pageExists page = true ∧ d.stampedWork page = false then d.applyEpoch page else d

end Sys2Proof.Machine
end

