-- ==== Sys2Proof/WellFormed.lean ====
section
/-! DEFINITION. Well-formed commands: what a command names is something the part has. -/

namespace Sys2Proof

/-- A page index of the register region (R14, 00_scope). -/
def inPages (page : Nat) : Bool := decide (page < 512)
/-- An offset within a page (R30). -/
def inPage (off : Nat) : Bool := decide (off < 0x10000)
/-- A fabric master (R37). -/
def isMaster (m : Nat) : Bool := decide (m < 45)
/-- A context of one of the two ports (R312). -/
def isCtx (c : Nat) : Bool := decide (c < 131072)
/-- A zone of a namespace (R54). -/
def isZone (z : Nat) : Bool := decide (z < 16777216)
/-- A HOST port (R293). -/
def isHostPort (p : Nat) : Bool := decide (p < 2)
/-- A function of a port (R298). -/
def isFn (f : Nat) : Bool := decide (f < 256)
/-- A queue identifier (R311). -/
def isQueue (q : Nat) : Bool := decide (q < 65536)
/-- A sled slot (R178). -/
def isSlot (n : Nat) : Bool := decide (n < 16)
/-- A die position (R191). -/
def isPos (p : Nat) : Bool := decide (p < 256)
/-- A block of a die (R133). -/
def isBlock (b : Nat) : Bool := decide (b < 2048)
/-- A TAG (R190). -/
def isTag (t : Nat) : Bool := decide (t < 65536)
/-- A lane of the peer link (R178). -/
def isLane (n : Nat) : Bool := decide (n < 4)
/-- A byte offset into a staging area, as MIRROR carries it (R243). -/
def isAreaOff (o : Nat) : Bool := decide (o < 16777216)
/-- A DRAM channel (R374). -/
def isChannel (c : Nat) : Bool := decide (c < 4)
/-- A subchannel (R374). -/
def isSubchannel (s : Nat) : Bool := decide (s < 2)
/-- A NOR bank (R432). -/
def isNorBank (b : Nat) : Bool := decide (b < 2)
/-- A slice (R344). -/
def isSlice (s : Nat) : Bool := decide (s < 4096)
/-- A port of the DRAM controller (R383). -/
def isReader (p : Nat) : Bool := decide (p < 8)
/-- A namespace key slot (R403). -/
def isKeySlot (s : Nat) : Bool := decide (s < 8192)

/-- A serial link of the part. -/
def Machine.LinkId.ok : Machine.LinkId → Bool
  | .port n => isSlot n
  | .lane n => isLane n

/-- A command names only what the part has. -/
def Instr.wf : Instr → Bool
  | .porNAssert => true
  | .porNRelease _ _ => true
  | .bootWatchdogExpiry => true
  | .bootOk master => isMaster master
  | .startupModeSelect => true
  | .startupRecovery _ => true
  | .recoveryCommitReset => true
  | .warmReset _ => true
  | .managerWarmReset _ master => isMaster master
  | .fabricAccessError _ _ master => isMaster master
  | .unservedPageAccess page off _ master => inPages page && inPage off && isMaster master
  | .registerWrite page off _ _ master => inPages page && inPage off && isMaster master
  | .expertKeyWrite page _ master => inPages page && isMaster master
  | .evtForceWrite page _ master => inPages page && isMaster master
  | .evtStatClear page _ _ master => inPages page && isMaster master
  | .fabErrCountRead master => isMaster master
  | .timeLoRead master => isMaster master
  | .timeLoad _ master => isMaster master
  | .epochCommit master => isMaster master
  | .epochApplyOnDrain page => inPages page
  | .tenancyEnable _ master => isMaster master
  | .tenancyDisable master => isMaster master
  | .creditPoolSplit => true
  | .layoutChange _ master => isMaster master
  | .sqTailDoorbell port fn q _ _ => isHostPort port && isFn fn && isQueue q
  | .cqHeadDoorbell port fn q _ => isHostPort port && isFn fn && isQueue q
  | .commandFetch port fn q _ => isHostPort port && isFn fn && isQueue q
  | .cqEntryPost ctx => isCtx ctx
  | .msixUnmask port fn _ => isHostPort port && isFn fn
  | .hostDmaComplete ctx _ _ => isCtx ctx
  | .dmaError ctx _ _ => isCtx ctx
  | .write ctx => isCtx ctx
  | .zoneAppend ctx => isCtx ctx
  | .writeZeroes ctx => isCtx ctx
  | .read ctx => isCtx ctx
  | .flush ctx => isCtx ctx
  | .stageCommand _ zone => isZone zone
  | .stripeGroupAllocate _ zone => isZone zone
  | .zoneActivation _ zone => isZone zone
  | .commitRecord _ zone => isZone zone
  | .zoneOpen ctx => isCtx ctx
  | .zoneClose ctx => isCtx ctx
  | .zoneFinish ctx => isCtx ctx
  | .zoneReset ctx => isCtx ctx
  | .zoneOffline ctx => isCtx ctx
  | .setZoneDescriptorExtension ctx => isCtx ctx
  | .zoneActionTakeEffect _ zone => isZone zone
  | .reportZones ctx => isCtx ctx
  | .extendedReportZones ctx => isCtx ctx
  | .createIoSq ctx => isCtx ctx
  | .createIoCq ctx => isCtx ctx
  | .deleteIoSq ctx => isCtx ctx
  | .deleteIoCq ctx => isCtx ctx
  | .identify ctx => isCtx ctx
  | .getLogPage ctx => isCtx ctx
  | .setFeatures ctx => isCtx ctx
  | .getFeatures ctx => isCtx ctx
  | .asyncEventRequest ctx => isCtx ctx
  | .abort ctx => isCtx ctx
  | .namespaceCreate ctx => isCtx ctx
  | .namespaceDelete ctx => isCtx ctx
  | .namespaceAttachment ctx => isCtx ctx
  | .virtualizationManagement ctx => isCtx ctx
  | .firmwareImageDownload ctx => isCtx ctx
  | .firmwareCommit ctx => isCtx ctx
  | .activationWithoutReset ctx => isCtx ctx
  | .activationSwap => true
  | .activationResume => true
  | .activationDrainTimeout => true
  | .sanitize ctx => isCtx ctx
  | .controllerDisable port fn => isHostPort port && isFn fn
  | .controllerEnable port fn _ _ _ _ => isHostPort port && isFn fn
  | .vfReady port fn => isHostPort port && isFn fn
  | .shutdownRequest port fn => isHostPort port && isFn fn
  | .functionLevelReset port fn => isHostPort port && isFn fn
  | .perstNAssert port => isHostPort port
  | .perstNRelease port => isHostPort port
  | .pcieLinkUp port _ _ => isHostPort port
  | .pcieLinkDown port => isHostPort port
  | .pcieLinkRetrain port _ master => isHostPort port && isMaster master
  | .apstTransition port fn => isHostPort port && isFn fn
  | .dmaErrInfoRead port master => isHostPort port && isMaster master
  | .dieDispatch sled pos => isSlot sled && isPos pos
  | .suspendResult sled tag _ => isSlot sled && isTag tag
  | .suspendHoldExpiry sled pos => isSlot sled && isPos pos
  | .resumeResult sled tag _ => isSlot sled && isTag tag
  | .suspendTimeout sled pos => isSlot sled && isPos pos
  | .statusTimeout sled pos => isSlot sled && isPos pos
  | .programTimeout sled tag => isSlot sled && isTag tag
  | .eraseTimeout sled tag => isSlot sled && isTag tag
  | .memberTimeout sled tag => isSlot sled && isTag tag
  | .hedgeStart _ => true
  | .forcedCreditGrant => true
  | .decodeEnd sled tag _ => isSlot sled && isTag tag
  | .softDecodeStart sled tag => isSlot sled && isTag tag
  | .prtyJobStart => true
  | .prtyJobEnd => true
  | .completionReceive sled tag _ _ _ _ => isSlot sled && isTag tag
  | .dataBurstReceive sled tag _ _ _ _ _ _ => isSlot sled && isTag tag
  | .readAheadIssue _ => true
  | .streamRateUpdate _ => true
  | .streamIdleExpiry _ => true
  | .trackerSampling => true
  | .trackerCheckpoint => true
  | .wearMigrationStart sled pos block => isSlot sled && isPos pos && isBlock block
  | .readDisturbMigration sled pos block => isSlot sled && isPos pos && isBlock block
  | .dieRetireWrite master _ => isMaster master
  | .dieRetirement sled pos => isSlot sled && isPos pos
  | .rawRead master => isMaster master
  | .slotInsertion slot _ => isSlot slot
  | .sledRemoval slot => isSlot slot
  | .powerWaitExpiry slot => isSlot slot
  | .trainTrialStart link => link.ok
  | .prbsPhaseEnd link => link.ok
  | .alignmentMarker link _ => link.ok
  | .lossOfSignal link => link.ok
  | .trainingWindowEnd link _ _ => link.ok
  | .trainReceive link _ _ => link.ok
  | .trialTimeout link => link.ok
  | .holdExpiry link => link.ok
  | .frameReceive link _ => link.ok
  | .frameTransmit link => link.ok
  | .replayTimeout link => link.ok
  | .creditReceive link _ => link.ok
  | .burstNakReceive sled tag _ _ => isSlot sled && isTag tag
  | .echoReceive link _ => link.ok
  | .linkTimeSync => true
  | .quiescedReceive slot => isSlot slot
  | .quiesceTimeout slot => isSlot slot
  | .linkResetReceive link => link.ok
  | .linkReset link _ => link.ok
  | .dieStatusPoll sled pos => isSlot sled && isPos pos
  | .managementTimeout link _ _ => link.ok
  | .capResponse link _ _ => link.ok
  | .adoptResponse slot _ _ => isSlot slot
  | .authResponse link _ _ _ _ => link.ok
  | .geomResponse slot _ _ _ _ => isSlot slot
  | .vtableResponse slot _ _ _ => isSlot slot
  | .releaseResponse slot _ _ => isSlot slot
  | .fenceResponse slot _ _ _ _ _ => isSlot slot
  | .portRetrain slot w => isSlot slot && isMaster w.master
  | .portQuiesce slot master => isSlot slot && isMaster master
  | .portRestore slot master => isSlot slot && isMaster master
  | .portEnableWrite slot master _ => isSlot slot && isMaster master
  | .sledReleaseWrite slot master => isSlot slot && isMaster master
  | .slotAttnSample slot _ => isSlot slot
  | .slotoffReceive lane _ slot => isLane lane && isSlot slot
  | .programSettleTimeout slot => isSlot slot
  | .slowWindowTick => true
  | .replaceStart slot master => isSlot slot && isMaster master
  | .replaceWaitExpiry => true
  | .rebuildRow => true
  | .heartbeatSend => true
  | .heartbeatReceive lane _ _ _ _ _ => isLane lane
  | .heartbeatTimeout => true
  | .holdoffReceive lane _ => isLane lane
  | .peerTimeReceive lane _ => isLane lane
  | .peerTimeSync => true
  | .mirrorReceive lane _ _ off _ _ _ => isLane lane && isAreaOff off
  | .rowevtReceive lane _ _ _ _ _ _ zone _ => isLane lane && isZone zone
  | .journalReceive lane _ _ _ => isLane lane
  | .peerAckReceive lane _ => isLane lane
  | .psnResend _ => true
  | .leaseRenew => true
  | .takeoverLeaseCheck => true
  | .forceTakeover master => isMaster master
  | .handoverStart _ master => isMaster master
  | .handoverSend => true
  | .handoverReceive lane _ => isLane lane
  | .pairReceive lane _ _ _ _ => isLane lane
  | .keysReceive lane _ _ _ _ => isLane lane
  | .pairGive master => isMaster master
  | .pairTake master => isMaster master
  | .unpair master => isMaster master
  | .pairCodeExpiry => true
  | .pfailAccept => true
  | .vaultSnapshotDone => true
  | .pfailNRise => true
  | .haltRelease => true
  | .holdupOkChange _ => true
  | .journalPageWrite _ => true
  | .checkpointStart _ => true
  | .checkpointEnd => true
  | .jseqLoRead master => isMaster master
  | .loadPeakRead master => isMaster master
  | .sliceCreate s master => isSlice s && isMaster master
  | .sliceReset s master => isSlice s && isMaster master
  | .sliceRemove s master => isSlice s && isMaster master
  | .sliceResize s master => isSlice s && isMaster master
  | .sliceDrainComplete s => isSlice s
  | .resizeShrinkComplete s => isSlice s
  | .sqBindWrite port fn q _ => isHostPort port && isFn fn && isQueue q
  | .tokenRefill => true
  | .negonHello port fn _ _ _ => isHostPort port && isFn fn
  | .negonInfo port fn _ _ _ => isHostPort port && isFn fn
  | .negonUser port fn _ _ _ => isHostPort port && isFn fn
  | .negonResize port fn _ _ _ => isHostPort port && isFn fn
  | .negonStats port fn _ _ _ => isHostPort port && isFn fn
  | .mailboxDownAck port fn _ _ => isHostPort port && isFn fn
  | .mailboxUpAck s master => isSlice s && isMaster master
  | .mailboxPost s master => isSlice s && isMaster master
  | .mailboxDownDeliver s => isSlice s
  | .dramRequest reader _ _ _ _ _ => isReader reader
  | .dramBurstRead ch sub _ => isChannel ch && isSubchannel sub
  | .refreshDue ch _ => isChannel ch
  | .mr4Poll ch _ => isChannel ch
  | .dqsOscMeasure ch sub _ _ => isChannel ch && isSubchannel sub
  | .retrainStep ch sub _ _ _ => isChannel ch && isSubchannel sub
  | .pageCloseTimeout ch _ => isChannel ch
  | .patrolScrub ch _ => isChannel ch
  | .rankRetirement ch => isChannel ch
  | .rankRetireWrite ch _ master => isChannel ch && isMaster master
  | .rankCopyStart ch => isChannel ch
  | .rankCopyDone ch _ => isChannel ch
  | .dramErrInfoRead ch master => isChannel ch && isMaster master
  | .latMaxRead ch master => isChannel ch && isMaster master
  | .pauseMaxRead ch master => isChannel ch && isMaster master
  | .slotGenerate master => isMaster master
  | .slotLoad master => isMaster master
  | .slotExport master => isMaster master
  | .slotZero master => isMaster master
  | .slotDrainComplete keySlot => isKeySlot keySlot
  | .sealKey master => isMaster master
  | .unsealKey master => isMaster master
  | .random master => isMaster master
  | .drbgReseed _ => true
  | .drbgHealthFail _ _ => true
  | .dgstJobSubmit _ master => isMaster master
  | .dgstJobSelect => true
  | .dgstPreempt _ => true
  | .dgstJobEnd => true
  | .dgstJobCancel _ master => isMaster master
  | .standaloneCompare _ master => isMaster master
  | .ctxKeyRenew master => isMaster master
  | .norProgram bank master => isNorBank bank && isMaster master
  | .norErase bank master => isNorBank bank && isMaster master
  | .norOpComplete bank _ => isNorBank bank
  | .bankFault _ master => isMaster master
  | .busyFaultAddrRead master => isMaster master
  | .otpProgram master _ => isMaster master
  | .keyRevoke _ master => isMaster master
  | .rollbackCommit _ master => isMaster master
  | .configRecordFlush => true
  | .configCompaction => true
  | .idleTimerExpiry => true
  | .prepareStepAnswer => true
  | .prepareStepTimeout => true
  | .voteWithdraw _ => true
  | .dormantCommit => true
  | .dormantWake => true
  | .wakeComplete => true
  | .powrWakeWrite _ master => isMaster master
  | .smbusAddressMatch _ => true
  | .padHoldRelease _ => true
  | .padHoldTimeout _ => true
  | .railSample _ => true
  | .referenceLoss _ => true
  | .pllLockLoss _ => true
  | .aonCalibration _ => true
  | .hourTick => true
  | .smbusPacketReceive _ _ _ _ => true
  | .smbusTimeout => true
  | .alertAck _ master => isMaster master
  | .sensorResult _ => true
  | .dormantSensorResult _ _ => true
  | .ladderStepLeave => true
  | .stopResume => true
  | .sledSensorPoll => true
  | .sensorResponse slot _ _ _ _ _ => isSlot slot
  | .fanUpdate _ => true
  | .fanFailure _ _ => true
  | .brokenClrWrite _ master => isMaster master
  | .eventOffer page _ _ _ _ => inPages page
  | .ringFreeze _ master => isMaster master
  | .freezeTimeout => true
  | .logPageWrite _ => true
  | .recordsLostReport => true
  | .auditStrobe => true
  | .auditNow _ master => isMaster master
  | .auditPassEnd _ _ => true
  | .ledgerAuditDisable _ master => isMaster master
  | .violLedgerRead master => isMaster master
  | .violTimeLoRead master => isMaster master
  | .peerEnableWrite _ master => isMaster master
  | .referenceAppears _ _ => true
  | .slotoffResponse lane _ _ => isLane lane
  | .quiescedWaitExpiry slot => isSlot slot
  | .pairResponse lane _ _ => isLane lane
  | .peerProbeReceive lane _ => isLane lane
  | .configurationWrite port _ => isHostPort port
  | .interruptCoalescingTimeout port fn q => isHostPort port && isFn fn && isQueue q
  | .atsInvalidateRequest port fn _ _ => isHostPort port && isFn fn

end Sys2Proof
end

