-- ==== Sys2Proof/Machine/Meanings.lean ====
section
/-! DEFINITION. The meaning of each command: what it does to the part, for a command that names only what the part has.  Each calls the
operation of its family's file, which the rules of the row describe. -/

namespace Sys2Proof.Machine

/-- A command runs on the part; the queue stays.  What earlier commands sent out is gone.  A command that names something the part does not
have reaches nothing (DESIGN CHOICE, log entry 3). -/
def State.run (s : State) (ok : Bool) (f : Dev → Dev) : Host.Outcome State Fault Refusal :=
  .next { s with dev := if ok then f { s.dev with out := [] } else { s.dev with out := [] } }

/-- An AUTH answer and what follows it (R207): the sled that a replacement waited for takes its place, blank start-up goes on, the vault's
pools are served; a lane that comes up serves its pair. -/
def Dev.authResponse (d : Dev) (l : LinkId) (xid status : Nat) (mac nonce : List Byte) : Dev :=
  let r := d.authAnswer l xid status mac nonce
  match r.2, l with
  | .verified, .port n => ((r.1.replaceEnd n).blankTry).poolService
  | .verified, .lane n => r.1.laneServe n
  | .failed, .port _ => r.1.blankTry
  | _, _ => r.1

/-! ## Reset and start, register pages, epochs -/

/-- POR_N_ASSERT (R483). -/
def execPorNAssert (s : State) : Host.Outcome State Fault Refusal :=
  s.run (Instr.wf (.porNAssert)) (fun d => d.porAssert)
/-- POR_N_RELEASE (R451). -/
def execPorNRelease (straps : Word) (trains : Bool) (s : State) : Host.Outcome State Fault Refusal :=
  s.run (Instr.wf (.porNRelease straps trains)) (fun d => d.porRelease straps trains)
/-- BOOT_WATCHDOG_EXPIRY (R451). -/
def execBootWatchdogExpiry (s : State) : Host.Outcome State Fault Refusal :=
  s.run (Instr.wf (.bootWatchdogExpiry)) (fun d => d.watchdogExpiry)
/-- BOOT_OK (R451). -/
def execBootOk (master : Nat) (s : State) : Host.Outcome State Fault Refusal :=
  s.run (Instr.wf (.bootOk master)) (fun d => d.bootOkCmd master)
/-- STARTUP_MODE_SELECT (R21). -/
def execStartupModeSelect (s : State) : Host.Outcome State Fault Refusal :=
  s.run (Instr.wf (.startupModeSelect)) (fun d => d.startupModeSelect)
/-- STARTUP_RECOVERY (R288). -/
def execStartupRecovery (r : Readout) (s : State) : Host.Outcome State Fault Refusal :=
  s.run (Instr.wf (.startupRecovery r)) (fun d => d.startupRecovery r)
/-- RECOVERY_COMMIT_RESET (R453). -/
def execRecoveryCommitReset (s : State) : Host.Outcome State Fault Refusal :=
  s.run (Instr.wf (.recoveryCommitReset)) (fun d => d.recoveryCommitReset)
/-- WARM_RESET (R486). -/
def execWarmReset (cause : Nat) (s : State) : Host.Outcome State Fault Refusal :=
  s.run (Instr.wf (.warmReset cause)) (fun d => d.warmResetCause cause)
/-- MANAGER_WARM_RESET (R490). -/
def execManagerWarmReset (v : Word) (master : Nat) (s : State) : Host.Outcome State Fault Refusal :=
  s.run (Instr.wf (.managerWarmReset v master)) (fun d => d.managerWarmReset v master)
/-- FABRIC_ACCESS_ERROR (R15). -/
def execFabricAccessError (addr : Nat) (write : Bool) (master : Nat) (s : State) : Host.Outcome State Fault Refusal :=
  s.run (Instr.wf (.fabricAccessError addr write master)) (fun d => d.fabricAccessError addr write master)
/-- UNSERVED_PAGE_ACCESS (R46). -/
def execUnservedPageAccess (page off : Nat) (write : Bool) (master : Nat) (s : State) : Host.Outcome State Fault Refusal :=
  s.run (Instr.wf (.unservedPageAccess page off write master)) (fun d => d.unservedPageAccess page off write master)
/-- REGISTER_WRITE (R35). -/
def execRegisterWrite (page off : Nat) (v : Word64) (bytes master : Nat) (s : State) : Host.Outcome State Fault Refusal :=
  s.run (Instr.wf (.registerWrite page off v bytes master)) (fun d => d.registerWrite page off (v.setWidth 32) (v.extractLsb' 32 32) bytes master)
/-- EXPERT_KEY_WRITE (R33). -/
def execExpertKeyWrite (page : Nat) (v : Word) (master : Nat) (s : State) : Host.Outcome State Fault Refusal :=
  s.run (Instr.wf (.expertKeyWrite page v master)) (fun d => d.expertKeyWrite page v master)
/-- EVT_FORCE_WRITE (R43). -/
def execEvtForceWrite (page : Nat) (v : Word) (master : Nat) (s : State) : Host.Outcome State Fault Refusal :=
  s.run (Instr.wf (.evtForceWrite page v master)) (fun d => d.evtForceWrite page v master)
/-- EVT_STAT_CLEAR (R44). -/
def execEvtStatClear (page : Nat) (v same : Word) (master : Nat) (s : State) : Host.Outcome State Fault Refusal :=
  s.run (Instr.wf (.evtStatClear page v same master)) (fun d => d.evtStatClear page v same master)
/-- FAB_ERR_COUNT_READ (R47). -/
def execFabErrCountRead (master : Nat) (s : State) : Host.Outcome State Fault Refusal :=
  s.run (Instr.wf (.fabErrCountRead master)) (fun d => d.fabErrCountRead master)
/-- TIME_LO_READ (R50). -/
def execTimeLoRead (master : Nat) (s : State) : Host.Outcome State Fault Refusal :=
  s.run (Instr.wf (.timeLoRead master)) (fun d => d.timeLoRead master)
/-- TIME_LOAD (R49). -/
def execTimeLoad (v : Word) (master : Nat) (s : State) : Host.Outcome State Fault Refusal :=
  s.run (Instr.wf (.timeLoad v master)) (fun d => d.timeLoad v master)
/-- EPOCH_COMMIT (R39). -/
def execEpochCommit (master : Nat) (s : State) : Host.Outcome State Fault Refusal :=
  s.run (Instr.wf (.epochCommit master)) (fun d => d.epochCommit master)
/-- EPOCH_APPLY_ON_DRAIN (R39). -/
def execEpochApplyOnDrain (page : Nat) (s : State) : Host.Outcome State Fault Refusal :=
  s.run (Instr.wf (.epochApplyOnDrain page)) (fun d => d.epochApplyOnDrain page)

/-! ## Modes -/

/-- TENANCY_ENABLE (R342). -/
def execTenancyEnable (baseCls master : Nat) (s : State) : Host.Outcome State Fault Refusal :=
  s.run (Instr.wf (.tenancyEnable baseCls master)) (fun d => d.tenancyEnable baseCls master)
/-- TENANCY_DISABLE (R21). -/
def execTenancyDisable (master : Nat) (s : State) : Host.Outcome State Fault Refusal :=
  s.run (Instr.wf (.tenancyDisable master)) (fun d => d.tenancyDisable master)
/-- CREDIT_POOL_SPLIT (R109). -/
def execCreditPoolSplit (s : State) : Host.Outcome State Fault Refusal :=
  s.run (Instr.wf (.creditPoolSplit)) (fun d => d.creditPoolSplit)
/-- LAYOUT_CHANGE (R22). -/
def execLayoutChange (sleds master : Nat) (s : State) : Host.Outcome State Fault Refusal :=
  s.run (Instr.wf (.layoutChange sleds master)) (fun d => d.layoutChange sleds master)

/-! ## Host queues -/

/-- SQ_TAIL_DOORBELL (R337). -/
def execSqTailDoorbell (port fn q tail : Nat) (pasid : Option Nat) (s : State) : Host.Outcome State Fault Refusal :=
  s.run (Instr.wf (.sqTailDoorbell port fn q tail pasid)) (fun d => d.sqTailDoorbell port fn q tail pasid)
/-- CQ_HEAD_DOORBELL (R314). -/
def execCqHeadDoorbell (port fn q head : Nat) (s : State) : Host.Outcome State Fault Refusal :=
  s.run (Instr.wf (.cqHeadDoorbell port fn q head)) (fun d => d.cqHeadDoorbell port fn q head)
/-- COMMAND_FETCH (R312). -/
def execCommandFetch (port fn q : Nat) (e : Sqe) (s : State) : Host.Outcome State Fault Refusal :=
  s.run (Instr.wf (.commandFetch port fn q e)) (fun d => d.commandFetch port fn q e)
/-- CQ_ENTRY_POST (R313). -/
def execCqEntryPost (ctx : Nat) (s : State) : Host.Outcome State Fault Refusal :=
  s.run (Instr.wf (.cqEntryPost ctx)) (fun d => d.cqEntryPost ctx)
/-- MSIX_UNMASK (R299). -/
def execMsixUnmask (port fn : Nat) (vec : Option Nat) (s : State) : Host.Outcome State Fault Refusal :=
  s.run (Instr.wf (.msixUnmask port fn vec)) (fun d => d.msixUnmask port fn vec)
/-- HOST_DMA_COMPLETE (R301). -/
def execHostDmaComplete (ctx : Nat) (data : List Byte) (pages : List Nat) (s : State) : Host.Outcome State Fault Refusal :=
  s.run (Instr.wf (.hostDmaComplete ctx data pages)) (fun d => d.hostDmaComplete ctx data pages)
/-- DMA_ERROR (R301). -/
def execDmaError (ctx kind addr : Nat) (s : State) : Host.Outcome State Fault Refusal :=
  s.run (Instr.wf (.dmaError ctx kind addr)) (fun d => d.dmaError ctx kind addr)

/-! ## Zones -/

/-- WRITE (R63). -/
def execWrite (ctx : Nat) (s : State) : Host.Outcome State Fault Refusal :=
  s.run (Instr.wf (.write ctx)) (fun d => d.write ctx)
/-- ZONE_APPEND (R64). -/
def execZoneAppend (ctx : Nat) (s : State) : Host.Outcome State Fault Refusal :=
  s.run (Instr.wf (.zoneAppend ctx)) (fun d => d.zoneAppend ctx)
/-- WRITE_ZEROES (R305). -/
def execWriteZeroes (ctx : Nat) (s : State) : Host.Outcome State Fault Refusal :=
  s.run (Instr.wf (.writeZeroes ctx)) (fun d => d.writeZeroes ctx)
/-- READ (R94). -/
def execRead (ctx : Nat) (s : State) : Host.Outcome State Fault Refusal :=
  s.run (Instr.wf (.read ctx)) (fun d => d.read ctx)
/-- FLUSH (R328). -/
def execFlush (ctx : Nat) (s : State) : Host.Outcome State Fault Refusal :=
  s.run (Instr.wf (.flush ctx)) (fun d => d.flush ctx)
/-- STAGE_COMMAND (R64). -/
def execStageCommand (nsid zone : Nat) (s : State) : Host.Outcome State Fault Refusal :=
  s.run (Instr.wf (.stageCommand nsid zone)) (fun d => d.stageCommand nsid zone)
/-- STRIPE_GROUP_ALLOCATE (R84). -/
def execStripeGroupAllocate (nsid zone : Nat) (s : State) : Host.Outcome State Fault Refusal :=
  s.run (Instr.wf (.stripeGroupAllocate nsid zone)) (fun d => d.stripeGroupAllocate nsid zone)
/-- ZONE_ACTIVATION (R59). -/
def execZoneActivation (nsid zone : Nat) (s : State) : Host.Outcome State Fault Refusal :=
  s.run (Instr.wf (.zoneActivation nsid zone)) (fun d => d.zoneActivation nsid zone)
/-- COMMIT_RECORD (R65). -/
def execCommitRecord (nsid zone : Nat) (s : State) : Host.Outcome State Fault Refusal :=
  s.run (Instr.wf (.commitRecord nsid zone)) (fun d => d.commitRecord nsid zone)
/-- ZONE_OPEN (R57). -/
def execZoneOpen (ctx : Nat) (s : State) : Host.Outcome State Fault Refusal :=
  s.run (Instr.wf (.zoneOpen ctx)) (fun d => d.zoneOpen ctx)
/-- ZONE_CLOSE (R57). -/
def execZoneClose (ctx : Nat) (s : State) : Host.Outcome State Fault Refusal :=
  s.run (Instr.wf (.zoneClose ctx)) (fun d => d.zoneClose ctx)
/-- ZONE_FINISH (R57). -/
def execZoneFinish (ctx : Nat) (s : State) : Host.Outcome State Fault Refusal :=
  s.run (Instr.wf (.zoneFinish ctx)) (fun d => d.zoneFinish ctx)
/-- ZONE_RESET (R62). -/
def execZoneReset (ctx : Nat) (s : State) : Host.Outcome State Fault Refusal :=
  s.run (Instr.wf (.zoneReset ctx)) (fun d => d.zoneReset ctx)
/-- ZONE_OFFLINE (R57). -/
def execZoneOffline (ctx : Nat) (s : State) : Host.Outcome State Fault Refusal :=
  s.run (Instr.wf (.zoneOffline ctx)) (fun d => d.zoneOffline ctx)
/-- SET_ZONE_DESCRIPTOR_EXTENSION (R76). -/
def execSetZoneDescriptorExtension (ctx : Nat) (s : State) : Host.Outcome State Fault Refusal :=
  s.run (Instr.wf (.setZoneDescriptorExtension ctx)) (fun d => d.setZoneDescriptorExtension ctx)
/-- ZONE_ACTION_TAKE_EFFECT (R68). -/
def execZoneActionTakeEffect (nsid zone : Nat) (s : State) : Host.Outcome State Fault Refusal :=
  s.run (Instr.wf (.zoneActionTakeEffect nsid zone)) (fun d => d.zoneActionTakeEffect nsid zone)
/-- REPORT_ZONES (R58). -/
def execReportZones (ctx : Nat) (s : State) : Host.Outcome State Fault Refusal :=
  s.run (Instr.wf (.reportZones ctx)) (fun d => d.reportZones ctx)
/-- EXTENDED_REPORT_ZONES (R76). -/
def execExtendedReportZones (ctx : Nat) (s : State) : Host.Outcome State Fault Refusal :=
  s.run (Instr.wf (.extendedReportZones ctx)) (fun d => d.extendedReportZones ctx)

/-! ## Host administration -/

/-- CREATE_IO_SQ (R311). -/
def execCreateIoSq (ctx : Nat) (s : State) : Host.Outcome State Fault Refusal :=
  s.run (Instr.wf (.createIoSq ctx)) (fun d => d.createIoSq ctx)
/-- CREATE_IO_CQ (R311). -/
def execCreateIoCq (ctx : Nat) (s : State) : Host.Outcome State Fault Refusal :=
  s.run (Instr.wf (.createIoCq ctx)) (fun d => d.createIoCq ctx)
/-- DELETE_IO_SQ (R326). -/
def execDeleteIoSq (ctx : Nat) (s : State) : Host.Outcome State Fault Refusal :=
  s.run (Instr.wf (.deleteIoSq ctx)) (fun d => d.deleteIoSq ctx)
/-- DELETE_IO_CQ (R327). -/
def execDeleteIoCq (ctx : Nat) (s : State) : Host.Outcome State Fault Refusal :=
  s.run (Instr.wf (.deleteIoCq ctx)) (fun d => d.deleteIoCq ctx)
/-- IDENTIFY (R303). -/
def execIdentify (ctx : Nat) (s : State) : Host.Outcome State Fault Refusal :=
  s.run (Instr.wf (.identify ctx)) (fun d => d.identify ctx)
/-- GET_LOG_PAGE (R307). -/
def execGetLogPage (ctx : Nat) (s : State) : Host.Outcome State Fault Refusal :=
  s.run (Instr.wf (.getLogPage ctx)) (fun d => d.getLogPage ctx)
/-- SET_FEATURES (R306). -/
def execSetFeatures (ctx : Nat) (s : State) : Host.Outcome State Fault Refusal :=
  s.run (Instr.wf (.setFeatures ctx)) (fun d => d.setFeaturesCmd ctx)
/-- GET_FEATURES (R306). -/
def execGetFeatures (ctx : Nat) (s : State) : Host.Outcome State Fault Refusal :=
  s.run (Instr.wf (.getFeatures ctx)) (fun d => d.getFeaturesCmd ctx)
/-- ASYNC_EVENT_REQUEST (R308). -/
def execAsyncEventRequest (ctx : Nat) (s : State) : Host.Outcome State Fault Refusal :=
  s.run (Instr.wf (.asyncEventRequest ctx)) (fun d => d.asyncEventRequest ctx)
/-- ABORT (R325). -/
def execAbort (ctx : Nat) (s : State) : Host.Outcome State Fault Refusal :=
  s.run (Instr.wf (.abort ctx)) (fun d => d.abortCmd ctx)
/-- NAMESPACE_CREATE (R403). -/
def execNamespaceCreate (ctx : Nat) (s : State) : Host.Outcome State Fault Refusal :=
  s.run (Instr.wf (.namespaceCreate ctx)) (fun d => d.namespaceCreate ctx)
/-- NAMESPACE_DELETE (R411). -/
def execNamespaceDelete (ctx : Nat) (s : State) : Host.Outcome State Fault Refusal :=
  s.run (Instr.wf (.namespaceDelete ctx)) (fun d => d.namespaceDelete ctx)
/-- NAMESPACE_ATTACHMENT (R305). -/
def execNamespaceAttachment (ctx : Nat) (s : State) : Host.Outcome State Fault Refusal :=
  s.run (Instr.wf (.namespaceAttachment ctx)) (fun d => d.namespaceAttachment ctx)

/-! ## Firmware and controller states -/

/-- VIRTUALIZATION_MANAGEMENT (R305). -/
def execVirtualizationManagement (ctx : Nat) (s : State) : Host.Outcome State Fault Refusal :=
  s.run (Instr.wf (.virtualizationManagement ctx)) (fun d => d.virtualizationManagement ctx)
/-- FIRMWARE_IMAGE_DOWNLOAD (R445). -/
def execFirmwareImageDownload (ctx : Nat) (s : State) : Host.Outcome State Fault Refusal :=
  s.run (Instr.wf (.firmwareImageDownload ctx)) (fun d => d.firmwareImageDownload ctx)
/-- FIRMWARE_COMMIT (R332). -/
def execFirmwareCommit (ctx : Nat) (s : State) : Host.Outcome State Fault Refusal :=
  s.run (Instr.wf (.firmwareCommit ctx)) (fun d => d.firmwareCommit ctx)
/-- ACTIVATION_WITHOUT_RESET (R333). -/
def execActivationWithoutReset (ctx : Nat) (s : State) : Host.Outcome State Fault Refusal :=
  s.run (Instr.wf (.activationWithoutReset ctx)) (fun d => d.activationStart ctx)
/-- ACTIVATION_SWAP (R333). -/
def execActivationSwap (s : State) : Host.Outcome State Fault Refusal :=
  s.run (Instr.wf (.activationSwap)) (fun d => d.activationSwap)
/-- ACTIVATION_RESUME (R333). -/
def execActivationResume (s : State) : Host.Outcome State Fault Refusal :=
  s.run (Instr.wf (.activationResume)) (fun d => d.activationResume)
/-- ACTIVATION_DRAIN_TIMEOUT (R334). -/
def execActivationDrainTimeout (s : State) : Host.Outcome State Fault Refusal :=
  s.run (Instr.wf (.activationDrainTimeout)) (fun d => d.activationDrainTimeout)
/-- SANITIZE (R412). -/
def execSanitize (ctx : Nat) (s : State) : Host.Outcome State Fault Refusal :=
  s.run (Instr.wf (.sanitize ctx)) (fun d => d.sanitizeCmd ctx)
/-- CONTROLLER_DISABLE (R329). -/
def execControllerDisable (port fn : Nat) (s : State) : Host.Outcome State Fault Refusal :=
  s.run (Instr.wf (.controllerDisable port fn)) (fun d => d.controllerDisable port fn)
/-- CONTROLLER_ENABLE (R329). -/
def execControllerEnable (port fn iosqes iocqes asq acq : Nat) (s : State) : Host.Outcome State Fault Refusal :=
  s.run (Instr.wf (.controllerEnable port fn iosqes iocqes asq acq)) (fun d => d.controllerEnable port fn iosqes iocqes asq acq)
/-- VF_READY (R300). -/
def execVfReady (port fn : Nat) (s : State) : Host.Outcome State Fault Refusal :=
  s.run (Instr.wf (.vfReady port fn)) (fun d => d.vfReady port fn)
/-- SHUTDOWN_REQUEST (R331). -/
def execShutdownRequest (port fn : Nat) (s : State) : Host.Outcome State Fault Refusal :=
  s.run (Instr.wf (.shutdownRequest port fn)) (fun d => d.shutdownRequest port fn)
/-- FUNCTION_LEVEL_RESET (R330). -/
def execFunctionLevelReset (port fn : Nat) (s : State) : Host.Outcome State Fault Refusal :=
  s.run (Instr.wf (.functionLevelReset port fn)) (fun d => d.functionLevelReset port fn)
/-- PERST_N_ASSERT (R296). -/
def execPerstNAssert (port : Nat) (s : State) : Host.Outcome State Fault Refusal :=
  s.run (Instr.wf (.perstNAssert port)) (fun d => d.perstAssert port)
/-- PERST_N_RELEASE (R296). -/
def execPerstNRelease (port : Nat) (s : State) : Host.Outcome State Fault Refusal :=
  s.run (Instr.wf (.perstNRelease port)) (fun d => d.perstRelease port)
/-- PCIE_LINK_UP (R294). -/
def execPcieLinkUp (port gen width : Nat) (s : State) : Host.Outcome State Fault Refusal :=
  s.run (Instr.wf (.pcieLinkUp port gen width)) (fun d => d.pcieLinkUp port gen width)
/-- PCIE_LINK_DOWN (R482). -/
def execPcieLinkDown (port : Nat) (s : State) : Host.Outcome State Fault Refusal :=
  s.run (Instr.wf (.pcieLinkDown port)) (fun d => d.pcieLinkDown port)
/-- PCIE_LINK_RETRAIN (R340). -/
def execPcieLinkRetrain (port maxGen master : Nat) (s : State) : Host.Outcome State Fault Refusal :=
  s.run (Instr.wf (.pcieLinkRetrain port maxGen master)) (fun d => d.pcieLinkRetrain port maxGen master)
/-- APST_TRANSITION (R338). -/
def execApstTransition (port fn : Nat) (s : State) : Host.Outcome State Fault Refusal :=
  s.run (Instr.wf (.apstTransition port fn)) (fun d => d.apstTransition port fn)
/-- DMA_ERR_INFO_READ (R340). -/
def execDmaErrInfoRead (port master : Nat) (s : State) : Host.Outcome State Fault Refusal :=
  s.run (Instr.wf (.dmaErrInfoRead port master)) (fun d => d.dmaErrInfoRead port master)

/-! ## Die scheduling -/

/-- DIE_DISPATCH (R96). -/
def execDieDispatch (sled pos : Nat) (s : State) : Host.Outcome State Fault Refusal :=
  s.run (Instr.wf (.dieDispatch sled pos)) (fun d => d.dieDispatch sled pos)
/-- SUSPEND_RESULT (R99). -/
def execSuspendResult (sled tag result : Nat) (s : State) : Host.Outcome State Fault Refusal :=
  s.run (Instr.wf (.suspendResult sled tag result)) (fun d => d.suspendResult sled tag result)
/-- SUSPEND_HOLD_EXPIRY (R99). -/
def execSuspendHoldExpiry (sled pos : Nat) (s : State) : Host.Outcome State Fault Refusal :=
  s.run (Instr.wf (.suspendHoldExpiry sled pos)) (fun d => d.suspendHoldExpiry sled pos)
/-- RESUME_RESULT (R99). -/
def execResumeResult (sled tag result : Nat) (s : State) : Host.Outcome State Fault Refusal :=
  s.run (Instr.wf (.resumeResult sled tag result)) (fun d => d.resumeResult sled tag result)
/-- SUSPEND_TIMEOUT (R144). -/
def execSuspendTimeout (sled pos : Nat) (s : State) : Host.Outcome State Fault Refusal :=
  s.run (Instr.wf (.suspendTimeout sled pos)) (fun d => d.suspendTimeout sled pos)
/-- STATUS_TIMEOUT (R144). -/
def execStatusTimeout (sled pos : Nat) (s : State) : Host.Outcome State Fault Refusal :=
  s.run (Instr.wf (.statusTimeout sled pos)) (fun d => d.statusTimeout sled pos)
/-- PROGRAM_TIMEOUT (R145). -/
def execProgramTimeout (sled tag : Nat) (s : State) : Host.Outcome State Fault Refusal :=
  s.run (Instr.wf (.programTimeout sled tag)) (fun d => d.programTimeout sled tag)
/-- ERASE_TIMEOUT (R145). -/
def execEraseTimeout (sled tag : Nat) (s : State) : Host.Outcome State Fault Refusal :=
  s.run (Instr.wf (.eraseTimeout sled tag)) (fun d => d.eraseTimeout sled tag)
/-- MEMBER_TIMEOUT (R112). -/
def execMemberTimeout (sled tag : Nat) (s : State) : Host.Outcome State Fault Refusal :=
  s.run (Instr.wf (.memberTimeout sled tag)) (fun d => d.memberTimeout sled tag)
/-- HEDGE_START (R114). -/
def execHedgeStart (id : Nat) (s : State) : Host.Outcome State Fault Refusal :=
  s.run (Instr.wf (.hedgeStart id)) (fun d => d.hedgeStart id)
/-- FORCED_CREDIT_GRANT (R112). -/
def execForcedCreditGrant (s : State) : Host.Outcome State Fault Refusal :=
  s.run (Instr.wf (.forcedCreditGrant)) (fun d => d.forcedCreditGrant)
/-- DECODE_END (R154). -/
def execDecodeEnd (sled tag : Nat) (rs : List (Nat × CwRes)) (s : State) : Host.Outcome State Fault Refusal :=
  s.run (Instr.wf (.decodeEnd sled tag rs)) (fun d => d.decodeEnd sled tag rs)
/-- SOFT_DECODE_START (R149). -/
def execSoftDecodeStart (sled tag : Nat) (s : State) : Host.Outcome State Fault Refusal :=
  s.run (Instr.wf (.softDecodeStart sled tag)) (fun d => d.softDecodeStart sled tag)
/-- PRTY_JOB_START (R226). -/
def execPrtyJobStart (s : State) : Host.Outcome State Fault Refusal :=
  s.run (Instr.wf (.prtyJobStart)) (fun d => d.prtyJobStart)
/-- PRTY_JOB_END (R227). -/
def execPrtyJobEnd (s : State) : Host.Outcome State Fault Refusal :=
  s.run (Instr.wf (.prtyJobEnd)) (fun d => d.prtyJobEnd)

/-! ## Received flash data and streams -/

/-- COMPLETION_RECEIVE (R192). -/
def execCompletionReceive (sled tag gen result dieState : Nat) (array : ArrayReport) (s : State) : Host.Outcome State Fault Refusal :=
  s.run (Instr.wf (.completionReceive sled tag gen result dieState array)) (fun d => d.completionReceive sled tag gen result dieState array.us array.last array.bursts)
/-- DATA_BURST_RECEIVE (R191). -/
def execDataBurstReceive (sled tag seq mask fmt len got : Nat) (data : List Byte) (s : State) : Host.Outcome State Fault Refusal :=
  s.run (Instr.wf (.dataBurstReceive sled tag seq mask fmt len got data)) (fun d => d.dataBurstReceive sled tag seq mask fmt len got data)
/-- READ_AHEAD_ISSUE (R124). -/
def execReadAheadIssue (stream : Nat) (s : State) : Host.Outcome State Fault Refusal :=
  s.run (Instr.wf (.readAheadIssue stream)) (fun d => d.readAheadIssue stream)
/-- STREAM_RATE_UPDATE (R123). -/
def execStreamRateUpdate (stream : Nat) (s : State) : Host.Outcome State Fault Refusal :=
  s.run (Instr.wf (.streamRateUpdate stream)) (fun d => d.streamRateUpdate stream)
/-- STREAM_IDLE_EXPIRY (R127). -/
def execStreamIdleExpiry (stream : Nat) (s : State) : Host.Outcome State Fault Refusal :=
  s.run (Instr.wf (.streamIdleExpiry stream)) (fun d => d.streamIdleExpiry stream)

/-! ## Media care -/

/-- TRACKER_SAMPLING (R153). -/
def execTrackerSampling (s : State) : Host.Outcome State Fault Refusal :=
  s.run (Instr.wf (.trackerSampling)) (fun d => d.trackerSampling)
/-- TRACKER_CHECKPOINT (R153). -/
def execTrackerCheckpoint (s : State) : Host.Outcome State Fault Refusal :=
  s.run (Instr.wf (.trackerCheckpoint)) (fun d => d.trackerCheckpoint)
/-- WEAR_MIGRATION_START (R165). -/
def execWearMigrationStart (sled pos block : Nat) (s : State) : Host.Outcome State Fault Refusal :=
  s.run (Instr.wf (.wearMigrationStart sled pos block)) (fun d => d.wearMigrationStart sled pos block)
/-- READ_DISTURB_MIGRATION (R156). -/
def execReadDisturbMigration (sled pos block : Nat) (s : State) : Host.Outcome State Fault Refusal :=
  s.run (Instr.wf (.readDisturbMigration sled pos block)) (fun d => d.readDisturbMigration sled pos block)
/-- DIE_RETIRE_WRITE (R171). -/
def execDieRetireWrite (master : Nat) (v : Word) (s : State) : Host.Outcome State Fault Refusal :=
  s.run (Instr.wf (.dieRetireWrite master v)) (fun d => d.dieRetireWrite master v)
/-- DIE_RETIREMENT (R171). -/
def execDieRetirement (sled pos : Nat) (s : State) : Host.Outcome State Fault Refusal :=
  s.run (Instr.wf (.dieRetirement sled pos)) (fun d => d.dieRetirement sled pos)
/-- RAW_READ (R176). -/
def execRawRead (master : Nat) (s : State) : Host.Outcome State Fault Refusal :=
  s.run (Instr.wf (.rawRead master)) (fun d => d.rawRead master)

/-! ## Sled links -/

/-- SLOT_INSERTION (R211). -/
def execSlotInsertion (slot : Nat) (record : List Byte) (s : State) : Host.Outcome State Fault Refusal :=
  s.run (Instr.wf (.slotInsertion slot record)) (fun d => d.slotInsertion slot record)
/-- SLED_REMOVAL (R211). -/
def execSledRemoval (slot : Nat) (s : State) : Host.Outcome State Fault Refusal :=
  s.run (Instr.wf (.sledRemoval slot)) (fun d => (d.sledRemoval slot).blankTry)
/-- POWER_WAIT_EXPIRY (R211). -/
def execPowerWaitExpiry (slot : Nat) (s : State) : Host.Outcome State Fault Refusal :=
  s.run (Instr.wf (.powerWaitExpiry slot)) (fun d => d.powerWaitExpiry slot)
/-- TRAIN_TRIAL_START (R204). -/
def execTrainTrialStart (link : LinkId) (s : State) : Host.Outcome State Fault Refusal :=
  s.run (Instr.wf (.trainTrialStart link)) (fun d => d.trainTrialStart link)
/-- PRBS_PHASE_END (R204). -/
def execPrbsPhaseEnd (link : LinkId) (s : State) : Host.Outcome State Fault Refusal :=
  s.run (Instr.wf (.prbsPhaseEnd link)) (fun d => d.prbsPhaseEnd link)
/-- ALIGNMENT_MARKER (R184). -/
def execAlignmentMarker (link : LinkId) (found : Option Nat) (s : State) : Host.Outcome State Fault Refusal :=
  s.run (Instr.wf (.alignmentMarker link found)) (fun d => d.alignmentMarker link found)
/-- LOSS_OF_SIGNAL (R184). -/
def execLossOfSignal (link : LinkId) (s : State) : Host.Outcome State Fault Refusal :=
  s.run (Instr.wf (.lossOfSignal link)) (fun d => d.lossOfSignal link)
/-- TRAINING_WINDOW_END (R204). -/
def execTrainingWindowEnd (link : LinkId) (corrected : Nat) (uncorr : Bool) (s : State) : Host.Outcome State Fault Refusal :=
  s.run (Instr.wf (.trainingWindowEnd link corrected uncorr)) (fun d => d.trainingWindowEnd link corrected uncorr)
/-- TRAIN_RECEIVE (R204). -/
def execTrainReceive (link : LinkId) (ok : Bool) (count : Nat) (s : State) : Host.Outcome State Fault Refusal :=
  s.run (Instr.wf (.trainReceive link ok count)) (fun d => d.trainReceive link ok count)
/-- TRIAL_TIMEOUT (R204). -/
def execTrialTimeout (link : LinkId) (s : State) : Host.Outcome State Fault Refusal :=
  s.run (Instr.wf (.trialTimeout link)) (fun d => d.trialTimeout link)
/-- HOLD_EXPIRY (R211). -/
def execHoldExpiry (link : LinkId) (s : State) : Host.Outcome State Fault Refusal :=
  s.run (Instr.wf (.holdExpiry link)) (fun d => d.holdExpiry link)
/-- FRAME_RECEIVE (R186). -/
def execFrameReceive (link : LinkId) (f : RxFrame) (s : State) : Host.Outcome State Fault Refusal :=
  s.run (Instr.wf (.frameReceive link f)) (fun d => d.frameReceive link f)
/-- FRAME_TRANSMIT (R185). -/
def execFrameTransmit (link : LinkId) (s : State) : Host.Outcome State Fault Refusal :=
  s.run (Instr.wf (.frameTransmit link)) (fun d => d.frameTransmit link)
/-- REPLAY_TIMEOUT (R187). -/
def execReplayTimeout (link : LinkId) (s : State) : Host.Outcome State Fault Refusal :=
  s.run (Instr.wf (.replayTimeout link)) (fun d => d.replayTimeout link)
/-- CREDIT_RECEIVE (R199). -/
def execCreditReceive (link : LinkId) (limits : List Nat) (s : State) : Host.Outcome State Fault Refusal :=
  s.run (Instr.wf (.creditReceive link limits)) (fun d => d.creditReceive link limits)
/-- BURST_NAK_RECEIVE (R200). -/
def execBurstNakReceive (sled tag seq attempt : Nat) (s : State) : Host.Outcome State Fault Refusal :=
  s.run (Instr.wf (.burstNakReceive sled tag seq attempt)) (fun d => d.burstNakReceive sled tag seq attempt)
/-- ECHO_RECEIVE (R210). -/
def execEchoReceive (link : LinkId) (t : Nat) (s : State) : Host.Outcome State Fault Refusal :=
  s.run (Instr.wf (.echoReceive link t)) (fun d => d.echoReceive link t)
/-- LINK_TIME_SYNC (R210). -/
def execLinkTimeSync (s : State) : Host.Outcome State Fault Refusal :=
  s.run (Instr.wf (.linkTimeSync)) (fun d => d.linkTimeSync)
/-- QUIESCED_RECEIVE (R212). -/
def execQuiescedReceive (slot : Nat) (s : State) : Host.Outcome State Fault Refusal :=
  s.run (Instr.wf (.quiescedReceive slot)) (fun d => d.quiescedReceive slot)
/-- QUIESCE_TIMEOUT (R211). -/
def execQuiesceTimeout (slot : Nat) (s : State) : Host.Outcome State Fault Refusal :=
  s.run (Instr.wf (.quiesceTimeout slot)) (fun d => d.quiesceTimeout slot)
/-- LINK_RESET_RECEIVE (R213). -/
def execLinkResetReceive (link : LinkId) (s : State) : Host.Outcome State Fault Refusal :=
  s.run (Instr.wf (.linkResetReceive link)) (fun d => d.linkResetReceive link)
/-- LINK_RESET (R213). -/
def execLinkReset (link : LinkId) (cause : Nat) (s : State) : Host.Outcome State Fault Refusal :=
  s.run (Instr.wf (.linkReset link cause)) (fun d => d.linkReset link cause)
/-- DIE_STATUS_POLL (R214). -/
def execDieStatusPoll (sled pos : Nat) (s : State) : Host.Outcome State Fault Refusal :=
  s.run (Instr.wf (.dieStatusPoll sled pos)) (fun d => d.dieStatusPoll sled pos)
/-- MANAGEMENT_TIMEOUT (R194). -/
def execManagementTimeout (link : LinkId) (op xid : Nat) (s : State) : Host.Outcome State Fault Refusal :=
  s.run (Instr.wf (.managementTimeout link op xid)) (fun d => d.managementTimeout link op xid)
/-- CAP_RESPONSE (R206). -/
def execCapResponse (link : LinkId) (xid : Nat) (cap : Cap) (s : State) : Host.Outcome State Fault Refusal :=
  s.run (Instr.wf (.capResponse link xid cap)) (fun d => (d.capResponse link xid cap).blankTry)
/-- ADOPT_RESPONSE (R208). -/
def execAdoptResponse (slot xid status : Nat) (s : State) : Host.Outcome State Fault Refusal :=
  s.run (Instr.wf (.adoptResponse slot xid status)) (fun d => (d.adoptResponse slot xid status).blankTry)
/-- AUTH_RESPONSE (R207). -/
def execAuthResponse (link : LinkId) (xid status : Nat) (mac nonce : List Byte) (s : State) : Host.Outcome State Fault Refusal :=
  s.run (Instr.wf (.authResponse link xid status mac nonce)) (fun d => d.authResponse link xid status mac nonce)
/-- GEOM_RESPONSE (R133). -/
def execGeomResponse (slot xid status : Nat) (geom : Geom) (bad : List Nat) (s : State) : Host.Outcome State Fault Refusal :=
  s.run (Instr.wf (.geomResponse slot xid status geom bad)) (fun d => (d.geomResponse slot xid status geom bad).blankTry)
/-- VTABLE_RESPONSE (R151). -/
def execVtableResponse (slot xid status : Nat) (vectors : List (List Int)) (s : State) : Host.Outcome State Fault Refusal :=
  s.run (Instr.wf (.vtableResponse slot xid status vectors)) (fun d => d.vtableResponse slot xid status vectors)
/-- RELEASE_RESPONSE (R208). -/
def execReleaseResponse (slot xid status : Nat) (s : State) : Host.Outcome State Fault Refusal :=
  s.run (Instr.wf (.releaseResponse slot xid status)) (fun d => d.releaseResponse slot xid status)
/-- FENCE_RESPONSE (R251). -/
def execFenceResponse (slot xid status token leaseAge : Nat) (heldHere : Bool) (s : State) : Host.Outcome State Fault Refusal :=
  s.run (Instr.wf (.fenceResponse slot xid status token leaseAge heldHere)) (fun d => d.fenceResponse slot xid status token leaseAge heldHere)
/-- PORT_RETRAIN (R218). -/
def execPortRetrain (slot : Nat) (w : RetrainWrite) (s : State) : Host.Outcome State Fault Refusal :=
  s.run (Instr.wf (.portRetrain slot w)) (fun d => d.portRetrain slot w.master w.quiesce)
/-- PORT_QUIESCE (R212). -/
def execPortQuiesce (slot master : Nat) (s : State) : Host.Outcome State Fault Refusal :=
  s.run (Instr.wf (.portQuiesce slot master)) (fun d => d.portQuiesce slot master)
/-- PORT_RESTORE (R211). -/
def execPortRestore (slot master : Nat) (s : State) : Host.Outcome State Fault Refusal :=
  s.run (Instr.wf (.portRestore slot master)) (fun d => d.portRestore slot master)
/-- PORT_ENABLE_WRITE (R211). -/
def execPortEnableWrite (slot master : Nat) (en : Bool) (s : State) : Host.Outcome State Fault Refusal :=
  s.run (Instr.wf (.portEnableWrite slot master en)) (fun d => d.portEnableWrite slot master en)
/-- SLED_RELEASE_WRITE (R208). -/
def execSledReleaseWrite (slot master : Nat) (s : State) : Host.Outcome State Fault Refusal :=
  s.run (Instr.wf (.sledReleaseWrite slot master)) (fun d => d.sledReleaseWrite slot master)
/-- SLOT_ATTN_SAMPLE (R202). -/
def execSlotAttnSample (slot : Nat) (low : Bool) (s : State) : Host.Outcome State Fault Refusal :=
  s.run (Instr.wf (.slotAttnSample slot low)) (fun d => d.slotAttnSample slot low)
/-- SLOTOFF_RECEIVE (R212). -/
def execSlotoffReceive (lane xid slot : Nat) (s : State) : Host.Outcome State Fault Refusal :=
  s.run (Instr.wf (.slotoffReceive lane xid slot)) (fun d => d.slotoffReceive lane xid slot)
/-- PROGRAM_SETTLE_TIMEOUT (R557). -/
def execProgramSettleTimeout (slot : Nat) (s : State) : Host.Outcome State Fault Refusal :=
  s.run (Instr.wf (.programSettleTimeout slot)) (fun d => d.programSettleTimeout slot)

/-! ## Rebuild -/

/-- SLOW_WINDOW_TICK (R232). -/
def execSlowWindowTick (s : State) : Host.Outcome State Fault Refusal :=
  s.run (Instr.wf (.slowWindowTick)) (fun d => d.slowWindowTick)
/-- REPLACE_START (R240). -/
def execReplaceStart (slot master : Nat) (s : State) : Host.Outcome State Fault Refusal :=
  s.run (Instr.wf (.replaceStart slot master)) (fun d => d.replaceStart slot master)
/-- REPLACE_WAIT_EXPIRY (R240). -/
def execReplaceWaitExpiry (s : State) : Host.Outcome State Fault Refusal :=
  s.run (Instr.wf (.replaceWaitExpiry)) (fun d => d.replaceWaitExpiry)
/-- REBUILD_ROW (R234). -/
def execRebuildRow (s : State) : Host.Outcome State Fault Refusal :=
  s.run (Instr.wf (.rebuildRow)) (fun d => d.rebuildRow)

/-! ## Peer link -/

/-- HEARTBEAT_SEND (R245). -/
def execHeartbeatSend (s : State) : Host.Outcome State Fault Refusal :=
  s.run (Instr.wf (.heartbeatSend)) (fun d => d.heartbeatSend)
/-- HEARTBEAT_RECEIVE (R245). -/
def execHeartbeatReceive (lane mode pair role : Nat) (hold : Bool) (count : Nat) (s : State) : Host.Outcome State Fault Refusal :=
  s.run (Instr.wf (.heartbeatReceive lane mode pair role hold count)) (fun d => d.heartbeatReceive lane mode pair role hold count)
/-- HEARTBEAT_TIMEOUT (R247). -/
def execHeartbeatTimeout (s : State) : Host.Outcome State Fault Refusal :=
  s.run (Instr.wf (.heartbeatTimeout)) (fun d => d.heartbeatTimeout)
/-- HOLDOFF_RECEIVE (R254). -/
def execHoldoffReceive (lane ms : Nat) (s : State) : Host.Outcome State Fault Refusal :=
  s.run (Instr.wf (.holdoffReceive lane ms)) (fun d => d.holdoffReceive lane ms)
/-- PEER_TIME_RECEIVE (R245). -/
def execPeerTimeReceive (lane t : Nat) (s : State) : Host.Outcome State Fault Refusal :=
  s.run (Instr.wf (.peerTimeReceive lane t)) (fun d => d.peerTimeReceive lane t)
/-- PEER_TIME_SYNC (R245). -/
def execPeerTimeSync (s : State) : Host.Outcome State Fault Refusal :=
  s.run (Instr.wf (.peerTimeSync)) (fun d => d.peerTimeSync)
/-- MIRROR_RECEIVE (R246). -/
def execMirrorReceive (lane psn area off blocks zgen : Nat) (data : List Byte) (s : State) : Host.Outcome State Fault Refusal :=
  s.run (Instr.wf (.mirrorReceive lane psn area off blocks zgen data)) (fun d => d.mirrorReceive lane psn area off blocks zgen data)
/-- ROWEVT_RECEIVE (R246). -/
def execRowevtReceive (lane psn area event unit rs zgen zone nsid : Nat) (s : State) : Host.Outcome State Fault Refusal :=
  s.run (Instr.wf (.rowevtReceive lane psn area event unit rs zgen zone nsid)) (fun d => d.rowevtReceive lane psn area event unit rs zgen zone nsid)
/-- JOURNAL_RECEIVE (R246). -/
def execJournalReceive (lane psn : Nat) (recs : List JRec) (tables : Option Ckpt) (s : State) : Host.Outcome State Fault Refusal :=
  s.run (Instr.wf (.journalReceive lane psn recs tables)) (fun d => d.journalReceive lane psn recs tables)
/-- PEER_ACK_RECEIVE (R244). -/
def execPeerAckReceive (lane psn : Nat) (s : State) : Host.Outcome State Fault Refusal :=
  s.run (Instr.wf (.peerAckReceive lane psn)) (fun d => d.peerAckReceive lane psn)
/-- PSN_RESEND (R244). -/
def execPsnResend (psn : Nat) (s : State) : Host.Outcome State Fault Refusal :=
  s.run (Instr.wf (.psnResend psn)) (fun d => d.psnResend psn)
/-- LEASE_RENEW (R252). -/
def execLeaseRenew (s : State) : Host.Outcome State Fault Refusal :=
  s.run (Instr.wf (.leaseRenew)) (fun d => d.leaseRenew)
/-- TAKEOVER_LEASE_CHECK (R253). -/
def execTakeoverLeaseCheck (s : State) : Host.Outcome State Fault Refusal :=
  s.run (Instr.wf (.takeoverLeaseCheck)) (fun d => d.takeoverLeaseCheck)
/-- FORCE_TAKEOVER (R253). -/
def execForceTakeover (master : Nat) (s : State) : Host.Outcome State Fault Refusal :=
  s.run (Instr.wf (.forceTakeover master)) (fun d => d.forceTakeover master)
/-- HANDOVER_START (R257). -/
def execHandoverStart (membersUp : Bool) (master : Nat) (s : State) : Host.Outcome State Fault Refusal :=
  s.run (Instr.wf (.handoverStart membersUp master)) (fun d => d.handoverStart membersUp master)
/-- HANDOVER_SEND (R257). -/
def execHandoverSend (s : State) : Host.Outcome State Fault Refusal :=
  s.run (Instr.wf (.handoverSend)) (fun d => d.handoverSend)
/-- HANDOVER_RECEIVE (R257). -/
def execHandoverReceive (lane xid : Nat) (s : State) : Host.Outcome State Fault Refusal :=
  s.run (Instr.wf (.handoverReceive lane xid)) (fun d => d.handoverReceive lane xid)
/-- PAIR_RECEIVE (R407). -/
def execPairReceive (lane xid pairId giver : Nat) (wrappedKey : List Byte) (s : State) : Host.Outcome State Fault Refusal :=
  s.run (Instr.wf (.pairReceive lane xid pairId giver wrappedKey)) (fun d => d.pairReceive lane xid pairId giver wrappedKey)
/-- KEYS_RECEIVE (R410). -/
def execKeysReceive (lane : Nat) (psn : Option Nat) (full : Bool) (gone : List Nat) (ks : List (Nat × Nat × List Byte)) (s : State) : Host.Outcome State Fault Refusal :=
  s.run (Instr.wf (.keysReceive lane psn full gone ks)) (fun d => d.keysReceive lane psn full gone ks)
/-- PAIR_GIVE (R407). -/
def execPairGive (master : Nat) (s : State) : Host.Outcome State Fault Refusal :=
  s.run (Instr.wf (.pairGive master)) (fun d => d.pairGive master)
/-- PAIR_TAKE (R407). -/
def execPairTake (master : Nat) (s : State) : Host.Outcome State Fault Refusal :=
  s.run (Instr.wf (.pairTake master)) (fun d => d.pairTake master)
/-- UNPAIR (R409). -/
def execUnpair (master : Nat) (s : State) : Host.Outcome State Fault Refusal :=
  s.run (Instr.wf (.unpair master)) (fun d => d.unpair master)
/-- PAIR_CODE_EXPIRY (R408). -/
def execPairCodeExpiry (s : State) : Host.Outcome State Fault Refusal :=
  s.run (Instr.wf (.pairCodeExpiry)) (fun d => d.pairCodeExpiry)

/-! ## Vault and journal -/

/-- PFAIL_ACCEPT (R265). -/
def execPfailAccept (s : State) : Host.Outcome State Fault Refusal :=
  s.run (Instr.wf (.pfailAccept)) (fun d => d.pfailAccept)
/-- VAULT_SNAPSHOT_DONE (R272). -/
def execVaultSnapshotDone (s : State) : Host.Outcome State Fault Refusal :=
  s.run (Instr.wf (.vaultSnapshotDone)) (fun d => d.snapshotDone)
/-- PFAIL_N_RISE (R265). -/
def execPfailNRise (s : State) : Host.Outcome State Fault Refusal :=
  s.run (Instr.wf (.pfailNRise)) (fun d => d.pfailRise)
/-- HALT_RELEASE (R265). -/
def execHaltRelease (s : State) : Host.Outcome State Fault Refusal :=
  s.run (Instr.wf (.haltRelease)) (fun d => d.haltRelease)
/-- HOLDUP_OK_CHANGE (R266). -/
def execHoldupOkChange (high : Bool) (s : State) : Host.Outcome State Fault Refusal :=
  s.run (Instr.wf (.holdupOkChange high)) (fun d => d.holdupChange high)
/-- JOURNAL_PAGE_WRITE (R281). -/
def execJournalPageWrite (failed : List Nat) (s : State) : Host.Outcome State Fault Refusal :=
  s.run (Instr.wf (.journalPageWrite failed)) (fun d => d.journalPageWrite failed)
/-- CHECKPOINT_START (R286). -/
def execCheckpointStart (byWrite : Option Nat) (s : State) : Host.Outcome State Fault Refusal :=
  s.run (Instr.wf (.checkpointStart byWrite)) (fun d => d.checkpointStart byWrite)
/-- CHECKPOINT_END (R286). -/
def execCheckpointEnd (s : State) : Host.Outcome State Fault Refusal :=
  s.run (Instr.wf (.checkpointEnd)) (fun d => d.checkpointEnd)
/-- JSEQ_LO_READ (R290). -/
def execJseqLoRead (master : Nat) (s : State) : Host.Outcome State Fault Refusal :=
  s.run (Instr.wf (.jseqLoRead master)) (fun d => d.jseqLoRead master)
/-- LOAD_PEAK_READ (R290). -/
def execLoadPeakRead (master : Nat) (s : State) : Host.Outcome State Fault Refusal :=
  s.run (Instr.wf (.loadPeakRead master)) (fun d => d.loadPeakRead master)

/-! ## Tenancy -/

/-- SLICE_CREATE (R352). -/
def execSliceCreate (s master : Nat) (st : State) : Host.Outcome State Fault Refusal :=
  st.run (Instr.wf (.sliceCreate s master)) (fun d => d.sliceCreate s master)
/-- SLICE_RESET (R364). -/
def execSliceReset (s master : Nat) (st : State) : Host.Outcome State Fault Refusal :=
  st.run (Instr.wf (.sliceReset s master)) (fun d => d.sliceResetWrite s master)
/-- SLICE_REMOVE (R366). -/
def execSliceRemove (s master : Nat) (st : State) : Host.Outcome State Fault Refusal :=
  st.run (Instr.wf (.sliceRemove s master)) (fun d => d.sliceRemoveWrite s master)
/-- SLICE_RESIZE (R354). -/
def execSliceResize (s master : Nat) (st : State) : Host.Outcome State Fault Refusal :=
  st.run (Instr.wf (.sliceResize s master)) (fun d => d.sliceResize s master)
/-- SLICE_DRAIN_COMPLETE (R364). -/
def execSliceDrainComplete (s : Nat) (st : State) : Host.Outcome State Fault Refusal :=
  st.run (Instr.wf (.sliceDrainComplete s)) (fun d => d.sliceDrainComplete s)
/-- RESIZE_SHRINK_COMPLETE (R354). -/
def execResizeShrinkComplete (s : Nat) (st : State) : Host.Outcome State Fault Refusal :=
  st.run (Instr.wf (.resizeShrinkComplete s)) (fun d => d.resizeShrinkComplete s)
/-- SQ_BIND_WRITE (R355). -/
def execSqBindWrite (port fn q index : Nat) (s : State) : Host.Outcome State Fault Refusal :=
  s.run (Instr.wf (.sqBindWrite port fn q index)) (fun d => d.sqBindWrite port fn q index)
/-- TOKEN_REFILL (R349). -/
def execTokenRefill (s : State) : Host.Outcome State Fault Refusal :=
  s.run (Instr.wf (.tokenRefill)) (fun d => d.tokenRefill)
/-- NEGON_HELLO (R360). -/
def execNegonHello (port fn mbox : Nat) (pasid : Option Nat) (words : List Word) (s : State) : Host.Outcome State Fault Refusal :=
  s.run (Instr.wf (.negonHello port fn mbox pasid words)) (fun d => d.negonHello port fn mbox pasid words)
/-- NEGON_INFO (R359). -/
def execNegonInfo (port fn mbox : Nat) (pasid : Option Nat) (words : List Word) (s : State) : Host.Outcome State Fault Refusal :=
  s.run (Instr.wf (.negonInfo port fn mbox pasid words)) (fun d => d.negonInfo port fn mbox pasid words)
/-- NEGON_USER (R362). -/
def execNegonUser (port fn mbox : Nat) (pasid : Option Nat) (words : List Word) (s : State) : Host.Outcome State Fault Refusal :=
  s.run (Instr.wf (.negonUser port fn mbox pasid words)) (fun d => d.negonUser port fn mbox pasid words)
/-- NEGON_RESIZE (R359). -/
def execNegonResize (port fn mbox : Nat) (pasid : Option Nat) (words : List Word) (s : State) : Host.Outcome State Fault Refusal :=
  s.run (Instr.wf (.negonResize port fn mbox pasid words)) (fun d => d.negonResize port fn mbox pasid words)
/-- NEGON_STATS (R359). -/
def execNegonStats (port fn mbox : Nat) (pasid : Option Nat) (words : List Word) (s : State) : Host.Outcome State Fault Refusal :=
  s.run (Instr.wf (.negonStats port fn mbox pasid words)) (fun d => d.negonStats port fn mbox pasid words)
/-- MAILBOX_DOWN_ACK (R357). -/
def execMailboxDownAck (port fn mbox : Nat) (pasid : Option Nat) (s : State) : Host.Outcome State Fault Refusal :=
  s.run (Instr.wf (.mailboxDownAck port fn mbox pasid)) (fun d => d.mailboxDownAck port fn mbox pasid)
/-- MAILBOX_UP_ACK (R362). -/
def execMailboxUpAck (s master : Nat) (st : State) : Host.Outcome State Fault Refusal :=
  st.run (Instr.wf (.mailboxUpAck s master)) (fun d => d.mailboxUpAck s master)
/-- MAILBOX_POST (R362). -/
def execMailboxPost (s master : Nat) (st : State) : Host.Outcome State Fault Refusal :=
  st.run (Instr.wf (.mailboxPost s master)) (fun d => d.mailboxPost s master)
/-- MAILBOX_DOWN_DELIVER (R362). -/
def execMailboxDownDeliver (s : Nat) (st : State) : Host.Outcome State Fault Refusal :=
  st.run (Instr.wf (.mailboxDownDeliver s)) (fun d => d.mailboxDownDeliver s)

/-! ## DRAM -/

/-- DRAM_REQUEST (R383). -/
def execDramRequest (reader addr len : Nat) (data : Option (List Byte)) (mergeBad : Bool) (use : DramUse) (s : State) : Host.Outcome State Fault Refusal :=
  s.run (Instr.wf (.dramRequest reader addr len data mergeBad use)) (fun d => d.dramRequest reader addr len data mergeBad use)
/-- DRAM_BURST_READ (R378). -/
def execDramBurstRead (ch sub : Nat) (errs : List Nat) (s : State) : Host.Outcome State Fault Refusal :=
  s.run (Instr.wf (.dramBurstRead ch sub errs)) (fun d => d.dramBurstRead ch sub errs)
/-- REFRESH_DUE (R386). -/
def execRefreshDue (ch : Nat) (banks : List Nat) (s : State) : Host.Outcome State Fault Refusal :=
  s.run (Instr.wf (.refreshDue ch banks)) (fun d => d.refreshDue ch banks)
/-- MR4_POLL (R387). -/
def execMr4Poll (ch : Nat) (rs : List Mr4) (s : State) : Host.Outcome State Fault Refusal :=
  s.run (Instr.wf (.mr4Poll ch rs)) (fun d => d.mr4Poll ch rs)
/-- DQS_OSC_MEASURE (R388). -/
def execDqsOscMeasure (ch sub drift ns : Nat) (s : State) : Host.Outcome State Fault Refusal :=
  s.run (Instr.wf (.dqsOscMeasure ch sub drift ns)) (fun d => d.dqsMeasure ch sub drift ns)
/-- RETRAIN_STEP (R388). -/
def execRetrainStep (ch sub step ns : Nat) (failed : Option Nat) (s : State) : Host.Outcome State Fault Refusal :=
  s.run (Instr.wf (.retrainStep ch sub step ns failed)) (fun d => d.retrainStep ch sub step ns failed)
/-- PAGE_CLOSE_TIMEOUT (R385). -/
def execPageCloseTimeout (ch dramBank : Nat) (s : State) : Host.Outcome State Fault Refusal :=
  s.run (Instr.wf (.pageCloseTimeout ch dramBank)) (fun d => d.pageClose ch dramBank)
/-- PATROL_SCRUB (R381). -/
def execPatrolScrub (ch : Nat) (errs : List Nat) (s : State) : Host.Outcome State Fault Refusal :=
  s.run (Instr.wf (.patrolScrub ch errs)) (fun d => d.patrolScrub ch errs)
/-- RANK_RETIREMENT (R392). -/
def execRankRetirement (ch : Nat) (s : State) : Host.Outcome State Fault Refusal :=
  s.run (Instr.wf (.rankRetirement ch)) (fun d => d.rankRetirement ch)
/-- RANK_RETIRE_WRITE (R391). -/
def execRankRetireWrite (ch : Nat) (v : Word) (master : Nat) (s : State) : Host.Outcome State Fault Refusal :=
  s.run (Instr.wf (.rankRetireWrite ch v master)) (fun d => d.rankRetireWrite ch v master)
/-- RANK_COPY_START (R392). -/
def execRankCopyStart (ch : Nat) (s : State) : Host.Outcome State Fault Refusal :=
  s.run (Instr.wf (.rankCopyStart ch)) (fun d => d.rankCopyStart ch)
/-- RANK_COPY_DONE (R392). -/
def execRankCopyDone (ch : Nat) (bad : List Nat) (s : State) : Host.Outcome State Fault Refusal :=
  s.run (Instr.wf (.rankCopyDone ch bad)) (fun d => d.rankCopyDone ch bad)
/-- DRAM_ERR_INFO_READ (R397). -/
def execDramErrInfoRead (ch master : Nat) (s : State) : Host.Outcome State Fault Refusal :=
  s.run (Instr.wf (.dramErrInfoRead ch master)) (fun d => d.errInfoRead ch master)
/-- LAT_MAX_READ (R396). -/
def execLatMaxRead (ch master : Nat) (s : State) : Host.Outcome State Fault Refusal :=
  s.run (Instr.wf (.latMaxRead ch master)) (fun d => d.latMaxRead ch master)
/-- PAUSE_MAX_READ (R396). -/
def execPauseMaxRead (ch master : Nat) (s : State) : Host.Outcome State Fault Refusal :=
  s.run (Instr.wf (.pauseMaxRead ch master)) (fun d => d.pauseMaxRead ch master)

/-! ## Keys and digests -/

/-- SLOT_GENERATE (R404). -/
def execSlotGenerate (master : Nat) (s : State) : Host.Outcome State Fault Refusal :=
  s.run (Instr.wf (.slotGenerate master)) (fun d => d.slotGenerate master)
/-- SLOT_LOAD (R404). -/
def execSlotLoad (master : Nat) (s : State) : Host.Outcome State Fault Refusal :=
  s.run (Instr.wf (.slotLoad master)) (fun d => d.slotLoad master)
/-- SLOT_EXPORT (R404). -/
def execSlotExport (master : Nat) (s : State) : Host.Outcome State Fault Refusal :=
  s.run (Instr.wf (.slotExport master)) (fun d => d.slotExport master)
/-- SLOT_ZERO (R404). -/
def execSlotZero (master : Nat) (s : State) : Host.Outcome State Fault Refusal :=
  s.run (Instr.wf (.slotZero master)) (fun d => d.slotZero master)
/-- SLOT_DRAIN_COMPLETE (R404). -/
def execSlotDrainComplete (keySlot : Nat) (s : State) : Host.Outcome State Fault Refusal :=
  s.run (Instr.wf (.slotDrainComplete keySlot)) (fun d => d.slotDrained keySlot)
/-- SEAL (R405). -/
def execSealKey (master : Nat) (s : State) : Host.Outcome State Fault Refusal :=
  s.run (Instr.wf (.sealKey master)) (fun d => d.sealCmd master)
/-- UNSEAL (R405). -/
def execUnsealKey (master : Nat) (s : State) : Host.Outcome State Fault Refusal :=
  s.run (Instr.wf (.unsealKey master)) (fun d => d.unsealCmd master)
/-- RANDOM (R405). -/
def execRandom (master : Nat) (s : State) : Host.Outcome State Fault Refusal :=
  s.run (Instr.wf (.random master)) (fun d => d.randomCmd master)
/-- DRBG_RESEED (R401). -/
def execDrbgReseed (passes : Bool) (s : State) : Host.Outcome State Fault Refusal :=
  s.run (Instr.wf (.drbgReseed passes)) (fun d => d.drbgReseed passes)
/-- DRBG_HEALTH_FAIL (R401). -/
def execDrbgHealthFail (test failures : Nat) (s : State) : Host.Outcome State Fault Refusal :=
  s.run (Instr.wf (.drbgHealthFail test failures)) (fun d => d.drbgFail test failures)
/-- DGST_JOB_SUBMIT (R418). -/
def execDgstJobSubmit (addr master : Nat) (s : State) : Host.Outcome State Fault Refusal :=
  s.run (Instr.wf (.dgstJobSubmit addr master)) (fun d => d.jobSubmit addr master)
/-- DGST_JOB_SELECT (R419). -/
def execDgstJobSelect (s : State) : Host.Outcome State Fault Refusal :=
  s.run (Instr.wf (.dgstJobSelect)) (fun d => d.jobSelect)
/-- DGST_PREEMPT (R418). -/
def execDgstPreempt (blocks : Nat) (s : State) : Host.Outcome State Fault Refusal :=
  s.run (Instr.wf (.dgstPreempt blocks)) (fun d => d.jobPreempt blocks)
/-- DGST_JOB_END (R419). -/
def execDgstJobEnd (s : State) : Host.Outcome State Fault Refusal :=
  s.run (Instr.wf (.dgstJobEnd)) (fun d => d.jobEnd)
/-- DGST_JOB_CANCEL (R419). -/
def execDgstJobCancel (num master : Nat) (s : State) : Host.Outcome State Fault Refusal :=
  s.run (Instr.wf (.dgstJobCancel num master)) (fun d => d.jobCancel num master)
/-- STANDALONE_COMPARE (R424). -/
def execStandaloneCompare (len master : Nat) (s : State) : Host.Outcome State Fault Refusal :=
  s.run (Instr.wf (.standaloneCompare len master)) (fun d => d.compareCmd len master)
/-- CTX_KEY_RENEW (R422). -/
def execCtxKeyRenew (master : Nat) (s : State) : Host.Outcome State Fault Refusal :=
  s.run (Instr.wf (.ctxKeyRenew master)) (fun d => d.ctxRenew master)

/-! ## Firmware store -/

/-- NOR_PROGRAM (R436). -/
def execNorProgram (bank master : Nat) (s : State) : Host.Outcome State Fault Refusal :=
  s.run (Instr.wf (.norProgram bank master)) (fun d => d.norProgram bank master)
/-- NOR_ERASE (R438). -/
def execNorErase (bank master : Nat) (s : State) : Host.Outcome State Fault Refusal :=
  s.run (Instr.wf (.norErase bank master)) (fun d => d.norEraseCmd bank master)
/-- NOR_OP_COMPLETE (R433). -/
def execNorOpComplete (bank : Nat) (e : NorEnd) (s : State) : Host.Outcome State Fault Refusal :=
  s.run (Instr.wf (.norOpComplete bank e)) (fun d => d.norComplete bank e)
/-- BANK_FAULT (R434). -/
def execBankFault (addr master : Nat) (s : State) : Host.Outcome State Fault Refusal :=
  s.run (Instr.wf (.bankFault addr master)) (fun d => d.bankFault addr master)
/-- BUSY_FAULT_ADDR_READ (R462). -/
def execBusyFaultAddrRead (master : Nat) (s : State) : Host.Outcome State Fault Refusal :=
  s.run (Instr.wf (.busyFaultAddrRead master)) (fun d => d.busyFaultRead master)
/-- OTP_PROGRAM (R439). -/
def execOtpProgram (master : Nat) (dieError : Bool) (s : State) : Host.Outcome State Fault Refusal :=
  s.run (Instr.wf (.otpProgram master dieError)) (fun d => d.otpProgram master dieError)
/-- KEY_REVOKE (R441). -/
def execKeyRevoke (k master : Nat) (s : State) : Host.Outcome State Fault Refusal :=
  s.run (Instr.wf (.keyRevoke k master)) (fun d => d.keyRevoke k master)
/-- ROLLBACK_COMMIT (R440). -/
def execRollbackCommit (force : Bool) (master : Nat) (s : State) : Host.Outcome State Fault Refusal :=
  s.run (Instr.wf (.rollbackCommit force master)) (fun d => d.rollbackCommit force master)
/-- CONFIG_RECORD_FLUSH (R455). -/
def execConfigRecordFlush (s : State) : Host.Outcome State Fault Refusal :=
  s.run (Instr.wf (.configRecordFlush)) (fun d => d.cfgFlushCmd)
/-- CONFIG_COMPACTION (R458). -/
def execConfigCompaction (s : State) : Host.Outcome State Fault Refusal :=
  s.run (Instr.wf (.configCompaction)) (fun d => d.cfgCompactCmd)

/-! ## Power, clocks and the management bus -/

/-- IDLE_TIMER_EXPIRY (R466). -/
def execIdleTimerExpiry (s : State) : Host.Outcome State Fault Refusal :=
  s.run (Instr.wf (.idleTimerExpiry)) (fun d => d.idleTimerExpiry)
/-- PREPARE_STEP_ANSWER (R467). -/
def execPrepareStepAnswer (s : State) : Host.Outcome State Fault Refusal :=
  s.run (Instr.wf (.prepareStepAnswer)) (fun d => d.prepareStepAnswer)
/-- PREPARE_STEP_TIMEOUT (R467). -/
def execPrepareStepTimeout (s : State) : Host.Outcome State Fault Refusal :=
  s.run (Instr.wf (.prepareStepTimeout)) (fun d => d.prepareStepTimeout)
/-- VOTE_WITHDRAW (R467). -/
def execVoteWithdraw (step : Nat) (s : State) : Host.Outcome State Fault Refusal :=
  s.run (Instr.wf (.voteWithdraw step)) (fun d => d.voteWithdraw step)
/-- DORMANT_COMMIT (R469). -/
def execDormantCommit (s : State) : Host.Outcome State Fault Refusal :=
  s.run (Instr.wf (.dormantCommit)) (fun d => d.dormantCommit)
/-- DORMANT_WAKE (R475). -/
def execDormantWake (s : State) : Host.Outcome State Fault Refusal :=
  s.run (Instr.wf (.dormantWake)) (fun d => d.dormantWake)
/-- WAKE_COMPLETE (R475). -/
def execWakeComplete (s : State) : Host.Outcome State Fault Refusal :=
  s.run (Instr.wf (.wakeComplete)) (fun d => d.wakeComplete)
/-- POWR_WAKE_WRITE (R472). -/
def execPowrWakeWrite (v : Word) (master : Nat) (s : State) : Host.Outcome State Fault Refusal :=
  s.run (Instr.wf (.powrWakeWrite v master)) (fun d => d.powrWakeWrite v master)
/-- SMBUS_ADDRESS_MATCH (R473). -/
def execSmbusAddressMatch (addr : Nat) (s : State) : Host.Outcome State Fault Refusal :=
  s.run (Instr.wf (.smbusAddressMatch addr)) (fun d => d.smbusAddressMatch addr)
/-- PAD_HOLD_RELEASE (R477). -/
def execPadHoldRelease (group : Nat) (s : State) : Host.Outcome State Fault Refusal :=
  s.run (Instr.wf (.padHoldRelease group)) (fun d => d.padHoldRelease group)
/-- PAD_HOLD_TIMEOUT (R477). -/
def execPadHoldTimeout (group : Nat) (s : State) : Host.Outcome State Fault Refusal :=
  s.run (Instr.wf (.padHoldTimeout group)) (fun d => d.padHoldTimeout group)
/-- RAIL_SAMPLE (R480). -/
def execRailSample (mvs : List Nat) (s : State) : Host.Outcome State Fault Refusal :=
  s.run (Instr.wf (.railSample mvs)) (fun d => d.railSample mvs)
/-- REFERENCE_LOSS (R482). -/
def execReferenceLoss (input : Nat) (s : State) : Host.Outcome State Fault Refusal :=
  s.run (Instr.wf (.referenceLoss input)) (fun d => d.referenceLoss input)
/-- PLL_LOCK_LOSS (R482). -/
def execPllLockLoss (pll : Nat) (s : State) : Host.Outcome State Fault Refusal :=
  s.run (Instr.wf (.pllLockLoss pll)) (fun d => d.pllLockLoss pll)
/-- AON_CALIBRATION (R481). -/
def execAonCalibration (ppm : Int) (s : State) : Host.Outcome State Fault Refusal :=
  s.run (Instr.wf (.aonCalibration ppm)) (fun d => d.aonCalibration ppm)
/-- HOUR_TICK (R484). -/
def execHourTick (s : State) : Host.Outcome State Fault Refusal :=
  s.run (Instr.wf (.hourTick)) (fun d => d.hourTick)
/-- SMBUS_PACKET_RECEIVE (R492). -/
def execSmbusPacketReceive (src : Nat) (pecOk : Bool) (eid : Option Nat) (replies : List (List Byte)) (s : State) : Host.Outcome State Fault Refusal :=
  s.run (Instr.wf (.smbusPacketReceive src pecOk eid replies)) (fun d => d.smbusPacketReceive src pecOk eid replies)
/-- SMBUS_TIMEOUT (R492). -/
def execSmbusTimeout (s : State) : Host.Outcome State Fault Refusal :=
  s.run (Instr.wf (.smbusTimeout)) (fun d => d.smbusTimeout)
/-- ALERT_ACK (R492). -/
def execAlertAck (v : Word) (master : Nat) (s : State) : Host.Outcome State Fault Refusal :=
  s.run (Instr.wf (.alertAck v master)) (fun d => d.alertAck v master)

/-! ## Thermal control -/

/-- SENSOR_RESULT (R496). -/
def execSensorResult (counts : List Nat) (s : State) : Host.Outcome State Fault Refusal :=
  s.run (Instr.wf (.sensorResult counts)) (fun d => d.sensorResult counts)
/-- DORMANT_SENSOR_RESULT (R497). -/
def execDormantSensorResult (c22 c23 : Nat) (s : State) : Host.Outcome State Fault Refusal :=
  s.run (Instr.wf (.dormantSensorResult c22 c23)) (fun d => d.dormantSensorResult c22 c23)
/-- LADDER_STEP_LEAVE (R503). -/
def execLadderStepLeave (s : State) : Host.Outcome State Fault Refusal :=
  s.run (Instr.wf (.ladderStepLeave)) (fun d => d.ladderStepLeave)
/-- STOP_RESUME (R504). -/
def execStopResume (s : State) : Host.Outcome State Fault Refusal :=
  s.run (Instr.wf (.stopResume)) (fun d => d.stopResume)
/-- SLED_SENSOR_POLL (R502). -/
def execSledSensorPoll (s : State) : Host.Outcome State Fault Refusal :=
  s.run (Instr.wf (.sledSensorPoll)) (fun d => d.sledSensorPoll)
/-- SENSOR_RESPONSE (R502). -/
def execSensorResponse (slot xid status b0 b1 b2 : Nat) (s : State) : Host.Outcome State Fault Refusal :=
  s.run (Instr.wf (.sensorResponse slot xid status b0 b1 b2)) (fun d => d.sensorResponse slot xid status b0 b1 b2)
/-- FAN_UPDATE (R506). -/
def execFanUpdate (rpms : List Nat) (s : State) : Host.Outcome State Fault Refusal :=
  s.run (Instr.wf (.fanUpdate rpms)) (fun d => d.fanUpdate rpms)
/-- FAN_FAILURE (R506). -/
def execFanFailure (fan rpm : Nat) (s : State) : Host.Outcome State Fault Refusal :=
  s.run (Instr.wf (.fanFailure fan rpm)) (fun d => d.fanFailure fan rpm)
/-- BROKEN_CLR_WRITE (R498). -/
def execBrokenClrWrite (v : Word) (master : Nat) (s : State) : Host.Outcome State Fault Refusal :=
  s.run (Instr.wf (.brokenClrWrite v master)) (fun d => d.brokenClrWrite v master)

/-! ## Events -/

/-- EVENT_OFFER (R512). -/
def execEventOffer (page num : Nat) (params : List Nat) (kind : OfferKind) (stamp : Stamp) (s : State) : Host.Outcome State Fault Refusal :=
  s.run (Instr.wf (.eventOffer page num params kind stamp)) (fun d => d.eventOffer page num params kind stamp)
/-- RING_FREEZE (R515). -/
def execRingFreeze (v : Word) (master : Nat) (s : State) : Host.Outcome State Fault Refusal :=
  s.run (Instr.wf (.ringFreeze v master)) (fun d => d.ringFreeze v master)
/-- FREEZE_TIMEOUT (R515). -/
def execFreezeTimeout (s : State) : Host.Outcome State Fault Refusal :=
  s.run (Instr.wf (.freezeTimeout)) (fun d => d.freezeTimeout)
/-- LOG_PAGE_WRITE (R516). -/
def execLogPageWrite (failed : List Nat) (s : State) : Host.Outcome State Fault Refusal :=
  s.run (Instr.wf (.logPageWrite failed)) (fun d => d.logPageWrite failed)
/-- RECORDS_LOST_REPORT (R524). -/
def execRecordsLostReport (s : State) : Host.Outcome State Fault Refusal :=
  s.run (Instr.wf (.recordsLostReport)) (fun d => d.recordsLost)

/-! ## Conservation ledgers -/

/-- AUDIT_STROBE (R529). -/
def execAuditStrobe (s : State) : Host.Outcome State Fault Refusal :=
  s.run (Instr.wf (.auditStrobe)) (fun d => d.auditStrobe)
/-- AUDIT_NOW (R533). -/
def execAuditNow (en : Bool) (master : Nat) (s : State) : Host.Outcome State Fault Refusal :=
  s.run (Instr.wf (.auditNow en master)) (fun d => d.auditNow en master)
/-- AUDIT_PASS_END (R531). -/
def execAuditPassEnd (us : Nat) (poisoned : Option (Nat × Nat)) (s : State) : Host.Outcome State Fault Refusal :=
  s.run (Instr.wf (.auditPassEnd us poisoned)) (fun d => d.auditPassEnd us poisoned)
/-- LEDGER_AUDIT_DISABLE (R534). -/
def execLedgerAuditDisable (v : Option Word) (master : Nat) (s : State) : Host.Outcome State Fault Refusal :=
  s.run (Instr.wf (.ledgerAuditDisable v master)) (fun d => d.ledgerAuditDisable v master)
/-- VIOL_LEDGER_READ (R533). -/
def execViolLedgerRead (master : Nat) (s : State) : Host.Outcome State Fault Refusal :=
  s.run (Instr.wf (.violLedgerRead master)) (fun d => d.violLedgerRead master)
/-- VIOL_TIME_LO_READ (R533). -/
def execViolTimeLoRead (master : Nat) (s : State) : Host.Outcome State Fault Refusal :=
  s.run (Instr.wf (.violTimeLoRead master)) (fun d => d.violTimeLoRead master)

/-! ## Further commands of the link, host and peer -/

/-- PEER_ENABLE_WRITE (R262). -/
def execPeerEnableWrite (en : Bool) (master : Nat) (s : State) : Host.Outcome State Fault Refusal :=
  s.run (Instr.wf (.peerEnableWrite en master)) (fun d => d.peerEnableWrite en master)
/-- REFERENCE_APPEARS (R482). -/
def execReferenceAppears (input : Nat) (trains : Bool) (s : State) : Host.Outcome State Fault Refusal :=
  s.run (Instr.wf (.referenceAppears input trains)) (fun d => d.referenceAppears input trains)
/-- SLOTOFF_RESPONSE (R212). -/
def execSlotoffResponse (lane xid status : Nat) (s : State) : Host.Outcome State Fault Refusal :=
  s.run (Instr.wf (.slotoffResponse lane xid status)) (fun d => d.slotoffResponse lane xid status)
/-- QUIESCED_WAIT_EXPIRY (R212). -/
def execQuiescedWaitExpiry (slot : Nat) (s : State) : Host.Outcome State Fault Refusal :=
  s.run (Instr.wf (.quiescedWaitExpiry slot)) (fun d => d.quiescedWaitExpiry slot)
/-- PAIR_RESPONSE (R407). -/
def execPairResponse (lane xid status : Nat) (s : State) : Host.Outcome State Fault Refusal :=
  s.run (Instr.wf (.pairResponse lane xid status)) (fun d => d.pairResponse lane xid status)
/-- PEER_PROBE_RECEIVE (R245). -/
def execPeerProbeReceive (lane t : Nat) (s : State) : Host.Outcome State Fault Refusal :=
  s.run (Instr.wf (.peerProbeReceive lane t)) (fun d => d.peerProbeReceive lane t)
/-- CONFIGURATION_WRITE (R300). -/
def execConfigurationWrite (port : Nat) (op : ConfigOp) (s : State) : Host.Outcome State Fault Refusal :=
  s.run (Instr.wf (.configurationWrite port op)) (fun d => d.configurationWrite port op)
/-- INTERRUPT_COALESCING_TIMEOUT (R306). -/
def execInterruptCoalescingTimeout (port fn q : Nat) (s : State) : Host.Outcome State Fault Refusal :=
  s.run (Instr.wf (.interruptCoalescingTimeout port fn q)) (fun d => d.coalescingTimeout port fn q)
/-- ATS_INVALIDATE_REQUEST (R295). -/
def execAtsInvalidateRequest (port fn pasid : Nat) (pages : List Nat) (s : State) : Host.Outcome State Fault Refusal :=
  s.run (Instr.wf (.atsInvalidateRequest port fn pasid pages)) (fun d => d.atsInvalidate port fn pasid pages)

end Sys2Proof.Machine
end

