-- ==== Sys2Proof/Machine/Dispatch.lean ====
section
/-! DEFINITION. One arm for each command. -/

namespace Sys2Proof.Machine

def exec (i : Instr) (s : State) : Host.Outcome State Fault Refusal :=
  match i with
  | .porNAssert => Sys2Proof.Machine.execPorNAssert s
  | .porNRelease straps trains => Sys2Proof.Machine.execPorNRelease straps trains s
  | .bootWatchdogExpiry => Sys2Proof.Machine.execBootWatchdogExpiry s
  | .bootOk master => Sys2Proof.Machine.execBootOk master s
  | .startupModeSelect => Sys2Proof.Machine.execStartupModeSelect s
  | .startupRecovery r => Sys2Proof.Machine.execStartupRecovery r s
  | .recoveryCommitReset => Sys2Proof.Machine.execRecoveryCommitReset s
  | .warmReset cause => Sys2Proof.Machine.execWarmReset cause s
  | .managerWarmReset v master => Sys2Proof.Machine.execManagerWarmReset v master s
  | .fabricAccessError addr write master => Sys2Proof.Machine.execFabricAccessError addr write master s
  | .unservedPageAccess page off write master => Sys2Proof.Machine.execUnservedPageAccess page off write master s
  | .registerWrite page off v bytes master => Sys2Proof.Machine.execRegisterWrite page off v bytes master s
  | .expertKeyWrite page v master => Sys2Proof.Machine.execExpertKeyWrite page v master s
  | .evtForceWrite page v master => Sys2Proof.Machine.execEvtForceWrite page v master s
  | .evtStatClear page v same master => Sys2Proof.Machine.execEvtStatClear page v same master s
  | .fabErrCountRead master => Sys2Proof.Machine.execFabErrCountRead master s
  | .timeLoRead master => Sys2Proof.Machine.execTimeLoRead master s
  | .timeLoad v master => Sys2Proof.Machine.execTimeLoad v master s
  | .epochCommit master => Sys2Proof.Machine.execEpochCommit master s
  | .epochApplyOnDrain page => Sys2Proof.Machine.execEpochApplyOnDrain page s
  | .tenancyEnable baseCls master => Sys2Proof.Machine.execTenancyEnable baseCls master s
  | .tenancyDisable master => Sys2Proof.Machine.execTenancyDisable master s
  | .creditPoolSplit => Sys2Proof.Machine.execCreditPoolSplit s
  | .layoutChange sleds master => Sys2Proof.Machine.execLayoutChange sleds master s
  | .sqTailDoorbell port fn q tail pasid => Sys2Proof.Machine.execSqTailDoorbell port fn q tail pasid s
  | .cqHeadDoorbell port fn q head => Sys2Proof.Machine.execCqHeadDoorbell port fn q head s
  | .commandFetch port fn q e => Sys2Proof.Machine.execCommandFetch port fn q e s
  | .cqEntryPost ctx => Sys2Proof.Machine.execCqEntryPost ctx s
  | .msixUnmask port fn vec => Sys2Proof.Machine.execMsixUnmask port fn vec s
  | .hostDmaComplete ctx data pages => Sys2Proof.Machine.execHostDmaComplete ctx data pages s
  | .dmaError ctx kind addr => Sys2Proof.Machine.execDmaError ctx kind addr s
  | .write ctx => Sys2Proof.Machine.execWrite ctx s
  | .zoneAppend ctx => Sys2Proof.Machine.execZoneAppend ctx s
  | .writeZeroes ctx => Sys2Proof.Machine.execWriteZeroes ctx s
  | .read ctx => Sys2Proof.Machine.execRead ctx s
  | .flush ctx => Sys2Proof.Machine.execFlush ctx s
  | .stageCommand nsid zone => Sys2Proof.Machine.execStageCommand nsid zone s
  | .stripeGroupAllocate nsid zone => Sys2Proof.Machine.execStripeGroupAllocate nsid zone s
  | .zoneActivation nsid zone => Sys2Proof.Machine.execZoneActivation nsid zone s
  | .commitRecord nsid zone => Sys2Proof.Machine.execCommitRecord nsid zone s
  | .zoneOpen ctx => Sys2Proof.Machine.execZoneOpen ctx s
  | .zoneClose ctx => Sys2Proof.Machine.execZoneClose ctx s
  | .zoneFinish ctx => Sys2Proof.Machine.execZoneFinish ctx s
  | .zoneReset ctx => Sys2Proof.Machine.execZoneReset ctx s
  | .zoneOffline ctx => Sys2Proof.Machine.execZoneOffline ctx s
  | .setZoneDescriptorExtension ctx => Sys2Proof.Machine.execSetZoneDescriptorExtension ctx s
  | .zoneActionTakeEffect nsid zone => Sys2Proof.Machine.execZoneActionTakeEffect nsid zone s
  | .reportZones ctx => Sys2Proof.Machine.execReportZones ctx s
  | .extendedReportZones ctx => Sys2Proof.Machine.execExtendedReportZones ctx s
  | .createIoSq ctx => Sys2Proof.Machine.execCreateIoSq ctx s
  | .createIoCq ctx => Sys2Proof.Machine.execCreateIoCq ctx s
  | .deleteIoSq ctx => Sys2Proof.Machine.execDeleteIoSq ctx s
  | .deleteIoCq ctx => Sys2Proof.Machine.execDeleteIoCq ctx s
  | .identify ctx => Sys2Proof.Machine.execIdentify ctx s
  | .getLogPage ctx => Sys2Proof.Machine.execGetLogPage ctx s
  | .setFeatures ctx => Sys2Proof.Machine.execSetFeatures ctx s
  | .getFeatures ctx => Sys2Proof.Machine.execGetFeatures ctx s
  | .asyncEventRequest ctx => Sys2Proof.Machine.execAsyncEventRequest ctx s
  | .abort ctx => Sys2Proof.Machine.execAbort ctx s
  | .namespaceCreate ctx => Sys2Proof.Machine.execNamespaceCreate ctx s
  | .namespaceDelete ctx => Sys2Proof.Machine.execNamespaceDelete ctx s
  | .namespaceAttachment ctx => Sys2Proof.Machine.execNamespaceAttachment ctx s
  | .virtualizationManagement ctx => Sys2Proof.Machine.execVirtualizationManagement ctx s
  | .firmwareImageDownload ctx => Sys2Proof.Machine.execFirmwareImageDownload ctx s
  | .firmwareCommit ctx => Sys2Proof.Machine.execFirmwareCommit ctx s
  | .activationWithoutReset ctx => Sys2Proof.Machine.execActivationWithoutReset ctx s
  | .activationSwap => Sys2Proof.Machine.execActivationSwap s
  | .activationResume => Sys2Proof.Machine.execActivationResume s
  | .activationDrainTimeout => Sys2Proof.Machine.execActivationDrainTimeout s
  | .sanitize ctx => Sys2Proof.Machine.execSanitize ctx s
  | .controllerDisable port fn => Sys2Proof.Machine.execControllerDisable port fn s
  | .controllerEnable port fn iosqes iocqes asq acq => Sys2Proof.Machine.execControllerEnable port fn iosqes iocqes asq acq s
  | .vfReady port fn => Sys2Proof.Machine.execVfReady port fn s
  | .shutdownRequest port fn => Sys2Proof.Machine.execShutdownRequest port fn s
  | .functionLevelReset port fn => Sys2Proof.Machine.execFunctionLevelReset port fn s
  | .perstNAssert port => Sys2Proof.Machine.execPerstNAssert port s
  | .perstNRelease port => Sys2Proof.Machine.execPerstNRelease port s
  | .pcieLinkUp port gen width => Sys2Proof.Machine.execPcieLinkUp port gen width s
  | .pcieLinkDown port => Sys2Proof.Machine.execPcieLinkDown port s
  | .pcieLinkRetrain port maxGen master => Sys2Proof.Machine.execPcieLinkRetrain port maxGen master s
  | .apstTransition port fn => Sys2Proof.Machine.execApstTransition port fn s
  | .dmaErrInfoRead port master => Sys2Proof.Machine.execDmaErrInfoRead port master s
  | .dieDispatch sled pos => Sys2Proof.Machine.execDieDispatch sled pos s
  | .suspendResult sled tag result => Sys2Proof.Machine.execSuspendResult sled tag result s
  | .suspendHoldExpiry sled pos => Sys2Proof.Machine.execSuspendHoldExpiry sled pos s
  | .resumeResult sled tag result => Sys2Proof.Machine.execResumeResult sled tag result s
  | .suspendTimeout sled pos => Sys2Proof.Machine.execSuspendTimeout sled pos s
  | .statusTimeout sled pos => Sys2Proof.Machine.execStatusTimeout sled pos s
  | .programTimeout sled tag => Sys2Proof.Machine.execProgramTimeout sled tag s
  | .eraseTimeout sled tag => Sys2Proof.Machine.execEraseTimeout sled tag s
  | .memberTimeout sled tag => Sys2Proof.Machine.execMemberTimeout sled tag s
  | .hedgeStart id => Sys2Proof.Machine.execHedgeStart id s
  | .forcedCreditGrant => Sys2Proof.Machine.execForcedCreditGrant s
  | .decodeEnd sled tag rs => Sys2Proof.Machine.execDecodeEnd sled tag rs s
  | .softDecodeStart sled tag => Sys2Proof.Machine.execSoftDecodeStart sled tag s
  | .prtyJobStart => Sys2Proof.Machine.execPrtyJobStart s
  | .prtyJobEnd => Sys2Proof.Machine.execPrtyJobEnd s
  | .completionReceive sled tag gen result dieState array => Sys2Proof.Machine.execCompletionReceive sled tag gen result dieState array s
  | .dataBurstReceive sled tag seq mask fmt len got data => Sys2Proof.Machine.execDataBurstReceive sled tag seq mask fmt len got data s
  | .readAheadIssue stream => Sys2Proof.Machine.execReadAheadIssue stream s
  | .streamRateUpdate stream => Sys2Proof.Machine.execStreamRateUpdate stream s
  | .streamIdleExpiry stream => Sys2Proof.Machine.execStreamIdleExpiry stream s
  | .trackerSampling => Sys2Proof.Machine.execTrackerSampling s
  | .trackerCheckpoint => Sys2Proof.Machine.execTrackerCheckpoint s
  | .wearMigrationStart sled pos block => Sys2Proof.Machine.execWearMigrationStart sled pos block s
  | .readDisturbMigration sled pos block => Sys2Proof.Machine.execReadDisturbMigration sled pos block s
  | .dieRetireWrite master v => Sys2Proof.Machine.execDieRetireWrite master v s
  | .dieRetirement sled pos => Sys2Proof.Machine.execDieRetirement sled pos s
  | .rawRead master => Sys2Proof.Machine.execRawRead master s
  | .slotInsertion slot record => Sys2Proof.Machine.execSlotInsertion slot record s
  | .sledRemoval slot => Sys2Proof.Machine.execSledRemoval slot s
  | .powerWaitExpiry slot => Sys2Proof.Machine.execPowerWaitExpiry slot s
  | .trainTrialStart link => Sys2Proof.Machine.execTrainTrialStart link s
  | .prbsPhaseEnd link => Sys2Proof.Machine.execPrbsPhaseEnd link s
  | .alignmentMarker link found => Sys2Proof.Machine.execAlignmentMarker link found s
  | .lossOfSignal link => Sys2Proof.Machine.execLossOfSignal link s
  | .trainingWindowEnd link corrected uncorr => Sys2Proof.Machine.execTrainingWindowEnd link corrected uncorr s
  | .trainReceive link ok count => Sys2Proof.Machine.execTrainReceive link ok count s
  | .trialTimeout link => Sys2Proof.Machine.execTrialTimeout link s
  | .holdExpiry link => Sys2Proof.Machine.execHoldExpiry link s
  | .frameReceive link f => Sys2Proof.Machine.execFrameReceive link f s
  | .frameTransmit link => Sys2Proof.Machine.execFrameTransmit link s
  | .replayTimeout link => Sys2Proof.Machine.execReplayTimeout link s
  | .creditReceive link limits => Sys2Proof.Machine.execCreditReceive link limits s
  | .burstNakReceive sled tag seq attempt => Sys2Proof.Machine.execBurstNakReceive sled tag seq attempt s
  | .echoReceive link t => Sys2Proof.Machine.execEchoReceive link t s
  | .linkTimeSync => Sys2Proof.Machine.execLinkTimeSync s
  | .quiescedReceive slot => Sys2Proof.Machine.execQuiescedReceive slot s
  | .quiesceTimeout slot => Sys2Proof.Machine.execQuiesceTimeout slot s
  | .linkResetReceive link => Sys2Proof.Machine.execLinkResetReceive link s
  | .linkReset link cause => Sys2Proof.Machine.execLinkReset link cause s
  | .dieStatusPoll sled pos => Sys2Proof.Machine.execDieStatusPoll sled pos s
  | .managementTimeout link op xid => Sys2Proof.Machine.execManagementTimeout link op xid s
  | .capResponse link xid cap => Sys2Proof.Machine.execCapResponse link xid cap s
  | .adoptResponse slot xid status => Sys2Proof.Machine.execAdoptResponse slot xid status s
  | .authResponse link xid status mac nonce => Sys2Proof.Machine.execAuthResponse link xid status mac nonce s
  | .geomResponse slot xid status geom bad => Sys2Proof.Machine.execGeomResponse slot xid status geom bad s
  | .vtableResponse slot xid status vectors => Sys2Proof.Machine.execVtableResponse slot xid status vectors s
  | .releaseResponse slot xid status => Sys2Proof.Machine.execReleaseResponse slot xid status s
  | .fenceResponse slot xid status token leaseAge heldHere => Sys2Proof.Machine.execFenceResponse slot xid status token leaseAge heldHere s
  | .portRetrain slot w => Sys2Proof.Machine.execPortRetrain slot w s
  | .portQuiesce slot master => Sys2Proof.Machine.execPortQuiesce slot master s
  | .portRestore slot master => Sys2Proof.Machine.execPortRestore slot master s
  | .portEnableWrite slot master en => Sys2Proof.Machine.execPortEnableWrite slot master en s
  | .sledReleaseWrite slot master => Sys2Proof.Machine.execSledReleaseWrite slot master s
  | .slotAttnSample slot low => Sys2Proof.Machine.execSlotAttnSample slot low s
  | .slotoffReceive lane xid slot => Sys2Proof.Machine.execSlotoffReceive lane xid slot s
  | .programSettleTimeout slot => Sys2Proof.Machine.execProgramSettleTimeout slot s
  | .slowWindowTick => Sys2Proof.Machine.execSlowWindowTick s
  | .replaceStart slot master => Sys2Proof.Machine.execReplaceStart slot master s
  | .replaceWaitExpiry => Sys2Proof.Machine.execReplaceWaitExpiry s
  | .rebuildRow => Sys2Proof.Machine.execRebuildRow s
  | .heartbeatSend => Sys2Proof.Machine.execHeartbeatSend s
  | .heartbeatReceive lane mode pair role hold count => Sys2Proof.Machine.execHeartbeatReceive lane mode pair role hold count s
  | .heartbeatTimeout => Sys2Proof.Machine.execHeartbeatTimeout s
  | .holdoffReceive lane ms => Sys2Proof.Machine.execHoldoffReceive lane ms s
  | .peerTimeReceive lane t => Sys2Proof.Machine.execPeerTimeReceive lane t s
  | .peerTimeSync => Sys2Proof.Machine.execPeerTimeSync s
  | .mirrorReceive lane psn area off blocks zgen data => Sys2Proof.Machine.execMirrorReceive lane psn area off blocks zgen data s
  | .rowevtReceive lane psn area event unit rs zgen zone nsid => Sys2Proof.Machine.execRowevtReceive lane psn area event unit rs zgen zone nsid s
  | .journalReceive lane psn recs tables => Sys2Proof.Machine.execJournalReceive lane psn recs tables s
  | .peerAckReceive lane psn => Sys2Proof.Machine.execPeerAckReceive lane psn s
  | .psnResend psn => Sys2Proof.Machine.execPsnResend psn s
  | .leaseRenew => Sys2Proof.Machine.execLeaseRenew s
  | .takeoverLeaseCheck => Sys2Proof.Machine.execTakeoverLeaseCheck s
  | .forceTakeover master => Sys2Proof.Machine.execForceTakeover master s
  | .handoverStart membersUp master => Sys2Proof.Machine.execHandoverStart membersUp master s
  | .handoverSend => Sys2Proof.Machine.execHandoverSend s
  | .handoverReceive lane xid => Sys2Proof.Machine.execHandoverReceive lane xid s
  | .pairReceive lane xid pairId giver wrappedKey => Sys2Proof.Machine.execPairReceive lane xid pairId giver wrappedKey s
  | .keysReceive lane psn full gone ks => Sys2Proof.Machine.execKeysReceive lane psn full gone ks s
  | .pairGive master => Sys2Proof.Machine.execPairGive master s
  | .pairTake master => Sys2Proof.Machine.execPairTake master s
  | .unpair master => Sys2Proof.Machine.execUnpair master s
  | .pairCodeExpiry => Sys2Proof.Machine.execPairCodeExpiry s
  | .pfailAccept => Sys2Proof.Machine.execPfailAccept s
  | .vaultSnapshotDone => Sys2Proof.Machine.execVaultSnapshotDone s
  | .pfailNRise => Sys2Proof.Machine.execPfailNRise s
  | .haltRelease => Sys2Proof.Machine.execHaltRelease s
  | .holdupOkChange high => Sys2Proof.Machine.execHoldupOkChange high s
  | .journalPageWrite failed => Sys2Proof.Machine.execJournalPageWrite failed s
  | .checkpointStart byWrite => Sys2Proof.Machine.execCheckpointStart byWrite s
  | .checkpointEnd => Sys2Proof.Machine.execCheckpointEnd s
  | .jseqLoRead master => Sys2Proof.Machine.execJseqLoRead master s
  | .loadPeakRead master => Sys2Proof.Machine.execLoadPeakRead master s
  | .sliceCreate sl master => Sys2Proof.Machine.execSliceCreate sl master s
  | .sliceReset sl master => Sys2Proof.Machine.execSliceReset sl master s
  | .sliceRemove sl master => Sys2Proof.Machine.execSliceRemove sl master s
  | .sliceResize sl master => Sys2Proof.Machine.execSliceResize sl master s
  | .sliceDrainComplete sl => Sys2Proof.Machine.execSliceDrainComplete sl s
  | .resizeShrinkComplete sl => Sys2Proof.Machine.execResizeShrinkComplete sl s
  | .sqBindWrite port fn q index => Sys2Proof.Machine.execSqBindWrite port fn q index s
  | .tokenRefill => Sys2Proof.Machine.execTokenRefill s
  | .negonHello port fn mbox pasid words => Sys2Proof.Machine.execNegonHello port fn mbox pasid words s
  | .negonInfo port fn mbox pasid words => Sys2Proof.Machine.execNegonInfo port fn mbox pasid words s
  | .negonUser port fn mbox pasid words => Sys2Proof.Machine.execNegonUser port fn mbox pasid words s
  | .negonResize port fn mbox pasid words => Sys2Proof.Machine.execNegonResize port fn mbox pasid words s
  | .negonStats port fn mbox pasid words => Sys2Proof.Machine.execNegonStats port fn mbox pasid words s
  | .mailboxDownAck port fn mbox pasid => Sys2Proof.Machine.execMailboxDownAck port fn mbox pasid s
  | .mailboxUpAck sl master => Sys2Proof.Machine.execMailboxUpAck sl master s
  | .mailboxPost sl master => Sys2Proof.Machine.execMailboxPost sl master s
  | .mailboxDownDeliver sl => Sys2Proof.Machine.execMailboxDownDeliver sl s
  | .dramRequest reader addr len data mergeBad use => Sys2Proof.Machine.execDramRequest reader addr len data mergeBad use s
  | .dramBurstRead ch sub errs => Sys2Proof.Machine.execDramBurstRead ch sub errs s
  | .refreshDue ch banks => Sys2Proof.Machine.execRefreshDue ch banks s
  | .mr4Poll ch rs => Sys2Proof.Machine.execMr4Poll ch rs s
  | .dqsOscMeasure ch sub drift ns => Sys2Proof.Machine.execDqsOscMeasure ch sub drift ns s
  | .retrainStep ch sub step ns failed => Sys2Proof.Machine.execRetrainStep ch sub step ns failed s
  | .pageCloseTimeout ch dramBank => Sys2Proof.Machine.execPageCloseTimeout ch dramBank s
  | .patrolScrub ch errs => Sys2Proof.Machine.execPatrolScrub ch errs s
  | .rankRetirement ch => Sys2Proof.Machine.execRankRetirement ch s
  | .rankRetireWrite ch v master => Sys2Proof.Machine.execRankRetireWrite ch v master s
  | .rankCopyStart ch => Sys2Proof.Machine.execRankCopyStart ch s
  | .rankCopyDone ch bad => Sys2Proof.Machine.execRankCopyDone ch bad s
  | .dramErrInfoRead ch master => Sys2Proof.Machine.execDramErrInfoRead ch master s
  | .latMaxRead ch master => Sys2Proof.Machine.execLatMaxRead ch master s
  | .pauseMaxRead ch master => Sys2Proof.Machine.execPauseMaxRead ch master s
  | .slotGenerate master => Sys2Proof.Machine.execSlotGenerate master s
  | .slotLoad master => Sys2Proof.Machine.execSlotLoad master s
  | .slotExport master => Sys2Proof.Machine.execSlotExport master s
  | .slotZero master => Sys2Proof.Machine.execSlotZero master s
  | .slotDrainComplete keySlot => Sys2Proof.Machine.execSlotDrainComplete keySlot s
  | .sealKey master => Sys2Proof.Machine.execSealKey master s
  | .unsealKey master => Sys2Proof.Machine.execUnsealKey master s
  | .random master => Sys2Proof.Machine.execRandom master s
  | .drbgReseed passes => Sys2Proof.Machine.execDrbgReseed passes s
  | .drbgHealthFail test failures => Sys2Proof.Machine.execDrbgHealthFail test failures s
  | .dgstJobSubmit addr master => Sys2Proof.Machine.execDgstJobSubmit addr master s
  | .dgstJobSelect => Sys2Proof.Machine.execDgstJobSelect s
  | .dgstPreempt blocks => Sys2Proof.Machine.execDgstPreempt blocks s
  | .dgstJobEnd => Sys2Proof.Machine.execDgstJobEnd s
  | .dgstJobCancel num master => Sys2Proof.Machine.execDgstJobCancel num master s
  | .standaloneCompare len master => Sys2Proof.Machine.execStandaloneCompare len master s
  | .ctxKeyRenew master => Sys2Proof.Machine.execCtxKeyRenew master s
  | .norProgram bank master => Sys2Proof.Machine.execNorProgram bank master s
  | .norErase bank master => Sys2Proof.Machine.execNorErase bank master s
  | .norOpComplete bank e => Sys2Proof.Machine.execNorOpComplete bank e s
  | .bankFault addr master => Sys2Proof.Machine.execBankFault addr master s
  | .busyFaultAddrRead master => Sys2Proof.Machine.execBusyFaultAddrRead master s
  | .otpProgram master dieError => Sys2Proof.Machine.execOtpProgram master dieError s
  | .keyRevoke k master => Sys2Proof.Machine.execKeyRevoke k master s
  | .rollbackCommit force master => Sys2Proof.Machine.execRollbackCommit force master s
  | .configRecordFlush => Sys2Proof.Machine.execConfigRecordFlush s
  | .configCompaction => Sys2Proof.Machine.execConfigCompaction s
  | .idleTimerExpiry => Sys2Proof.Machine.execIdleTimerExpiry s
  | .prepareStepAnswer => Sys2Proof.Machine.execPrepareStepAnswer s
  | .prepareStepTimeout => Sys2Proof.Machine.execPrepareStepTimeout s
  | .voteWithdraw step => Sys2Proof.Machine.execVoteWithdraw step s
  | .dormantCommit => Sys2Proof.Machine.execDormantCommit s
  | .dormantWake => Sys2Proof.Machine.execDormantWake s
  | .wakeComplete => Sys2Proof.Machine.execWakeComplete s
  | .powrWakeWrite v master => Sys2Proof.Machine.execPowrWakeWrite v master s
  | .smbusAddressMatch addr => Sys2Proof.Machine.execSmbusAddressMatch addr s
  | .padHoldRelease group => Sys2Proof.Machine.execPadHoldRelease group s
  | .padHoldTimeout group => Sys2Proof.Machine.execPadHoldTimeout group s
  | .railSample mvs => Sys2Proof.Machine.execRailSample mvs s
  | .referenceLoss input => Sys2Proof.Machine.execReferenceLoss input s
  | .pllLockLoss pll => Sys2Proof.Machine.execPllLockLoss pll s
  | .aonCalibration ppm => Sys2Proof.Machine.execAonCalibration ppm s
  | .hourTick => Sys2Proof.Machine.execHourTick s
  | .smbusPacketReceive src pecOk eid replies => Sys2Proof.Machine.execSmbusPacketReceive src pecOk eid replies s
  | .smbusTimeout => Sys2Proof.Machine.execSmbusTimeout s
  | .alertAck v master => Sys2Proof.Machine.execAlertAck v master s
  | .sensorResult counts => Sys2Proof.Machine.execSensorResult counts s
  | .dormantSensorResult c22 c23 => Sys2Proof.Machine.execDormantSensorResult c22 c23 s
  | .ladderStepLeave => Sys2Proof.Machine.execLadderStepLeave s
  | .stopResume => Sys2Proof.Machine.execStopResume s
  | .sledSensorPoll => Sys2Proof.Machine.execSledSensorPoll s
  | .sensorResponse slot xid status b0 b1 b2 => Sys2Proof.Machine.execSensorResponse slot xid status b0 b1 b2 s
  | .fanUpdate rpms => Sys2Proof.Machine.execFanUpdate rpms s
  | .fanFailure fan rpm => Sys2Proof.Machine.execFanFailure fan rpm s
  | .brokenClrWrite v master => Sys2Proof.Machine.execBrokenClrWrite v master s
  | .eventOffer page num params kind stamp => Sys2Proof.Machine.execEventOffer page num params kind stamp s
  | .ringFreeze v master => Sys2Proof.Machine.execRingFreeze v master s
  | .freezeTimeout => Sys2Proof.Machine.execFreezeTimeout s
  | .logPageWrite failed => Sys2Proof.Machine.execLogPageWrite failed s
  | .recordsLostReport => Sys2Proof.Machine.execRecordsLostReport s
  | .auditStrobe => Sys2Proof.Machine.execAuditStrobe s
  | .auditNow en master => Sys2Proof.Machine.execAuditNow en master s
  | .auditPassEnd us poisoned => Sys2Proof.Machine.execAuditPassEnd us poisoned s
  | .ledgerAuditDisable v master => Sys2Proof.Machine.execLedgerAuditDisable v master s
  | .violLedgerRead master => Sys2Proof.Machine.execViolLedgerRead master s
  | .violTimeLoRead master => Sys2Proof.Machine.execViolTimeLoRead master s
  | .peerEnableWrite en master => Sys2Proof.Machine.execPeerEnableWrite en master s
  | .referenceAppears input trains => Sys2Proof.Machine.execReferenceAppears input trains s
  | .slotoffResponse lane xid status => Sys2Proof.Machine.execSlotoffResponse lane xid status s
  | .quiescedWaitExpiry slot => Sys2Proof.Machine.execQuiescedWaitExpiry slot s
  | .pairResponse lane xid status => Sys2Proof.Machine.execPairResponse lane xid status s
  | .peerProbeReceive lane t => Sys2Proof.Machine.execPeerProbeReceive lane t s
  | .configurationWrite port op => Sys2Proof.Machine.execConfigurationWrite port op s
  | .interruptCoalescingTimeout port fn q => Sys2Proof.Machine.execInterruptCoalescingTimeout port fn q s
  | .atsInvalidateRequest port fn pasid pages => Sys2Proof.Machine.execAtsInvalidateRequest port fn pasid pages s

end Sys2Proof.Machine
end

