-- ==== Sys2Proof/Safety.lean ====
section
/-! DEFINITION. What counts as a state the part can be in, and what it is for a command to complete, in the terms that statements use. -/

namespace Sys2Proof.Machine

/-- The canonical form of what is kept sparsely (log entry 4): addresses rise, and nothing is listed that an unlisted place reads as; the vault's
image holds memory in the same form. -/
def Dev.canonical (d : Dev) : Prop :=
  Memory.wf d.mem = true ∧ SMap.wf norDefault d.nor = true ∧ SMap.wf otpDefault d.otp = true
    ∧ ∀ im, d.valt.image = some im → Memory.wf im.mem = true

/-- The part as a command finds it: nothing sent out yet. -/
def State.clean (s : State) : Dev := { s.dev with out := [] }

/-- Every command that waits names only what the part has. -/
def State.queueWf (s : State) : Prop := s.pending.all Instr.wf = true

/-- Command `c` completes in `s`: `exec` answers a next state, in which the commands that wait are the same and the part is as `P` says. -/
def Completes (c : Instr) (s : State) (P : Dev → Prop) : Prop :=
  ∃ t, exec c s = .next t ∧ t.pending = s.pending ∧ P t.dev

/-- What `d` becomes where nothing but the recording of events (R43, R45, R512 to R515) makes it `e`: flags, counters and other registers, the
recorder, the events held for it, SIDE_ALERT_N, and the asynchronous events of HOST (R308).  Everything else is as in `d`. -/
def Dev.recorded (d e : Dev) : Dev :=
  { d with regs := e.regs, evnt := e.evnt, fsto := { d.fsto with held := e.fsto.held }, side := { d.side with alert := e.side.alert }, host := e.host }

/-- `e` differs from `d` only in what recording events may change. -/
def Dev.RecordsOnly (d e : Dev) : Prop := e = d.recorded e

/-- A write to a register is taken: its page serves accesses (R15, R46), and is unlocked where the register is of the expert level (R35). -/
def Dev.takesWrite (d : Dev) (page off : Nat) : Prop :=
  d.pageError page = none ∧ (0x800 ≤ off → (d.hdr page).unlocked = true)

/-- A read of a page is served (R15, R46). -/
def Dev.takesRead (d : Dev) (page : Nat) : Prop := d.pageError page = none

/-- A vault pass precedes a warm reset of this cause (R486): recovery has ended and this controller owns sleds. -/
def Dev.passBefore (d : Dev) (cause : Nat) : Prop :=
  passFirst cause = true ∧ d.host.recovered = true ∧ d.active = true ∧ d.sysc.base.isSome = true

/-- Every sled of the vault's set has a block on a die in use for each row that an image taken now has (R276, R277). -/
def Dev.poolReady (d : Dev) : Prop :=
  ∀ n k, n ∈ d.vaultBudget.1 → k < ceilDiv (1025 + d.vaultExtents.length) (d.vaultBudget.1.length - 2) →
    ∃ b wl, d.vaultPlace n k = some (b, wl) ∧ d.diePresent (b / 2048) = true ∧ (d.die (b / 2048)).retired = false

/-- The row of a held command is due: its context executes the command and its own row has not run. -/
def Dev.due (d : Dev) (c : Nat) (x : Ctx) : Prop := d.ctx c = some x ∧ x.st = .executing ∧ x.begun = false

/-- The row of a command for ZONE is due: every command for ZONE that was fetched before it from its submission queue has been handed over
(R63). -/
def Dev.dueZone (d : Dev) (c : Nat) (x : Ctx) : Prop :=
  d.due c x ∧ ∀ e, e ∈ d.host.ctxs → ctxPort e.1 = ctxPort c → e.2.fn = x.fn → e.2.sq = x.sq → e.2.st = .executing → e.2.begun = false →
    e.2.e.cmd.forZone = true → x.order ≤ e.2.order

/-- The namespace a command names, and a zone of it. -/
def Dev.nsFor (d : Dev) (x : Ctx) : Ns := (d.ns x.e.nsid).getD Ns.absent
def Dev.zoneFor (d : Dev) (x : Ctx) (lba : Nat) : Nat := zoneKey x.e.nsid ((d.nsFor x).zoneOf lba)

/-- A command waits at the end of a zone's list. -/
def Dev.enqueued (d : Dev) (z : Nat) (c : ZCmd) : Dev := d.setZn z (fun v => { v with cmds := v.cmds ++ [c] })

/-- An access of a VF to index `i` of its window of slices is taken (R342, R355, R356): tenancy is active, the slice exists, and a strict slice is
named by its PASID. -/
def Dev.vfTakes (d : Dev) (port fn i : Nat) (pasid : Option Nat) : Prop :=
  d.ten.active = true ∧ fn ≠ 0 ∧ (d.fn port fn).present = true ∧ i < 64 ∧ (d.slice (d.sliceOfVf port fn i)).exists_ = true
    ∧ (d.slice (d.sliceOfVf port fn i)).refuses pasid = false

/-- A refused DORMANT entry (R468): the refuser, its reason and the step are latched, the blocks stopped run again, the refusal is counted with event
0x0201, and the back-off exponent rises to at most 6, or returns to 0 where the level is above IDLE (R466). -/
def Dev.entryRefused (d e : Dev) (block reason step : Nat) : Prop :=
  e.powr.refBlock = block ∧ e.powr.refReason = reason ∧ e.powr.refStep = step ∧ e.powr.step = 0 ∧ e.powr.stopped = [] ∧ e.powr.entry ≠ .prepare
    ∧ e.host.stopped = false ∧ e.cell pPOWR 0x120 = d.cell pPOWR 0x120 + 1 ∧ bitOf (e.hdr pPOWR).evtStat 0 = true
    ∧ e.powr.backoff = (if d.level ≤ 2 then 0 else min 6 (d.powr.backoff + 1))

/-- No context is listed twice (R313). -/
def Dev.ctxsOnce (d : Dev) : Prop := (d.host.ctxs.map Prod.fst).Nodup

/-- No zone and no sub-request names a context, as none does that holds an admin command. -/
def Dev.unshared (d : Dev) (c : Nat) : Prop :=
  (∀ e, e ∈ d.zone.zones → ∀ k, k ∈ e.2.cmds → k.ctx ≠ c) ∧ ∀ e, e ∈ d.sched.subs → e.2.ctx ≠ some c

end Sys2Proof.Machine
end

