-- ==== Sys2Proof/Certificates/Slice0/Obligations.lean ====
section
/-! DEFINITION. What is claimed of the machine: one proposition for each entry of OBLIGATIONS.json.  A completion clause says that a command
answers a next state that holds what the rule gives, for every state and operands that meet the clause's own conditions. -/

open Sys2Proof
open Sys2Proof.Machine

/-! ## The fabric, the register pages and the epochs (R15, R30 to R51) -/

/-- R15 with the capture of R47: what FABRIC_ACCESS_ERROR does, whatever the address that no region and no block answers. -/
def Obligations.FabricAccessErrorIsAnswered : Prop :=
  (∀ (s : State) (addr c : Nat) (write : Bool) (master : Nat), master < 45 → s.dev.unmapped (addr % 2 ^ 40) = some c →
    Completes (.fabricAccessError addr write master) s (fun d =>
      d.sysc.fabErr = (if s.dev.sysc.fabErr.armed
        then { addr := addr % 2 ^ 40, write := write, cause := c, master := master, count := s.dev.sysc.fabErr.count + 1, armed := false }
        else { s.dev.sysc.fabErr with count := s.dev.sysc.fabErr.count + 1 })
      ∧ (d.hdr pSYSC).evtStat = setBit (s.dev.hdr pSYSC).evtStat 0
      ∧ (d.hdr pSYSC).evtCount = (s.dev.hdr pSYSC).evtCount + 1
      ∧ d.out = (if write then [] else [.word 0xFFFFFFFF (master != 33)])
      ∧ Dev.RecordsOnly { s.clean with sysc := { s.dev.sysc with fabErr := d.sysc.fabErr }, out := d.out } d
      ∧ (s.dev.evntUp = true → bitOf (s.dev.hdr pSYSC).evtEn 0 = true → s.dev.recs.length < 256 → ∃ r, d.recs = s.dev.recs ++ [r] ∧ r.code = 1)))
  ∧ (∀ (s : State) (page off master : Nat) (write : Bool), page < 512 → off < 0x10000 → master < 45 → pageExists page = true →
      (s.dev.hdr page).pwr ≠ 0 → (write = true ∨ 0x10 ≤ off) →
      Completes (.unservedPageAccess page off write master) s (fun d =>
        d.sysc.fabErr.count = s.dev.sysc.fabErr.count + 1 ∧ (s.dev.sysc.fabErr.armed = true → d.sysc.fabErr.addr = 0x1000000000 + page * 0x10000 + off)
        ∧ bitOf (d.hdr pSYSC).evtStat 0 = true ∧ d.out = (if write then [] else [.word 0xFFFFFFFF (master != 33)])))

/-- R46: what UNSERVED_PAGE_ACCESS does on a page that is off, clock-stopped or waking. -/
def Obligations.UnservedPageAnswersOnlyItsHeader : Prop :=
  (∀ (s : State) (page off master : Nat), page < 512 → off < 0x10 → master < 45 → pageExists page = true → (s.dev.hdr page).pwr ≠ 0 →
    Completes (.unservedPageAccess page off false master) s (fun d => d = { s.clean with out := [.word (s.dev.headerWord page off) false] }))
  ∧ (∀ (s : State) (page off master : Nat) (write : Bool), page < 512 → off < 0x10000 → master < 45 → pageExists page = true →
      (s.dev.hdr page).pwr ≠ 0 → (write = true ∨ 0x10 ≤ off) →
      Completes (.unservedPageAccess page off write master) s (fun d =>
        d.sysc.fabErr.count = s.dev.sysc.fabErr.count + 1
        ∧ (s.dev.sysc.fabErr.armed = true →
            d.sysc.fabErr.addr = 0x1000000000 + page * 0x10000 + off ∧ d.sysc.fabErr.write = write ∧ d.sysc.fabErr.master = master
            ∧ d.sysc.fabErr.cause = (if (s.dev.hdr page).pwr = 1 then 3 else if (s.dev.hdr page).pwr = 2 then 2 else (s.dev.hdr page).wakingFrom))
        ∧ bitOf (d.hdr pSYSC).evtStat 0 = true ∧ (s.dev.evntUp = true → bitOf (s.dev.hdr pSYSC).evtEn 0 = true → s.dev.recs.length < 256 → ∃ r, d.recs = s.dev.recs ++ [r] ∧ r.code = 1)
        ∧ d.out = (if write then [] else [.word 0xFFFFFFFF (master != 33)])
        ∧ (d.hdr page).pwr = (s.dev.hdr page).pwr
        ∧ Dev.RecordsOnly { s.clean with sysc := { s.dev.sysc with fabErr := d.sysc.fabErr }, out := d.out } d))

/-- R35: the writes that are dropped with DENIED, those dropped silently, and the plain store.
What is the model's own choice or reading here: log entry 36. -/
def Obligations.RegisterWriteFollowsItsAccessCode : Prop :=
  (∀ (s : State) (page off bytes master : Nat) (v hi : Word), page < 512 → off < 0x10000 → master < 45 → s.dev.pageError page = none → bytes < 4 →
    Completes (.registerWrite page off (hi ++ v) bytes master) s (fun d => d = s.clean.deny page))
  ∧ (∀ (s : State) (page off bytes master : Nat) (v hi : Word) (r : RegDesc), page < 512 → 0x100 ≤ off → off < 0x10000 → off % 4 = 0 → master < 45 →
      s.dev.pageError page = none → 4 ≤ bytes → bytes ≠ 8 → regDesc page off = some r → r.writable = true →
      ((0x800 ≤ off ∧ (s.dev.hdr page).unlocked = false) ∨ r.staged = true) →
      Completes (.registerWrite page off (hi ++ v) bytes master) s (fun d => d = s.clean.deny page))
  ∧ (∀ (s : State) (page off live bytes master : Nat) (v hi : Word) (r : RegDesc), page < 512 → 0x800 ≤ off → off < 0x10000 → off % 4 = 0 → master < 45 →
      s.dev.pageError page = none → 4 ≤ bytes → bytes ≠ 8 → regDesc page off = none → liveOff off = some live → regDesc page live = some r → r.staged = true →
      (s.dev.hdr page).unlocked = false →
      Completes (.registerWrite page off (hi ++ v) bytes master) s (fun d => d = s.clean.deny page))
  ∧ (∀ (s : State) (page off bytes master : Nat) (v hi : Word) (r : RegDesc), page < 512 → 0x100 ≤ off → off < 0x10000 → off % 4 = 0 → master < 45 →
      s.dev.pageError page = none → 4 ≤ bytes → bytes ≠ 8 → regDesc page off = some r → r.writable = false →
      Completes (.registerWrite page off (hi ++ v) bytes master) s (fun d => d = s.clean))
  ∧ (∀ (s : State) (page off bytes master : Nat) (v hi : Word) (r : RegDesc), page < 256 → 0x100 ≤ off → off < 0x10000 → off % 4 = 0 → master < 45 →
      s.dev.pageError page = none → 4 ≤ bytes → bytes ≠ 8 → regDesc page off = some r → r.writable = true → r.staged = false →
      (0x800 ≤ off → (s.dev.hdr page).unlocked = true) → fitsA page off v = true → s.dev.fitsB page off v = true →
      ¬ (page = pCRYP ∧ 0x800 ≤ off ∧ off < 0x830) → ¬ (48 ≤ page ∧ page ≤ 63 ∧ off = 0x108) → ¬ (page = pLEDG ∧ off = 0x100) →
      Completes (.registerWrite page off (hi ++ v) bytes master) s (fun d =>
        d = (s.clean.setCellI page off (if r.sel = 0 then 0 else (s.dev.cell page r.sel).toNat)
          (mixed (s.dev.cellI page off (if r.sel = 0 then 0 else (s.dev.cell page r.sel).toNat)) v (u32 r.wmask &&& ~~~ (ownBits page off)))).afterWrite page off))
  ∧ (∀ (s : State) (page off master : Nat) (v hi : Word), page < 512 → off < 0x10000 → off % 8 = 0 → master < 45 →
      Completes (.registerWrite page off (hi ++ v) 8 master) s (fun d =>
        ∃ t, Completes (.registerWrite page off (0#32 ++ v) 4 master) s (fun e => e = t) ∧ d = t.registerWrite page (off + 4) hi 0 4 master))

/-- R38: a write to a shadow, and that the live registers stay. The live copy's own drop is in `RegisterWriteFollowsItsAccessCode`; here it is
stated again for a register of the basic level. -/
def Obligations.ShadowWriteLeavesLiveCopies : Prop :=
  (∀ (s : State) (page off live bytes master : Nat) (v hi : Word) (r : RegDesc), page < 512 → 0x100 ≤ off → off < 0x10000 → off % 4 = 0 → master < 45 →
    s.dev.pageError page = none → 4 ≤ bytes → bytes ≠ 8 → regDesc page off = none → liveOff off = some live → regDesc page live = some r → r.staged = true →
    (0x800 ≤ off → (s.dev.hdr page).unlocked = true) → s.dev.fitsB page live v = true →
    Completes (.registerWrite page off (hi ++ v) bytes master) s (fun d =>
      d.shadowI page live (if r.sel = 0 then 0 else (s.dev.cell page r.sel).toNat)
          = mixed (s.dev.shadowI page live (if r.sel = 0 then 0 else (s.dev.cell page r.sel).toNat)) v (u32 r.wmask)
      ∧ (∀ p o i, d.cellI p o i = s.dev.cellI p o i)
      ∧ d = { s.clean with regs := { s.dev.regs with shadow := d.regs.shadow } }))
  ∧ (∀ (s : State) (page off bytes master : Nat) (v hi : Word) (r : RegDesc), page < 512 → 0x100 ≤ off → off < 0x800 → off % 4 = 0 → master < 45 →
    s.dev.pageError page = none → 4 ≤ bytes → bytes ≠ 8 → regDesc page off = some r → r.staged = true → r.writable = true →
    Completes (.registerWrite page off (hi ++ v) bytes master) s (fun d => bitOf (d.hdr page).evtStat 31 = true ∧ d.regs.cells = s.dev.regs.cells ∧ d.regs.shadow = s.dev.regs.shadow))

/-- R33. -/
def Obligations.ExpertKeyUnlocksOnlyWithTheKeyWord : Prop :=
  (∀ (s : State) (page master : Nat), page < 512 → master < 45 → s.dev.pageError page = none →
    Completes (.expertKeyWrite page 0x45585054 master) s (fun d => d = s.clean.setHdr page (fun h => { h with unlocked := true })))
  ∧ (∀ (s : State) (page master : Nat) (v : Word), page < 512 → master < 45 → s.dev.pageError page = none → v ≠ 0x45585054 →
    Completes (.expertKeyWrite page v master) s (fun d =>
      (d.hdr page).unlocked = false ∧ bitOf (d.hdr page).evtStat 31 = true ∧ bitOf (d.hdr pSYSC).evtStat 1 = true
      ∧ (d.hdr page).evtCount = (s.dev.hdr page).evtCount + (if page = pSYSC then 2 else 1) ∧ Dev.RecordsOnly s.clean d
      ∧ (s.dev.evntUp = true → bitOf (s.dev.hdr pSYSC).evtEn 1 = true → s.dev.recs.length < 256 → ∃ r, d.recs = s.dev.recs ++ [r] ∧ r.code = 2)))
  ∧ (∀ (d : Dev) (cause page : Nat) (v : Bool), (d.coldReset.hdr page).unlocked = false ∧ ((d.resetNow cause v).hdr page).unlocked = false)

/-- R43 to R45: EVT_FORCE and the clearing of EVT_STAT.  What is the model's own choice or reading here: log entries 37 and 66. -/
def Obligations.FlagsAreForcedAndCleared : Prop :=
  (∀ (s : State) (page master : Nat) (v : Word), page < 512 → master < 45 → s.dev.pageError page = none →
    Completes (.evtForceWrite page v master) s (fun d =>
      (∀ i, i < 32 → bitOf (d.hdr page).evtStat i
        = (bitOf (s.dev.hdr page).evtStat i || (bitOf v i && ((numOfFlag page i).isSome || plainFlag page i))))
      ∧ (d.hdr page).evtCount = (s.dev.hdr page).evtCount
          + u32 (((List.range 32).filter (fun i => bitOf v i && ((numOfFlag page i).isSome || plainFlag page i))).length)
      ∧ Dev.RecordsOnly s.clean d))
  ∧ (∀ (s : State) (page master : Nat) (v same : Word), page < 512 → master < 45 → s.dev.pageError page = none →
    Completes (.evtStatClear page v same master) s (fun d =>
      d = s.clean.setHdr page (fun h => { h with evtStat := h.evtStat &&& ~~~ (v &&& ~~~ same), irq := h.irq &&& ~~~ (v &&& ~~~ same) })))

/-- R47, R49, R50.  What is the model's own choice or reading here: log entry 84. -/
def Obligations.SyscReadsLatchAndTimeLoads : Prop :=
  (∀ (s : State) (master : Nat), master < 45 → s.dev.takesRead pSYSC →
    Completes (.fabErrCountRead master) s (fun d =>
      d = { s.clean with sysc := { s.dev.sysc with fabErr := { s.dev.sysc.fabErr with count := 0, armed := true } },
                         out := [.word (u32 s.dev.sysc.fabErr.count) false] }))
  ∧ (∀ (s : State) (master : Nat), master < 45 → s.dev.takesRead pSYSC →
    Completes (.timeLoRead master) s (fun d =>
      d.out = [.word (u32 s.dev.sysc.time) false]
      ∧ (∀ m, d.sysc.hiLatch.get 0 m = if master = m then s.dev.sysc.time / 2 ^ 32 % 2 ^ 32 else s.dev.sysc.hiLatch.get 0 m)
      ∧ d = { s.clean with sysc := { s.dev.sysc with hiLatch := d.sysc.hiLatch }, out := d.out }))
  ∧ (∀ (s : State) (master : Nat), master < 45 → (s.dev.hdr pSYSC).pwr = 0 →
    Completes (.unservedPageAccess pSYSC 0x124 false master) s (fun d =>
      d = { s.clean with out := [.word (u32 (s.dev.sysc.hiLatch.get 0 master)) false] }))
  ∧ (∀ (s : State) (v : Word) (master : Nat), master < 45 → s.dev.takesWrite pSYSC 0x808 →
    Completes (.timeLoad v master) s (fun d =>
      d.cell pSYSC 0x808 = (v &&& 0xFFFF0000)
      ∧ d.sysc.time = (if bitOf v 0 then (s.dev.cell pSYSC 0x800).toNat + 2 ^ 32 * (s.dev.cell pSYSC 0x804).toNat else s.dev.sysc.time)
      ∧ (bitOf v 0 = true → d.sysc.timeFrac = 0)
      ∧ d = { s.clean with regs := d.regs, sysc := { s.dev.sysc with time := d.sysc.time, timeFrac := d.sysc.timeFrac } }
      ∧ d.regs = { s.dev.regs with cells := d.regs.cells }))

/-- R39 to R41: the outcomes of a COMMIT write, and a unit that has drained. -/
def Obligations.EpochCommitAdvancesOrIsRefused : Prop :=
  (∀ (s : State) (master : Nat), master < 45 → s.dev.takesWrite pSYSC 0x118 → s.dev.powr.entry ≠ .prepare →
    (s.dev.epochBusy = true ∨ s.dev.sysc.cur = .recovery) →
    Completes (.epochCommit master) s (fun d =>
      d.sysc = { s.dev.sysc with epochResult := if s.dev.epochBusy then 1 else 7 }
      ∧ bitOf (d.hdr pSYSC).evtStat 2 = true
      ∧ Dev.RecordsOnly { s.clean with sysc := d.sysc } d))
  ∧ (∀ (s : State) (master : Nat), master < 45 → s.dev.takesWrite pSYSC 0x118 → s.dev.epochBusy = false → s.dev.sysc.cur ≠ .recovery →
    Completes (.epochCommit master) s (fun d =>
      d.sysc.epoch = s.dev.sysc.epoch + 1 ∧ d.sysc.epochResult = 0 ∧ d.sysc.cur = s.dev.sysc.cur
      ∧ d.mem = s.dev.mem ∧ d.otp = s.dev.otp))
  ∧ (∀ (s : State) (page : Nat), page < 512 → pageExists page = true → s.dev.stampedWork page = false →
      (s.dev.hdr page).epochApplied ≠ s.dev.sysc.epoch →
    Completes (.epochApplyOnDrain page) s (fun d =>
      (d.hdr page).epochApplied = s.dev.sysc.epoch
      ∧ d.regs.snap = s.dev.regs.snap.keep (fun k _ => keyPage k != page)
      ∧ d = { s.clean with regs := d.regs }))

/-! ## Zones and placement (R52 to R91) -/

/-- R63: what WRITE, ZONE_APPEND and WRITE_ZEROES do.  The accept pointer is `Zone.accept`.
What is the model's own choice or reading here: log entry 26. -/
def Obligations.WritesAreCheckedAtTheAcceptPointer : Prop :=
  (∀ (s : State) (c slba nlb : Nat) (pr : PrInfo) (x : Ctx) (z : Nat), c < 131072 → s.dev.dueZone c x → x.e.cmd = .write slba nlb pr →
    z = s.dev.zoneFor x slba → (s.dev.zn z).actionWaits = false → s.dev.ringRoom = true → Completes (.write c) s (fun d =>
      ((s.dev.zn z).st = .full → d = (s.clean.begin_ c).commitCtx c 0x1B9 true 0)
      ∧ ((s.dev.zn z).st = .readOnly → d = (s.clean.begin_ c).commitCtx c 0x1BA true 0)
      ∧ ((s.dev.zn z).st = .offline → d = (s.clean.begin_ c).commitCtx c 0x1BB true 0)
      ∧ ((s.dev.zn z).st.writeRefusal = none → (s.dev.zns z).cond ≠ 3 → (s.dev.nsFor x).offOf slba ≠ (s.dev.zn z).accept →
          d = (s.clean.begin_ c).commitCtx c 0x1BC true 0)
      ∧ ((s.dev.zn z).st.writeRefusal = none → (s.dev.zns z).cond ≠ 3 → (s.dev.nsFor x).offOf slba = (s.dev.zn z).accept →
          (s.dev.zns z).zcap < (s.dev.zn z).accept + nlb → d = (s.clean.begin_ c).commitCtx c 0x1B8 true 0)
      ∧ ((s.dev.zn z).st.writeRefusal = none → (s.dev.zns z).cond ≠ 3 → (s.dev.nsFor x).offOf slba = (s.dev.zn z).accept →
          (s.dev.zn z).accept + nlb ≤ (s.dev.zns z).zcap →
          d.zn z = { s.dev.zn z with cmds := (s.dev.zn z).cmds ++ [.write c (s.dev.zn z).accept nlb 0 false false none],
                                     st := if (s.dev.zn z).st = .closed then .implicitlyOpened else (s.dev.zn z).st }
          ∧ ((s.dev.zn z).st ≠ .closed → d = (s.clean.begin_ c).enqueued z (.write c (s.dev.zn z).accept nlb 0 false false none)))))
  ∧ (∀ (s : State) (c slba nlb : Nat) (pr : PrInfo) (x : Ctx) (z : Nat), c < 131072 → s.dev.dueZone c x → x.e.cmd = .zoneAppend slba nlb pr →
      z = s.dev.zoneFor x slba → (s.dev.nsFor x).offOf slba = 0 → (s.dev.zn z).actionWaits = false → s.dev.ringRoom = true →
      (s.dev.zn z).st.writeRefusal = none → (s.dev.zns z).cond ≠ 3 → (s.dev.zn z).accept + nlb ≤ (s.dev.zns z).zcap →
      (s.dev.zn z).st ≠ .closed →
      Completes (.zoneAppend c) s (fun d => d = (s.clean.begin_ c).enqueued z (.write c (s.dev.zn z).accept nlb 0 true false none)))
  ∧ (∀ (s : State) (c slba nlb : Nat) (pr : PrInfo) (x : Ctx) (z : Nat), c < 131072 → s.dev.dueZone c x → x.e.cmd = .zoneAppend slba nlb pr →
      z = s.dev.zoneFor x slba → (s.dev.nsFor x).offOf slba = 0 → (s.dev.zn z).actionWaits = false → s.dev.ringRoom = true →
      (s.dev.zn z).st.writeRefusal = none → (s.dev.zns z).cond ≠ 3 → (s.dev.zns z).zcap < (s.dev.zn z).accept + nlb →
      Completes (.zoneAppend c) s (fun d => d = (s.clean.begin_ c).commitCtx c 0x1B8 true 0))
  ∧ (∀ (s : State) (c slba nlb : Nat) (pr : PrInfo) (x : Ctx) (z : Nat), c < 131072 → s.dev.dueZone c x → x.e.cmd = .writeZeroes slba nlb pr →
      z = s.dev.zoneFor x slba → (s.dev.nsFor x).offOf slba = (s.dev.zn z).accept → (s.dev.zn z).actionWaits = false → s.dev.ringRoom = true →
      (s.dev.zn z).st.writeRefusal = none → (s.dev.zns z).cond ≠ 3 → (s.dev.zn z).accept + nlb ≤ (s.dev.zns z).zcap →
      (s.dev.zn z).st ≠ .closed →
      Completes (.writeZeroes c) s (fun d =>
        d = ((s.clean.modCtx c (fun y => { y with data := (List.range nlb).flatMap ((s.dev.nsFor x).zeroBlock pr), dmaDone := true })).begin_ c).enqueued z
          (.write c (s.dev.zn z).accept nlb 0 false false none)))
  ∧ (∀ (s : State) (c k : Nat) (x y : Ctx), c < 131072 → s.dev.due c x → s.dev.ctx k = some y → ctxPort k = ctxPort c → y.fn = x.fn → y.sq = x.sq →
      y.st = .executing → y.begun = false → y.e.cmd.forZone = true → y.order < x.order →
      Completes (.write c) s (fun d => d = s.clean) ∧ Completes (.zoneAppend c) s (fun d => d = s.clean)
        ∧ Completes (.writeZeroes c) s (fun d => d = s.clean))

/-- R68 and R78: what the six rows of Zone Management Send do; the action takes effect in ZONE_ACTION_TAKE_EFFECT. -/
def Obligations.ZoneActionsWaitInTheirZone : Prop :=
  (∀ (s : State) (c slba : Nat) (a : ZAction) (ext : List Byte) (x : Ctx), c < 131072 → s.dev.dueZone c x → x.e.cmd = .zoneSend slba a false ext →
    (s.dev.nsFor x).offOf slba = 0 → (s.dev.nsFor x).zoneOf slba < (s.dev.nsFor x).zones → (a = .setExt → badRecord ext = false) →
    let P : Dev → Prop := fun d => d = (s.clean.begin_ c).enqueued (s.dev.zoneFor x slba) (.action c a)
    (a = .open_ → Completes (.zoneOpen c) s P) ∧ (a = .close → Completes (.zoneClose c) s P) ∧ (a = .finish → Completes (.zoneFinish c) s P)
    ∧ (a = .reset → Completes (.zoneReset c) s P) ∧ (a = .offline → Completes (.zoneOffline c) s P)
    ∧ (a = .setExt → Completes (.setZoneDescriptorExtension c) s P))
  ∧ (∀ (s : State) (c slba : Nat) (all : Bool) (ext : List Byte) (x : Ctx), c < 131072 → s.dev.dueZone c x → x.e.cmd = .zoneSend slba .setExt all ext →
    badRecord ext = true →
    Completes (.setZoneDescriptorExtension c) s (fun d => d = (s.clean.begin_ c).commitCtx c 0x002 true 0))

/-- R57 with R61 and R62.  What is the model's own choice or reading here: log entry 26. -/
def Obligations.ZoneActionsMoveZonesAsTheTableSays : Prop :=
  ∀ (s : State) (nsid zone c slba : Nat) (a : ZAction) (ext : List Byte) (rest : List ZCmd) (x : Ctx) (z : Nat), zone < 16777216 → z = zoneKey nsid zone →
    s.dev.ringRoom = true → s.dev.ctx c = some x → x.e.cmd = .zoneSend slba a false ext → (s.dev.zn z).cmds = .action c a :: rest →
    s.dev.actReady z a = true → Completes (.zoneActionTakeEffect nsid zone) s (fun d =>
      (∀ st', ((a = .open_ ∧ ((s.dev.zn z).st = .implicitlyOpened ∨ (s.dev.zn z).st = .closed) ∧ st' = .explicitlyOpened)
            ∨ (a = .close ∧ ((s.dev.zn z).st = .implicitlyOpened ∨ (s.dev.zn z).st = .explicitlyOpened) ∧ st' = .closed)) →
          d.zn z = { s.dev.zn z with st := st', zfc := false, cmds := rest }
          ∧ d.valt.ring = s.dev.valt.ring ++ [{ seq := s.dev.valt.nextSeq, at_ := s.dev.now, body := .zstate (zNs z) (zIdx z) (s.dev.zn z).gen st' false 0xFF }]
          ∧ d = ((s.clean.setZn z (fun v => { v with cmds := rest })).setZst z st' false 0xFF).done c)
      ∧ (((a = .open_ ∧ (s.dev.zn z).st = .explicitlyOpened) ∨ (a = .close ∧ (s.dev.zn z).st = .closed)
            ∨ (a = .finish ∧ (s.dev.zn z).st = .full) ∨ (a = .reset ∧ (s.dev.zn z).st = .empty)) →
          d = (s.clean.setZn z (fun v => { v with cmds := rest })).done c)
      ∧ (a = .reset → ((s.dev.zn z).st.active = true ∨ (s.dev.zn z).st = .full) →
          (d.zn z).st = .empty ∧ (d.zn z).gen = ((s.dev.zn z).gen + 1) % 65536 ∧ (d.zn z).wp = 0 ∧ (d.zn z).sptr = 0 ∧ (d.zn z).zdev = false
          ∧ (d.zn z).groups = [] ∧ (d.zn z).area = none ∧ (d.zn z).slice = none ∧ (d.zn z).cls = 0 ∧ (d.zn z).dieset = none)
      ∧ (((a = .close ∧ ((s.dev.zn z).st = .empty ∨ (s.dev.zn z).st = .full ∨ (s.dev.zn z).st = .readOnly))
            ∨ (a = .open_ ∧ ((s.dev.zn z).st = .full ∨ (s.dev.zn z).st = .readOnly))
            ∨ ((a = .finish ∨ a = .reset) ∧ (s.dev.zn z).st = .readOnly) ∨ (s.dev.zn z).st = .offline
            ∨ (a = .offline ∧ (s.dev.zn z).st ≠ .readOnly)) →
          d = (s.clean.setZn z (fun v => { v with cmds := rest })).commitCtx c 0x1BF true 0))

/-- R65. -/
def Obligations.CommitRecordAdvancesTheWritePointer : Prop :=
  (∀ (s : State) (nsid zone c start len staged : Nat) (append spilled : Bool) (psn : Option Nat) (rest : List ZCmd) (x : Ctx) (z : Nat),
    zone < 16777216 → z = zoneKey nsid zone → (s.dev.zn z).cmds = .write c start len staged append spilled psn :: rest → len ≤ staged →
    s.dev.acked psn = true → (s.dev.zn z).st.active = true → s.dev.ringRoom = true → s.dev.valt.st = .idle →
    (s.dev.zn z).wp + len ≠ (s.dev.zns z).zcap → s.dev.ctx c = some x → x.st = .executing →
    (∀ a, (s.dev.zn z).area = some a → (s.dev.area a).fill < (s.dev.zns (s.dev.area a).zone).lpu
      ∧ ((s.dev.area a).st = .filling ∨ (s.dev.area a).st = .programming)) →
    Completes (.commitRecord nsid zone) s (fun d =>
      d.zn z = { s.dev.zn z with wp := (s.dev.zn z).wp + len, cmds := rest }
      ∧ (∀ k, k ≠ z → d.zn k = s.dev.zn k)
      ∧ d.valt.ring = s.dev.valt.ring ++ [{ seq := s.dev.valt.nextSeq, at_ := s.dev.now, body := .commit nsid zone (s.dev.zn z).gen append start len }]
      ∧ d.valt.nextSeq = s.dev.valt.nextSeq + 1
      ∧ (∃ y, d.ctx c = some y ∧ y.st = .committed ∧ y.recorded = true ∧ (x.marked = false → y.status = 0)
          ∧ (x.marked = false → y.dw0 = if append then zone * (s.dev.zns z).zsze + start else 0))
      ∧ d.mem = s.dev.mem ∧ d.regs = s.dev.regs ∧ d.media = s.dev.media ∧ d.zone.areas = s.dev.zone.areas ∧ d.out = []))
  ∧ (∀ (s : State) (nsid zone c start len staged : Nat) (append spilled : Bool) (psn : Option Nat) (rest : List ZCmd),
    zone < 16777216 → (s.dev.zn (zoneKey nsid zone)).cmds = .write c start len staged append spilled psn :: rest →
    (staged < len ∨ s.dev.acked psn = false) → Completes (.commitRecord nsid zone) s (fun d => d = s.clean))

/-- R59 with R78, and R82 to R84.  What is the model's own choice or reading here: log entry 26. -/
def Obligations.ActivationTakesStagingAndGroups : Prop :=
  (∀ (s : State) (nsid zone c start len staged : Nat) (append spilled : Bool) (psn : Option Nat) (rest : List ZCmd) (x : Ctx) (z : Nat),
    zone < 16777216 → z = zoneKey nsid zone → (s.dev.zn z).cmds = .write c start len staged append spilled psn :: rest → s.dev.ctx c = some x →
    (s.dev.zn z).st = .empty → (s.dev.zn z).area = none → s.dev.ringRoom = true → s.dev.partitioned = false → x.slice = none →
    Completes (.zoneActivation nsid zone) s (fun d =>
      (roomFor s.dev.zone.areas (s.dev.zns z).plc = true →
        ∃ a, d.zn z = bindRecord [] { s.dev.zn z with area := some a, slice := none }
          ∧ (d.area a).st = .filling ∧ (d.area a).zone = z ∧ (d.area a).gen = (s.dev.zn z).gen ∧ (d.area a).pair = (s.dev.zns z).plc
          ∧ (d.area a).fill = 0 ∧ (d.area a).charge = none ∧ (∀ k, k ≠ z → d.zn k = s.dev.zn k) ∧ d.host = s.dev.host ∧ d.mem = s.dev.mem)
      ∧ (roomFor (s.dev.zone.areas.keep (fun _ a => a.st != .draining)) (s.dev.zns z).plc = false → roomFor s.dev.zone.areas (s.dev.zns z).plc = false → spilled = false → (s.dev.zn z).groups = [] →
          x.st = .executing → x.marked = false → staged = 0 → rest = [] →
          ∃ y, d.ctx c = some y ∧ y.st = .committed ∧ y.status = 0x1BD ∧ (d.zn z).st = .empty ∧ (d.zn z).cmds = [] ∧ (d.zn z).area = none)))
  ∧ (∀ (s : State) (nsid zone c p : Nat) (e : Word) (x : Ctx) (z : Nat), zone < 16777216 → z = zoneKey nsid zone → (s.dev.zn z).waiter = some c →
    s.dev.ctx c = some x → e = x.epoch → s.dev.needsGroup z = true → s.dev.ringRoom = true → s.dev.choosePos z e = some p →
    Completes (.stripeGroupAllocate nsid zone) s (fun d =>
      (∃ g, (d.zn z).groups = (s.dev.zn z).groups ++ [g] ∧ g.pos = p ∧ g.missing = [])
      ∧ (d.zn z).waiting = none ∧ (d.zn z).wp = (s.dev.zn z).wp ∧ (d.zn z).cmds = (s.dev.zn z).cmds
      ∧ ((s.dev.zn z).st ≠ .empty → (d.zn z).st = (s.dev.zn z).st)
      ∧ ((s.dev.zn z).st = .empty → ∀ k st len sg ap sp ps r, (s.dev.zn z).cmds = .write k st len sg ap sp ps :: r → (d.zn z).st = .implicitlyOpened)
      ∧ d.mem = s.dev.mem))

/-- R64 with R66 and R271. -/
def Obligations.StagingEntersInOrder : Prop :=
  (∀ (s : State) (nsid zone a i c start len staged k : Nat) (append spilled : Bool) (psn : Option Nat) (y : Ctx) (z : Nat),
    zone < 16777216 → z = zoneKey nsid zone → (s.dev.zn z).area = some a →
    (s.dev.zn z).stager = some (i, .write c start len staged append spilled psn) → s.dev.ctx c = some y → y.dmaDone = true →
    s.dev.stageOpen z a = true → (s.dev.kslot (s.dev.zns z).slot).st = .loaded → (s.dev.area a).zone = z →
    k = s.dev.stageRoom a (Nat.min (len - staged) ((s.dev.zns z).lpu - (s.dev.area a).fill)) → 0 < k → (s.dev.area a).fill + k < (s.dev.zns z).lpu →
    Completes (.stageCommand nsid zone) s (fun d =>
      d.zn z = { s.dev.zn z with sptr := (s.dev.zn z).sptr + k, cmds := (d.zn z).cmds }
      ∧ (∃ p, (d.zn z).cmds = (s.dev.zn z).cmds.set i
          (.write c (if staged = 0 ∧ append = true then (s.dev.zn z).sptr else start) len (staged + k) append spilled p))
      ∧ (d.area a).fill = (s.dev.area a).fill + k
      ∧ (∀ j, j ≠ z → d.zn j = s.dev.zn j) ∧ d.host = s.dev.host
      ∧ (∀ b, b < s.dev.slotAddr a + (s.dev.area a).fill * 4096 ∨ s.dev.slotAddr a + ((s.dev.area a).fill + k) * 4096 ≤ b → d.byte b = s.dev.byte b)))
  ∧ (∀ (s : State) (nsid zone a i c start len staged : Nat) (append spilled : Bool) (psn : Option Nat) (y : Ctx),
    zone < 16777216 → (s.dev.zn (zoneKey nsid zone)).area = some a →
    (s.dev.zn (zoneKey nsid zone)).stager = some (i, .write c start len staged append spilled psn) → s.dev.ctx c = some y →
    (y.dmaDone = false ∨ s.dev.stageOpen (zoneKey nsid zone) a = false) → Completes (.stageCommand nsid zone) s (fun d => d = s.clean))

/-- R69, R70, and the reports of R58 and R76. -/
def Obligations.ReadsOfUnwrittenBlocksAndReports : Prop :=
  (∀ (s : State) (c slba nlb : Nat) (pr : PrInfo) (x : Ctx) (z : Nat), c < 131072 → s.dev.due c x → x.e.cmd = .read slba nlb pr → 0 < nlb →
    z = s.dev.zoneFor x slba → (s.dev.nsFor x).offOf slba + nlb ≤ (s.dev.nsFor x).zsze → (s.dev.zn z).st ≠ .offline →
    (s.dev.zn z).wp ≤ (s.dev.nsFor x).offOf slba → (s.dev.nsFor x).zoneOf slba < 2 ^ 24 →
    s.dev.streamOf x.e.nsid ((s.dev.nsFor x).zoneOf slba) (x.req (ctxPort c)) = none → (s.dev.zn z).pace = 0 → s.dev.sched.seqs = [] →
    1 < s.dev.rf pSCHD 0x128 16 8 → x.got = [] →
    Completes (.read c) s (fun d =>
      (∃ y, d.ctx c = some y ∧ y.begun = true ∧ y.st = .executing ∧ y.left = 0
        ∧ (∀ i, y.got.find i = if i < nlb then some (List.replicate 4096 0 ++ List.replicate (s.dev.nsFor x).meta_ 0xFF) else none))
      ∧ (∀ k, k ≠ c → d.ctx k = s.dev.ctx k) ∧ d.sched.subs = s.dev.sched.subs ∧ d.zone = s.dev.zone ∧ d.mem = s.dev.mem ∧ d.out = []))
  ∧ (∀ (s : State) (c : Nat) (x : Ctx), c < 131072 → s.dev.due c x → x.e.cmd = .flush →
    Completes (.flush c) s (fun d => d = (s.clean.begin_ c).commitCtx c 0 false 0))
  ∧ (∀ (s : State) (c slba filter room : Nat) (ext partialRpt : Bool) (x : Ctx) (n : Ns) (zs : List Nat), c < 131072 → s.dev.dueZone c x →
    x.e.cmd = .zoneReceive slba ext filter partialRpt room → n = s.dev.nsFor x →
    zs = (List.range n.zones).filter (fun i => decide (n.zoneOf slba ≤ i)
      && (match filterState filter with | some t => (s.dev.zn (zoneKey x.e.nsid i)).st == t | none => true)) →
    let ds := (zs.take room).map (fun i => s.dev.zoneDesc n (zoneKey x.e.nsid i) ext)
    let P : Dev → Prop := fun d =>
      d = { (s.clean.begin_ c).done c with out := [.report (ctxPort c) x.fn (.zones (if partialRpt then ds.length else zs.length) ds)] }
    (ext = false → Completes (.reportZones c) s P) ∧ (ext = true → Completes (.extendedReportZones c) s P))

/-! ## The deadline scheduler (R92 to R132) -/

/-- R96, R99 and R103, with R144 for the unanswered SUSPEND. -/
def Obligations.DiesMoveThroughTheirStates : Prop :=
  (∀ (s : State) (sled pos k : Nat) (i : QItem), sled < 16 → pos < 256 → k = dieKey sled pos → (s.dev.port sled).st = .up →
    (s.dev.port sled).vaulted = false → s.dev.valt.st = .idle → hasBit s.dev.peer.fenceLost sled = false → s.dev.ringRoom = true →
    (s.dev.hdr pSCHD).epochApplied = s.dev.sysc.epoch → (s.dev.hdr pMEDI).epochApplied = s.dev.sysc.epoch → s.dev.stepWaits k = false →
    (s.dev.die k).st = .idle → s.dev.nextItem k = some i → s.dev.diePresent k = true → (s.dev.die k).retired = false →
    s.dev.eraseSpent (k * 2048 + i.d.block) i = false → s.dev.op (i.d.sled * 65536 + s.dev.nextTag i.d.sled) = none →
    Completes (.dieDispatch sled pos) s (fun d =>
      (d.die k).st = (match i.kind with | .read => .reading | .program => .programming | .erase => .erasing)
      ∧ (d.die k).startAt = s.dev.now
      ∧ (d.die k).queue = (s.dev.die k).queue.filter (fun j => j.seq != i.seq)
      ∧ (i.kind = .erase → (d.blk (k * 2048 + i.d.block)).st = .erasing
          ∧ (d.blk (k * 2048 + i.d.block)).erases = (s.dev.blk (k * 2048 + i.d.block)).erases + 1)
      ∧ (∃ key o, d.op key = some o ∧ s.dev.op key = none ∧ o.d.op = i.d.op ∧ o.d.block = i.d.block ∧ o.phase = .sent ∧ o.issued = s.dev.now)
      ∧ d.zone = s.dev.zone ∧ d.host = s.dev.host ∧ d.mem = s.dev.mem))
  ∧ (∀ (s : State) (sled pos : Nat), sled < 16 → pos < 256 → (s.dev.port sled).st ≠ .up →
    ((s.dev.port sled).st = .quiescing → s.dev.stepWaits (dieKey sled pos) = false) → Completes (.dieDispatch sled pos) s (fun d => d = s.clean))
  ∧ (∀ (s : State) (sled tag k key r : Nat) (o p : OpenOp), sled < 16 → tag < 65536 → key = sled * 65536 + tag → s.dev.op key = some o → o.d.op = 0x30 →
    o.phase = .sent → k = dieKey o.d.sled o.d.pos → (s.dev.die k).st = .suspending → (s.dev.die k).running = some r → r ≠ key →
    s.dev.op r = some p → (s.dev.die k).queue.any (fun i => i.kind == .read) = true →
    Completes (.suspendResult sled tag 3) s (fun d =>
        (d.die k).st = (if p.d.op = 0x20 then .eraseSuspended else .progSuspended) ∧ (d.die k).suspendedAt = s.dev.now
        ∧ (d.die k).esusp = (s.dev.die k).esusp ∧ (d.die k).psusp = (s.dev.die k).psusp ∧ d.op key = none)
    ∧ Completes (.suspendResult sled tag 4) s (fun d =>
        (d.die k).st = .idle ∧ d.op key = none
        ∧ (d.die k).esusp = (if p.d.op = 0x20 then (s.dev.die k).esusp - 1 else (s.dev.die k).esusp)
        ∧ (d.die k).psusp = (if p.d.op = 0x20 then (s.dev.die k).psusp else (s.dev.die k).psusp - 1)))
  ∧ (∀ (s : State) (sled pos k : Nat), sled < 16 → pos < 256 → k = dieKey sled pos →
    Completes (.suspendHoldExpiry sled pos) s (fun d =>
      ((s.dev.die k).st = .progSuspended ∨ (s.dev.die k).st = .eraseSuspended → s.dev.sensing k = 0 → (s.dev.port sled).vaulted = false →
        (d.die k).st = .resuming
        ∧ d = ((s.clean.setDie k (fun y => { y with holdUp := true })).setDie k (fun y => { y with st := .resuming, holdUp := false })).sendDesc
            { Desc.at_ sled pos 0 .resume with op := 0x31 } s.dev.now)
      ∧ ((s.dev.die k).st = .progSuspended ∨ (s.dev.die k).st = .eraseSuspended → (s.dev.sensing k ≠ 0 ∨ (s.dev.port sled).vaulted = true) →
        d = s.clean.setDie k (fun y => { y with holdUp := true }))
      ∧ ((s.dev.die k).st ≠ .progSuspended → (s.dev.die k).st ≠ .eraseSuspended → d = s.clean)))
  ∧ (∀ (s : State) (sled tag k key r : Nat) (o p : OpenOp), sled < 16 → tag < 65536 → key = sled * 65536 + tag → s.dev.op key = some o → o.d.op = 0x31 →
    o.phase = .sent → k = dieKey o.d.sled o.d.pos → (s.dev.die k).st = .resuming → (s.dev.die k).running = some r → r ≠ key →
    s.dev.op r = some p → (s.dev.die k).queue.any (fun i => i.kind == .read) = false →
    Completes (.resumeResult sled tag 5) s (fun d =>
      (d.die k).st = (if p.d.op = 0x20 then .erasing else .programming) ∧ (d.die k).lastResume = s.dev.now
      ∧ d.op key = none ∧ d.op r = some { p with startedAt := s.dev.now }))
  ∧ (∀ (s : State) (sled pos k : Nat) (w : StatusWait), sled < 16 → pos < 256 → k = dieKey sled pos → (s.dev.die k).wait = .none → (s.dev.port sled).vaulted = false →
    (((s.dev.die k).st = .suspending ∧ w = .suspend) ∨ ((s.dev.die k).st = .resuming ∧ w = .resume)) →
    Completes (.suspendTimeout sled pos) s (fun d =>
      (d.die k).wait = w ∧ (d.die k).st = (s.dev.die k).st
      ∧ d = (s.clean.setDie k (fun x => { x with wait := w })).sendDesc { Desc.at_ sled pos 0 .status with op := 0x40 } s.dev.now))

/-- R144, R145 and R112: the four timeouts. -/
def Obligations.DieOperationsTimeOut : Prop :=
  (∀ (s : State) (sled pos k key : Nat) (o : OpenOp), sled < 16 → pos < 256 → k = dieKey sled pos →
    s.dev.media.ops.filter (fun e => dieKey e.2.d.sled e.2.d.pos == k && e.2.phase == .sent) = [(key, o)] → o.d.op = 0x40 →
    s.dev.op key = some o → (s.dev.die k).wait ≠ .poll → (s.dev.die k).faultRun < 7 →
    Completes (.statusTimeout sled pos) s (fun d =>
      d.op key = none ∧ (d.die k).wait = .none ∧ (d.die k).faultRun = (s.dev.die k).faultRun + 1 ∧ bitOf (d.hdr pMEDI).evtStat 10 = true
      ∧ ((s.dev.die k).st ≠ .offline → (d.die k).st = .idle)))
  ∧ (∀ (s : State) (sled tag key : Nat) (o : OpenOp), sled < 16 → tag < 65536 → key = sled * 65536 + tag → s.dev.op key = some o → o.d.op = 0x10 →
    Completes (.programTimeout sled tag) s (fun d =>
      d.op key = none ∧ bitOf (d.hdr pMEDI).evtStat 10 = true ∧ bitOf (d.hdr pMEDI).evtStat 2 = true))
  ∧ (∀ (s : State) (sled tag key b : Nat) (o : OpenOp), sled < 16 → tag < 65536 → key = sled * 65536 + tag → s.dev.op key = some o → o.d.op = 0x20 →
    o.d.block < 2048 → b = blkKey o.d.sled o.d.pos o.d.block → (s.dev.die (dieKey o.d.sled o.d.pos)).faultRun < 7 →
    Completes (.eraseTimeout sled tag) s (fun d =>
      d.op key = none ∧ bitOf (d.hdr pMEDI).evtStat 10 = true
      ∧ (d.blk b).st = (if s.dev.rf pMEDI 0x808 16 8 ≤ (s.dev.blk b).attempts then .retired else .uncertain)
      ∧ (d.blk b).erases = (s.dev.blk b).erases))
  ∧ (∀ (s : State) (sled tag key : Nat) (o : OpenOp), sled < 16 → tag < 65536 → key = sled * 65536 + tag → s.dev.op key = some o →
    (o.d.op = 1 ∨ o.d.op = 2) → o.timedOut = false →
    Completes (.memberTimeout sled tag) s (fun d =>
      bitOf (d.hdr pSCHD).evtStat 3 = true
      ∧ (∀ id, o.d.use = .sub id → s.dev.stale o.d.use o.d.gen = true → (s.dev.die (dieKey o.d.sled o.d.pos)).faultRun < 7 →
          d.op key = some { o with timedOut := true } ∧ d.sched = s.dev.sched)
      ∧ (∀ id x, o.d.use = .sub id → s.dev.sched.subs.find id = some x → x.gen = o.d.gen → x.recon = none →
          d = ((((((((s.clean.raise pSCHD 4 [o.d.sled, o.d.pos, (s.dev.now - o.issued) / 1000, 0]).slowEvent o.d.sled).dieFault
              (dieKey o.d.sled o.d.pos)).modOp key (fun y => { y with timedOut := true })).modSub id (fun y => { y with ownBad := true })).unqueue
              (fun u => decide (u = .sub id))).goForced id).faultCheck (dieKey o.d.sled o.d.pos)).quiesceCheck o.d.sled)))

/-- R107 to R110, R112 and R114. -/
def Obligations.CreditsAreTakenWholeAndDivided : Prop :=
  (∀ (s : State) (id t : Nat) (x : Sub) (g : Group) (z : Nat) (set : List Nat), s.dev.sched.subs.find id = some x → z = zoneKey x.nsid x.zone →
    x.cls ≠ .c → bitOf (s.dev.cellAt x.epoch pSCHD 0x114 0) (match x.cls with | .a => 4 | .b => 5 | .c => 31) = true →
    x.hedged = false → x.recon = none → (x.path = .direct ∨ x.path = .suspend) → s.dev.mayAround x = true → s.dev.groupFor z x.row x.old = some g →
    s.dev.tAround (s.dev.zns z) g x.row (s.dev.rowSrc (s.dev.zns z) z x.row x.unit x.old) (s.dev.probeOf x g) = some (t, set) →
    Completes (.hedgeStart id) s (fun d =>
      (s.dev.canPay x.req.pool set.length = true →
        (d.pool x.req.pool).avail = (s.dev.pool x.req.pool).avail - set.length
        ∧ (d.pool x.req.pool).held = (s.dev.pool x.req.pool).held + set.length
        ∧ (d.pool x.req.pool).share = (s.dev.pool x.req.pool).share
        ∧ (∀ p, p ≠ x.req.pool → d.pool p = s.dev.pool p)
        ∧ d.sched.subs.find id = some { x with hedged := true, recon := some s.dev.sched.nextSub })
      ∧ (s.dev.canPay x.req.pool set.length = false →
        (d.pool x.req.pool).refused = (s.dev.pool x.req.pool).refused + 1 ∧ bitOf (d.hdr pSCHD).evtStat 2 = true
        ∧ Dev.RecordsOnly { s.clean with sched := { s.dev.sched with pools := d.sched.pools } } d)))
  ∧ (∀ (s : State) (id : Nat) (x : Sub), s.dev.sched.subs.find id = some x → (x.hedged = true ∨ x.cls = .c) →
    Completes (.hedgeStart id) s (fun d => d = s.clean))
  ∧ (∀ (s : State) (i : Nat) (r : Recon) (z : Nat) (src : RowSrc) (set : List Nat), s.dev.firstWaiting = some (i, r) → s.dev.sched.recons.find i = some r →
    z = zoneKey r.nsid r.zone → r.begun = false → src = s.dev.rowSrc (s.dev.zns z) z r.row r.target r.old → src.need ≤ src.flash.length + src.ready.length →
    set = (s.dev.prefer (s.dev.zns z) r.row src.flash).take (src.need - src.ready.length) →
    Completes .forcedCreditGrant s (fun d =>
      (s.dev.canPay 65 set.length = true →
        (d.pool 65).avail = (s.dev.pool 65).avail - set.length ∧ (d.pool 65).held = (s.dev.pool 65).held + set.length
        ∧ (∀ y, d.sched.recons.find i = some y → y.waiting = false))
      ∧ (s.dev.canPay 65 set.length = false → d = s.clean)))
  ∧ (∀ (s : State) (i : Nat) (r : Recon), s.dev.firstWaiting = some (i, r) → r.begun = true → r.need ≤ r.good.length + r.outstanding →
    Completes .forcedCreditGrant s (fun d => d = s.clean.modRecon i (fun y => { y with waiting := false })))
  ∧ (∀ (s : State), Completes .creditPoolSplit s (fun d =>
      (s.dev.sched.splitting = none → d = s.clean)
      ∧ (s.dev.sched.splitting = some true → (s.dev.pool 64).held = 0 →
          (∀ p, p < 64 → (d.pool p).share = 1024 ∧ (d.pool p).avail = 1024) ∧ (d.pool 64).share = 0 ∧ (d.pool 64).avail = 0 ∧ (d.pool 64).held = 0
          ∧ d.pool 65 = s.dev.pool 65 ∧ d = { s.clean with sched := { s.dev.sched with splitting := none, pools := d.sched.pools } })
      ∧ (s.dev.sched.splitting = some true → (s.dev.pool 64).held ≠ 0 → d = s.clean)
      ∧ (s.dev.sched.splitting = some false → (∀ p, p < 64 → (s.dev.pool p).held = 0) →
          (∀ p, p < 64 → (d.pool p).share = 0 ∧ (d.pool p).avail = 0) ∧ (d.pool 64).share = 65536
          ∧ (d.pool 64).avail = 65536 - (s.dev.pool 64).held ∧ d.pool 65 = s.dev.pool 65
          ∧ d = { s.clean with sched := { s.dev.sched with splitting := none, pools := d.sched.pools } })
      ∧ (s.dev.sched.splitting = some false → (∃ p, p < 64 ∧ (s.dev.pool p).held ≠ 0) → d = s.clean)))

/-- R123, R124, R127 and R128. -/
def Obligations.PacedStreamsReadAheadAndEnd : Prop :=
  (∀ (s : State) (k u count : Nat) (runs : List Nat) (x : Stream) (z : Nat) (n : Ns), s.dev.sched.streams.find k = some x → z = zoneKey x.nsid x.zone →
    n = s.dev.zns z → u = x.readPos / n.lpu → count = n.lpu - x.readPos % n.lpu →
    runs = ((List.range (ceilDiv (x.readPos + count) 16)).drop (x.readPos / 16)).filter (fun r => (x.held.find r).isNone) →
    s.dev.streamAhead k x < x.window → (u + 1) * n.lpu ≤ (s.dev.zn z).wp → (∀ a y, s.dev.areaOf z = some (a, y) → u < y.unit) →
    x.held.length + runs.length ≤ s.dev.rf pSCHD 0x818 16 9 → s.dev.partitioned = false →
    Completes (.readAheadIssue k) s (fun d =>
      (runs.length ≤ s.dev.sched.bufFree →
        (∃ sb : Sub, sb.stream = some k ∧ sb.ctx = none ∧ sb.nsid = x.nsid ∧ sb.zone = x.zone ∧ sb.row = u / n.d ∧ sb.unit = u % n.d
          ∧ sb.off = x.readPos % n.lpu ∧ sb.count = count
          ∧ d = ((s.clean.modStream k (fun y => { y with readPos := y.readPos + count, paused := false })).takeUnits k runs).addSub sb)
        ∧ d.sched.bufFree = s.dev.sched.bufFree - runs.length ∧ d.zone = s.dev.zone ∧ d.mem = s.dev.mem)
      ∧ (s.dev.sched.bufFree < runs.length → x.paused = false →
        d.sched.streams.find k = some { x with paused := true } ∧ bitOf (d.hdr pSCHD).evtStat 6 = true ∧ d.sched.bufFree = s.dev.sched.bufFree
        ∧ Dev.RecordsOnly { s.clean with sched := { s.dev.sched with streams := d.sched.streams } } d)
      ∧ (s.dev.sched.bufFree < runs.length → x.paused = true → d = s.clean)))
  ∧ (∀ (s : State) (k : Nat) (x : Stream), s.dev.sched.streams.find k = some x → x.window ≤ s.dev.streamAhead k x →
    Completes (.readAheadIssue k) s (fun d => d = s.clean))
  ∧ (∀ (s : State) (k m t : Nat) (x : Stream), s.dev.sched.streams.find k = some x → m = (x.served.take 10).sum * 10 →
    t = (if x.declared * 100000 < m then m else x.declared * 100000) * (100 + s.dev.rf pSCHD 0x128 24 8) →
    Completes (.streamRateUpdate k) s (fun d =>
      d = s.clean.modStream k (fun y => { y with measured := m, target := t, served := 0 :: y.served.take 9, window := s.dev.streamWindow (s.dev.zns (zoneKey x.nsid x.zone)).plc t })))
  ∧ (∀ (s : State) (k : Nat) (x : Stream), s.dev.sched.streams.find k = some x → s.dev.sched.subs.all (fun e => e.2.stream != some k) = true →
    Completes (.streamIdleExpiry k) s (fun d =>
      d.sched.streams.find k = none ∧ d.sched.bufFree = s.dev.sched.bufFree + x.held.length ∧ bitOf (d.hdr pSCHD).evtStat 7 = true
      ∧ (∀ j, j ≠ k → d.sched.streams.find j = s.dev.sched.streams.find j)
      ∧ Dev.RecordsOnly { s.clean with sched := { s.dev.sched with streams := d.sched.streams, bufFree := s.dev.sched.bufFree + x.held.length } } d))

/-! ## The flash media engine (R133 to R177) -/

/-- R148 to R150, R154, R175 and R176. -/
def Obligations.DecodesEndTheirReads : Prop :=
  (∀ (s : State) (sled tag key k : Nat) (o : OpenOp) (rs : List (Nat × CwRes)), sled < 16 → tag < 65536 → key = sled * 65536 + tag →
    s.dev.op key = some o → (o.phase = .decoding ∨ o.phase = .softDecoding) → k = dieKey o.d.sled o.d.pos → (s.dev.die k).st = .reading →
    o.timedOut = false → s.dev.badStamps o rs = [] →
    (o.wanted.all (cwGood rs) = true → o.d.use = .raw → s.dev.media.raw.decode = true → Completes (.decodeEnd sled tag rs) s (fun d =>
      d.op key = none ∧ (d.die k).st = .idle
      ∧ d.media.raw = { s.dev.media.raw with busy := false, done := true, fail := false, result := 0, data := (o.decoded rs).data.flatMap (fun e => e.2.take 4096),
                                             zeros := satAt 65535 (zerosOf ((o.decoded rs).data.flatMap (fun e => e.2.take 4096))) }
      ∧ d.mem = s.dev.mem))
    ∧ (o.wanted.all (cwGood rs) = true → (∃ g next, o.d.use = .sample g next) → Completes (.decodeEnd sled tag rs) s (fun d =>
      d.op key = none ∧ (d.die k).st = .idle ∧ d.mem = s.dev.mem ∧ d.zone = s.dev.zone))
    ∧ (∀ id x, o.wanted.all (cwGood rs) = true → o.d.use = .sub id → s.dev.sched.subs.find id = some x → x.gen = o.d.gen →
      x.count ≤ ((inRange x.off o.d.page (o.decoded rs).data).foldl (fun (m : SMap (List Byte)) e => m.set e.1 e.2) x.got).length →
      Completes (.decodeEnd sled tag rs) s (fun d => d.op key = none ∧ d.sched.subs.find id = none ∧ (d.die k).st = .idle
        ∧ (o.phase = .softDecoding → bitOf (d.hdr pMEDI).evtStat 0 = true)))
    ∧ (∀ id st v, o.wanted.all (cwGood rs) = false → o.d.use = .sub id → s.dev.stale o.d.use o.d.gen = false → s.dev.ladderNext (o.decoded rs) = some (st, v) →
      (s.dev.port o.d.sled).st = .up → (s.dev.port (k / 256)).vaulted = false →
      Completes (.decodeEnd sled tag rs) s (fun d =>
        (∃ o', d.op key = some o' ∧ o'.phase = .sent ∧ o'.step = st ∧ o'.d.shift = v ∧ o'.data = (o.decoded rs).data)
        ∧ (d.die k).st = .reading ∧ d.sched.subs = s.dev.sched.subs))
    ∧ (∀ id, o.wanted.all (cwGood rs) = false → o.d.use = .sub id → s.dev.ladderNext (o.decoded rs) = none →
      Completes (.decodeEnd sled tag rs) s (fun d => bitOf (d.hdr pMEDI).evtStat 1 = true))
    ∧ (o.wanted.all (cwGood rs) = false → o.d.use = .raw → Completes (.decodeEnd sled tag rs) s (fun d =>
      d.op key = none ∧ (d.die k).st = .idle ∧ d.media.raw.busy = false ∧ d.media.raw.done = false ∧ d.media.raw.fail = true ∧ d.media.raw.result = 0)))
  ∧ (∀ (s : State) (sled tag key : Nat) (o : OpenOp), sled < 16 → tag < 65536 → key = sled * 65536 + tag → s.dev.op key = some o → o.phase = .softWait →
    (s.dev.media.ops.count (fun _ x => x.phase == .softDecoding) < s.dev.rf pMEDI 0x800 24 4 →
      Completes (.softDecodeStart sled tag) s (fun d =>
        d.op key = some { o with phase := .softDecoding } ∧ d = s.clean.modOp key (fun x => { x with phase := .softDecoding })))
    ∧ (s.dev.rf pMEDI 0x800 24 4 ≤ s.dev.media.ops.count (fun _ x => x.phase == .softDecoding) →
      Completes (.softDecodeStart sled tag) s (fun d => d = s.clean)))
  ∧ (∀ (s : State) (master k : Nat), master < 45 → s.dev.takesWrite pMEDI 0x844 → k = dieKey (s.dev.rf pMEDI 0x820 24 4) (s.dev.rf pMEDI 0x820 16 8) →
    (s.dev.media.raw.busy = true → Completes (.rawRead master) s (fun d => d = s.clean.deny pMEDI))
    ∧ (s.dev.media.raw.busy = false → (s.dev.diePresent k = false ∨ (s.dev.die k).retired = true) → Completes (.rawRead master) s (fun d =>
        d = { s.clean with media := { s.dev.media with raw := { RawRead.reset with decode := bitOf (s.dev.cell pMEDI 0x840) 28, master := master, fail := true, result := 7 } } }))
    ∧ (s.dev.media.raw.busy = false → s.dev.diePresent k = true → (s.dev.die k).retired = false → (s.dev.die k).st = .offline → Completes (.rawRead master) s (fun d =>
        d = { s.clean with media := { s.dev.media with raw := { RawRead.reset with decode := bitOf (s.dev.cell pMEDI 0x840) 28, master := master, fail := true, result := 9 } } }))
    ∧ (s.dev.media.raw.busy = false → s.dev.diePresent k = true → (s.dev.die k).retired = false → (s.dev.die k).st ≠ .offline → Completes (.rawRead master) s (fun d =>
        d.media.raw = { RawRead.reset with busy := true, decode := bitOf (s.dev.cell pMEDI 0x840) 28, master := master }
        ∧ (∃ i, (d.die k).queue = (s.dev.die k).queue ++ [i] ∧ i.kind = .read ∧ i.suspends = false ∧ i.d.use = .raw
            ∧ i.d.block = s.dev.rf pMEDI 0x820 0 13 ∧ i.d.wl = s.dev.rf pMEDI 0x840 0 10)
        ∧ d.media.ops = s.dev.media.ops ∧ d.media.blocks = s.dev.media.blocks ∧ d.mem = s.dev.mem)))

/-- R153, R156, R165, R166 and R171. -/
def Obligations.TheTrackerMigrationsAndRetirement : Prop :=
  (∀ (s : State), Completes .trackerSampling s (fun d =>
      (∀ k, ∃ l, (d.die k).queue = (s.dev.die k).queue ++ l
        ∧ ∀ i ∈ l, i.kind = .read ∧ i.deadline = s.dev.progDue ∧ i.suspends = false ∧ ∃ g next, i.d.use = .sample g next)
      ∧ (∀ b x, (b, x) ∈ s.dev.media.blocks → (x.st = .allocated ∨ x.st = .vault) → ∀ g ∈ x.dataGroups, ∀ next,
          ∃ i ∈ (d.die (b / 2048)).queue, i.d.use = .sample g next ∧ i.d.block = b % 2048)
      ∧ d.media.blocks = s.dev.media.blocks ∧ d.media.ops = s.dev.media.ops ∧ d.mem = s.dev.mem ∧ d.regs = s.dev.regs))
  ∧ (∀ (s : State), Completes .trackerCheckpoint s (fun d =>
      (∃ l, d.valt.ring = s.dev.valt.ring ++ l ∧ d.valt.nextSeq = s.dev.valt.nextSeq + l.length
        ∧ (∀ r ∈ l, ∃ sled pos first entries, r.body = .track sled pos first entries)
        ∧ (∀ run ∈ s.dev.trackRuns, run ∈ d.media.trackLeft ∨ ∃ r ∈ l, r.body = .track (run / 64 / 256) (run / 64 % 256) (run % 64 * 38)
            ((List.range 38).map (fun i => (s.dev.blk (run / 64 * 2048 + run % 64 * 38 + i)).shift))))
      ∧ d.media = { s.dev.media with trackLeft := d.media.trackLeft } ∧ d.mem = s.dev.mem ∧ d.regs = s.dev.regs ∧ d.zone = s.dev.zone))
  ∧ (∀ (s : State) (sled pos block t z g : Nat), sled < 16 → pos < 256 → block < 2048 → s.dev.ownerOf sled pos block = some (z, g) → s.dev.ringRoom = true →
    (s.dev.blk (blkKey sled pos block)).st = .allocated → s.dev.copying sled pos block = false → (s.dev.die (dieKey sled pos)).retired = false →
    t < 1400 → t ≠ block → 0 < (s.dev.blk (blkKey sled pos block)).confirmed → s.dev.media.copies.find s.dev.media.nextCopy = none →
    let P : Bool → Dev → Prop := fun disturb d =>
      (d.blk (blkKey sled pos t)).st = .allocated ∧ (d.blk (blkKey sled pos block)).st = .allocated
      ∧ ∃ i c, d.media.copies.find i = some c ∧ s.dev.media.copies.find i = none ∧ c.kind = .migrate disturb ∧ c.zone = z ∧ c.group = g ∧ c.sled = sled ∧ c.pos = pos
          ∧ c.src = block ∧ c.dst = t ∧ c.next = 0 ∧ c.total = (s.dev.blk (blkKey sled pos block)).confirmed
    (s.dev.wornErased (dieKey sled pos) = some t → (s.dev.zn z).st = .full → (s.dev.zn z).fullAt + s.dev.rf pMEDI 0x12C 16 8 * 86400000000000 ≤ s.dev.now →
      (s.dev.blk (blkKey sled pos block)).erases + s.dev.rf pMEDI 0x12C 0 16 ≤ s.dev.medianErases (dieKey sled pos) →
      s.dev.migrations sled false < s.dev.rf pMEDI 0x12C 24 8 → Completes (.wearMigrationStart sled pos block) s (P false))
    ∧ (s.dev.pickBlock z (dieKey sled pos) s.dev.sysc.epoch = some t → s.dev.disturbLimit sled ≤ (s.dev.blk (blkKey sled pos block)).reads →
      (s.dev.zn z).st.active = false → s.dev.migrations sled true = 0 → Completes (.readDisturbMigration sled pos block) s (P true)))
  ∧ (∀ (s : State) (v : Word) (master : Nat), master < 45 → s.dev.takesWrite pMEDI 0x850 →
    (bitOf v 31 = true → s.dev.diePresent (dieKey (fld v 8 4) (fld v 0 8)) = true → Completes (.dieRetireWrite master v) s (fun d =>
      d = s.clean.setDie (dieKey (fld v 8 4) (fld v 0 8)) (fun x => { x with retireReq := true })))
    ∧ (bitOf v 31 = true → s.dev.diePresent (dieKey (fld v 8 4) (fld v 0 8)) = false → Completes (.dieRetireWrite master v) s (fun d => d = s.clean))
    ∧ (bitOf v 31 = false → Completes (.dieRetireWrite master v) s (fun d => d = s.clean.deny pMEDI)))
  ∧ (∀ (s : State) (sled pos k : Nat), sled < 16 → pos < 256 → k = dieKey sled pos → (s.dev.die k).retireReq = true → (s.dev.die k).retired = false →
    s.dev.ringRoom = true → s.dev.media.ops.all (fun e => dieKey e.2.d.sled e.2.d.pos != k) = true →
    Completes (.dieRetirement sled pos) s (fun d =>
      (d.die k).retired = true ∧ (d.die k).retireReq = false ∧ bitOf (d.hdr pMEDI).evtStat 8 = true
      ∧ (∀ b, b < 1400 → (d.blk (k * 2048 + b)).st = .retired ∨ (d.blk (k * 2048 + b)).st = .factoryBad)))

/-! ## The sled ports and the links (R178 to R219) -/

/-- R184, R204, R205 and R211.  What is the model's own choice or reading here: log entry 41. -/
def Obligations.LinksAlignAndTrain : Prop :=
  (∀ (s : State) (l : LinkId) (r r0 : Nat), l.ok = true →
    (((s.dev.lnk l).trial = none ∧ r = (if (s.dev.lnk l).capRate = 0 then s.dev.lrf l 0x100 4 2 else (s.dev.lnk l).capRate) ∧ r0 = r)
      ∨ (∃ t, (s.dev.lnk l).trial = some t ∧ t.phase = .idleGap ∧ r = t.rate ∧ r0 = t.start)) →
    Completes (.trainTrialStart l) s (fun d =>
      (s.dev.lst l ≠ .training → d = s.clean)
      ∧ (s.dev.lst l = .training → d = s.clean.setLnk l (fun x =>
          { x with trial := some { rate := r, start := r0, symMax := s.dev.lrf l 0x800 0 16, phase := .prbs, startedAt := s.dev.now, corrected := 0, uncorr := false, windowDone := false, other := none }
                   trials := x.trials + 1, align := .search }))))
  ∧ (∀ (s : State) (l : LinkId) (t : Trial), l.ok = true → s.dev.lst l = .training → (s.dev.lnk l).trial = some t → t.phase = .prbs →
    Completes (.prbsPhaseEnd l) s (fun d => d = s.clean.setLnk l (fun x => { x with trial := some { t with phase := .locking } })))
  ∧ (∀ (s : State) (l : LinkId) (found : Option Nat), l.ok = true → (s.dev.lst l).linked = false →
    Completes (.alignmentMarker l found) s (fun d =>
      let a := s.dev.lnk l
      let b := d.lnk l
      (a.align = .search → ∀ p, found = some p → b.align = .candidate ∧ b.candPos = p)
      ∧ (a.align = .search → found = none → b.align = .search)
      ∧ (a.align = .candidate → found = some (a.candPos + 89129080) → b.align = .locked ∧ b.miss = 0)
      ∧ (a.align = .candidate → found = none → b.align = .search)
      ∧ (a.align = .locked → found = some (a.candPos + 89129080) → b.align = .locked ∧ b.miss = 0 ∧ b.candPos = a.candPos + 89129080)
      ∧ (a.align = .locked → (∃ p, found = some p ∧ p ≠ a.candPos + 89129080) → b.align = .locked ∧ b.miss = a.miss ∧ b.candPos = a.candPos)
      ∧ (a.align = .locked → found = none → a.miss < 3 →
          b.align = .locked ∧ b.miss = a.miss + 1 ∧ b.amMiss = a.amMiss + 1 ∧ b.candPos = a.candPos + 89129080)
      ∧ (a.align = .locked → found = none → a.miss = 3 → b.align = .search ∧ b.lockLoss = a.lockLoss + 1 ∧ b.amMiss = a.amMiss)
      ∧ d = s.clean.setLnk l (fun _ => b)))
  ∧ (∀ (s : State) (l : LinkId), l.ok = true → (s.dev.lst l).linked = false →
    Completes (.lossOfSignal l) s (fun d => d = s.clean.setLnk l (fun x => { x with align := .search })))
  ∧ (∀ (s : State) (l : LinkId) (t : Trial) (n : Nat) (bad : Bool), l.ok = true → s.dev.lst l = .training → (s.dev.lnk l).trial = some t → t.phase = .counting →
    Completes (.trainingWindowEnd l n bad) s (fun d =>
      (t.other = none → (d.lnk l).trial = some { t with phase := .verdict, corrected := n, uncorr := bad, windowDone := true } ∧ d.lst l = .training)
      ∧ (∀ ok m, t.other = some (ok, m) → (ok = false ∨ bad = true ∨ t.symMax < n ∨ t.symMax < m) →
          (1 < t.rate → d.lst l = .training ∧ ∃ y, (d.lnk l).trial = some y ∧ y.rate = t.rate - 1 ∧ y.phase = .idleGap)
          ∧ (t.rate ≤ 1 → d.lst l = .hold ∧ (d.lnk l).trial = none ∧ ∀ p, l = .port p → bitOf (d.hdr (pSLK p)).evtStat 2 = true))))
  ∧ (∀ (s : State) (l : LinkId) (t : Trial) (ok : Bool) (m : Nat), l.ok = true → s.dev.lst l = .training → (s.dev.lnk l).trial = some t →
    Completes (.trainReceive l ok m) s (fun d =>
      (t.phase = .counting → t.windowDone = false → (d.lnk l).trial = some { t with other := some (ok, m) } ∧ d.lst l = .training)
      ∧ (t.phase = .verdict → t.windowDone = true → t.uncorr = false → t.corrected ≤ t.symMax → ok = true → m ≤ t.symMax →
          d.lst l = .exchange ∧ (d.lnk l).rate = t.rate ∧ (d.lnk l).trial = none ∧ (d.lnk l).instanceNo = ((s.dev.lnk l).instanceNo + 1) % 256
          ∧ (∃ p, (d.lnk l).txq = [p] ∧ p.typ = 4) ∧ d.out = [.packet l (ctlPkt 1 [1, t.rate, t.corrected])])))
  ∧ (∀ (s : State) (l : LinkId) (t : Trial), l.ok = true → s.dev.lst l = .training → (s.dev.lnk l).trial = some t → t.phase ≠ .idleGap →
    Completes (.trialTimeout l) s (fun d =>
      (1 < t.rate → d.lst l = .training ∧ ∃ y, (d.lnk l).trial = some y ∧ y.rate = t.rate - 1 ∧ y.phase = .idleGap)
      ∧ (t.rate ≤ 1 → d.lst l = .hold ∧ (d.lnk l).trial = none)))
  ∧ (∀ (s : State) (l : LinkId), l.ok = true → Completes (.holdExpiry l) s (fun d =>
      (s.dev.lst l = .hold → d = (s.clean.setLst l .training).setLnk l (fun x => { x with trial := none }))
      ∧ (s.dev.lst l ≠ .hold → d = s.clean)))
  ∧ (∀ (s : State) (n : Nat), n < 16 → Completes (.powerWaitExpiry n) s (fun d =>
      ((s.dev.port n).st = .powering → (d.port n).st = .training ∧ d = s.clean.setPort n (fun x => { x with st := .training, link := { x.link with trial := none } }))
      ∧ ((s.dev.port n).st ≠ .powering → d = s.clean)))

/-- R182, R185 to R187, R193, R199, R210, R213 and R214.  What is the model's own choice or reading here: log entries 59 and 41. -/
def Obligations.FramesCreditsAndLinkResets : Prop :=
  (∀ (s : State) (l : LinkId) (f : RxFrame) (x : Link), l.ok = true → (s.dev.lst l).linked = true → x = s.dev.lnk l →
    Completes (.frameReceive l f) s (fun d =>
      (x.align ≠ .locked → d.lnk l = x ∧ d = s.clean.setLnk l (fun _ => x))
      ∧ (x.align = .locked → f.passes = false → d = s.clean.setLnk l (fun _ =>
          { x with nakOut := true, fecUncorr := if f.rsOk then x.fecUncorr else x.fecUncorr + 1, crcErr := if f.rsOk then x.crcErr + 1 else x.crcErr }))
      ∧ (x.align = .locked → f.passes = true → f.ackValid = false → f.nak = false → x.replaying = [] → x.credited = false →
          (f.null = true → d = s.clean.setLnk l (fun _ => { x with fecCorr := x.fecCorr + u32 f.corrected }))
          ∧ (f.null = false → f.fsn ≠ x.rxFsn → (x.rxFsn + 4095 - f.fsn) % 4096 < 2047 → d = s.clean.setLnk l (fun _ => { x with fecCorr := x.fecCorr + u32 f.corrected }))
          ∧ (f.null = false → f.fsn ≠ x.rxFsn → 2047 ≤ (x.rxFsn + 4095 - f.fsn) % 4096 →
              d = s.clean.setLnk l (fun _ => { x with fecCorr := x.fecCorr + u32 f.corrected, nakOut := true })))))
  ∧ (∀ (s : State) (l : LinkId) (x : Link), l.ok = true → (s.dev.lst l).linked = true → x = s.dev.lnk l →
    Completes (.frameTransmit l) s (fun d => ∃ fr, d.out = [.frame l fr] ∧ (d.lnk l).frames = x.frames + 1
      ∧ fr.ack = (x.rxFsn + 4095) % 4096 ∧ fr.ackValid = x.rxAny ∧ fr.nak = x.nakOut ∧ d.lst l = s.dev.lst l
      ∧ (∀ n ns h, x.replaying = n :: ns → x.held.find? (fun y => y.fsn = n) = some h → fr.fsn = n ∧ fr.kinds = h.kinds ∧ (d.lnk l).replaying = ns ∧ (d.lnk l).txFsn = x.txFsn)
      ∧ (x.replaying = [] → (431 ≤ x.held.length ∨ (x.txq = [] ∧ x.txPos = 0)) →
          fr.isNull = true ∧ fr.fsn = x.txFsn ∧ (d.lnk l).held = x.held ∧ (d.lnk l).txFsn = x.txFsn)
      ∧ (∀ p, x.replaying = [] → x.held.length < 431 → x.txq = [p] → x.txPos = 0 → p.len = 0 → x.sendable p = true →
          fr.isNull = false ∧ fr.fsn = x.txFsn ∧ (d.lnk l).txFsn = (x.txFsn + 1) % 4096 ∧ (d.lnk l).txq = [] ∧ (d.lnk l).held.length = x.held.length + 1
          ∧ (d.lnk l).txFrames = x.txFrames + 1)))
  ∧ (∀ (s : State) (l : LinkId) (x : Link) (h : TxFrame) (t : List TxFrame), l.ok = true → (s.dev.lst l).linked = true → x = s.dev.lnk l → x.held = h :: t →
    h.tries < s.dev.lrf l 0x804 8 4 →
    Completes (.replayTimeout l) s (fun d => d = s.clean.setLnk l (fun _ =>
      { x with held := { h with tries := h.tries + 1, sentAt := s.dev.now } :: t, replaying := x.held.map TxFrame.fsn, replays := x.replays + 1
               nakAck := some ((h.fsn + 4095) % 4096), nakAt := s.dev.now, nakTo := s.dev.lrf l 0x804 0 8 * 1000 })))
  ∧ (∀ (s : State) (l : LinkId) (limits : List Nat), l.ok = true → (s.dev.lst l).linked = true → (s.dev.lnk l).credited = false →
    Completes (.creditReceive l limits) s (fun d =>
      (d.lnk l).credited = true ∧ (∀ vc, vc < 4 → ((d.lnk l).txVc vc).limit = limits.getD vc 0 ∧ ((d.lnk l).txVc vc).out = ((s.dev.lnk l).txVc vc).out)
      ∧ d.lst l = s.dev.lst l ∧ d.regs = s.dev.regs
      ∧ (s.dev.lst l = .exchange → ∃ r, d.mgmtOf l = s.dev.mgmtOf l ++ [r] ∧ r.op = 1 ∧ r.again = false)
      ∧ (s.dev.lst l ≠ .exchange → d.mgmtOf l = s.dev.mgmtOf l)))
  ∧ (∀ (s : State) (n cause : Nat) (c : Instr), n < 4 → (c = .linkReset (.lane n) cause ∨ (c = .linkResetReceive (.lane n) ∧ cause = 7)) →
    (((s.dev.lane n).st.linked = true ∨ (s.dev.lane n).st = .training) →
      Completes c s (fun d => (d.lane n).st = .training ∧ (d.lane n).link = (s.dev.lane n).link.reset1 cause ∧ (d.lane n).mgmt = [] ∧ (d.lane n).authed = false
        ∧ bitOf (d.hdr pPEER).evtStat 8 = true ∧ (∀ m, m ≠ n → d.lane m = s.dev.lane m) ∧ d.ports = s.dev.ports ∧ d.mem = s.dev.mem))
    ∧ ((s.dev.lane n).st.linked = false → (s.dev.lane n).st ≠ .training → Completes c s (fun d => d = s.clean)))
  ∧ (∀ (s : State) (n cause : Nat) (c : Instr), n < 16 → (c = .linkReset (.port n) cause ∨ (c = .linkResetReceive (.port n) ∧ cause = 7)) →
    ((s.dev.port n).st = .up → s.dev.media.ops = [] → s.dev.valt.st ≠ .save →
      Completes c s (fun d => (d.port n).st = .training ∧ (d.port n).authed = false ∧ (d.port n).link.align = .search ∧ (d.port n).link.held = []
        ∧ (d.port n).link.credited = false ∧ (d.port n).link.resets = (s.dev.port n).link.resets + 1 ∧ bitOf (d.hdr (pSLK n)).evtStat 1 = true))
    ∧ ((s.dev.port n).st.linked = false → (s.dev.port n).st ≠ .training → Completes c s (fun d => d = s.clean)))
  ∧ (∀ (s : State) (l : LinkId) (t : Nat), l.ok = true → (s.dev.lst l).linked = true → (s.dev.lnk l).probeAt = t → (l.peer = false ∨ s.dev.peer.standby = false) →
    Completes (.echoReceive l t) s (fun d => (d.lnk l).rtt = s.dev.now - t
      ∧ (d.lnk l).txq = (s.dev.lnk l).txq ++ [ctlPkt 2 [s.dev.now + (s.dev.now - t) / 2]] ∧ d.lst l = s.dev.lst l ∧ d.regs = s.dev.regs))
  ∧ (∀ (s : State), Completes .linkTimeSync s (fun d => ∀ n, n < 16 →
      ((s.dev.port n).st = .up → (d.port n).link.txq = (s.dev.port n).link.txq ++ [ctlPkt 3 [s.dev.now], ctlPkt 2 [s.dev.now + (s.dev.port n).link.rtt / 2]])
      ∧ ((s.dev.port n).st ≠ .up → d.port n = s.dev.port n)))

/-- R192, R194, R200, R206 to R208, with R134, R151 and R214.  What is the model's own choice or reading here: log entries 42 and 60. -/
def Obligations.BurstsAndManagementAnswers : Prop :=
  (∀ (s : State) (n tag gen r ds us last bursts : Nat), n < 16 → tag < 65536 → (s.dev.port n).st.linked = true →
    (s.dev.op (n * 65536 + tag) = none ∨ (∃ o, s.dev.op (n * 65536 + tag) = some o ∧ (o.d.gen ≠ gen ∨ o.phase ≠ .sent))) →
    Completes (.completionReceive n tag gen r ds { us := us, last := last, bursts := bursts }) s (fun d =>
      (d.port n).stray = (s.dev.port n).stray + 1 ∧ (d.port n).st = (s.dev.port n).st ∧ d.media = s.dev.media ∧ d.regs = s.dev.regs))
  ∧ (∀ (s : State) (n tag gen r ds us last bursts seq mask fmt len got : Nat) (data : List Byte), n < 16 → tag < 65536 → (s.dev.port n).st.linked = false →
    Completes (.completionReceive n tag gen r ds { us := us, last := last, bursts := bursts }) s (fun d => d = s.clean.setLnk (.port n) (fun x => x.free (fun p => p.typ == 3)))
    ∧ Completes (.dataBurstReceive n tag seq mask fmt len got data) s (fun d => d = s.clean.setLnk (.port n) (fun x => x.free (fun p => p.typ == 2))))
  ∧ (∀ (s : State) (n tag ds us last bursts : Nat) (o : OpenOp), n < 16 → tag < 65536 → (s.dev.port n).st.linked = true →
    s.dev.op (n * 65536 + tag) = some o → o.phase = .sent →
    Completes (.completionReceive n tag o.d.gen 0 ds { us := us, last := last, bursts := bursts }) s (fun d =>
      (o.naks ≠ 0 → d.op (n * 65536 + tag) = some { o with phase := .held, result := 0, dieState := ds, arrayUs := us } ∧ d.regs = s.dev.regs)
      ∧ (o.naks = 0 → o.d.op = 1 → (∃ id, o.d.use = .sub id) → o.cwLost = 0 → s.dev.active = false → s.dev.valt.toSend = [] →
          s.dev.holdsSuspended (dieKey o.d.sled o.d.pos) = false → d.op (n * 65536 + tag) = some { o with phase := .decoding })))
  ∧ (∀ (s : State) (n tag seq mask fmt len got : Nat) (data : List Byte), n < 16 → tag < 65536 → (s.dev.port n).st.linked = true →
    (∀ o, s.dev.op (n * 65536 + tag) = some o → s.dev.holdsSuspended (dieKey n o.d.pos) = false) →
    Completes (.dataBurstReceive n tag seq mask fmt len got data) s (fun d =>
      (s.dev.op (n * 65536 + tag) = none → (d.port n).stray = (s.dev.port n).stray + 1 ∧ d.media = s.dev.media)
      ∧ (∀ o, s.dev.op (n * 65536 + tag) = some o → o.phase = .sent → burstOk len got mask fmt = true → (s.dev.port n).naks = [] → fmt = 0 → (∃ id, o.d.use = .sub id) →
          d.op (n * 65536 + tag) = some { o with cwGot := o.cwGot + popN 16 mask, zeros := if o.zeros < zeroBits data then zeroBits data else o.zeros })
      ∧ (∀ o, s.dev.op (n * 65536 + tag) = some o → o.phase = .sent → burstOk len got mask fmt = false →
          (d.port n).burstNakRx = (s.dev.port n).burstNakRx + 1
          ∧ ((s.dev.port n).naks = [] → (d.port n).naks = [{ tag := tag, seq := seq, tries := 1 }] ∧ d.op (n * 65536 + tag) = some { o with naks := o.naks + 1 }
              ∧ (d.port n).link.txq = (s.dev.port n).link.txq ++ [ctlPkt 5 [tag, seq, 1]])
          ∧ ((s.dev.port n).naks = [{ tag := tag, seq := seq, tries := 2 }] →
              (d.port n).burstFail = (s.dev.port n).burstFail + 1 ∧ (d.port n).naks = [] ∧ bitOf (d.hdr (pSLK n)).evtStat 4 = true))))
  ∧ (∀ (s : State) (n tag seq k : Nat) (o : OpenOp), n < 16 → tag < 65536 → s.dev.op (n * 65536 + tag) = some o →
    Completes (.burstNakReceive n tag seq k) s (fun d => (d.port n).burstNakTx = (s.dev.port n).burstNakTx + 1 ∧ d.media = s.dev.media
      ∧ (∀ p, k ≤ 2 → (s.dev.burstsOf o.d).find? (fun q => q.seq == seq) = some p → (d.port n).link.txq = (s.dev.port n).link.txq ++ [{ p with tag := tag }])
      ∧ (2 < k → (d.port n).link.txq = (s.dev.port n).link.txq ++ [ctlPkt 6 [tag]] ∧ (d.port n).burstFail = (s.dev.port n).burstFail + 1
          ∧ bitOf (d.hdr (pSLK n)).evtStat 4 = true)))
  ∧ (∀ (s : State) (l : LinkId) (op xid : Nat) (r : MgmtReq), l.ok = true → s.dev.mgmtReq l op xid = some r → r.again = false →
    Completes (.managementTimeout l op xid) s (fun d =>
      (∃ p, (d.lnk l).txq = (s.dev.lnk l).txq ++ [p] ∧ p.typ = 6 ∧ p.vc = 3 ∧ p.op = op ∧ p.tag = xid ∧ p.args = r.args ∧ p.data = r.data)
      ∧ d.mgmtReq l op xid = some { r with again := true } ∧ d.lst l = s.dev.lst l ∧ d.regs = s.dev.regs))
  ∧ (∀ (s : State) (n xid : Nat) (c : Cap), n < 16 → (s.dev.port n).st = .exchange → (s.dev.mgmtReq (.port n) 1 xid).isSome = true →
    Completes (.capResponse (.port n) xid c) s (fun d =>
      (c.refused = true → (d.port n).st = .refused ∧ bitOf (d.hdr (pSLK n)).evtStat 6 = true)
      ∧ (c.refused = false → c.owner = s.dev.cryp.pairId → c.owner ≠ 0 →
          (d.port n).st = .auth ∧ (d.port n).serial = c.serial ∧ (d.port n).verUsed = c.used ∧ (d.port n).nc.length ≤ 32
          ∧ ∃ r, r ∈ (d.port n).mgmt ∧ r.op = 3 ∧ r.data = (d.port n).nc)
      ∧ (c.refused = false → (c.owner ≠ s.dev.cryp.pairId ∨ c.owner = 0) → (c.owner ≠ 0 → s.dev.mayAdopt n true = false) →
          (c.owner = 0 → (s.dev.setPort n (fun x => { x with st := .unadopted, plc := c.plc })).mayAdopt n false = false) →
          (d.port n).st = (if c.owner = 0 then .unadopted else .foreign) ∧ bitOf (d.hdr (pSLK n)).evtStat 9 = true)))
  ∧ (∀ (s : State) (n xid status : Nat), n < 16 → (s.dev.mgmtReq (.port n) 4 xid).isSome = true →
    Completes (.adoptResponse n xid status) s (fun d =>
      (status ≠ 0 → (d.port n).adopting = false ∧ (d.port n).st = (s.dev.port n).st ∧ d.regs = s.dev.regs
          ∧ d.media = { s.dev.media with cutOff := s.dev.media.cutOff.del (s.dev.port n).serial })
      ∧ (status = 0 → (d.port n).st = .auth ∧ (d.port n).owner = s.dev.cryp.pairId ∧ (d.port n).adopting = false ∧ bitOf (d.hdr (pSLK n)).evtStat 8 = true)))
  ∧ (∀ (s : State) (n xid status : Nat) (mac nb : List Byte) (r : MgmtReq), n < 16 → (s.dev.port n).st = .auth → s.dev.mgmtReq (.port n) 3 xid = some r → r.args = [1] →
    (status ≠ 0 ∨ mac ≠ hmac384 (s.dev.authKey (.port n)) (ascii "KATRE1" ++ (s.dev.port n).nc ++ s.dev.farId (.port n))) →
    (s.dev.port n).authFails + 1 < s.dev.rf (pSLK n) 0x80C 16 8 →
    Completes (.authResponse (.port n) xid status mac nb) s (fun d =>
      (d.port n).st = .hold ∧ (d.port n).authFails = (s.dev.port n).authFails + 1 ∧ (d.port n).authFailCount = (s.dev.port n).authFailCount + 1
      ∧ bitOf (d.hdr (pSLK n)).evtStat 7 = true))
  ∧ (∀ (s : State) (n xid : Nat) (mac nb : List Byte) (r : MgmtReq), n < 4 → (s.dev.lane n).st = .auth → s.dev.mgmtReq (.lane n) 3 xid = some r →
    r.args ≠ [1] → Completes (.authResponse (.lane n) xid 0 mac nb) s (fun d => (d.lane n).st = .up ∧ (d.lane n).authed = true ∧ d.ports = s.dev.ports))
  ∧ (∀ (s : State) (n xid : Nat) (vs : List (List Int)) (r : MgmtReq), n < 16 → s.dev.mgmtReq (.port n) 8 xid = some r →
    Completes (.vtableResponse n xid 0 vs) s (fun d => d.regs = s.dev.regs
      ∧ (vs.length = 64 → (∀ v, v ∈ vs → v.length = readLevels (s.dev.sledPlc n)) → (d.die (dieKey n (r.args.headD 0))).vectors = vs)
      ∧ ((vs.length ≠ 64 ∨ ∃ v, v ∈ vs ∧ v.length ≠ readLevels (s.dev.sledPlc n)) →
          (d.die (dieKey n (r.args.headD 0))).vectors = Config.vectorTable (s.dev.sledPlc n))))
  ∧ (∀ (s : State) (n xid : Nat) (g : Geom) (bad : List Nat) (r : MgmtReq), n < 16 → s.dev.mgmtReq (.port n) 2 xid = some r → s.dev.active = false →
    Completes (.geomResponse n xid 0 g bad) s (fun d =>
      (d.die (dieKey n (r.args.headD 0))).geomRead = true ∧ (d.die (dieKey n (r.args.headD 0))).factoryBad = bad ∧ d.zone = s.dev.zone ∧ d.mem = s.dev.mem))
  ∧ (∀ (s : State) (n xid : Nat), n < 16 → (s.dev.mgmtReq (.port n) 5 xid).isSome = true → s.dev.valt.st ≠ .save →
    Completes (.releaseResponse n xid 0) s (fun d =>
      (d.port n).st = .unadopted ∧ (d.port n).owner = 0 ∧ (d.port n).kSled = [] ∧ (d.port n).token = 0 ∧ (d.media.sleds.find n) = none))
  ∧ (∀ (s : State) (sled pos k : Nat), sled < 16 → pos < 256 → k = dieKey sled pos → (s.dev.port sled).st = .up → (s.dev.die k).wait = .poll → s.dev.controlOps k = [] →
    (s.dev.port sled).vaulted = false → Completes (.dieStatusPoll sled pos) s (fun d =>
      d = s.clean.sendDesc { Desc.at_ sled pos 0 .status with op := 0x40 } s.dev.now))

/-- R202, R203, R205, R208, R211, R212 and R218. -/
def Obligations.PortsFollowSlotAndManager : Prop :=
  (∀ (s : State) (n : Nat) (rec : List Byte), n < 16 → (s.dev.port n).prsnt = false → (s.dev.portsRun = false ∨ s.dev.sysc.cur = .dormant) →
    Completes (.slotInsertion n rec) s (fun d => (d.port n).prsnt = true ∧ (d.port n).slotRec = rec ∧ (d.port n).st = (s.dev.port n).st))
  ∧ (∀ (s : State) (n : Nat) (rec : List Byte), n < 16 → (s.dev.port n).st = .empty → (s.dev.port n).prsnt = false → s.dev.portsRun = true → s.dev.sysc.cur ≠ .dormant →
    Completes (.slotInsertion n rec) s (fun d => (d.port n).prsnt = true ∧ bitOf (d.hdr (pSLK n)).evtStat 10 = true
      ∧ (s.dev.rf (pSLK n) 0x100 0 1 = 0 → (d.port n).st = .off)
      ∧ ((s.dev.sledRecord rec).1 = 2 → bitOf (d.hdr (pSLK n)).evtStat 14 = true)
      ∧ (s.dev.rf (pSLK n) 0x100 0 1 ≠ 0 → (s.dev.sledRecord rec).1 = 2 → (d.port n).st = .refused)
      ∧ (s.dev.rf (pSLK n) 0x100 0 1 ≠ 0 → (s.dev.sledRecord rec).1 ≠ 2 → (d.port n).st = .powering ∧ (d.port n).pwren = true)))
  ∧ (∀ (s : State) (n : Nat), n < 16 → (s.dev.port n).st ≠ .empty → s.dev.sysc.cur ≠ .dormant → s.dev.portsRun = true → s.dev.valt.st ≠ .save → s.dev.media.ops = [] →
    Completes (.sledRemoval n) s (fun d => (d.port n).st = .empty ∧ (d.port n).pwren = false ∧ (d.port n).prsnt = false ∧ bitOf (d.hdr (pSLK n)).evtStat 11 = true))
  ∧ (∀ (s : State) (n : Nat), n < 16 → (s.dev.port n).st ≠ .empty → s.dev.sysc.cur = .dormant →
    Completes (.sledRemoval n) s (fun d => (d.port n).gone = true ∧ (d.port n).pwren = false ∧ (d.port n).prsnt = false ∧ (d.port n).st = (s.dev.port n).st))
  ∧ (∀ (s : State) (n : Nat) (low : Bool), n < 16 → Completes (.slotAttnSample n low) s (fun d =>
      (low = false → d = s.clean.setPort n (fun x => { x with lows := 0 }))
      ∧ (low = true → (s.dev.port n).lows = 0 → d = s.clean.setPort n (fun x => { x with lows := 1 }))
      ∧ (low = true → (s.dev.port n).lows = 1 → (d.port n).button = true ∧ bitOf (d.hdr (pSLK n)).evtStat 12 = true
          ∧ Dev.RecordsOnly (s.clean.setPort n (fun x => { x with lows := 2, button := true })) d)))
  ∧ (∀ (s : State) (n master : Nat), n < 16 → master < 45 → s.dev.takesWrite (pSLK n) 0x100 → (s.dev.port n).prsnt = true →
    Completes (.portRetrain n { master := master, quiesce := false }) s (fun d =>
      ((s.dev.port n).st = .refused → (d.port n).st = .powering ∧ (d.port n).authFails = 0 ∧ (d.port n).link.capRate = 0)
      ∧ ((s.dev.port n).st = .hold → (d.port n).st = .training ∧ (d.port n).link.capRate = 0))
    ∧ Completes (.portRestore n master) s (fun d =>
        ((s.dev.port n).st = .off → s.dev.portsRun = true → (d.port n).st = .powering ∧ (d.port n).pwren = true) ∧ ((s.dev.port n).st ≠ .off → d = s.clean))
    ∧ Completes (.portEnableWrite n master true) s (fun d => bitOf (d.cell (pSLK n) 0x100) 0 = true
        ∧ ((s.dev.port n).st = .off → s.dev.portsRun = true → (d.port n).st = .powering ∧ (d.port n).pwren = true)
        ∧ ((s.dev.port n).st ≠ .off → d.ports = s.dev.ports))
    ∧ (s.dev.valt.st ≠ .save → Completes (.portEnableWrite n master false) s (fun d => bitOf (d.cell (pSLK n) 0x100) 0 = false
        ∧ (((s.dev.port n).st = .empty ∨ (s.dev.port n).st = .off) → d.ports = s.dev.ports)
        ∧ ((s.dev.port n).st = .hold → (d.port n).st = .off ∧ (d.port n).pwren = false))))
  ∧ (∀ (s : State) (n master : Nat), n < 16 → master < 45 → s.dev.takesWrite (pSLK n) 0x100 →
    let P : Dev → Prop := fun d =>
      ((s.dev.port n).st ≠ .up → d = s.clean)
      ∧ (∀ i m, (s.dev.port n).st = .up → s.dev.wouldLose n = some (i, m) → bitOf (d.hdr (pSLK n)).evtStat 13 = true ∧ Dev.RecordsOnly s.clean d)
      ∧ ((s.dev.port n).st = .up → s.dev.wouldLose n = none → (d.port n).st = .quiescing)
    Completes (.portQuiesce n master) s P ∧ Completes (.portRetrain n { master := master, quiesce := true }) s P)
  ∧ (∀ (s : State) (n : Nat), n < 16 → (s.dev.port n).st = .quiescing → s.dev.peer.pair = .unpaired → s.dev.valt.st ≠ .save → s.dev.media.ops = [] →
    let P : Dev → Prop := fun d => (d.port n).st = .off ∧ (d.port n).pwren = false ∧ d.rf (pSLK n) 0x10C 0 2 = 1
    Completes (.quiescedReceive n) s P ∧ Completes (.quiesceTimeout n) s P)
  ∧ (∀ (s : State) (n : Nat), n < 16 → Completes (.quiescedWaitExpiry n) s (fun d =>
      ((s.dev.port n).st = .off → (s.dev.port n).slotoffWait = true → s.dev.lanesUp = 0 →
        d.rf (pSLK n) 0x10C 0 2 = 1 ∧ d.ports = s.dev.ports.upd Port.reset n (fun x => { x with slotoffWait := false }))
      ∧ ((s.dev.port n).slotoffWait = false → d = s.clean)))
  ∧ (∀ (s : State) (lane xid slot : Nat), lane < 4 → slot < 16 → s.dev.media.ops = [] →
    Completes (.slotoffReceive lane xid slot) s (fun d =>
      (∃ q p, (d.lane lane).link.txq = (s.dev.lane lane).link.txq ++ q ++ [p] ∧ p.typ = 6 ∧ p.op = 0x14 ∧ p.tag = xid ∧ p.seq = 1 ∧ p.args = [0])
      ∧ ((s.dev.port slot).st ≠ .empty → (d.port slot).st = .off) ∧ ((s.dev.port slot).st ≠ .empty → (s.dev.port slot).st ≠ .off → (d.port slot).pwren = false)))
  ∧ (∀ (s : State) (lane xid : Nat) (r : MgmtReq), lane < 4 → s.dev.mgmtReq (.lane lane) 0x14 xid = some r → r.args.headD 0 < 16 →
    Completes (.slotoffResponse lane xid 0) s (fun d => d.rf (pSLK (r.args.headD 0)) 0x10C 0 2 = 1 ∧ (d.port (r.args.headD 0)).slotoffWait = false
      ∧ d.mgmtReq (.lane lane) 0x14 xid = none))
  ∧ (∀ (s : State) (n master : Nat), n < 16 → master < 45 → s.dev.takesWrite (pSLK n) 0x810 →
    Completes (.sledReleaseWrite n master) s (fun d =>
      (s.dev.nssOf n ≠ [] → bitOf (d.hdr (pSLK n)).evtStat 13 = true ∧ Dev.RecordsOnly s.clean d)
      ∧ (s.dev.nssOf n = [] → (s.dev.port n).st = .up → bitOf (d.cell (pSLK n) 0x810) 8 = true ∧ (d.port n).st = .up
          ∧ ∃ r, (d.port n).mgmt = (s.dev.port n).mgmt ++ [r] ∧ r.op = 5)))
  ∧ (∀ (s : State) (n : Nat), n < 16 → Completes (.programSettleTimeout n) s (fun d =>
      ((s.dev.port n).st = .up → d = s.clean) ∧ (d.port n).st = (s.dev.port n).st
      ∧ ((s.dev.port n).st ≠ .up → d.media.unconfirmed.all (fun e => e.1 / 2048 / 256 != n) = true ∧ d.media.readBacks.all (fun e => e.1 / 2048 / 256 != n) = true)))

/-! ## Protection, rebuild and the pair (R220 to R263) -/

/-- R222, R224, R226, R227, R231, R232, R234 and R240. -/
def Obligations.ParityJobsSlowSledsAndRebuild : Prop :=
  (∀ (s : State), Completes .prtyJobStart s (fun d =>
      (s.dev.firstJob = none → d = s.clean)
      ∧ (∀ n j, s.dev.firstJob = some (n, j) → s.dev.prty.running.bind s.dev.prty.jobs.find = none → d = { s.clean with prty := { s.dev.prty with running := some n } })
      ∧ (∀ n j i r, s.dev.firstJob = some (n, j) → s.dev.prty.running = some i → s.dev.prty.jobs.find i = some r →
          d = (if j.cls = 0 ∧ r.cls ≠ 0 then { s.clean with prty := { s.dev.prty with running := some n } } else s.clean))))
  ∧ (∀ (s : State) (n a u rs p q : Nat) (j : PJob) (m : Ns) (g : Group), s.dev.prty.running = some n → s.dev.prty.jobs.find n = some j → n < s.dev.prty.nextJob → j.kind = .fold a →
    (s.dev.area a).queued = true → (s.dev.area a).gen = (s.dev.zn (s.dev.area a).zone).gen → m = s.dev.zns (s.dev.area a).zone →
    rs = (s.dev.area a).unit / m.d → u = (s.dev.area a).unit % m.d → (s.dev.zn (s.dev.area a).zone).groupOf rs = some g →
    p = partAddr m.plc a 1 → q = partAddr m.plc a 2 →
    Completes .prtyJobEnd s (fun d =>
      (∀ i, i < m.unitBytes → d.byte (p + i) = (if u = 0 then s.dev.byte (partAddr m.plc a 0 + i) else s.dev.byte (p + i) ^^^ s.dev.byte (partAddr m.plc a 0 + i)))
      ∧ (∀ i, i < m.unitBytes → d.byte (q + i) = (if u = 0 then s.dev.byte (partAddr m.plc a 0 + i)
          else s.dev.byte (q + i) ^^^ BitVec.ofNat 8 (gfPow u (s.dev.byte (partAddr m.plc a 0 + i)).toNat)))
      ∧ d.prty.jobs.find n = none ∧ d.cell pPRTY 0x14C = s.dev.cell pPRTY 0x14C + 1))
  ∧ (∀ (s : State) (n i : Nat) (j : PJob) (r : Recon), s.dev.prty.running = some n → s.dev.prty.jobs.find n = some j → j.kind = .recon i →
    s.dev.sched.recons.find i = some r → r.dead = true →
    Completes .prtyJobEnd s (fun d => d = ((s.clean.endPJob n).count pSCHD 0x1B4 1).reapRecon i))
  ∧ (∀ (s : State), Completes .slowWindowTick s (fun d => ∀ n, n < 16 →
      let c := s.dev.slowCount n
      let calm := if c ≤ s.dev.rf pPRTY 0x120 0 16 / 4 then s.dev.prty.calm.get 0 n + 1 else 0
      d.prty.calm.get 0 n = calm
      ∧ (hasBit s.dev.prty.demoted n = false → hasBit d.prty.demoted n = (bitOf (s.dev.cell pPRTY 0x128) n || decide (s.dev.rf pPRTY 0x120 0 16 ≤ c)))
      ∧ (hasBit s.dev.prty.demoted n = true → hasBit d.prty.demoted n = (bitOf (s.dev.cell pPRTY 0x128) n || decide (calm < s.dev.rf pPRTY 0x120 24 8)))))
  ∧ (∀ (s : State) (slot master : Nat), slot < 16 → master < 45 → s.dev.takesWrite pPRTY 0x104 → s.dev.powr.entry ≠ .prepare →
    Completes (.replaceStart slot master) s (fun d =>
      ((s.dev.sysc.cur = .standalone ∨ s.dev.sysc.cur = .partitioned) →
        d.sysc.cur = .service ∧ d.sysc.ret = some s.dev.sysc.cur ∧ d.sysc.service = some .replacement ∧ d.prty.replace = some { slot := slot, started := s.dev.now })
      ∧ (s.dev.sysc.cur = .service → d.sysc.epochResult = 5 ∧ bitOf (d.hdr pSYSC).evtStat 2 = true ∧ d.prty = s.dev.prty ∧ d.sysc.cur = .service)
      ∧ (s.dev.sysc.cur ≠ .standalone → s.dev.sysc.cur ≠ .partitioned → s.dev.sysc.cur ≠ .service →
          d.sysc.epochResult = 6 ∧ bitOf (d.hdr pSYSC).evtStat 2 = true ∧ d.prty = s.dev.prty)))
  ∧ (∀ (s : State), Completes .replaceWaitExpiry s (fun d =>
      ((s.dev.prty.replace = none ∨ s.dev.sysc.service ≠ some .replacement) → d = s.clean)
      ∧ (∀ r, s.dev.prty.replace = some r → s.dev.sysc.service = some .replacement → d.prty.replace = none ∧ d.sysc.service = none ∧ d.sysc.ret = none
          ∧ d.sysc.cur = s.dev.sysc.ret.getD .standalone ∧ bitOf (d.hdr pPRTY).evtStat 5 = true)))
  ∧ (∀ (s : State), Completes .rebuildRow s (fun d =>
      ((s.dev.prty.rebuild = none ∨ s.dev.rf pPRTY 0x100 0 8 = 0 ∨ (∃ r, s.dev.prty.rebuild = some r ∧ (s.dev.port r.target.sled).st ≠ .up)) → d = s.clean)
      ∧ (∀ r, s.dev.prty.rebuild = some r → s.dev.rf pPRTY 0x100 0 8 ≠ 0 → (s.dev.port r.target.sled).st = .up → s.dev.valt.st = .idle →
          (r.busy = false → s.dev.nssOf r.target.sled = [] → s.dev.prty.targets = [] → d.prty.rebuild = none ∧ bitOf (d.hdr pPRTY).evtStat 1 = true)
          ∧ (∀ e x z gi g b, e = s.clean.rebuildCheck → e.prty.rebuild = some x → x.busy = false → e.nextGroup x.target.sled = some (z, gi) →
              e.looseIn x.target.sled z gi = none → (e.zn z).groups[gi]? = some g → g.blockOn x.target.sled = 0x1FFF →
              e.pickBlock z (dieKey x.target.sled g.pos) e.sysc.epoch = some b →
              (d.blk (dieKey x.target.sled g.pos * 2048 + b)).st = .allocated ∧ ∃ y last, d.prty.rebuild = some y ∧ y.cur = some (z, gi, gi * 768, last) ∧ y.busy = false))))

/-- R50, R245, R247, R249, R253 and R254.  What is the model's own choice or reading here: log entry 14. -/
def Obligations.HeartbeatsKeepThePair : Prop :=
  (∀ (s : State), Completes .heartbeatSend s (fun d => d.peer.hbCount = (s.dev.peer.hbCount + 1) % 4294967296 ∧ d.ports = s.dev.ports ∧ d.regs = s.dev.regs
      ∧ ∀ n, n < 4 → ((s.dev.lane n).st = .up → (d.lane n).st = .up ∧ (d.lane n).link.txq = (s.dev.lane n).link.txq ++
            [ctlPkt 0x0A [s.dev.sysc.cur.code, s.dev.peer.pair.code, if s.dev.peer.standby then 1 else 0, if s.dev.host.act != .idle then 1 else 0,
              (s.dev.peer.hbCount + 1) % 4294967296]])
          ∧ ((s.dev.lane n).st ≠ .up → d.lane n = s.dev.lane n)))
  ∧ (∀ (s : State) (lane mode pair role count : Nat) (hold : Bool), lane < 4 →
    Completes (.heartbeatReceive lane mode pair role hold count) s (fun d =>
      (((s.dev.lane lane).st ≠ .up ∨ s.dev.peer.pair = .unpaired) → d.peer.pair = s.dev.peer.pair ∧ d.peer.lastHb = s.dev.peer.lastHb ∧ d.regs = s.dev.regs)
      ∧ ((s.dev.lane lane).st = .up → s.dev.peer.pair ≠ .unpaired → d.peer.lastHb = s.dev.now ∧ d.peer.peerMode = mode % 8 ∧ d.peer.peerHold = hold
          ∧ (s.dev.peer.standby = false → role % 2 = 1 → hold = false → pair % 4 = 1 → s.dev.peer.pair = .solo → s.dev.active = true →
              d.peer.pair = .resync ∧ bitOf (d.hdr pPEER).evtStat 0 = true)
          ∧ (s.dev.peer.standby = true → role % 2 = 0 → pair % 4 = 3 → s.dev.peer.taking = none → d.peer.pair = .mirrored ∧ d.peer.wasMirrored = true))))
  ∧ (∀ (s : State), Completes .heartbeatTimeout s (fun d =>
      (s.dev.peer.pair = .unpaired → d = s.clean)
      ∧ (s.dev.peer.pair = .solo → s.dev.peer.taking = none → d = { s.clean with peer := { s.dev.peer with peerMode := 7 } })
      ∧ ((s.dev.peer.pair = .mirrored ∨ s.dev.peer.pair = .resync) → s.dev.peer.taking = none → s.dev.peer.standby = false → s.dev.peer.handover = none →
          d.peer.pair = .solo ∧ d.peer.peerMode = 7 ∧ bitOf (d.hdr pPEER).evtStat 1 = true)
      ∧ (s.dev.peer.pair = .mirrored → s.dev.peer.taking = none → s.dev.peer.standby = true →
          d.peer.pair = .solo ∧ d.peer.checking = s.dev.peer.wasMirrored ∧ d.peer.lostAt = s.dev.now ∧ bitOf (d.hdr pPEER).evtStat 1 = true)))
  ∧ (∀ (s : State) (lane ms : Nat), lane < 4 → Completes (.holdoffReceive lane ms) s (fun d =>
      d.peer.holdMs = (if (s.dev.lane lane).st = .up ∧ s.dev.peer.standby = true then ms else s.dev.peer.holdMs) ∧ d.regs = s.dev.regs ∧ d.ports = s.dev.ports))
  ∧ (∀ (s : State), Completes .peerTimeSync s (fun d =>
      ((s.dev.peer.standby = true ∨ s.dev.paired = false) → d = s.clean)
      ∧ (∀ n, n < 4 → s.dev.peer.standby = false → s.dev.paired = true → (s.dev.lane n).st = .up → (∀ m, m < n → (s.dev.lane m).st ≠ .up) →
          (d.lane n).link.txq = (s.dev.lane n).link.txq ++ [ctlPkt 3 [s.dev.now], ctlPkt 2 [s.dev.now + (s.dev.lane n).link.rtt / 2]]
          ∧ ∀ m, m ≠ n → d.lane m = s.dev.lane m)))
  ∧ (∀ (s : State) (lane t : Nat), lane < 4 → (s.dev.lane lane).st = .up → s.dev.peer.standby = true →
    Completes (.peerProbeReceive lane t) s (fun d => (d.lane lane).link.txq = (s.dev.lane lane).link.txq ++ [ctlPkt 4 [t]] ∧ d.regs = s.dev.regs))
  ∧ (∀ (s : State) (lane t : Nat), lane < 4 → (s.dev.lane lane).st = .up → s.dev.peer.standby = true →
    Completes (.peerTimeReceive lane t) s (fun d => d.peer.timeOfs = (s.dev.now : Int) - (t : Int)
      ∧ (t < s.dev.now → d.slew < 0) ∧ (s.dev.now < t → 0 < d.slew) ∧ (s.dev.now = t → d.slew = 0)
      ∧ (200 < ((s.dev.now : Int) - (t : Int)).natAbs → bitOf (d.hdr pPEER).evtStat 7 = true) ∧ d.sysc.time = s.dev.sysc.time ∧ d.peer.pair = s.dev.peer.pair))

/-- R243, R244, R246, R251 to R253 and R410.  What is the model's own choice or reading here: log entry 40. -/
def Obligations.SeriesLeasesAndTakeover : Prop :=
  (∀ (s : State) (lane psn area off blocks zg : Nat) (data : List Byte), lane < 4 → off < 16777216 → (s.dev.lane lane).st = .up → s.dev.peer.standby = true →
    s.dev.peer.early = [] → s.dev.peer.rxPsn < 4294967296 → area < 8192 →
    Completes (.mirrorReceive lane psn area off blocks zg data) s (fun d =>
      (psn = s.dev.peer.rxPsn → d.peer.rxPsn = (psn + 1) % 4294967296 ∧ d.peer.early = []
        ∧ (∀ i b, (data.take (4096 * blocks))[i]? = some b → d.byte (areaBase area + off + i) = b)
        ∧ (∀ k, (k < areaBase area + off ∨ areaBase area + off + (data.take (4096 * blocks)).length ≤ k) → d.byte k = s.dev.byte k)
        ∧ ∃ p, (d.lane lane).link.txq = (s.dev.lane lane).link.txq ++ [p] ∧ p.typ = 11 ∧ p.tag = psn)
      ∧ (psn < 4294967296 → 2147483648 ≤ (psn + 4294967296 - s.dev.peer.rxPsn) % 4294967296 → d.mem = s.dev.mem ∧ d.peer.rxPsn = s.dev.peer.rxPsn)))
  ∧ (∀ (s : State) (lane a u rs zg zone nsid : Nat), lane < 4 → zone < 16777216 → (s.dev.lane lane).st = .up → s.dev.peer.standby = true → s.dev.peer.early = [] →
    a < 8191 →
    Completes (.rowevtReceive lane s.dev.peer.rxPsn a 0 u rs zg zone nsid) s (fun d =>
      (d.area a).st = .filling ∧ (d.area a).zone = zoneKey nsid zone ∧ (d.area a).gen = zg ∧ (d.zn (zoneKey nsid zone)).area = some a ∧ d.mem = s.dev.mem)
    ∧ Completes (.rowevtReceive lane s.dev.peer.rxPsn a 7 u rs zg zone nsid) s (fun d => d.area a = Area.reset ∧ d.mem = s.dev.mem))
  ∧ (∀ (s : State) (lane : Nat) (recs : List JRec) (gone : List Nat), lane < 4 → (s.dev.lane lane).st = .up → s.dev.peer.standby = true → s.dev.peer.early = [] →
    Completes (.journalReceive lane s.dev.peer.rxPsn recs none) s (fun d =>
      d.peer.rxPsn = (s.dev.peer.rxPsn + 1) % 4294967296 ∧ lastSeq recs ≤ d.valt.nextSeq ∧ d.mem = s.dev.mem)
    ∧ Completes (.keysReceive lane (some s.dev.peer.rxPsn) false gone []) s (fun d =>
      d.peer.rxPsn = (s.dev.peer.rxPsn + 1) % 4294967296 ∧ ∀ n e, n ∈ gone → e ∈ d.cryp.slots → e.2.nsid = n → e.2.st = .empty))
  ∧ (∀ (s : State) (lane psn k : Nat), lane < 4 → (s.dev.lane lane).st = .up → s.dev.peer.unacked.any (fun e => e.psn == psn) = true →
    k = s.dev.peer.unacked.findIdx (fun e => e.psn == psn) + 1 → s.dev.cryp.san = none →
    Completes (.peerAckReceive lane psn) s (fun d =>
      d.peer.unacked = s.dev.peer.unacked.drop k ∧ d.peer.txAcked = s.dev.peer.txAcked + u32 k
      ∧ (s.dev.peer.pair = .resync → (s.dev.peer.unacked.drop k).all (fun e => e.psn != s.dev.peer.resyncPsn) = true → d.peer.pair = .mirrored)
      ∧ (s.dev.peer.pair ≠ .resync → d.peer.pair = s.dev.peer.pair)))
  ∧ (∀ (s : State) (psn n : Nat) (e : PsnPkt), s.dev.peer.unacked.find? (fun x => x.psn == psn) = some e → s.dev.upLane e.pkt.vc = some n →
    Completes (.psnResend psn) s (fun d => d.peer.resends = s.dev.peer.resends + 1 ∧ (d.lane n).link.txq = (s.dev.lane n).link.txq ++ [e.pkt]
      ∧ d.peer.unacked.map PsnPkt.psn = s.dev.peer.unacked.map PsnPkt.psn))
  ∧ (∀ (s : State), Completes .leaseRenew s (fun d =>
      ((s.dev.active = false ∨ s.dev.peer.handover = some .sent) → d = s.clean)
      ∧ (∀ n, s.dev.active = true → s.dev.peer.handover ≠ some .sent →
          (n ∈ s.dev.reachedSleds → s.dev.holdsSled n = true → ∃ l, l ≠ [] ∧ (d.port n).mgmt = (s.dev.port n).mgmt ++ l ∧ ∀ r ∈ l, r.op = 6 ∧ r.args = [2])
          ∧ ((n ∉ s.dev.reachedSleds ∨ s.dev.holdsSled n = false) → d.port n = s.dev.port n))))
  ∧ (∀ (s : State) (n xid status token age : Nat) (here : Bool) (r : MgmtReq), n < 16 → s.dev.mgmtReq (.port n) 6 xid = some r →
    Completes (.fenceResponse n xid status token age here) s (fun d =>
      (r.args.headD 0 = 0 → status = 0 → s.dev.valt.st ≠ .save → (d.port n).token = token ∧ d.peer.leases.find n = some age
        ∧ (s.dev.active = true → token % 256 ≠ s.dev.peer.index → hasBit s.dev.peer.fenceLost n = false →
            hasBit d.peer.fenceLost n = true ∧ bitOf (d.hdr pPEER).evtStat 4 = true))
      ∧ (r.args.headD 0 = 2 → status = 2 → ∃ q, q ∈ (d.port n).mgmt ∧ q.op = 6 ∧ q.args = [0])
      ∧ (r.args.headD 0 = 1 → status = 0 → (∃ m rest, s.dev.peer.fencing = n :: m :: rest ∧ m ≠ n) →
          (d.port n).token = s.dev.nextToken n ∧ d.peer.won = s.dev.peer.won ++ [n] ∧ n ∉ d.peer.fencing)))
  ∧ (∀ (s : State) (toUs stale : Nat), toUs = (s.dev.rf pPEER 0x804 16 8 + s.dev.peer.holdMs) * 1000 →
    stale = (s.dev.adoptedSleds.filter (fun n => match s.dev.peer.leases.find n with | some a => decide (toUs ≤ a) | none => false)).length →
    Completes .takeoverLeaseCheck s (fun d =>
      (s.dev.peer.taking = none → s.dev.peer.checking = false → d = s.clean)
      ∧ (s.dev.peer.taking = none → s.dev.peer.checking = true → s.dev.sysc.cur = .peerStandby →
          (s.dev.adoptedSleds.length < 2 * stale → s.dev.reachedSleds ≠ [] → d.peer.taking = some (.auto, s.dev.now))
          ∧ (2 * stale ≤ s.dev.adoptedSleds.length → s.dev.now < s.dev.peer.lostAt + toUs * 1000 → d = s.clean.readLeases)
          ∧ (2 * stale ≤ s.dev.adoptedSleds.length → s.dev.peer.lostAt + toUs * 1000 ≤ s.dev.now →
              d.peer.checking = false ∧ d.peer.taking = none ∧ bitOf (d.hdr pPEER).evtStat 3 = true))))
  ∧ (∀ (s : State) (master : Nat), master < 45 → s.dev.takesWrite pPEER 0x100 → Completes (.forceTakeover master) s (fun d =>
      (s.dev.sysc.cur ≠ .peerStandby → d.sysc.epochResult = 6 ∧ bitOf (d.hdr pSYSC).evtStat 2 = true ∧ d.peer = s.dev.peer ∧ d.sysc.cur = s.dev.sysc.cur)
      ∧ (s.dev.sysc.cur = .peerStandby → s.dev.peer.taking ≠ none → d = s.clean)
      ∧ (s.dev.sysc.cur = .peerStandby → s.dev.peer.taking = none → s.dev.reachedSleds ≠ [] → d.peer.taking = some (.forced, s.dev.now) ∧ d.peer.fencing = s.dev.reachedSleds)))

/-- R247, R257, R262 and R407 to R409.  What is the model's own choice or reading here: log entry 10. -/
def Obligations.HandoverAndPairing : Prop :=
  (∀ (s : State) (up : Bool) (master : Nat), master < 45 → s.dev.takesWrite pPEER 0x100 → s.dev.powr.entry ≠ .prepare →
    Completes (.handoverStart up master) s (fun d =>
      (s.dev.sysc.cur = .service → d.sysc.epochResult = 5 ∧ d.peer = s.dev.peer)
      ∧ (s.dev.sysc.cur ≠ .standalone → s.dev.sysc.cur ≠ .partitioned → s.dev.sysc.cur ≠ .service → d.sysc.epochResult = 6 ∧ d.peer = s.dev.peer)
      ∧ ((s.dev.sysc.cur = .standalone ∨ s.dev.sysc.cur = .partitioned) →
          ((s.dev.peer.pair ≠ .mirrored ∨ up = false) → d.sysc.epochResult = 6 ∧ bitOf (d.hdr pPEER).evtStat 6 = true ∧ d.peer = s.dev.peer)
          ∧ (s.dev.peer.pair = .mirrored → up = true → d.peer.handover = some .draining ∧ d.peer.handoverAt = s.dev.now ∧ d.sysc.cur = .service
              ∧ d.sysc.ret = some s.dev.sysc.cur))))
  ∧ (∀ (s : State) (n : Nat), s.dev.peer.handover = some .draining → s.dev.lowLane = some n → Completes .handoverSend s (fun d =>
      ((s.dev.toDrain = [] ∨ s.dev.peer.handoverAt + 200000000 ≤ s.dev.now) → s.dev.peer.unacked = [] →
        d.peer.handover = some .sent ∧ ∃ r, (d.lane n).mgmt = (s.dev.lane n).mgmt ++ [r] ∧ r.op = 0x11)
      ∧ (s.dev.peer.unacked ≠ [] → d = s.clean) ∧ (s.dev.toDrain ≠ [] → s.dev.now < s.dev.peer.handoverAt + 200000000 → d = s.clean)))
  ∧ (∀ (s : State) (lane xid : Nat), lane < 4 →
    (s.dev.peer.standby = true → (s.dev.lane lane).st = .up → s.dev.sysc.cur = .peerStandby → s.dev.peer.taking = none → s.dev.reachedSleds ≠ [] →
      Completes (.handoverReceive lane xid) s (fun d => d.peer.taking = some (.planned, s.dev.now) ∧ d.peer.fencing = s.dev.reachedSleds
        ∧ ∃ p, (d.lane lane).link.txq = (s.dev.lane lane).link.txq ++ [p] ∧ p.op = 0x11 ∧ p.tag = xid ∧ p.seq = 1 ∧ p.args = [0]))
    ∧ (s.dev.peer.standby = false → (s.dev.mgmtReq (.lane lane) 0x11 xid).isSome = true → s.dev.peer.handover = some .sent →
      Completes (.handoverReceive lane xid) s (fun d => d.peer.standby = true ∧ d.peer.handover = none ∧ d.sysc.cur = .peerStandby ∧ d.sysc.base = some .peerStandby
        ∧ ∀ i n, d.ns i = some n → n.attached = [])))
  ∧ (∀ (s : State) (master : Nat) (give : Bool) (c : Instr), master < 45 → s.dev.takesWrite pCRYP 0x830 → s.dev.powr.entry ≠ .prepare →
    (c = .pairGive master ∧ give = true ∨ c = .pairTake master ∧ give = false) → Completes c s (fun d =>
      (s.dev.sysc.cur = .service → d.sysc.epochResult = 5 ∧ d.cryp = s.dev.cryp)
      ∧ (s.dev.sysc.cur ≠ .service → s.dev.cryp.pairCode = none → d = s.clean)
      ∧ (s.dev.sysc.cur ≠ .service → s.dev.cryp.pairCode ≠ none →
          d.cryp = { s.dev.cryp with give := give, take := !give, pairPhase := .exchanging, pairResult := 0 })))
  ∧ (∀ (s : State) (lane xid pairId giver : Nat) (w : List Byte), lane < 4 → (s.dev.lane lane).st = .up →
    Completes (.pairReceive lane xid pairId giver w) s (fun d =>
      (s.dev.cryp.take = false → d.cryp = s.dev.cryp ∧ ∃ p, (d.lane lane).link.txq = (s.dev.lane lane).link.txq ++ [p] ∧ p.op = 0x12 ∧ p.tag = xid ∧ p.args = [2])
      ∧ (∀ k, s.dev.pairing = true → s.dev.cryp.take = true → s.dev.zone.nss = [] → s.dev.adoptedSleds = [] →
          Config.unwrap ((s.dev.kPcOf (s.dev.lane lane).peerSerial).take 32) stdIv (fitBytes 40 w) = some k →
          d.cryp.kPair = fitBytes 32 k ∧ d.cryp.pairId = pairId ∧ d.cryp.pairCode = none ∧ d.cryp.pairResult = 1 ∧ d.peer.index = (giver + 1) % 2
          ∧ d.peer.pair = .solo ∧ d.sysc.base = some .peerStandby)))
  ∧ (∀ (s : State) (lane xid status : Nat), lane < 4 → (s.dev.mgmtReq (.lane lane) 0x12 xid).isSome = true →
    Completes (.pairResponse lane xid status) s (fun d => d.cryp.pairCode = none
      ∧ (status = 0 → d.peer.pair = .solo ∧ d.peer.keysDue = true ∧ d.cryp.pairResult = 1)
      ∧ (status ≠ 0 → d.peer.pair = s.dev.peer.pair ∧ d.cryp.pairResult = 2 ∧ bitOf (d.hdr pCRYP).evtStat 2 = true)))
  ∧ (∀ (s : State) (master : Nat), master < 45 → s.dev.takesWrite pCRYP 0x830 → s.dev.powr.entry ≠ .prepare →
    Completes (.unpair master) s (fun d => d.peer.pair = .unpaired ∧ (∀ n, n < 4 → (d.lane n).st = .off)
      ∧ (s.dev.sysc.cur = .peerStandby → d.cryp.kPair = List.replicate 32 0 ∧ d.cryp.pairId = 0 ∧ d.sysc.base = none)
      ∧ (s.dev.sysc.cur ≠ .peerStandby → d.cryp.kPair = s.dev.cryp.kPair ∧ d.cryp.pairId = s.dev.cryp.pairId)))
  ∧ (∀ (s : State), Completes .pairCodeExpiry s (fun d =>
      (s.dev.cryp.pairCode = none → d = s.clean)
      ∧ (s.dev.cryp.pairCode ≠ none → d.cryp.pairCode = none ∧ d.cryp.pairPhase = .idle
          ∧ (s.dev.cryp.pairPhase = .exchanging → d.cryp.pairResult = 3 ∧ bitOf (d.hdr pCRYP).evtStat 2 = true)
          ∧ (s.dev.cryp.pairPhase ≠ .exchanging → d.cryp.pairResult = s.dev.cryp.pairResult ∧ d.regs = s.dev.regs))))
  ∧ (∀ (s : State) (master : Nat), master < 45 → s.dev.takesWrite pPEER 0x100 →
    Completes (.peerEnableWrite false master) s (fun d => bitOf (d.cell pPEER 0x100) 0 = false
      ∧ (bitOf (s.dev.cell pPEER 0x100) 0 = true → d.peer.pair = .unpaired ∧ ∀ n, n < 4 → (d.lane n).st = .off))
    ∧ Completes (.peerEnableWrite true master) s (fun d => bitOf (d.cell pPEER 0x100) 0 = true
      ∧ (bitOf (s.dev.cell pPEER 0x100) 0 = false → ∀ n, n < 4 → (d.lane n).st = .training)
      ∧ (bitOf (s.dev.cell pPEER 0x100) 0 = true → d.peer = s.dev.peer)))

/-! ## Vault and journal (R264 to R292) -/

/-- R264 to R267, R270, R272, R273 and R289.  That a rise of HOLDUP_OK stands for the 10 ms of R266 is the command's own meaning.
What is the model's own choice or reading here: log entries 43 and 64. -/
def Obligations.PowerFailSequence : Prop :=
  (∀ (s : State), (s.dev.sysc.cur = .standalone ∨ s.dev.sysc.cur = .partitioned ∨ s.dev.sysc.cur = .service) → Completes .pfailAccept s (fun d =>
      d.valt.pfailLow = true ∧ d.fsto.pfail = true
      ∧ (s.dev.valt.st = .idle → s.dev.host.recovered = true →
          d.valt.st = .freeze ∧ d.valt.cause = 0 ∧ d.valt.byPfail = true ∧ d.valt.accepted = s.dev.now ∧ d.valt.thenReset = none ∧ d.host.stopped = true
          ∧ d.valt.image = s.dev.valt.image ∧ d.zone = s.dev.zone ∧ d.media = s.dev.media ∧ d.sysc.busy = false ∧ d.powr.entry = .none)
      ∧ (s.dev.valt.st = .idle → s.dev.host.recovered = false →
          d.valt = { s.dev.valt with st := .halt, byPfail := true, pfailLow := true } ∧ d.media = s.dev.media ∧ d.mem = s.dev.mem)
      ∧ ((s.dev.valt.st = .freeze ∨ s.dev.valt.st = .save ∨ s.dev.valt.st = .seal) →
          d.valt = { s.dev.valt with byPfail := true, cause := 0, pfailLow := true } ∧ d.mem = s.dev.mem)
      ∧ (s.dev.valt.st = .parked → s.dev.powr.entry ≠ .waking → d.valt = { s.dev.valt with pfailLow := true } ∧ d.mem = s.dev.mem)))
  ∧ (∀ (s : State), Completes .pfailAccept s (fun d =>
      (s.dev.sysc.cur = .recovery → s.dev.powr.phase = .running → d = { s.clean with valt := { s.dev.valt with pfailLow := true }, fsto := { s.dev.fsto with pfail := true } })
      ∧ (s.dev.sysc.cur = .dormant → s.dev.powr.entry ≠ .waking → d.valt = { s.dev.valt with pfailLow := true } ∧ d.fsto.pfail = true ∧ d.sysc = s.dev.sysc
          ∧ d.ports = s.dev.ports ∧ d.media = s.dev.media ∧ d.mem = s.dev.mem ∧ (s.dev.evntUp = false → ∃ e, d.fsto.held = s.dev.fsto.held ++ [e]))
      ∧ (s.dev.sysc.cur = .peerStandby → s.dev.valt.st = .idle → d.valt = { s.dev.valt with pfailLow := true, st := .halt, byPfail := true }
          ∧ d.ports = s.dev.ports ∧ d.media = s.dev.media ∧ d.mem = s.dev.mem ∧ ∀ n, n < 4 → (d.lane n).st = .off)))
  ∧ (∀ (s : State), Completes .vaultSnapshotDone s (fun d =>
      (s.dev.valt.st ≠ .freeze → d = s.clean)
      ∧ (s.dev.valt.st = .freeze → 4 ≤ s.dev.vaultBudget.1.length → s.dev.valt.left = [] → s.dev.valt.confirmed = [] → s.dev.poolReady →
          d.valt.st = .save ∧ d.valt.set = s.dev.vaultBudget.1 ∧ d.valt.segs = 1025 + s.dev.vaultExtents.length
          ∧ d.valt.rows = ceilDiv (1025 + s.dev.vaultExtents.length) (s.dev.vaultBudget.1.length - 2)
          ∧ ∃ im, d.valt.image = some im ∧ im.sealed = false ∧ im.set = s.dev.vaultBudget.1 ∧ im.cause = s.dev.valt.cause ∧ im.mem = s.dev.mem ∧ im.areas = s.dev.zone.areas
            ∧ im.tokens = (List.range 16).map (fun n => (s.dev.port n).token) ∧ im.ring = s.dev.valt.ring
            ∧ ∀ o, s.dev.valt.image = some o → o.num < im.num)
      ∧ (s.dev.valt.st = .freeze → s.dev.vaultBudget.1.length < 4 → s.dev.valt.byPfail = true → d.valt.st = .halt ∧ d.valt.last = 2)))
  ∧ (∀ (s : State), Completes .pfailNRise s (fun d =>
      d.valt.st = s.dev.valt.st ∧ d.valt.pfailLow = false ∧ d.media = s.dev.media ∧ d.regs = s.dev.regs
      ∧ ((s.dev.valt.st = .freeze ∨ s.dev.valt.st = .save ∨ s.dev.valt.st = .seal) → s.dev.valt.byPfail = true → s.dev.valt.rose = false →
          d.valt.rose = true ∧ d.valt.roseMs = satAt 255 ((s.dev.now - s.dev.valt.accepted) / 1000000))
      ∧ (s.dev.valt.rose = true → d.valt.rose = true ∧ d.valt.roseMs = s.dev.valt.roseMs)))
  ∧ (∀ (s : State), Completes .haltRelease s (fun d =>
      ((s.dev.valt.st ≠ .halt ∨ s.dev.valt.pfailLow = true) → d = s.clean)
      ∧ (s.dev.valt.st = .halt → s.dev.valt.pfailLow = false → d.sysc.straps = s.dev.sysc.straps ∧ d.host.recovered = false ∧ d.valt.st = .idle
          ∧ d.clkr.pwrCycles = s.dev.clkr.pwrCycles ∧ d.clkr.opHours = s.dev.clkr.opHours ∧ d.valt.image = s.dev.valt.image ∧ d.zone = Dev.reset.zone
          ∧ (d.powr.phase = .starting ∨ d.sysc.cur = .recovery ∧ d.powr.phase = .rom)
          ∧ (bitOf s.dev.sysc.straps 3 = true → s.dev.valt.thenReset = none → d.sysc.cur = .recovery ∧ d.clkr.cause = 4 ∧ d.clkr.warmResets = (s.dev.clkr.warmResets + 1) % 2 ^ 32))))
  ∧ (∀ (s : State), Completes (.holdupOkChange true) s (fun d => d.valt.holdup = true ∧ d.valt.stageOk = true ∧ d.valt.holdupAt = s.dev.now ∧ d.media = s.dev.media)
    ∧ Completes (.holdupOkChange false) s (fun d =>
      (s.dev.valt.holdup = false → d = s.clean)
      ∧ (s.dev.valt.holdup = true → d.valt.holdup = false ∧ d.valt.stageOk = false ∧ bitOf (d.hdr pVALT).evtStat 3 = true ∧ d.zone = s.dev.zone ∧ d.mem = s.dev.mem)))

/-- R280, R281, R283, R285, R286 and R290.  What is the model's own choice or reading here: log entry 44. -/
def Obligations.JournalAndCheckpoints : Prop :=
  (∀ (s : State) (bs : List Nat) (first : Nat), s.dev.journalRuns = true → s.dev.valt.triples.getLast? = some (bs, first) → bs.length = 3 → bs.Nodup →
    (∀ b, b ∈ bs → (s.dev.blk b).confirmed < 768) → (Completes (.journalPageWrite []) s (fun d =>
      let due := 65536 ≤ s.dev.valt.ringBytes ∨ ∃ r, s.dev.valt.ring.head? = some r ∧ r.at_ + s.dev.rf pVALT 0x800 0 16 * 1000 ≤ s.dev.now
      (¬ due → d = s.clean)
      ∧ (due → ∃ n pads, n ≤ s.dev.valt.ring.length ∧ (∃ more, d.valt.ring = s.dev.valt.ring.drop n ++ more ∧ (s.dev.media.trackLeft = [] → more = [])) ∧ d.valt.flash = s.dev.valt.flash ++ [{ recs := s.dev.valt.ring.take n ++ pads }]
          ∧ (∀ r, r ∈ pads → r.body.type = 0 ∧ s.dev.valt.nextSeq ≤ r.seq ∧ r.seq < d.valt.nextSeq)
          ∧ ((s.dev.valt.ring.take n).map (fun r => r.body.len)).sum ≤ 4096
          ∧ (n < s.dev.valt.ring.length → 4096 < ((s.dev.valt.ring.take (n + 1)).map (fun r => r.body.len)).sum)
          ∧ (((s.dev.valt.ring.take n ++ pads).map (fun r => r.body.len)).sum = 4096)
          ∧ d.valt.pages = s.dev.valt.pages + 1 ∧ (∀ b, b ∈ bs → (d.blk b).confirmed = (s.dev.blk b).confirmed + 1)
          ∧ (∀ b, b ∉ bs → d.blk b = s.dev.blk b) ∧ d.cell pMEDI 0x1B8 = s.dev.cell pMEDI 0x1B8 + 3
          ∧ d.cell pMEDI 0x1BC = s.dev.cell pMEDI 0x1BC + 3 ∧ d.zone = s.dev.zone ∧ d.mem = s.dev.mem)))
    ∧ ∀ (failed : List Nat) (i : Nat), i ∈ failed → i < 3 → (65536 ≤ s.dev.valt.ringBytes) → Completes (.journalPageWrite failed) s (fun d =>
        d.valt.pages = s.dev.valt.pages + 1 ∧ bitOf (d.hdr pVALT).evtStat 6 = true ∧ d.zone = s.dev.zone ∧ d.mem = s.dev.mem))
  ∧ (∀ (s : State) (by_ : Option Nat), (∀ m, by_ = some m → m < 45 ∧ s.dev.takesWrite pVALT 0x808) → Completes (.checkpointStart by_) s (fun d =>
      (s.dev.journalRuns = false → d = s.clean) ∧ (s.dev.valt.ckptOn ≠ none → d = s.clean)
      ∧ (by_ = none → s.dev.valt.pages < s.dev.rf pVALT 0x800 16 16 * 1024 → d = s.clean)
      ∧ (s.dev.journalRuns = true → s.dev.valt.ckptOn = none → s.dev.ringRoom = true → (by_ = none → s.dev.rf pVALT 0x800 16 16 * 1024 ≤ s.dev.valt.pages) →
          d.valt.ring = s.dev.valt.ring ++ [{ seq := s.dev.valt.nextSeq, at_ := s.dev.now, body := .ckptBegin (s.dev.valt.ckptNum + 1) }]
          ∧ d.valt.nextSeq = s.dev.valt.nextSeq + 1 ∧ d.valt.ckptOn = some (s.dev.valt.nextSeq, s.dev.now, s.dev.valt.pages)
          ∧ d.valt.ckptNew = some { num := s.dev.valt.ckptNum + 1, begin_ := s.dev.valt.nextSeq, nss := s.dev.zone.nss, zones := s.dev.zone.zones, blocks := s.dev.media.blocks, retired := s.dev.retiredDies }
          ∧ d.valt.ckpt = s.dev.valt.ckpt ∧ d.zone = s.dev.zone ∧ d.media = s.dev.media ∧ d.regs = s.dev.regs)))
  ∧ (∀ (s : State) (q t0 p0 : Nat) (ck : Ckpt), s.dev.valt.ckptOn = some (q, t0, p0) → s.dev.valt.ckptNew = some ck → Completes .checkpointEnd s (fun d =>
      ((∃ r, r ∈ s.dev.valt.ring ∧ r.seq ≤ q) → d = s.clean) ∧ (s.dev.journalRuns = false → d = s.clean)
      ∧ (s.dev.journalRuns = true → s.dev.ringRoom = true → (∀ r, r ∈ s.dev.valt.ring → q < r.seq) →
          d.valt.ring.take (s.dev.valt.ring.length + 1)
            = s.dev.valt.ring ++ [{ seq := s.dev.valt.nextSeq, at_ := s.dev.now, body := .ckptEnd ck.num q (s.dev.valt.pages - p0) }]
          ∧ d.valt.ckpt = some ck ∧ d.valt.ckptNum = ck.num ∧ d.valt.ckptOn = none ∧ d.valt.ckptNew = none ∧ d.valt.pages = 0
          ∧ bitOf (d.hdr pVALT).evtStat 8 = true ∧ d.zone = s.dev.zone)))
  ∧ (∀ (s : State) (m : Nat), m < 45 → s.dev.takesRead pVALT → Completes (.jseqLoRead m) s (fun d =>
      d = { s.clean with valt := { s.dev.valt with hiLatch := s.dev.valt.hiLatch.put 0 m (s.dev.valt.nextSeq / 4294967296 % 4294967296) }
                         out := [.word (u32 s.dev.valt.nextSeq) false] }))
  ∧ (∀ (s : State) (m : Nat), m < 45 → s.dev.takesRead pVALT → Completes (.loadPeakRead m) s (fun d =>
      d = { s.clean with valt := { s.dev.valt with peak := s.dev.vaultLoad }, out := [.word (u32 (Nat.max s.dev.valt.peak s.dev.vaultLoad)) false] }))

/-! ## Host interface (R293 to R341) -/

/-- R295, R299, R306, R312 to R314, R316, R319 and R337.  What is the model's own choice or reading here: log entries 27, 28 and 26. -/
def Obligations.QueuesFetchAndPost : Prop :=
  (∀ (s : State) (port fn q tail : Nat) (pasid : Option Nat) (sq : Sq), port < 2 → fn < 256 → q < 65536 → (s.dev.fn port fn).sqs.find q = some sq →
    s.dev.powr.entry ≠ .prepare → Completes (.sqTailDoorbell port fn q tail pasid) s (fun d =>
      (((s.dev.fn port fn).en = false ∨ sq.size ≤ tail) → d = s.clean)
      ∧ ((s.dev.fn port fn).en = true → tail < sq.size → (∀ i, s.dev.sliceOfSq port fn q = some i → q = 0 ∨ (s.dev.slice i).refuses pasid = false) →
          d.fn port fn = { s.dev.fn port fn with sqs := (s.dev.fn port fn).sqs.modify q (fun x => { x with tail := tail }), idleAt := s.dev.now
                                                 ps := if 3 ≤ (s.dev.fn port fn).ps then (s.dev.fn port fn).lastPs else (s.dev.fn port fn).ps }
          ∧ d.host.ctxs = s.dev.host.ctxs ∧ d.regs = s.dev.regs ∧ d.zone = s.dev.zone ∧ d.mem = s.dev.mem)
      ∧ (∀ i, (s.dev.fn port fn).en = true → tail < sq.size → q ≠ 0 → s.dev.sliceOfSq port fn q = some i → (s.dev.slice i).refuses pasid = true →
          (d.fn port fn).sqs = (s.dev.fn port fn).sqs ∧ d.powr = s.dev.powr ∧ d.zone = s.dev.zone)))
  ∧ (∀ (s : State) (port fn q head : Nat) (cq : Cq), port < 2 → fn < 256 → q < 65536 → (s.dev.fn port fn).cqs.find q = some cq →
    s.dev.powr.entry ≠ .prepare → Completes (.cqHeadDoorbell port fn q head) s (fun d =>
      (((s.dev.fn port fn).en = false ∨ cq.size ≤ head) → d = s.clean)
      ∧ ((s.dev.fn port fn).en = true → head < cq.size →
          d.fn port fn = { s.dev.fn port fn with cqs := (s.dev.fn port fn).cqs.modify q (fun x => { x with head := head }), idleAt := s.dev.now
                                                 ps := if 3 ≤ (s.dev.fn port fn).ps then (s.dev.fn port fn).lastPs else (s.dev.fn port fn).ps }
          ∧ d.host.ctxs = s.dev.host.ctxs ∧ d.regs = s.dev.regs ∧ d.zone = s.dev.zone ∧ d.mem = s.dev.mem)))
  ∧ (∀ (s : State) (port fn q c : Nat) (e : Sqe) (sq : Sq), port < 2 → fn < 256 → q < 65536 → (s.dev.fn port fn).sqs.find q = some sq →
    c = s.dev.host.ctxs.fresh 65536 (port * 65536) → Completes (.commandFetch port fn q e) s (fun d =>
      ((s.dev.fetchOpen port fn q = false ∨ sq.head = sq.tail ∨ sq.deleting.isSome = true ∨ s.dev.ctxTotal port ≤ s.dev.ctxHeld port) → d = s.clean)
      ∧ (s.dev.fetchOpen port fn q = true → sq.head ≠ sq.tail → sq.deleting = none → s.dev.ctxHeld port < s.dev.ctxTotal port →
          (s.dev.sliceOfSq port fn q = none → s.dev.ten.active = false →
            ∃ x, d.ctx c = some x ∧ x.fn = fn ∧ x.sq = q ∧ x.e = e ∧ x.slice = none ∧ x.epoch = s.dev.sysc.epoch ∧ x.admitted = s.dev.now ∧ x.begun = false
              ∧ (s.dev.checkSqe port fn q e = none → x.st = .executing) ∧ (∀ st, s.dev.checkSqe port fn q e = some st → x.st = .committed ∧ x.status = st)
              ∧ (d.fn port fn).sqs = (s.dev.fn port fn).sqs.modify q (fun y => { y with head := (y.head + 1) % y.size })
              ∧ (∀ k, k ≠ c → d.ctx k = s.dev.ctx k) ∧ d.zone = s.dev.zone ∧ d.mem = s.dev.mem
              ∧ (s.dev.regs.snap = [] → d.cell (pHOST port) 0x12C = s.dev.cell (pHOST port) 0x12C + 1))
          ∧ (∀ i, s.dev.sliceOfSq port fn q = some i → (s.dev.slice i).heldCtx < (s.dev.slice i).ctxLimit →
              d.ctx c = s.dev.ctx c ∨ ∃ x, d.ctx c = some x ∧ x.slice = some i ∧ x.gen = (s.dev.slice i).gen ∧ x.e = e)
          ∧ (∀ i, s.dev.sliceOfSq port fn q = some i → (s.dev.slice i).ctxLimit ≤ (s.dev.slice i).heldCtx → d.host = s.dev.host ∧ d.zone = s.dev.zone))))
  ∧ (∀ (s : State) (c qid : Nat) (x : Ctx) (cq : Cq), c < 131072 → s.dev.ctx c = some x →
    qid = (((s.dev.fn (ctxPort c) x.fn).sqs.find x.sq).map (fun (y : Sq) => y.cq)).getD 0 → (s.dev.fn (ctxPort c) x.fn).cqs.find qid = some cq →
    Completes (.cqEntryPost c) s (fun d =>
      ((x.st ≠ .committed ∨ s.dev.acked x.psn = false ∨ s.dev.valt.st ≠ .idle) → d = s.clean)
      ∧ (x.st = .committed → s.dev.acked x.psn = true → s.dev.valt.st = .idle → (cq.tail + 1) % cq.size = cq.head →
          d = (if x.stalled then s.clean else (s.clean.count (pHOST (ctxPort c)) 0x158 1).modCtx c (fun y => { y with stalled := true })))
      ∧ (x.st = .committed → s.dev.acked x.psn = true → s.dev.valt.st = .idle → (cq.tail + 1) % cq.size ≠ cq.head → s.dev.cryp.san = none →
          d.out.head? = some (.cqe (ctxPort c) x.fn qid x.sq x.e.cid x.status (x.status != 0 && x.dnr) cq.phase x.dw0)
          ∧ d.ctx c = none ∧ d.cell (pHOST (ctxPort c)) 0x130 = s.dev.cell (pHOST (ctxPort c)) 0x130 + 1
          ∧ (∃ y, (d.fn (ctxPort c) x.fn).cqs.find qid = some y ∧ y.tail = (cq.tail + 1) % cq.size ∧ y.head = cq.head
              ∧ y.phase = (if (cq.tail + 1) % cq.size = 0 then !cq.phase else cq.phase))
          ∧ d.zone = s.dev.zone ∧ d.mem = s.dev.mem)))
  ∧ (∀ (s : State) (port fn vec : Nat), port < 2 → fn < 256 → (s.dev.fn port fn).msiMask = false → Completes (.msixUnmask port fn (some vec)) s (fun d =>
      let f := s.dev.fn port fn
      let m := f.masked.filter (· != vec)
      d.fn port fn = { f with masked := m, pba := f.pba.filter (fun v => m.contains v) }
      ∧ d.out = (f.pba.filter (fun v => !m.contains v)).map (fun v => .msix port fn v) ∧ d.host.ctxs = s.dev.host.ctxs ∧ d.regs = s.dev.regs))
  ∧ (∀ (s : State) (port fn : Nat), port < 2 → fn < 256 → Completes (.msixUnmask port fn none) s (fun d =>
      let f := s.dev.fn port fn
      d.fn port fn = { f with msiMask := false, pba := f.pba.filter (fun v => f.masked.contains v) }
      ∧ d.out = (f.pba.filter (fun v => !f.masked.contains v)).map (fun v => .msix port fn v) ∧ d.host.ctxs = s.dev.host.ctxs ∧ d.regs = s.dev.regs))
  ∧ (∀ (s : State) (port fn q : Nat) (cq : Cq), port < 2 → fn < 256 → q < 65536 → (s.dev.fn port fn).cqs.find q = some cq →
    Completes (.interruptCoalescingTimeout port fn q) s (fun d =>
      (cq.coal = 0 → d = s.clean)
      ∧ (cq.coal ≠ 0 → (d.fn port fn).cqs = (s.dev.fn port fn).cqs.modify q (fun x => { x with coal := 0 }) ∧ d.host.ctxs = s.dev.host.ctxs
          ∧ (((s.dev.fn port fn).msiMask = false ∧ (s.dev.fn port fn).masked.contains cq.vec = false) → d.out = [.msix port fn cq.vec])
          ∧ (((s.dev.fn port fn).msiMask = true ∨ (s.dev.fn port fn).masked.contains cq.vec = true) → d.out = [] ∧ cq.vec ∈ (d.fn port fn).pba))))
  ∧ (∀ (s : State) (port fn pasid : Nat) (pages : List Nat), port < 2 → fn < 256 → Completes (.atsInvalidateRequest port fn pasid pages) s (fun d =>
      d.fn port fn = { s.dev.fn port fn with atc := (s.dev.fn port fn).atc.filter (fun p => !(p.1 == pasid && pages.contains p.2)) }
      ∧ d.out = [.invalidated port fn] ∧ d.host.ctxs = s.dev.host.ctxs ∧ d.regs = s.dev.regs))

/-- R294, R296, R301, R313, R314, R317, R324, R329, R330, R334 and R340.  What is the model's own choice or reading here: log entry 26. -/
def Obligations.HostDataAndPorts : Prop :=
  (∀ (s : State) (c : Nat) (pages : List Nat) (data : List Byte) (x : Ctx) (slba nlb : Nat) (pr : PrInfo), c < 131072 → s.dev.ctx c = some x →
    x.e.cmd = .read slba nlb pr → Completes (.hostDmaComplete c data pages) s (fun d =>
      ((x.st ≠ .executing ∨ x.dmaDone = true ∨ x.begun = false ∨ x.left ≠ 0) → d.out = [] ∧ d.host.ctxs = s.dev.host.ctxs)
      ∧ (x.st = .executing → x.dmaDone = false → x.begun = true → x.left = 0 → x.marked = false → x.data.length = nlb * (s.dev.nsFor x).blockBytes →
          (∀ i, x.slice = some i → (s.dev.slice i).pasid ≠ 0 →
            d.out = [.hostData (ctxPort c) x.fn (some (s.dev.slice i).pasid) ((s.dev.nsFor x).readData x.e.cmd x.data)])
          ∧ (x.slice = none → d.out = [.hostData (ctxPort c) x.fn none ((s.dev.nsFor x).readData x.e.cmd x.data)])
          ∧ ((s.dev.nsFor x).checkData x.e.cmd x.data = none → d.ctx c = some { x with st := .committed, dmaDone := true, status := 0, dnr := false, dw0 := 0 })
          ∧ (∀ st, (s.dev.nsFor x).checkData x.e.cmd x.data = some st → d.ctx c = some { x with st := .committed, dmaDone := true, status := st, dnr := true, dw0 := 0 })
          ∧ d.zone = s.dev.zone ∧ d.mem = s.dev.mem ∧ d.regs = s.dev.regs)))
  ∧ (∀ (s : State) (c : Nat) (pages : List Nat) (data : List Byte) (x : Ctx) (slba nlb : Nat) (pr : PrInfo), c < 131072 → s.dev.ctx c = some x →
    (x.e.cmd = .write slba nlb pr ∨ x.e.cmd = .zoneAppend slba nlb pr) → x.st = .executing → x.dmaDone = false → Completes (.hostDmaComplete c data pages) s (fun d =>
      (data.length ≠ nlb * (4096 + (s.dev.nsFor x).metaMoved x.e.cmd) → d = s.clean)
      ∧ (data.length = nlb * (4096 + (s.dev.nsFor x).metaMoved x.e.cmd) →
          ((s.dev.nsFor x).checkData x.e.cmd data = none → d.ctx c = some { x with dmaDone := true, data := (s.dev.nsFor x).writeData x.e.cmd data } ∧ d.zone = s.dev.zone ∧ d.out = [])
          ∧ (∀ st, (s.dev.nsFor x).checkData x.e.cmd data = some st → x.marked = false → s.dev.zoneOfCtx c = none →
              d.ctx c = some { x with st := .committed, status := st, dnr := dnrOf st, dw0 := 0 }))))
  ∧ (∀ (s : State) (c kind addr : Nat) (x : Ctx), c < 131072 → s.dev.ctx c = some x → Completes (.dmaError c kind addr) s (fun d =>
      ((x.st ≠ .executing ∨ x.dmaDone = true) → d = s.clean)
      ∧ (x.st = .executing → x.dmaDone = false → x.marked = false → s.dev.zoneOfCtx c = none →
          d.ctx c = some { x with st := .committed, status := 0x004, dnr := false, dw0 := 0 } ∧ bitOf (d.hdr (pHOST (ctxPort c))).evtStat 4 = true
          ∧ d.cell (pHOST (ctxPort c)) 0x148 = s.dev.cell (pHOST (ctxPort c)) 0x148 + 1 ∧ (d.hport (ctxPort c)).dmaArmed = false
          ∧ ((s.dev.hport (ctxPort c)).dmaArmed = true → d.cell (pHOST (ctxPort c)) 0x14C = u32 addr ∧ d.cell (pHOST (ctxPort c)) 0x150 = u32 (addr / 4294967296))
          ∧ ((s.dev.hport (ctxPort c)).dmaArmed = false → d.cell (pHOST (ctxPort c)) 0x14C = s.dev.cell (pHOST (ctxPort c)) 0x14C
              ∧ d.cell (pHOST (ctxPort c)) 0x154 = s.dev.cell (pHOST (ctxPort c)) 0x154))))
  ∧ (∀ (s : State) (port m : Nat), port < 2 → m < 45 → s.dev.takesRead (pHOST port) → Completes (.dmaErrInfoRead port m) s (fun d =>
      d.out = [.word (s.dev.cell (pHOST port) 0x154) false] ∧ d.cell (pHOST port) 0x154 = 0 ∧ (d.hport port).dmaArmed = true
      ∧ d.cell (pHOST port) 0x14C = s.dev.cell (pHOST port) 0x14C ∧ d.host.ctxs = s.dev.host.ctxs))
  ∧ (∀ (s : State) (port gen width : Nat), port < 2 → Completes (.pcieLinkUp port gen width) s (fun d =>
      ((s.dev.hportOn port = false ∨ (s.dev.hport port).perst = true ∨ gen = 0 ∨ s.dev.rf (pHOST port) 0x108 0 3 < gen ∨ s.dev.widths.contains width = false) → d = s.clean)
      ∧ (s.dev.hportOn port = true → (s.dev.hport port).perst = false → gen ≠ 0 → gen ≤ s.dev.rf (pHOST port) 0x108 0 3 → s.dev.widths.contains width = true →
          (d.hport port).gen = gen ∧ (d.hport port).width = width ∧ (d.hport port).lstate = 2 ∧ bitOf (d.hdr (pHOST port)).evtStat 0 = true
          ∧ d.zone = s.dev.zone ∧ d.media = s.dev.media ∧ d.mem = s.dev.mem)))
  ∧ (∀ (s : State) (port : Nat), port < 2 → s.dev.host.act ≠ .swapping →
    (Completes (.pcieLinkDown port) s (fun d =>
        ((s.dev.hport port).lstate = 0 → d = s.clean)
        ∧ ((s.dev.hport port).lstate ≠ 0 → (d.hport port).lstate = 0 ∧ (d.hport port).gen = 0 ∧ (d.hport port).width = 0 ∧ (d.hport port).perst = (s.dev.hport port).perst
            ∧ bitOf (d.hdr (pHOST port)).evtStat 1 = true
            ∧ ((∀ e, e ∈ s.dev.host.ctxs → ctxPort e.1 = port → e.2.fn < 256 ∧ ((s.dev.hport port).fns.find e.2.fn).isSome = true) → s.dev.cryp.san = none →
                ∀ e, e ∈ d.host.ctxs → ctxPort e.1 ≠ port))))
    ∧ Completes (.perstNAssert port) s (fun d =>
        ((s.dev.hportOn port = false ∨ (s.dev.hport port).perst = true) → d = s.clean)
        ∧ (s.dev.hportOn port = true → (s.dev.hport port).perst = false → (d.hport port).perst = true ∧ (d.hport port).lstate = 0 ∧ (d.hport port).gen = 0
            ∧ bitOf (d.hdr (pHOST port)).evtStat 1 = true
            ∧ ((∀ e, e ∈ s.dev.host.ctxs → ctxPort e.1 = port → e.2.fn < 256 ∧ ((s.dev.hport port).fns.find e.2.fn).isSome = true) → s.dev.cryp.san = none →
                ∀ e, e ∈ d.host.ctxs → ctxPort e.1 ≠ port))))
  ∧ (∀ (s : State) (port : Nat), port < 2 → s.dev.powr.entry ≠ .prepare → Completes (.perstNRelease port) s (fun d =>
      ((s.dev.hport port).perst = false → d = s.clean)
      ∧ ((s.dev.hport port).perst = true → (d.hport port).perst = false ∧ (d.hport port).lstate = 1 ∧ (d.hport port).wakeN = false
          ∧ d.host.ctxs = s.dev.host.ctxs ∧ d.zone = s.dev.zone ∧ d.regs = s.dev.regs)))
  ∧ (∀ (s : State) (port g m : Nat), port < 2 → m < 45 → s.dev.takesWrite (pHOST port) 0x108 → Completes (.pcieLinkRetrain port g m) s (fun d =>
      ((g = 0 ∨ 5 < g) → d = s.clean.deny (pHOST port))
      ∧ (g ≠ 0 → g ≤ 5 → d.cell (pHOST port) 0x108 = u32 g ∧ d.host.ctxs = s.dev.host.ctxs
          ∧ ((s.dev.hport port).lstate = 0 → d.host = s.dev.host) ∧ ((s.dev.hport port).lstate ≠ 0 → (d.hport port).lstate = 1))))

/-- R303, R305 to R308, R310, R311 and R325 to R327.  What is the model's own choice or reading here: log entries 26, 25 and 27. -/
def Obligations.AdminCommands : Prop :=
  (∀ (s : State) (c qid size cqid : Nat) (contiguous : Bool) (x : Ctx) (f : Fn), c < 131072 → s.dev.due c x → x.e.cmd = .createSq qid size cqid contiguous →
    f = s.dev.fn (ctxPort c) x.fn → Completes (.createIoSq c) s (fun d =>
      (contiguous = false → d = (s.clean.begin_ c).commitCtx c 0x002 true 0)
      ∧ (contiguous = true → (qid = 0 ∨ f.allot < qid ∨ (f.sqs.find qid).isSome = true) → d = (s.clean.begin_ c).commitCtx c 0x101 true 0)
      ∧ (contiguous = true → qid ≠ 0 → qid ≤ f.allot → f.sqs.find qid = none →
          ((size < 2 ∨ 16384 < size) → d = (s.clean.begin_ c).commitCtx c 0x102 true 0)
          ∧ (2 ≤ size → size ≤ 16384 → (cqid = 0 ∨ f.cqs.find cqid = none) → d = (s.clean.begin_ c).commitCtx c 0x100 true 0)
          ∧ (2 ≤ size → size ≤ 16384 → cqid ≠ 0 → (f.cqs.find cqid).isSome = true →
              d = ((s.clean.begin_ c).setFn (ctxPort c) x.fn (fun g => { g with sqs := g.sqs.set qid { cq := cqid, size := size, head := 0, tail := 0, deleting := none } })).commitCtx c 0 false 0))))
  ∧ (∀ (s : State) (c qid size vec : Nat) (ien contiguous : Bool) (x : Ctx) (f : Fn), c < 131072 → s.dev.due c x → x.e.cmd = .createCq qid size vec ien contiguous →
    f = s.dev.fn (ctxPort c) x.fn → Completes (.createIoCq c) s (fun d =>
      (contiguous = false → d = (s.clean.begin_ c).commitCtx c 0x002 true 0)
      ∧ (contiguous = true → (qid = 0 ∨ f.allot < qid ∨ (f.cqs.find qid).isSome = true) → d = (s.clean.begin_ c).commitCtx c 0x101 true 0)
      ∧ (contiguous = true → qid ≠ 0 → qid ≤ f.allot → f.cqs.find qid = none →
          ((size < 2 ∨ 16384 < size) → d = (s.clean.begin_ c).commitCtx c 0x102 true 0)
          ∧ (2 ≤ size → size ≤ 16384 → 2047 < vec → d = (s.clean.begin_ c).commitCtx c 0x108 true 0)
          ∧ (2 ≤ size → size ≤ 16384 → vec ≤ 2047 →
              d = ((s.clean.begin_ c).setFn (ctxPort c) x.fn (fun g => { g with cqs := g.cqs.set qid { size := size, head := 0, tail := 0, phase := true, vec := vec, ien := ien, coal := 0, coalAt := 0 } })).commitCtx c 0 false 0))))
  ∧ (∀ (s : State) (c qid : Nat) (x : Ctx) (sq : Sq) (mine : List (Nat × Ctx)), c < 131072 → s.dev.due c x → x.e.cmd = .deleteSq qid → qid ≠ 0 → x.sq = 0 → x.marked = false →
    (s.dev.fn (ctxPort c) x.fn).sqs.find qid = some sq → sq.deleting = none → mine = s.dev.host.ctxs.filter (fun e => ctxPort e.1 == ctxPort c && e.2.fn == x.fn && e.2.sq == qid) →
    Completes (.deleteIoSq c) s (fun d =>
      (∀ k v, s.dev.ctx k = some v → ctxPort k = ctxPort c → v.fn = x.fn → v.sq = qid → ∃ w, d.ctx k = some w ∧ w.st = .committed ∧ w.marked = true
          ∧ (v.st = .committed → w.status = v.status ∧ w.dnr = v.dnr) ∧ (v.st ≠ .committed → w.status = 0x008 ∧ w.dnr = false))
      ∧ d.cell (pHOST (ctxPort c)) 0x138 = s.dev.cell (pHOST (ctxPort c)) 0x138 + u32 (mine.filter (fun e => e.2.st != .committed)).length
      ∧ d.cell (pHOST (ctxPort c)) 0x13C = s.dev.cell (pHOST (ctxPort c)) 0x13C + u32 (mine.filter (fun e => e.2.st == .committed)).length
      ∧ (mine = [] → (d.fn (ctxPort c) x.fn).sqs.find qid = none ∧ bitOf (d.hdr (pHOST (ctxPort c))).evtStat 3 = true
          ∧ d.ctx c = some { x with begun := true, st := .committed, status := 0, dnr := false, dw0 := 0 })
      ∧ (mine ≠ [] → ∃ y, (d.fn (ctxPort c) x.fn).sqs.find qid = some y ∧ y.head = y.tail ∧ y.deleting.isSome = true)))
  ∧ (∀ (s : State) (c qid : Nat) (x : Ctx), c < 131072 → s.dev.due c x → x.e.cmd = .deleteSq qid →
    (qid = 0 ∨ (s.dev.fn (ctxPort c) x.fn).sqs.find qid = none) → Completes (.deleteIoSq c) s (fun d => d = (s.clean.begin_ c).commitCtx c 0x101 true 0))
  ∧ (∀ (s : State) (c qid : Nat) (x : Ctx) (f : Fn), c < 131072 → s.dev.due c x → x.e.cmd = .deleteCq qid → f = s.dev.fn (ctxPort c) x.fn → Completes (.deleteIoCq c) s (fun d =>
      ((qid = 0 ∨ f.cqs.find qid = none) → d = (s.clean.begin_ c).commitCtx c 0x101 true 0)
      ∧ (qid ≠ 0 → (f.cqs.find qid).isSome = true → (∃ e, e ∈ f.sqs ∧ e.2.cq = qid) → d = (s.clean.begin_ c).commitCtx c 0x10C true 0)
      ∧ (qid ≠ 0 → (f.cqs.find qid).isSome = true → (∀ e, e ∈ f.sqs → e.2.cq ≠ qid) →
          d = ((s.clean.begin_ c).setFn (ctxPort c) x.fn (fun g => { g with cqs := g.cqs.del qid })).commitCtx c 0 false 0)))
  ∧ (∀ (s : State) (c cns cnt csi : Nat) (x : Ctx), c < 131072 → s.dev.due c x → x.e.cmd = .identify cns cnt csi → Completes (.identify c) s (fun d =>
      (cns ∉ [0, 1, 2, 3, 5, 6, 0x10, 0x11, 0x12, 0x13, 0x14, 0x15, 0x1C] → d = (s.clean.begin_ c).commitCtx c 0x002 true 0)
      ∧ (cns = 1 → ∃ l, d = ((s.clean.begin_ c).emit (.report (ctxPort c) x.fn (.fields l))).commitCtx c 0 false 0
          ∧ ("VID", 0x1F5C) ∈ l ∧ ("MDTS", 9) ∈ l ∧ ("NN", 1024) ∈ l ∧ ("CNTLID", s.dev.cntlid (ctxPort c) x.fn) ∈ l ∧ ("VWC", 0) ∈ l ∧ ("NPSS", 4) ∈ l)
      ∧ (cns = 2 → d = ((s.clean.begin_ c).emit (.report (ctxPort c) x.fn (.list ((s.dev.activeNs (ctxPort c) x.fn).filter (fun k => x.e.nsid < k))))).commitCtx c 0 false 0)
      ∧ (cns = 6 → d = ((s.clean.begin_ c).emit (.report (ctxPort c) x.fn (.fields [("ZASL", 9)]))).commitCtx c 0 false 0)
      ∧ ((cns = 0 ∨ cns = 5 ∨ cns = 0x11) → (x.e.nsid = 0 ∨ 1024 < x.e.nsid) → d = (s.clean.begin_ c).commitCtx c 0x00B true 0)))
  ∧ (∀ (s : State) (c lid off len : Nat) (rae : Bool) (x : Ctx), c < 131072 → s.dev.due c x → x.e.cmd = .getLog lid rae off len → Completes (.getLogPage c) s (fun d =>
      (lid ∉ [1, 2, 3, 4, 5, 7, 8, 0x81, 0xBF] → d = (s.clean.begin_ c).commitCtx c 0x109 true 0)
      ∧ (lid = 1 → d.out = [.report (ctxPort c) x.fn (.errors (s.dev.fn (ctxPort c) x.fn).errs)])
      ∧ (lid = 4 → d.out = [.report (ctxPort c) x.fn (.list (s.dev.fn (ctxPort c) x.fn).changedNs)]
          ∧ (d.fn (ctxPort c) x.fn).changedNs = (if rae then (s.dev.fn (ctxPort c) x.fn).changedNs else []))
      ∧ (lid = 0xBF → d.out = [.report (ctxPort c) x.fn (.list (s.dev.fn (ctxPort c) x.fn).changedZones)]
          ∧ (d.fn (ctxPort c) x.fn).changedZones = (if rae then (s.dev.fn (ctxPort c) x.fn).changedZones else []))
      ∧ (lid ∈ [1, 2, 3, 4, 5, 7, 8, 0x81, 0xBF] → d.regs = s.dev.regs ∧ d.zone = s.dev.zone
          ∧ (x.marked = false → d.ctx c = some { x with begun := true, st := .committed, status := 0, dnr := false, dw0 := 0 }))))
  ∧ (∀ (s : State) (c : Nat) (v : Feature) (x : Ctx), c < 131072 → s.dev.due c x → x.e.cmd = .setFeatures v → Completes (.setFeatures c) s (fun d =>
      (s.dev.featureOk v = false → d = (s.clean.begin_ c).commitCtx c 0x002 true 0)
      ∧ (∀ ps, v = .power ps → ps ≤ 3 ∨ ps = 4 ∧ s.dev.paired = false → (d.fn (ctxPort c) x.fn).ps = ps ∧ d.zone = s.dev.zone ∧ d.regs = s.dev.regs
          ∧ (x.marked = false → d.ctx c = some { x with begun := true, st := .committed, status := 0, dnr := false, dw0 := 0 }))
      ∧ (∀ a b, v = .queues a b → d = (s.clean.begin_ c).commitCtx c 0 false (((s.dev.fn (ctxPort c) x.fn).allot - 1) * 65537))
      ∧ (∀ t n, v = .coalescing t n → n ≤ 256 → (d.fn (ctxPort c) x.fn).coalescing = (if t = 0 then none else some (t, n)) ∧ d.regs = s.dev.regs)
      ∧ (∀ m, v = .asyncEvents m → (d.fn (ctxPort c) x.fn).aenMask = m ∧ d.regs = s.dev.regs)))
  ∧ (∀ (s : State) (c fid : Nat) (x : Ctx), c < 131072 → s.dev.due c x → x.e.cmd = .getFeatures fid → Completes (.getFeatures c) s (fun d =>
      (fid ∉ [1, 2, 4, 7, 8, 9, 0xB, 0xC] → d = (s.clean.begin_ c).commitCtx c 0x002 true 0)
      ∧ (fid = 2 → d = (s.clean.begin_ c).commitCtx c 0 false (s.dev.fn (ctxPort c) x.fn).ps)
      ∧ (fid = 7 → d = (s.clean.begin_ c).commitCtx c 0 false (((s.dev.fn (ctxPort c) x.fn).allot - 1) * 65537))
      ∧ (fid = 1 → (∀ v, v ∈ (s.dev.fn (ctxPort c) x.fn).feats → v.fid ≠ 1) → d = (s.clean.begin_ c).commitCtx c 0 false 0)))
  ∧ (∀ (s : State) (c : Nat) (x : Ctx), c < 131072 → s.dev.due c x → x.e.cmd = .asyncEvent → Completes (.asyncEventRequest c) s (fun d =>
      (8 ≤ s.dev.othersHeld c x.fn (fun k => k == .asyncEvent) → d = (s.clean.begin_ c).commitCtx c 0x105 true 0)
      ∧ (s.dev.othersHeld c x.fn (fun k => k == .asyncEvent) < 8 →
          ((s.dev.fn (ctxPort c) x.fn).aens = [] → d = s.clean.begin_ c)
          ∧ (∀ e r, (s.dev.fn (ctxPort c) x.fn).aens = e :: r →
              d = ((s.clean.begin_ c).setFn (ctxPort c) x.fn (fun f => { f with aens := r })).commitCtx c 0 false (e.type + e.info * 256 + e.log * 65536)))))
  ∧ (∀ (s : State) (c sq cid : Nat) (x : Ctx), c < 131072 → s.dev.due c x → x.e.cmd = .abort sq cid → Completes (.abort c) s (fun d =>
      let held := s.dev.othersHeld c x.fn (fun k => match k with | .abort .. => true | _ => false)
      (4 ≤ held → d = ((s.clean.begin_ c).count (pHOST (ctxPort c)) 0x140 1).commitCtx c 0x103 true 0)
      ∧ (held < 4 → d = ((s.clean.begin_ c).count (pHOST (ctxPort c)) 0x140 1).commitCtx c 0 false 1)))

/-- R22, R41, R52, R55, R305, R332 to R334, R403, R411, R412 and R445.
What is the model's own choice or reading here: log entries 26, 32, 31 and 10. -/
def Obligations.NamespacesAndFirmware : Prop :=
  (∀ (s : State) (c code : Nat) (x : Ctx) (i : Instr), c < 131072 → s.dev.due c x → x.marked = false → s.dev.fsto.recovery = false → s.dev.cryp.san = none →
    (s.dev.sysc.cur = .service ∧ code = 5 ∨ s.dev.sysc.cur = .peerStandby ∧ code = 6 ∧ x.e.cmd ≠ .sanitize 4) →
    ((∃ p, x.e.cmd = .nsCreate p) ∧ i = .namespaceCreate c ∨ x.e.cmd = .nsDelete ∧ i = .namespaceDelete c ∨ x.e.cmd = .sanitize 4 ∧ s.dev.zone.nss = [] ∧ i = .sanitize c) →
    Completes i s (fun d => d.sysc.epochResult = code ∧ bitOf (d.hdr pSYSC).evtStat 2 = true ∧ d.zone = s.dev.zone ∧ d.cryp = s.dev.cryp
      ∧ d.ctx c = some { x with begun := true, st := .committed, status := 0x00C, dnr := true, dw0 := 0 }))
  ∧ (∀ (s : State) (c n : Nat) (p : NsParams) (x : Ctx), c < 131072 → s.dev.due c x → x.marked = false → x.e.cmd = .nsCreate p → s.dev.sysc.cur = .standalone → s.dev.valt.st = .idle →
    Completes (.namespaceCreate c) s (fun d =>
      (s.dev.active = true → s.dev.nsParamsOk p = false → d = (s.clean.begin_ c).commitCtx c 0x002 true 0)
      ∧ (s.dev.active = true → s.dev.nsParamsOk p = true → s.dev.pickNsid p.nsid = some n →
          (s.dev.freeGroups p.members < s.dev.promised p.members + p.zones * p.groups → d = (s.clean.begin_ c).commitCtx c 0x115 true 0)
          ∧ (s.dev.promised p.members + p.zones * p.groups ≤ s.dev.freeGroups p.members →
              (∃ v, d.ns n = some v ∧ v.d = p.d ∧ v.members = (List.range 16).filter p.members.contains ∧ v.plc = p.plc ∧ v.groups = p.groups ∧ v.pi = p.pi ∧ v.zones = p.zones
                ∧ v.attached = [] ∧ v.slot = s.dev.nextSlot)
              ∧ (∀ m, m ≠ n → d.ns m = s.dev.ns m) ∧ d.zone.zones = s.dev.zone.zones
              ∧ ∃ y, d.ctx c = some y ∧ y.st = .committed ∧ y.status = 0 ∧ y.dw0 = n))))
  ∧ (∀ (s : State) (c : Nat) (v : Ns) (x : Ctx), c < 131072 → s.dev.due c x → x.marked = false → x.sq = 0 → s.dev.unshared c → x.e.cmd = .nsDelete → s.dev.nsRefusal = none →
    s.dev.ns x.e.nsid = some v → x.e.nsid ≠ 0xFFFFFFFF → Completes (.namespaceDelete c) s (fun d =>
      (v.rebuild ≠ [] → d.sysc.epochResult = 4 ∧ d.zone = s.dev.zone ∧ d.cryp = s.dev.cryp)
      ∧ (v.rebuild = [] → d.ns x.e.nsid = none ∧ (∀ k, zNs k = x.e.nsid → d.zone.zones.find k = none) ∧ d.kslot v.slot = KeySlot.reset
          ∧ (∀ m, m ≠ x.e.nsid → (d.ns m).isSome = (s.dev.ns m).isSome) ∧ ∃ y, d.ctx c = some y ∧ y.st = .committed ∧ y.status = 0)))
  ∧ (∀ (s : State) (c : Nat) (on : Bool) (ctrls ks : List Nat) (v : Ns) (x : Ctx), c < 131072 → s.dev.due c x → x.marked = false → x.e.cmd = .nsAttach on ctrls →
    s.dev.ns x.e.nsid = some v → s.dev.active = true → ctrls ≠ [] → ctrls.map s.dev.ofCntlid = ks.map (fun k => some (k / 256, k % 256)) →
    Completes (.namespaceAttachment c) s (fun d =>
      (v.rebuild ≠ [] → d.sysc.epochResult = 4 ∧ bitOf (d.hdr pSYSC).evtStat 2 = true ∧ d.zone = s.dev.zone)
      ∧ (v.rebuild = [] → on = true → (∀ k, k ∈ ks → k ∉ v.attached) → d.ns x.e.nsid = some { v with attached := v.attached ++ ks } ∧ ∃ y, d.ctx c = some y ∧ y.st = .committed ∧ y.status = 0)
      ∧ (v.rebuild = [] → on = true → (∃ k, k ∈ ks ∧ k ∈ v.attached) → d = (s.clean.begin_ c).commitCtx c 0x118 true 0)
      ∧ (v.rebuild = [] → on = false → (∀ k, k ∈ ks → k ∈ v.attached) → d.ns x.e.nsid = some { v with attached := v.attached.filter (fun k => !ks.contains k) }
          ∧ ∃ y, d.ctx c = some y ∧ y.st = .committed ∧ y.status = 0)
      ∧ (v.rebuild = [] → on = false → (∃ k, k ∈ ks ∧ k ∉ v.attached) → d = (s.clean.begin_ c).commitCtx c 0x11A true 0)))
  ∧ (∀ (s : State) (c act cnt n : Nat) (x : Ctx), c < 131072 → s.dev.due c x → x.e.cmd = .virtMgmt act cnt n →
    Completes (.virtualizationManagement c) s (fun d => d = (s.clean.begin_ c).commitCtx c (if act ∈ [1, 7, 8, 9] then 0 else 0x002) (decide (act ∉ [1, 7, 8, 9])) 0))
  ∧ (∀ (s : State) (c act : Nat) (x : Ctx), c < 131072 → s.dev.due c x → x.marked = false → x.e.cmd = .sanitize act → s.dev.fsto.recovery = false → Completes (.sanitize c) s (fun d =>
      (act ≠ 4 → d = (s.clean.begin_ c).commitCtx c 0x002 true 0)
      ∧ (act = 4 → s.dev.sysc.cur ≠ .peerStandby → s.dev.cryp.san.isSome = true → d = (s.clean.begin_ c).commitCtx c 0x01D false 0)
      ∧ (act = 4 → s.dev.sysc.cur = .standalone → s.dev.cryp.san = none → (∀ e, e ∈ s.dev.zone.nss → e.2.rebuild = []) → s.dev.ioHeld = true →
          d.cryp.san = some { phase := .draining, ctx := some c, started := s.dev.now, resumed := false, psn := 0, zones := 0 } ∧ d.zone = s.dev.zone
          ∧ d.ctx c = some { x with begun := true, st := .committed, status := 0, dnr := false, dw0 := 0 })))
  ∧ (∀ (s : State) (sleds m : Nat), sleds < 65536 → m < 45 → s.dev.powr.entry ≠ .prepare → Completes (.layoutChange sleds m) s (fun d =>
      (s.dev.sysc.cur = .service → d.sysc.epochResult = 5 ∧ d.zone = s.dev.zone)
      ∧ (s.dev.sysc.cur ≠ .service → s.dev.sysc.cur ≠ .standalone → s.dev.sysc.cur ≠ .partitioned → d.sysc.epochResult = 6 ∧ d.zone = s.dev.zone)
      ∧ ((s.dev.sysc.cur = .standalone ∨ s.dev.sysc.cur = .partitioned) → d.zone = { s.dev.zone with usable := some ((List.range 16).filter (hasBit sleds)) }
          ∧ d.sysc.cur = s.dev.sysc.cur ∧ d.sysc.service = none ∧ d.sysc.ret = none)))
  ∧ (∀ (s : State) (c off : Nat) (data : List Byte) (x : Ctx), c < 131072 → s.dev.due c x → x.marked = false → x.e.cmd = .fwDownload off data → Completes (.firmwareImageDownload c) s (fun d =>
      ((s.dev.bankBusy s.dev.otherBank = true ∨ s.dev.fsto.pfail = true) → d = s.clean)
      ∧ (s.dev.bankBusy s.dev.otherBank = false → s.dev.fsto.pfail = false → s.dev.host.act = .idle →
          ((off % 4 ≠ 0 ∨ data.length % 4 ≠ 0 ∨ data.length = 0 ∨ 12582912 < off + data.length) → d = (s.clean.begin_ c).commitCtx c 0x002 true 0)
          ∧ (off % 4 = 0 → data.length % 4 = 0 → data.length ≠ 0 → off + data.length ≤ 12582912 →
              d.ctx c = some { x with begun := true, st := .committed, status := 0, dnr := false, dw0 := 0 } ∧ d.otp = s.dev.otp ∧ d.zone = s.dev.zone
              ∧ (s.dev.fsto.dlErased = [] → d.norBytes (bankBase s.dev.otherBank + off) data.length = data)))))
  ∧ (∀ (s : State) (c act slot : Nat) (x : Ctx), c < 131072 → s.dev.due c x → x.e.cmd = .fwCommit act slot → s.dev.bankBusy 0 = false → s.dev.bankBusy 1 = false → s.dev.fsto.pfail = false →
    (act ≠ 3 → Completes (.firmwareCommit c) s (fun d =>
      (3 < act → d = (s.clean.begin_ c).commitCtx c 0x002 true 0)
      ∧ (act = 2 → slot = s.dev.fsto.bank + 1 → slot ≤ 2 → s.dev.fsto.dlType ≠ 2 → s.dev.fsto.recovery = false → d = (s.clean.begin_ c).commitCtx c 0 false 0)
      ∧ (act ≤ 1 → slot = s.dev.fsto.bank + 1 → d = (s.clean.begin_ c).commitCtx c 0x106 true 0)
      ∧ (act ≤ 1 → slot = 0 → s.dev.fsto.dlType ≠ 2 → s.dev.slotOk s.dev.otherBank = false → d = (s.clean.begin_ c).commitCtx c 0x107 true 0)
      ∧ (act = 0 → slot = 0 → s.dev.fsto.dlType ≠ 2 → s.dev.slotOk s.dev.otherBank = true → x.marked = false → d.nor = s.dev.nor ∧ d.fsto.dlErased = []
          ∧ d.ctx c = some { x with begun := true, st := .committed, status := 0, dnr := false, dw0 := 0 })))
    ∧ (act = 3 → slot = 0 → s.dev.fsto.recovery = false → s.dev.fsto.dlType ≠ 2 → s.dev.host.act = .idle → Completes (.activationWithoutReset c) s (fun d =>
      (s.dev.sysc.cur ≠ .service → s.dev.slotOk s.dev.otherBank = false → d = (s.clean.begin_ c).commitCtx c 0x107 true 0)
      ∧ (s.dev.sysc.cur = .standalone → s.dev.slotOk s.dev.otherBank = true → d.host.act = .draining ∧ d.host.actCtx = c ∧ d.host.actImage = s.dev.slotImage s.dev.otherBank ∧ d.host.actAt = s.dev.now ∧ d.sysc.cur = .service
          ∧ d.sysc.ret = some .standalone ∧ (∀ p f, (d.fn p f).pp = (d.fn p f).en) ∧ d.zone = s.dev.zone ∧ d.otp = s.dev.otp))))
  ∧ (∀ (s : State), Completes .activationSwap s (fun d =>
      ((s.dev.host.act ≠ .draining ∨ s.dev.actWaits s.dev.host.actCtx ≠ 0) → d = s.clean)
      ∧ (s.dev.host.act = .draining → s.dev.actWaits s.dev.host.actCtx = 0 → d.host = { s.dev.host with act := .swapping, actImage := [] } ∧ d.fsto.bank = s.dev.host.actSlot - 1
          ∧ (∀ i b, (s.dev.host.actImage.drop 4096)[i]? = some b → d.byte ((readHdr (s.dev.host.actImage.take 4096)).load + i) = b)
          ∧ d.fsto.watchdog = true ∧ d.fsto.bootOk = false ∧ d.fsto.dlErased = [] ∧ d.zone = s.dev.zone ∧ d.otp = s.dev.otp)))
  ∧ (∀ (s : State) (x : Ctx), s.dev.ctx s.dev.host.actCtx = some x → x.st = .executing → x.marked = false → s.dev.host.actCtx < 131072 → (∀ p f, (s.dev.fn p f).later = 0) →
    Completes .activationResume s (fun d =>
      (s.dev.host.act ≠ .swapping → d = s.clean)
      ∧ (s.dev.host.act = .swapping → d.host.act = .idle ∧ (∀ p f, (d.fn p f).pp = false) ∧ d.host.actLast = (s.dev.now - s.dev.host.actAt) / 1000000
          ∧ bitOf (d.hdr (pHOST (ctxPort s.dev.host.actCtx))).evtStat 5 = true ∧ d.ctx s.dev.host.actCtx = some { x with st := .committed, status := 0, dnr := false, dw0 := 0 }
          ∧ (s.dev.sysc.service = some .activation → d.sysc.service = none ∧ d.sysc.cur = s.dev.sysc.ret.getD .standalone)))
    ∧ Completes .activationDrainTimeout s (fun d =>
      (s.dev.host.act ≠ .draining → d = s.clean)
      ∧ (s.dev.host.act = .draining → d.host.act = .idle ∧ (∀ p f, (d.fn p f).pp = false) ∧ d.fsto.bank = s.dev.fsto.bank
          ∧ bitOf (d.hdr (pHOST (ctxPort s.dev.host.actCtx))).evtStat 6 = true ∧ d.ctx s.dev.host.actCtx = some { x with st := .committed, status := 0x112, dnr := true, dw0 := 0 }
          ∧ (s.dev.sysc.service = some .activation → d.sysc.service = none ∧ d.sysc.cur = s.dev.sysc.ret.getD .standalone))))

/-- R295, R296, R300, R302, R310, R329 to R331, R334, R336 and R338.
What is the model's own choice or reading here: log entries 33 and 30. -/
def Obligations.ControllersAreEnabledAndReset : Prop :=
  (∀ (s : State) (port fn : Nat), port < 2 → fn < 256 → s.dev.ctxsOnce → Completes (.controllerDisable port fn) s (fun d =>
      ((s.dev.fn port fn).en = false → d = s.clean)
      ∧ ((s.dev.fn port fn).en = true → s.dev.host.act = .swapping → d = s.clean.setFn port fn (fun f => { f with later := if f.later = 0 then 1 else f.later }))
      ∧ ((s.dev.fn port fn).en = true → s.dev.host.act ≠ .swapping →
          (d.fn port fn).en = false ∧ (d.fn port fn).rdy = false ∧ (d.fn port fn).sqs = [] ∧ (d.fn port fn).cqs = [] ∧ (d.fn port fn).feats = []
          ∧ (d.fn port fn).present = (s.dev.fn port fn).present ∧ (d.fn port fn).masked = (s.dev.fn port fn).masked
          ∧ (∀ e, e ∈ d.host.ctxs → ¬ (ctxPort e.1 = port ∧ e.2.fn = fn)) ∧ (∀ p f, (p ≠ port ∨ f ≠ fn) → (d.fn p f).sqs = (s.dev.fn p f).sqs ∧ (d.fn p f).en = (s.dev.fn p f).en)
          ∧ bitOf (d.hdr (pHOST port)).evtStat 2 = true)))
  ∧ (∀ (s : State) (port fn : Nat), port < 2 → fn < 256 → s.dev.ctxsOnce → Completes (.functionLevelReset port fn) s (fun d =>
      (s.dev.fnExists port fn = false → d = s.clean)
      ∧ (s.dev.fnExists port fn = true → s.dev.host.act = .swapping → d = s.clean.setFn port fn (fun f => { f with later := if f.later = 3 then 3 else 2 }))
      ∧ (s.dev.fnExists port fn = true → s.dev.host.act ≠ .swapping → (fn = 0 ∨ s.dev.ten.active = false) →
          (d.fn port fn).en = false ∧ (d.fn port fn).sqs = [] ∧ (d.fn port fn).cqs = [] ∧ (d.fn port fn).d3 = false ∧ (d.fn port fn).ats = false ∧ (d.fn port fn).masked = []
          ∧ (∀ e, e ∈ d.host.ctxs → ¬ (ctxPort e.1 = port ∧ e.2.fn = fn)) ∧ (∀ p f, (p ≠ port ∨ f ≠ fn) → (d.fn p f).sqs = (s.dev.fn p f).sqs ∧ (d.fn p f).en = (s.dev.fn p f).en)
          ∧ bitOf (d.hdr (pHOST port)).evtStat 2 = true)))
  ∧ (∀ (s : State) (port fn iosqes iocqes asq acq : Nat), port < 2 → fn < 256 → Completes (.controllerEnable port fn iosqes iocqes asq acq) s (fun d =>
      let f := s.dev.fn port fn
      ((s.dev.fnExists port fn = false ∨ f.en = true ∨ (fn ≠ 0 ∧ f.present = false) ∨ (s.dev.hport port).perst = true) → d = s.clean)
      ∧ (s.dev.fnExists port fn = true → f.en = false → (fn = 0 ∨ f.present = true) → (s.dev.hport port).perst = false →
          d.host.ctxs = s.dev.host.ctxs ∧ d.regs = s.dev.regs ∧ d.zone = s.dev.zone
          ∧ ((iosqes ≠ 6 ∨ iocqes ≠ 4) → d.fn port fn = { f with en := true, cfs := true, present := true })
          ∧ (iosqes = 6 → iocqes = 4 → d.fn port fn = { f with
              present := true, en := true, cfs := false, rdy := fn == 0 && (s.dev.fsto.recovery || s.dev.host.recovered), wantRdy := !(fn == 0 && (s.dev.fsto.recovery || s.dev.host.recovered))
              allot := s.dev.allotFor fn, idleAt := s.dev.now, sqs := [(0, { cq := 0, size := asq, head := 0, tail := 0, deleting := none })]
              cqs := [(0, { size := acq, head := 0, tail := 0, phase := true, vec := 0, ien := true, coal := 0, coalAt := 0 })] }))))
  ∧ (∀ (s : State) (port fn : Nat), port < 2 → fn < 256 → Completes (.vfReady port fn) s (fun d =>
      let f := s.dev.fn port fn
      let free := ∀ e, e ∈ (s.dev.fn port 0).sqs → e.1 ≤ s.dev.allotFor 0
      ((fn ≠ 0 ∧ f.en = true ∧ f.cfs = false ∧ f.rdy = false ∧ s.dev.partitioned = true ∧ s.dev.host.recovered = true ∧ free) →
          d = s.clean.setFn port fn (fun g => { g with rdy := true, wantRdy := false, allot := s.dev.allotFor fn }))
      ∧ (¬ (fn ≠ 0 ∧ f.en = true ∧ f.cfs = false ∧ f.rdy = false ∧ s.dev.partitioned = true ∧ s.dev.host.recovered = true ∧ free) → d = s.clean)))
  ∧ (∀ (s : State) (port fn : Nat), port < 2 → fn < 256 → s.dev.ctxsOnce → Completes (.shutdownRequest port fn) s (fun d =>
      (((s.dev.fn port fn).en = false ∨ (s.dev.fn port fn).stopping = true) → d = s.clean)
      ∧ ((s.dev.fn port fn).en = true → (s.dev.fn port fn).stopping = false →
          (d.fn port fn).stopping = true ∧ d.zone.nss = s.dev.zone.nss
          ∧ ((∀ e, e ∈ s.dev.host.ctxs → ctxPort e.1 = port → e.2.fn ≠ fn) → d = s.clean.setFn port fn (fun f => { f with stopping := true, shst := 2 }))
          ∧ ((∃ k v, s.dev.ctx k = some v ∧ ctxPort k = port ∧ v.fn = fn ∧ v.e.cmd ≠ .asyncEvent) → (d.fn port fn).shst = 1))))
  ∧ (∀ (s : State) (port fn : Nat) (t : List (Nat × Nat)), port < 2 → fn < 256 → Completes (.apstTransition port fn) s (fun d =>
      let f := s.dev.fn port fn
      (f.apstTable = none → d = s.clean) ∧ (f.en = false → d = s.clean)
      ∧ ((∃ k v, s.dev.ctx k = some v ∧ ctxPort k = port ∧ v.fn = fn ∧ v.e.cmd ≠ .asyncEvent) → d = s.clean)
      ∧ (f.apstTable = some t → f.en = true → (∀ e, e ∈ s.dev.host.ctxs → ctxPort e.1 = port → e.2.fn = fn → e.2.e.cmd = .asyncEvent) → (∀ e, e ∈ f.sqs → e.2.head = e.2.tail) → f.ps < 3 →
          (t.getD f.ps (0, 0)).1 ≠ 0 → ((t.getD f.ps (0, 0)).2 = 3 ∨ (t.getD f.ps (0, 0)).2 = 4) →
          (d.fn port fn).ps = (if s.dev.paired then 3 else (t.getD f.ps (0, 0)).2) ∧ (d.fn port fn).sqs = f.sqs ∧ d.host.ctxs = s.dev.host.ctxs ∧ d.regs = s.dev.regs)))
  ∧ (∀ (s : State) (port fn n : Nat) (on : Bool), port < 2 → s.dev.hportOn port = true → (s.dev.hport port).perst = false → s.dev.powr.entry ≠ .prepare →
    Completes (.configurationWrite port (.vfEnable n)) s (fun d => ∀ f, 1 ≤ f → (d.fn port f).present = decide (f ≤ n ∧ f ≤ (if s.dev.portMode = 0 then 64 else 32)))
    ∧ Completes (.configurationWrite port (.dState fn on)) s (fun d => d.fn port fn = { s.dev.fn port fn with d3 := on } ∧ d.host.ctxs = s.dev.host.ctxs ∧ d.regs = s.dev.regs)
    ∧ Completes (.configurationWrite port (.ats fn on)) s (fun d => d.fn port fn = { s.dev.fn port fn with ats := on, atc := if on then (s.dev.fn port fn).atc else [] } ∧ d.regs = s.dev.regs)
    ∧ Completes (.configurationWrite port (.maskFn fn on)) s (fun d => d.fn port fn = { s.dev.fn port fn with msiMask := on } ∧ d.out = [] ∧ d.regs = s.dev.regs)
    ∧ Completes (.configurationWrite port (.maskVec fn n)) s (fun d => n ∈ (d.fn port fn).masked ∧ d.out = [] ∧ d.regs = s.dev.regs)
    ∧ (2 ≤ n → n ≤ 7 → 2 ≤ (s.dev.hport port).lstate → Completes (.configurationWrite port (.linkState n)) s (fun d => (d.hport port).lstate = n ∧ d.host.ctxs = s.dev.host.ctxs ∧ d.regs = s.dev.regs)))

/-! ## Partitions, slices and mailboxes (R342 to R373, R559) -/

/-- R21, R342, R344, R345, R349, R352, R354, R355, R363, R364, R366 and R559.  What is the model's own choice or reading here: log entries 49 and 69. -/
def Obligations.TenancyAndSlices : Prop :=
  (∀ (s : State) (b m : Nat), m < 45 → b < 3 → s.dev.takesWrite pPART 0x100 → s.dev.powr.entry ≠ .prepare →
    Completes (.tenancyEnable b m) s (fun d =>
      (s.dev.sysc.cur = .standalone → s.dev.epochBusy = true → d.sysc.epochResult = 1 ∧ d.ten = s.dev.ten ∧ bitOf (d.hdr pSYSC).evtStat 2 = true)
      ∧ (s.dev.sysc.cur = .standalone → s.dev.epochBusy = false → d.sysc.epoch = s.dev.sysc.epoch + 1 ∧ d.sysc.cur = .partitioned ∧ d.sysc.base = some .partitioned ∧ d.ten.active = true ∧ bitOf (d.hdr pPART).evtStat 0 = true
          ∧ ∀ p, p < 64 → (d.part p).avail = s.dev.rf pPART 0x10C 0 16 ∧ (d.part p).spent = 0 ∧ (d.slice (64 * p)).exists_ = true ∧ (d.slice (64 * p)).resCtx = 1024
            ∧ (d.slice (64 * p)).resArea = 128 ∧ (d.slice (64 * p)).cls = (if b = 0 then .a else if b = 1 then .b else .c))
      ∧ (s.dev.sysc.cur ≠ .standalone → d.sysc.epochResult = (if s.dev.sysc.cur = .service then 5 else 6) ∧ d.ten = s.dev.ten ∧ bitOf (d.hdr pSYSC).evtStat 2 = true))
    ∧ Completes (.tenancyDisable m) s (fun d =>
      (s.dev.sysc.cur = .partitioned → s.dev.anyCreated = false → (∀ e, e ∈ s.dev.fnList → e.2 = 0 ∨ (s.dev.fn e.1 e.2).present = false) →
          s.dev.epochBusy = true → d.sysc.epochResult = 1 ∧ d.ten = s.dev.ten)
      ∧ (s.dev.sysc.cur = .partitioned → s.dev.anyCreated = false → (∀ e, e ∈ s.dev.fnList → e.2 = 0 ∨ (s.dev.fn e.1 e.2).present = false) →
          s.dev.epochBusy = false → d.sysc.epoch = s.dev.sysc.epoch + 1 ∧ d.sysc.cur = .standalone ∧ d.sysc.base = some .standalone ∧ d.ten.active = false ∧ (∀ i, (d.slice i).exists_ = false) ∧ bitOf (d.hdr pPART).evtStat 1 = true)
      ∧ ((s.dev.sysc.cur ≠ .partitioned ∨ s.dev.anyCreated = true ∨ ∃ e, e ∈ s.dev.fnList ∧ e.2 ≠ 0 ∧ (s.dev.fn e.1 e.2).present = true) → d.sysc.epochResult = (if s.dev.sysc.cur = .service then 5 else 6) ∧ d.ten = s.dev.ten)))
  ∧ (∀ (s : State) (i m : Nat), i < 4096 → m < 45 → s.dev.pageError (pSLIC i) = none → s.dev.powr.entry ≠ .prepare →
    Completes (.sliceCreate i m) s (fun d =>
      (s.dev.createCode i ≠ 0 → d.slice i = { s.dev.slice i with result := s.dev.createCode i } ∧ (∀ j, j ≠ i → d.slice j = s.dev.slice j) ∧ bitOf (d.hdr (pSLIC i)).evtStat 21 = true
          ∧ (s.dev.createCode i = 5 → d.sysc.epochResult = 5) ∧ d.zone = s.dev.zone)
      ∧ (s.dev.createCode i = 0 →
          let w := s.dev.cell (pSLIC i) (slicOff i 8)
          let q := s.dev.cell (pSLIC i) (slicOff i 12)
          let y := d.slice i
          y.exists_ = true ∧ y.gen = ((s.dev.slice i).gen + 1) % 65536 ∧ y.pasid = fld w 0 20 ∧ y.strict = bitOf w 31 ∧ y.resCtx = fld q 16 11 ∧ y.resArea = fld q 0 8 ∧ y.result = 0
          ∧ y.heldCtx = 0 ∧ d.slice (baseOf i) = { s.dev.slice (baseOf i) with resCtx := (s.dev.slice (baseOf i)).resCtx - y.resCtx, resArea := (s.dev.slice (baseOf i)).resArea - y.resArea }
          ∧ (∀ j, j ≠ i → j ≠ baseOf i → d.slice j = s.dev.slice j) ∧ bitOf (d.hdr (pSLIC i)).evtStat 16 = true ∧ d.host.ctxs = s.dev.host.ctxs))
    ∧ Completes (.sliceReset i m) s (fun d =>
      let y := s.dev.slice i
      (s.dev.partitioned = true → (y.exists_ = false ∨ y.removing = true ∨ y.draining = true) → d.slice i = { y with result := 1 } ∧ d.host.ctxs = s.dev.host.ctxs)
      ∧ (s.dev.partitioned = false → d.slice i = { y with result := 4 } ∧ d.host.ctxs = s.dev.host.ctxs)
      ∧ (s.dev.partitioned = true → y.exists_ = true → y.removing = false → y.draining = false →
          (d.slice i).gen = (y.gen + 1) % 65536 ∧ (d.slice i).draining = true ∧ (d.slice i).exists_ = true ∧ (d.slice i).result = 0 ∧ (d.slice i).version = none ∧ (d.slice i).upFull = false
          ∧ (d.slice i).pasid = y.pasid ∧ (d.slice i).resCtx = y.resCtx ∧ (d.slice i).mbxVec = y.mbxVec
          ∧ (∀ e, e ∈ d.host.ctxs → ¬ (e.2.slice = some i ∧ e.2.gen = y.gen))
          ∧ (d.slice i).discard = y.discard + u32 (s.dev.host.ctxs.filter (fun e => e.2.slice == some i && e.2.gen == y.gen)).length
          ∧ (i % 64 ≠ 0 → (∀ e, e ∈ (s.dev.fn (s.dev.fnOfPart (i / 64)).1 (s.dev.fnOfPart (i / 64)).2).sqs → e.2.deleting = none) → ∀ q,
              ((s.dev.fn (s.dev.fnOfPart (i / 64)).1 (s.dev.fnOfPart (i / 64)).2).binds.get SqBind.reset q).index = i % 64 →
              ((d.fn (s.dev.fnOfPart (i / 64)).1 (s.dev.fnOfPart (i / 64)).2).binds.get SqBind.reset q).held = true)))
    ∧ Completes (.sliceRemove i m) s (fun d =>
      let y := s.dev.slice i
      (s.dev.partitioned = true → s.dev.sysc.service = none → i % 64 = 0 → d.slice i = { y with result := 7 })
      ∧ (s.dev.partitioned = true → s.dev.sysc.service = none → i % 64 ≠ 0 → y.exists_ = false → d.slice i = { y with result := 1 })
      ∧ (s.dev.partitioned = true → s.dev.sysc.service = none → i % 64 ≠ 0 → y.exists_ = true → y.removing = false → y.removeWait = false → y.resizing = none →
          (y.draining = true → d = s.clean.setSlice i (fun z => { z with result := 0, removeWait := true }))
          ∧ (y.draining = false → (d.slice i).removing = true ∧ (d.slice i).draining = true ∧ (d.slice i).gen = (y.gen + 1) % 65536 ∧ (d.slice i).exists_ = true
              ∧ (∀ e, e ∈ d.host.ctxs → ¬ (e.2.slice = some i ∧ e.2.gen = y.gen)))))
    ∧ Completes (.sliceResize i m) s (fun d =>
      let y := s.dev.slice i
      let b := s.dev.slice (baseOf i)
      let c := s.dev.rf (pSLIC i) (slicOff i 12) 16 11
      let a := s.dev.rf (pSLIC i) (slicOff i 12) 0 8
      s.dev.partitioned = true → i % 64 ≠ 0 → y.exists_ = true → y.removing = false → y.removeWait = false → y.resizing = none →
        ((1024 < c ∨ 128 < a) → d.slice i = { y with result := 2 })
        ∧ (c ≤ 1024 → a ≤ 128 → (b.freeCtx < c - y.resCtx ∨ b.freeArea < a - y.resArea) → d.slice i = { y with result := 3 } ∧ d.slice (baseOf i) = b)
        ∧ (c ≤ 1024 → a ≤ 128 → c - y.resCtx ≤ b.freeCtx → a - y.resArea ≤ b.freeArea →
            (d.slice i).resCtx + (d.slice (baseOf i)).resCtx = y.resCtx + b.resCtx ∧ (d.slice i).resArea + (d.slice (baseOf i)).resArea = y.resArea + b.resArea
            ∧ (d.slice i).result = 0 ∧ (d.slice i).heldCtx = y.heldCtx ∧ (d.slice i).gen = y.gen
            ∧ (y.heldCtx ≤ c → y.heldArea ≤ a → (d.slice i).resCtx = c ∧ (d.slice i).resArea = a ∧ (d.slice i).resizing = none)
            ∧ (c < y.heldCtx → y.heldCtx ≤ y.resCtx → (d.slice i).resizing = some (c, a) ∧ (d.slice i).resCtx = y.resCtx))))
  ∧ (∀ (s : State) (i : Nat), i < 4096 → Completes (.sliceDrainComplete i) s (fun d =>
      let y := s.dev.slice i
      (y.draining = false → d = s.clean) ∧ ((∃ e, e ∈ s.dev.host.ctxs ∧ e.2.slice = some i ∧ e.2.gen = y.oldGen) → d = s.clean)
      ∧ (y.draining = true → (∀ e, e ∈ s.dev.host.ctxs → ¬ (e.2.slice = some i ∧ e.2.gen = y.oldGen)) → y.oldOps = [] →
          bitOf (d.hdr (pSLIC i)).evtStat 17 = true ∧ ((y.removing = true ∨ y.removeWait = false) → d.host.ctxs = s.dev.host.ctxs)
          ∧ (y.removing = false → y.removeWait = false → (d.slice i).draining = false ∧ (d.slice i).exists_ = y.exists_ ∧ (d.slice i).gen = y.gen
              ∧ ∃ n, (d.slice i).waiting = y.waiting ++ [n] ∧ n.manager = false ∧ msgType n.words = 3 ∧ msgGen n.words = y.gen % 65536 ∧ fld (n.words.getD 2 0) 0 8 = 0)
          ∧ (y.removing = true → i % 64 ≠ 0 → (d.slice i).exists_ = false ∧ (d.slice i).removing = false ∧ (d.slice i).pasid = 0 ∧ (d.slice i).resCtx = 0
              ∧ (d.slice (baseOf i)).resCtx = (s.dev.slice (baseOf i)).resCtx + y.resCtx ∧ (d.slice (baseOf i)).heldArea = (s.dev.slice (baseOf i)).heldArea + y.heldArea
              ∧ bitOf (d.hdr (pSLIC i)).evtStat 18 = true))))
  ∧ (∀ (s : State) (i : Nat), i < 4096 → Completes (.resizeShrinkComplete i) s (fun d =>
      ((s.dev.slice i).resizing = none → d = s.clean)
      ∧ (∀ c a, (s.dev.slice i).resizing = some (c, a) → i % 64 ≠ 0 → c ≤ (s.dev.slice i).resCtx → a ≤ (s.dev.slice i).resArea →
          (d.slice i).resCtx + (d.slice (baseOf i)).resCtx = (s.dev.slice i).resCtx + (s.dev.slice (baseOf i)).resCtx
          ∧ ((s.dev.slice i).heldCtx ≤ c → (s.dev.slice i).heldArea ≤ a → (d.slice i).resCtx = c ∧ (d.slice i).resArea = a ∧ (d.slice i).resizing = none)
          ∧ (c < (s.dev.slice i).heldCtx → (d.slice i).resCtx = (s.dev.slice i).resCtx))))
  ∧ (∀ (s : State) (port fn q index : Nat), port < 2 → fn < 256 → q < 65536 → Completes (.sqBindWrite port fn q index) s (fun d =>
      ((s.dev.ten.active = false ∨ fn = 0 ∨ (s.dev.fn port fn).present = false ∨ q = 0 ∨ 191 < q) → d = s.clean)
      ∧ (s.dev.ten.active = true → fn ≠ 0 → (s.dev.fn port fn).present = true → 1 ≤ q → q ≤ 191 →
          ((index % 64 ≠ 0 ∧ (s.dev.slice (64 * s.dev.partOfFn port fn + index % 64)).exists_ = false) → d = s.clean)
          ∧ ((index % 64 = 0 ∨ (s.dev.slice (64 * s.dev.partOfFn port fn + index % 64)).exists_ = true) →
              (d.fn port fn).binds.get SqBind.reset q = { index := index % 64, held := false } ∧ (∀ r, r ≠ q → (d.fn port fn).binds.get SqBind.reset r = (s.dev.fn port fn).binds.get SqBind.reset r)
              ∧ d.host.ctxs = s.dev.host.ctxs ∧ d.ten = s.dev.ten ∧ d.regs = s.dev.regs))))
  ∧ (∀ (s : State), Completes .tokenRefill s (fun d =>
      (s.dev.ten.active = false → d = s.clean)
      ∧ (s.dev.ten.active = true → d = { s.clean with ten := d.ten } ∧ d.ten.slices = s.dev.ten.slices ∧ d.ten.active = true
          ∧ ∀ p, d.part p = (if (s.dev.part p).spent = 0 then s.dev.part p else { s.dev.part p with avail := (s.dev.part p).avail + 1, spent := (s.dev.part p).spent - 1 }))))

/-- R356 to R362.  What is the model's own choice or reading here: log entries 18 and 49. -/
def Obligations.Mailboxes : Prop :=
  (∀ (s : State) (port fn n i : Nat) (pasid : Option Nat) (ws : List Word) (c : Instr), port < 2 → fn < 256 → s.dev.vfTakes port fn n pasid → i = s.dev.sliceOfVf port fn n →
    (c = .negonHello port fn n pasid ws ∨ c = .negonInfo port fn n pasid ws ∨ c = .negonUser port fn n pasid ws ∨ c = .negonResize port fn n pasid ws ∨ c = .negonStats port fn n pasid ws) →
    (s.dev.slice i).upFull = true → Completes c s (fun d => d = s.clean.setSlice i Slice.drop))
  ∧ (∀ (s : State) (port fn n i lo top : Nat) (pasid : Option Nat) (ws : List Word), port < 2 → fn < 256 → s.dev.vfTakes port fn n pasid → i = s.dev.sliceOfVf port fn n →
    (s.dev.slice i).upFull = false → lo = fld (ws.getD 2 0) 8 8 → top = min (fld (ws.getD 2 0) 0 8) 0x12 → Completes (.negonHello port fn n pasid ws) s (fun d =>
      (d.slice i).upFull = false ∧ (d.slice i).version = (if top < lo ∨ top < 0x10 then none else some top) ∧ (∀ j, j ≠ i → d.slice j = s.dev.slice j)
      ∧ ∃ r, (d.slice i).waiting = (s.dev.slice i).waiting ++ [r] ∧ r.manager = false ∧ msgType r.words = 1 ∧ msgGen r.words = (s.dev.slice i).gen % 65536
        ∧ fld (r.words.headD 0) 16 8 = fld (ws.getD 0 0) 16 8 ∧ bitOf (r.words.headD 0) 24 = true
        ∧ fld (r.words.getD 1 0) 24 8 = (if top < lo ∨ top < 0x10 then 2 else 0)
        ∧ (lo ≤ top → 0x10 ≤ top → fld (r.words.getD 2 0) 0 8 = top ∧ fld (r.words.getD 2 0) 8 8 = 0x12)))
  ∧ (∀ (s : State) (port fn n i ty : Nat) (pasid : Option Nat) (ws : List Word) (c : Instr), port < 2 → fn < 256 → s.dev.vfTakes port fn n pasid → i = s.dev.sliceOfVf port fn n →
    (s.dev.slice i).upFull = false → (s.dev.slice i).version = none →
    (c = .negonInfo port fn n pasid ws ∧ ty = 2 ∨ c = .negonUser port fn n pasid ws ∧ ty = 4 ∨ c = .negonResize port fn n pasid ws ∧ ty = 5 ∨ c = .negonStats port fn n pasid ws ∧ ty = 6) →
    Completes c s (fun d => (d.slice i).upFull = false ∧ ∃ r, (d.slice i).waiting = (s.dev.slice i).waiting ++ [r] ∧ msgType r.words = ty ∧ fld (r.words.getD 1 0) 24 8 = 2
      ∧ fld (r.words.headD 0) 16 8 = fld (ws.getD 0 0) 16 8))
  ∧ (∀ (s : State) (port fn n i v : Nat) (pasid : Option Nat) (ws : List Word), port < 2 → fn < 256 → s.dev.vfTakes port fn n pasid → i = s.dev.sliceOfVf port fn n →
    (s.dev.slice i).upFull = false → (s.dev.slice i).version = some v → 0x12 ≤ v → fld (ws.getD 1 0) 16 8 ≤ 24 →
    Completes (.negonInfo port fn n pasid ws) s (fun d => (d.slice i).upFull = false ∧ ∃ r, (d.slice i).waiting = (s.dev.slice i).waiting ++ [r] ∧ msgType r.words = 2 ∧ fld (r.words.getD 1 0) 24 8 = 0
      ∧ fld (r.words.getD 2 0) 0 16 = i % 65536 ∧ fld (r.words.getD 2 0) 16 8 = i / 64 % 256 ∧ r.words.getD 3 0 = u32 (s.dev.slice i).pasid
      ∧ fld (r.words.getD 4 0) 0 16 = (s.dev.slice i).resCtx % 65536 ∧ fld (r.words.getD 4 0) 16 16 = (s.dev.slice i).heldCtx % 65536)
    ∧ Completes (.negonStats port fn n pasid ws) s (fun d => (d.slice i).upFull = false ∧ ∃ r, (d.slice i).waiting = (s.dev.slice i).waiting ++ [r] ∧ msgType r.words = 6 ∧ fld (r.words.getD 1 0) 24 8 = 0
      ∧ r.words.getD 2 0 = (s.dev.slice i).fetched ∧ r.words.getD 3 0 = (s.dev.slice i).discard ∧ r.words.getD 4 0 = u32 (s.dev.part (i / 64)).avail ∧ r.words.getD 5 0 = (s.dev.part (i / 64)).tokWait)
    ∧ Completes (.negonUser port fn n pasid ws) s (fun d => (d.slice i).upFull = true ∧ bitOf (d.hdr (pSLIC i)).evtStat (i % 16) = true ∧ (d.slice i).waiting = (s.dev.slice i).waiting
      ∧ (d.slice i).up.length = 8 ∧ msgType (d.slice i).up = 4 ∧ msgGen (d.slice i).up = (s.dev.slice i).gen % 65536 ∧ (∀ j, 2 ≤ j → j < 8 → (d.slice i).up.getD j 0 = ws.getD j 0))
    ∧ (3 ≤ fld (ws.getD 1 0) 16 8 → Completes (.negonResize port fn n pasid ws) s (fun d => (d.slice i).upFull = true ∧ bitOf (d.hdr (pSLIC i)).evtStat (i % 16) = true
      ∧ msgType (d.slice i).up = 5 ∧ (d.slice i).resCtx = (s.dev.slice i).resCtx)))
  ∧ (∀ (s : State) (port fn n i : Nat) (pasid : Option Nat), port < 2 → fn < 256 → i = s.dev.sliceOfVf port fn n →
    (s.dev.vfTakes port fn n pasid → Completes (.mailboxDownAck port fn n pasid) s (fun d => d = s.clean.setSlice i (fun y => { y with downFull := false })))
    ∧ (s.dev.ten.active = true → fn ≠ 0 → (s.dev.fn port fn).present = true → n < 64 → (s.dev.slice i).exists_ = true → (s.dev.slice i).refuses pasid = true →
        Completes (.mailboxDownAck port fn n pasid) s (fun d => d.ten = s.dev.ten ∧ bitOf (d.hdr (pSLIC i)).evtStat 20 = true)))
  ∧ (∀ (s : State) (i m : Nat), i < 4096 → m < 45 → s.dev.pageError (pSLIC i) = none →
    Completes (.mailboxUpAck i m) s (fun d => d = s.clean.setSlice i (fun y => { y with up := [], upFull := false }))
    ∧ Completes (.mailboxPost i m) s (fun d =>
      (((s.dev.slice i).exists_ = false ∨ ∃ w, w ∈ (s.dev.slice i).waiting ∧ w.manager = true) → d = s.clean)
      ∧ ((s.dev.slice i).exists_ = true → (∀ w, w ∈ (s.dev.slice i).waiting → w.manager = false) →
          d = s.clean.setSlice i (fun y => { y with waiting := y.waiting ++ [{ manager := true, at_ := s.dev.now, words := (List.range 8).map (fun j => s.dev.cell (pSLIC i) (0x320 + 0x40 * (i % 16) + 4 * j)) }] }))))
  ∧ (∀ (s : State) (i : Nat), i < 4096 → Completes (.mailboxDownDeliver i) s (fun d =>
      (((s.dev.slice i).waiting = [] ∨ (s.dev.slice i).downFull = true ∨ (s.dev.slice i).exists_ = false) → d = s.clean)
      ∧ (∀ w rest, (s.dev.slice i).waiting = w :: rest → (s.dev.slice i).downFull = false → (s.dev.slice i).exists_ = true →
          (msgGen w.words = (s.dev.slice i).gen → d.slice i = { s.dev.slice i with waiting := rest, down := w.words, downFull := true }
              ∧ (bitOf (s.dev.slice i).mbxVec 31 = false → d = s.clean.setSlice i (fun z => { z with waiting := rest, down := w.words, downFull := true }))
              ∧ (∀ f, f = s.dev.fn (s.dev.fnOfPart (i / 64)).1 (s.dev.fnOfPart (i / 64)).2 → bitOf (s.dev.slice i).mbxVec 31 = true → f.msiMask = false →
                  f.masked.contains (fld (s.dev.slice i).mbxVec 0 11) = false → d.out = [.msix (s.dev.fnOfPart (i / 64)).1 (s.dev.fnOfPart (i / 64)).2 (fld (s.dev.slice i).mbxVec 0 11)]))
          ∧ (msgGen w.words ≠ (s.dev.slice i).gen → d.slice i = { s.dev.slice i with waiting := rest, drops := satAt 255 ((s.dev.slice i).drops + 1) } ∧ d.out = []
              ∧ bitOf (d.hdr (pSLIC i)).evtStat 19 = true))))

/-! ## DRAM (R374 to R398) -/

/-- R376 to R379, R382 to R385, R394, R396 and R397.
What is the model's own choice or reading here: log entries 12, 19 and 47. -/
def Obligations.DramTraffic : Prop :=
  (∀ (s : State) (p addr len n c : Nat) (data : Option (List Byte)) (bad : Bool) (use : DramUse), p < 8 → c = chanOf (addr - dramBase) →
    n = (match data with | some bs => bs.length | none => len) → Completes (.dramRequest p addr len data bad use) s (fun d =>
      ((addr < dramBase ∨ s.dev.dramBytes ≤ addr - dramBase ∨ n = 0 ∨ 64 < (addr - dramBase) % 64 + n ∨ (s.dev.chan c).serves = false) → d = s.clean)
      ∧ (dramBase ≤ addr → addr - dramBase < s.dev.dramBytes → 1 ≤ n → (addr - dramBase) % 64 + n ≤ 64 → (s.dev.chan c).serves = true →
          d = { s.clean with dram := d.dram, mem := d.mem, regs := d.regs } ∧ (∀ k, k ≠ c → d.chan k = s.dev.chan k)
          ∧ (d.chan c).reqs = (s.dev.chan c).reqs ++ [{ port := p, write := data.isSome, addr := addr - dramBase, len := len, arrived := s.dev.now, use := use }]
          ∧ ((d.chan c).ports.get DramPort.reset p).issued = ((s.dev.chan c).ports.get DramPort.reset p).issued + 1
          ∧ (data = none → d.mem = s.dev.mem ∧ d.dram.poison = s.dev.dram.poison ∧ d.regs = s.dev.regs
              ∧ ((d.chan c).ports.get DramPort.reset p).opened = ((s.dev.chan c).ports.get DramPort.reset p).opened + 1
              ∧ ((d.chan c).ports.get DramPort.reset p).done = ((s.dev.chan c).ports.get DramPort.reset p).done)
          ∧ (∀ bs, data = some bs → (∀ x, d.byte x = if addr ≤ x ∧ x < addr + bs.length then bs.getD (x - addr) 0 else s.dev.byte x)
              ∧ ((d.chan c).ports.get DramPort.reset p).opened = ((s.dev.chan c).ports.get DramPort.reset p).opened
              ∧ ((d.chan c).ports.get DramPort.reset p).done = ((s.dev.chan c).ports.get DramPort.reset p).done + 1
              ∧ (∀ b, b ≠ (addr - dramBase) / 64 → (b ∈ d.dram.poison ↔ b ∈ s.dev.dram.poison))
              ∧ (bs.length = 64 → (addr - dramBase) / 64 ∉ d.dram.poison ∧ d.regs = s.dev.regs)
              ∧ (bs.length ≠ 64 → ((addr - dramBase) / 64 ∈ d.dram.poison ↔ (bad = true ∨ (addr - dramBase) / 64 ∈ s.dev.dram.poison)))
              ∧ (bs.length ≠ 64 → bad = true → d.cell (pDRAM c) 0x138 = s.dev.cell (pDRAM c) 0x138 + 1)))))
  ∧ (∀ (s : State) (c sub : Nat) (errs : List Nat), c < 4 → sub < 2 → Completes (.dramBurstRead c sub errs) s (fun d =>
      ((s.dev.chan c).serves = false ∨ (∀ r, r ∈ (s.dev.chan c).reqs → subOf r.addr ≠ sub) → d = s.clean)
      ∧ ((s.dev.chan c).serves = true → (∀ r, r ∈ (s.dev.chan c).reqs → subOf r.addr = sub → r.write = true) →
          (∀ r, r ∈ (d.chan c).reqs → subOf r.addr ≠ sub) ∧ d.mem = s.dev.mem ∧ d.out = [])
      ∧ ((s.dev.chan c).serves = true → (∃ r, r ∈ (s.dev.chan c).reqs ∧ subOf r.addr = sub) → (∀ r, r ∈ (s.dev.chan c).reqs → subOf r.addr = sub → r.write = false ∧ r.use = .plain) →
          ∃ r, r ∈ (s.dev.chan c).candidates sub ∧ (∀ q, q ∈ (s.dev.chan c).candidates sub → s.dev.ahead c ((s.dev.chan c).draining.getD sub false) q r = false)
            ∧ (d.chan c).reqs = (s.dev.chan c).reqs.erase r ∧ d.mem = s.dev.mem ∧ d.dram.poison = s.dev.dram.poison
            ∧ ((d.chan c).ports.get DramPort.reset r.port).done = ((s.dev.chan c).ports.get DramPort.reset r.port).done + 1
            ∧ ((d.chan c).ports.get DramPort.reset r.port).opened = ((s.dev.chan c).ports.get DramPort.reset r.port).opened - 1
            ∧ ((d.chan c).ports.get DramPort.reset r.port).issued = ((s.dev.chan c).ports.get DramPort.reset r.port).issued
            ∧ (s.dev.dram.poison.contains (r.addr / 64) = true → d.out = [.burst r.port (s.dev.bytes (dramBase + r.addr) r.len) true] ∧ d.cell (pDRAM c) 0x134 = s.dev.cell (pDRAM c) 0x134)
            ∧ (s.dev.dram.poison.contains (r.addr / 64) = false →
                (errs = [] → d.out = [.burst r.port (s.dev.bytes (dramBase + r.addr) r.len) false] ∧ d.cell (pDRAM c) 0x130 = s.dev.cell (pDRAM c) 0x130)
                ∧ (errs ≠ [] → s.dev.drec.correctable errs = true → d.out = [.burst r.port (s.dev.bytes (dramBase + r.addr) r.len) false]
                    ∧ d.cell (pDRAM c) 0x130 = s.dev.cell (pDRAM c) 0x130 + 1 ∧ bitOf (d.hdr (pDRAM c)).evtStat 0 = true)
                ∧ (errs ≠ [] → s.dev.drec.correctable errs = false → d.out = [.burst r.port (s.dev.bytes (dramBase + r.addr) r.len) true]
                    ∧ d.cell (pDRAM c) 0x134 = s.dev.cell (pDRAM c) 0x134 + 1 ∧ bitOf (d.hdr (pDRAM c)).evtStat 1 = true
                    ∧ ((s.dev.chan c).armed = true → (d.chan c).armed = false ∧ d.cell (pDRAM c) 0x13C = u32 (dramBase + r.addr) ∧ bitOf (d.cell (pDRAM c) 0x144) 31 = true))))))
  ∧ (∀ (s : State) (c b : Nat), c < 4 → Completes (.pageCloseTimeout c b) s (fun d => d = { s.clean with dram := d.dram } ∧ d.dram.poison = s.dev.dram.poison
      ∧ (∀ k, k ≠ c → d.chan k = s.dev.chan k) ∧ d.chan c = { s.dev.chan c with banks := (d.chan c).banks }
      ∧ (d.chan c).banks.get DramBank.reset b = { (s.dev.chan c).banks.get DramBank.reset b with openRow := none }
      ∧ ∀ k, k ≠ b → (d.chan c).banks.get DramBank.reset k = (s.dev.chan c).banks.get DramBank.reset k))
  ∧ (∀ (s : State) (c m : Nat), c < 4 → m < 45 → s.dev.takesRead (pDRAM c) →
    Completes (.dramErrInfoRead c m) s (fun d => d.out = [.word (s.dev.cell (pDRAM c) 0x144) false] ∧ d.cell (pDRAM c) 0x144 = 0 ∧ d.chan c = { s.dev.chan c with armed := true }
      ∧ d.cell (pDRAM c) 0x13C = s.dev.cell (pDRAM c) 0x13C ∧ d = { s.clean with dram := d.dram, regs := d.regs, out := d.out })
    ∧ Completes (.latMaxRead c m) s (fun d => d.out = [.word (u32 ((s.dev.chan c).ports.get DramPort.reset (s.dev.rf (pDRAM c) 0x110 0 3)).latMax) false]
      ∧ d = { s.clean with dram := d.dram, out := d.out } ∧ (∀ k, k ≠ c → d.chan k = s.dev.chan k)
      ∧ ∀ q, (d.chan c).ports.get DramPort.reset q = (if q = s.dev.rf (pDRAM c) 0x110 0 3 then { (s.dev.chan c).ports.get DramPort.reset q with latMax := 0 } else (s.dev.chan c).ports.get DramPort.reset q))
    ∧ Completes (.pauseMaxRead c m) s (fun d => d.out = [.word (u32 (s.dev.chan c).pauseMax) false] ∧ d = { s.clean with dram := d.dram, out := d.out }
      ∧ d.chan c = { s.dev.chan c with pauseMax := 0 } ∧ ∀ k, k ≠ c → d.chan k = s.dev.chan k))

/-- R381, R386 to R389, R391 to R393, R395 and R398.  What is the model's own choice or reading here: log entries 45, 46 and 48. -/
def Obligations.DramUpkeep : Prop :=
  (∀ (s : State) (c : Nat) (banks : List Nat), c < 4 → banks.Nodup → Completes (.refreshDue c banks) s (fun d =>
      ((s.dev.chan c).serves = false → d = s.clean)
      ∧ ((s.dev.chan c).serves = true → d = { s.clean with dram := d.dram } ∧ d.chan c = { s.dev.chan c with banks := (d.chan c).banks } ∧ (∀ k, k ≠ c → d.chan k = s.dev.chan k)
          ∧ (∀ k, k ∉ banks → (d.chan c).banks.get DramBank.reset k = (s.dev.chan c).banks.get DramBank.reset k)
          ∧ (∀ k, k ∈ banks →
              ((∃ b, b ∈ banks ∧ s.dev.bankUrgent c b = true) → (∀ b, b ∈ banks → ((s.dev.chan c).banks.get DramBank.reset b).postponed < s.dev.rf (pDRAM c) 0x804 24 4) →
                (d.chan c).banks.get DramBank.reset k = { (s.dev.chan c).banks.get DramBank.reset k with postponed := ((s.dev.chan c).banks.get DramBank.reset k).postponed + 1 })
              ∧ (((∀ b, b ∈ banks → s.dev.bankUrgent c b = false) ∨ ∃ b, b ∈ banks ∧ s.dev.rf (pDRAM c) 0x804 24 4 ≤ ((s.dev.chan c).banks.get DramBank.reset b).postponed) →
                (d.chan c).banks.get DramBank.reset k = { (s.dev.chan c).banks.get DramBank.reset k with postponed := 0, openRow := none })))))
  ∧ (∀ (s : State) (c : Nat) (rs : List Mr4), c < 4 → rs.length = 4 → (s.dev.chan c).dbl.length = 2 → (s.dev.chan c).calm.length = 2 → (s.dev.drec.ranks = 1 ∨ s.dev.drec.ranks = 2) →
    Completes (.mr4Poll c rs) s (fun d =>
      ((s.dev.chan c).serves = false → d = s.clean)
      ∧ ((s.dev.chan c).serves = true → (d.chan c).temp = rs.map Mr4.code ∧ (∀ k, k ≠ c → d.chan k = s.dev.chan k) ∧ (d.chan c).reqs = (s.dev.chan c).reqs ∧ (d.chan c).st = (s.dev.chan c).st
          ∧ (∀ r a b, r < s.dev.drec.ranks → rs[r]? = some a → rs[2 + r]? = some b →
              ((a.cool = false ∨ b.cool = false ∨ bitOf (s.dev.cell (pDRAM c) 0x804) 31 = true) → (d.chan c).dbl.getD r false = true
                ∧ ((s.dev.chan c).dbl.getD r false = false → bitOf (d.hdr (pDRAM c)).evtStat 2 = true))
              ∧ (a.cool = true → b.cool = true → bitOf (s.dev.cell (pDRAM c) 0x804) 31 = false → (s.dev.chan c).dbl.getD r false = true →
                  ((s.dev.chan c).calm.getD r 0 = 0 → (d.chan c).dbl.getD r false = true ∧ (d.chan c).calm.getD r 0 = 1)
                  ∧ (1 ≤ (s.dev.chan c).calm.getD r 0 → (d.chan c).dbl.getD r false = false ∧ bitOf (d.hdr (pDRAM c)).evtStat 3 = true))
              ∧ ((a.hot = true ∨ b.hot = true) → bitOf (d.hdr (pDRAM c)).evtStat 8 = true ∧ hasBit d.thrm.hot c = true))
          ∧ ((∀ a, a ∈ rs → a.hot = false) → hasBit d.thrm.hot c = false))))
  ∧ (∀ (s : State) (c sub step ns drift : Nat) (failed : Option Nat), c < 4 → sub < 2 → (s.dev.chan c).trainFails.length = 2 → (s.dev.chan c).drift.length = 2 →
    Completes (.dqsOscMeasure c sub drift ns) s (fun d =>
      ((s.dev.mayPause c = false ∨ 500 < ns) → d = s.clean)
      ∧ (s.dev.mayPause c = true → ns ≤ 500 → d = { s.clean with dram := d.dram, regs := d.regs } ∧ d.cell (pDRAM c) 0x154 = s.dev.cell (pDRAM c) 0x154 + 1
          ∧ d.chan c = { s.dev.chan c with drift := (s.dev.chan c).drift.set sub drift, pauseMax := max (s.dev.chan c).pauseMax ns } ∧ ∀ k, k ≠ c → d.chan k = s.dev.chan k))
    ∧ Completes (.retrainStep c sub step ns failed) s (fun d =>
      ((s.dev.mayPause c = false ∨ 3 ≤ step ∨ s.dev.rf (pDRAM c) 0x808 0 16 < ns) → d = s.clean)
      ∧ (s.dev.mayPause c = true → step < 3 → ns ≤ s.dev.rf (pDRAM c) 0x808 0 16 → d.cell (pDRAM c) 0x154 = s.dev.cell (pDRAM c) 0x154 + 1 ∧ (d.chan c).pauseMax = max (s.dev.chan c).pauseMax ns
          ∧ (failed = none → (d.chan c).trainFails = [0, 0] ∧ d.cell (pDRAM c) 0x158 = s.dev.cell (pDRAM c) 0x158 ∧ (step = 2 → (d.chan c).drift.getD sub 1 = 0)
              ∧ (step < 2 → (d.chan c).drift = (s.dev.chan c).drift))
          ∧ (∀ r, failed = some r → r < 2 → d.cell (pDRAM c) 0x158 = s.dev.cell (pDRAM c) 0x158 + 1 ∧ (d.chan c).drift = (s.dev.chan c).drift
              ∧ (d.chan c).trainFails.getD r 0 = (s.dev.chan c).trainFails.getD r 0 + 1
              ∧ ((s.dev.chan c).trainFails.getD r 0 = 3 → bitOf (d.hdr (pDRAM c)).evtStat 4 = true
                  ∧ ((s.dev.rankRec c r).1 = 0 → bitOf (s.dev.cell (pDRAM c) 0x810) 8 = true → (s.dev.chan c).cond = none → (d.chan c).cond = some (r, 2)))))))
  ∧ (∀ (s : State) (c a : Nat) (errs : List Nat), c < 4 → a = scrubAddr c (s.dev.chan c).scrubPos → Completes (.patrolScrub c errs) s (fun d =>
      (((s.dev.chan c).serves = false ∨ s.dev.rf (pDRAM c) 0x80C 0 8 = 0) → d = s.clean)
      ∧ ((s.dev.chan c).serves = true → s.dev.rf (pDRAM c) 0x80C 0 8 ≠ 0 → d.mem = s.dev.mem ∧ d.dram.poison = s.dev.dram.poison
          ∧ ((s.dev.chan c).scrubPos + 1 < s.dev.chanBursts c → (d.chan c).scrubPos = (s.dev.chan c).scrubPos + 1 ∧ (d.chan c).scrubPasses = (s.dev.chan c).scrubPasses)
          ∧ (s.dev.chanBursts c ≤ (s.dev.chan c).scrubPos + 1 → (d.chan c).scrubPos = 0 ∧ (d.chan c).scrubPasses = ((s.dev.chan c).scrubPasses + 1) % 65536 ∧ (d.chan c).scrubTold = false)
          ∧ ((errs = [] ∨ s.dev.dram.poison.contains (a / 64) = true) → d = { s.clean with dram := d.dram })
          ∧ (errs ≠ [] → s.dev.dram.poison.contains (a / 64) = false →
              (s.dev.drec.correctable errs = true → d.cell (pDRAM c) 0x130 = s.dev.cell (pDRAM c) 0x130 + 1 ∧ bitOf (d.hdr (pDRAM c)).evtStat 0 = true)
              ∧ (s.dev.drec.correctable errs = false → d.cell (pDRAM c) 0x134 = s.dev.cell (pDRAM c) 0x134 + 1 ∧ a ∈ (d.chan c).ueSeen
                  ∧ ((s.dev.chan c).scrubTold = false → bitOf (d.hdr (pDRAM c)).evtStat 1 = true)
                  ∧ ((s.dev.chan c).ueSeen.contains a = true → (s.dev.rankRec c (s.dev.rankAt a)).1 = 0 → bitOf (s.dev.cell (pDRAM c) 0x810) 8 = true → (s.dev.chan c).cond = none →
                      (d.chan c).cond = some (s.dev.rankAt a, 1)))))))
  ∧ (∀ (s : State) (c m : Nat) (v : Word), c < 4 → m < 45 →
    let spare := s.dev.drec.ranks = 2 ∧ ∀ k, k < 4 → (s.dev.chan k).retired = 0 ∧ (s.dev.chan k).retiring = none
    Completes (.rankRetirement c) s (fun d =>
      (((s.dev.chan c).cond = none ∨ (s.dev.chan c).serves = false) → d = s.clean)
      ∧ (∀ r x, (s.dev.chan c).cond = some (r, x) → (s.dev.chan c).serves = true → (d.chan c).cond = none ∧ (d.chan c).retired = (s.dev.chan c).retired ∧ (d.chan c).st = (s.dev.chan c).st
          ∧ (spare → bitOf (d.hdr (pDRAM c)).evtStat 5 = true ∧ ∃ y, (d.chan c).retiring = some y ∧ y.rank = r ∧ y.cause = x ∧ y.started = s.dev.now)
          ∧ (¬ spare → bitOf (d.hdr (pDRAM c)).evtStat 7 = true ∧ (d.chan c).retiring = (s.dev.chan c).retiring)))
    ∧ (s.dev.takesWrite (pDRAM c) 0x814 → Completes (.rankRetireWrite c v m) s (fun d =>
      ((bitOf v 31 = false ∨ s.dev.anyRetiring = true) → bitOf (d.hdr (pDRAM c)).evtStat 31 = true ∧ d.dram = s.dev.dram)
      ∧ (bitOf v 31 = true → s.dev.anyRetiring = false → (s.dev.chan c).serves = true →
          (spare → bitOf (d.hdr (pDRAM c)).evtStat 5 = true ∧ ∃ y, (d.chan c).retiring = some y ∧ y.rank = (if bitOf v 0 then 1 else 0) ∧ y.cause = 3)
          ∧ (¬ spare → bitOf (d.hdr (pDRAM c)).evtStat 7 = true ∧ (d.chan c).retiring = (s.dev.chan c).retiring)))))
  ∧ (∀ (s : State) (c : Nat) (bad : List Nat) (y : Retirement), c < 4 → (s.dev.chan c).retiring = some y →
    Completes (.rankCopyStart c) s (fun d =>
      ((y.moved = false ∨ (s.dev.chan c).st ≠ .running ∨ s.dev.valt.st ≠ .idle) → d = s.clean)
      ∧ (y.moved = true → (s.dev.chan c).st = .running → s.dev.valt.st = .idle →
          (y.rank = 0 → d = s.clean.setChan c (fun x => { x with st := .copying, retiring := some { y with copied := 0, poisoned := 0 } }))
          ∧ (y.rank = 1 → (d.chan c).retiring = none ∧ (d.chan c).st = .running ∧ (d.chan c).retired = (s.dev.chan c).retired + 2 ∧ (d.chan c).lowRank = (s.dev.chan c).lowRank
              ∧ bitOf (d.hdr (pDRAM c)).evtStat 6 = true ∧ ∀ k, k < 4 → (d.chan k).usableGiB = (s.dev.chan k).usableGiB / 2)))
    ∧ Completes (.rankCopyDone c bad) s (fun d =>
      ((s.dev.chan c).st ≠ .copying → d = s.clean)
      ∧ ((s.dev.chan c).st = .copying → y.rank = 0 → (d.chan c).st = .running ∧ (d.chan c).retiring = none ∧ (d.chan c).lowRank = 1 ∧ (d.chan c).retired = (s.dev.chan c).retired + 1
          ∧ d.mem = s.dev.mem ∧ bitOf (d.hdr (pDRAM c)).evtStat 6 = true ∧ (∀ k, k < 4 → (d.chan k).usableGiB = (s.dev.chan k).usableGiB / 2)
          ∧ ∀ b, b ∈ d.dram.poison ↔ (b ∈ s.dev.dram.poison ∨ (b ∈ bad ∧ chanOf (b * 64) = c ∧ s.dev.drec.rankOf (burstOf (b * 64)) = 0)))))

/-! ## Key slots and the digest engine (R401 to R424) -/

/-- R401, R404, R405, R426 and R427.  What is the model's own choice or reading here: log entries 10 and 50. -/
def Obligations.KeySlots : Prop :=
  (∀ (s : State) (m : Nat) (c : Instr), m < 45 → s.dev.pageError pCRYP = none → s.dev.cryp.busy = true →
    (c = .slotGenerate m ∨ c = .slotLoad m ∨ c = .slotExport m ∨ c = .slotZero m ∨ c = .sealKey m ∨ c = .unsealKey m ∨ c = .random m) → Completes c s (fun d => d = s.clean.deny pCRYP))
  ∧ (∀ (s : State) (m sel w : Nat), m < 45 → s.dev.pageError pCRYP = none → s.dev.cryp.busy = false → sel = s.dev.slotSel → w = s.dev.wrapAddr →
    Completes (.slotGenerate m) s (fun d =>
      d.cryp.result = (if sel = 0 then 4 else if (s.dev.kslot sel).st ≠ .empty then 2 else if s.dev.cryp.drbgOk = false then 5 else 0)
      ∧ (d.cryp.result ≠ 0 → d = { s.clean with cryp := { s.dev.cryp with result := d.cryp.result } })
      ∧ (d.cryp.result = 0 → d.kslot sel = { st := .loaded, nsid := s.dev.slotNsid, key := fitBytes 64 (Config.drbg s.dev.free), inflight := 0 }
          ∧ (∀ j, j ≠ sel → d.kslot j = s.dev.kslot j) ∧ d.cryp.drbgReqs = s.dev.cryp.drbgReqs + 1 ∧ d = { s.clean with cryp := d.cryp, free := s.dev.free + 1 }))
    ∧ Completes (.slotLoad m) s (fun d => d.mem = s.dev.mem
      ∧ ((sel = 0 ∨ sramEnd < w + 72) → d = { s.clean with cryp := { s.dev.cryp with result := 4 } })
      ∧ (sel ≠ 0 → w + 72 ≤ sramEnd → (s.dev.kslot sel).st ≠ .empty → d = { s.clean with cryp := { s.dev.cryp with result := 2 } })
      ∧ (sel ≠ 0 → w + 72 ≤ sramEnd → (s.dev.kslot sel).st = .empty →
          (∀ k, Config.unwrap s.dev.cryp.kPw (nsIv s.dev.slotNsid) (s.dev.bytes w 72) = some k →
            d.kslot sel = { st := .loaded, nsid := s.dev.slotNsid, key := fitBytes 64 k, inflight := 0 } ∧ d.cryp.result = 0 ∧ d = { s.clean with cryp := d.cryp } ∧ ∀ j, j ≠ sel → d.kslot j = s.dev.kslot j)
          ∧ (Config.unwrap s.dev.cryp.kPw (nsIv s.dev.slotNsid) (s.dev.bytes w 72) = none → d.cryp = { s.dev.cryp with result := 3 } ∧ bitOf (d.hdr pCRYP).evtStat 0 = true)))
    ∧ Completes (.slotExport m) s (fun d =>
      d.cryp = { s.dev.cryp with result := if sel = 0 ∨ sramEnd < w + 72 then 4 else if (s.dev.kslot sel).st ≠ .loaded then 2 else 0 }
      ∧ d = { s.clean with cryp := d.cryp, mem := d.mem } ∧ (d.cryp.result ≠ 0 → d.mem = s.dev.mem)
      ∧ (d.cryp.result = 0 → ∀ x, d.byte x = if w ≤ x ∧ x < w + 72 then (s.dev.wrapped sel).getD (x - w) 0 else s.dev.byte x))
    ∧ Completes (.slotZero m) s (fun d =>
      (sel = 0 → d = { s.clean with cryp := { s.dev.cryp with result := 4 } }) ∧ (sel ≠ 0 → (s.dev.kslot sel).st = .empty → d = { s.clean with cryp := { s.dev.cryp with result := 0 } })
      ∧ (sel ≠ 0 → (s.dev.kslot sel).st ≠ .empty → d.kslot sel = { s.dev.kslot sel with st := .draining } ∧ d.cryp.busy = true ∧ d.cryp.zeroing = some sel ∧ d = { s.clean with cryp := d.cryp }
          ∧ ∀ j, j ≠ sel → d.kslot j = s.dev.kslot j))
    ∧ Completes (.sealKey m) s (fun d =>
      d.cryp = { s.dev.cryp with result := if sramEnd < w + 40 then 4 else 0 } ∧ d = { s.clean with cryp := d.cryp, mem := d.mem } ∧ (sramEnd < w + 40 → d.mem = s.dev.mem)
      ∧ (w + 40 ≤ sramEnd → ∀ x, d.byte x = if w ≤ x ∧ x < w + 40 then (fitBytes 40 (Config.wrap s.dev.cryp.kKek stdIv (s.dev.bytes w 32))).getD (x - w) 0 else s.dev.byte x))
    ∧ Completes (.unsealKey m) s (fun d => (sramEnd < w + 40 → d = { s.clean with cryp := { s.dev.cryp with result := 4 } })
      ∧ (w + 40 ≤ sramEnd → Config.unwrap s.dev.cryp.kKek stdIv (s.dev.bytes w 40) = none → d.mem = s.dev.mem ∧ d.cryp = { s.dev.cryp with result := 3 } ∧ bitOf (d.hdr pCRYP).evtStat 0 = true)
      ∧ (∀ k, w + 40 ≤ sramEnd → Config.unwrap s.dev.cryp.kKek stdIv (s.dev.bytes w 40) = some k → d.cryp = { s.dev.cryp with result := 0 }
          ∧ ∀ x, d.byte x = if w ≤ x ∧ x < w + 32 then (fitBytes 32 k).getD (x - w) 0 else s.dev.byte x))
    ∧ Completes (.random m) s (fun d => d.cryp.result = (if sramEnd < w + 32 then 4 else if s.dev.cryp.drbgOk = false then 5 else 0) ∧ d.cryp.slots = s.dev.cryp.slots
      ∧ (d.cryp.result ≠ 0 → d.mem = s.dev.mem ∧ d.free = s.dev.free)
      ∧ (d.cryp.result = 0 → d.free = s.dev.free + 1 ∧ d.cryp.drbgReqs = s.dev.cryp.drbgReqs + 1
          ∧ ∀ x, d.byte x = if w ≤ x ∧ x < w + 32 then (fitBytes 32 (Config.drbg s.dev.free)).getD (x - w) 0 else s.dev.byte x)))
  ∧ (∀ (s : State) (k : Nat), k < 8192 → Completes (.slotDrainComplete k) s (fun d =>
      (((s.dev.kslot k).st ≠ .draining ∨ (s.dev.kslot k).inflight ≠ 0) → d = s.clean)
      ∧ ((s.dev.kslot k).st = .draining → (s.dev.kslot k).inflight = 0 → d.kslot k = KeySlot.reset ∧ (∀ j, j ≠ k → d.kslot j = s.dev.kslot j) ∧ d = { s.clean with cryp := d.cryp }
          ∧ (s.dev.cryp.zeroing = some k → d.cryp.busy = false ∧ d.cryp.zeroing = none ∧ d.cryp.result = 0) ∧ (s.dev.cryp.zeroing ≠ some k → d.cryp.busy = s.dev.cryp.busy))))
  ∧ (∀ (s : State) (pass : Bool) (t n : Nat), Completes (.drbgReseed pass) s (fun d =>
      (pass = true → (s.dev.cryp.drbgOk = false ∨ 2 ^ 20 ≤ s.dev.cryp.drbgReqs) → d = { s.clean with cryp := { s.dev.cryp with drbgReqs := 0, drbgOk := true } })
      ∧ ((pass = false ∨ (s.dev.cryp.drbgOk = true ∧ s.dev.cryp.drbgReqs < 2 ^ 20)) → d = s.clean))
    ∧ Completes (.drbgHealthFail t n) s (fun d => d.cryp = { s.dev.cryp with drbgOk := false } ∧ (s.dev.cryp.drbgOk = true → bitOf (d.hdr pCRYP).evtStat 4 = true)
      ∧ (s.dev.cryp.drbgOk = false → d = s.clean)))

/-- R415 to R420, R422, R424, R425, R430 and R431.  What is the model's own choice or reading here: log entries 10 and 50. -/
def Obligations.DigestJobs : Prop :=
  (∀ (s : State) (addr m : Nat), m < 45 → s.dev.pageError pDGST = none → Completes (.dgstJobSubmit addr m) s (fun d =>
      (16 ≤ s.dev.dgst.queue.length → d = { s.clean with dgst := { s.dev.dgst with submit := s.dev.dgst.submit.set m 0xFFFFFFFF } })
      ∧ (s.dev.dgst.queue.length < 16 → d.dgst.queue = s.dev.dgst.queue ++ [s.dev.readJob (addr / 64 * 64 % sramEnd) s.dev.dgst.nextJob m] ∧ d.dgst.submit.find m = some s.dev.dgst.nextJob
          ∧ d.dgst.running = s.dev.dgst.running ∧ d.dgst.nextJob ≠ s.dev.dgst.nextJob ∧ d.cell pDGST 0x120 = s.dev.cell pDGST 0x120 + 1 ∧ d = { s.clean with dgst := d.dgst, regs := d.regs })))
  ∧ (∀ (s : State), Completes .dgstJobSelect s (fun d =>
      ((s.dev.dgst.running.isSome = true ∨ (s.dev.hdr pDGST).pwr ≠ 0 ∨ s.dev.dgst.queue = []) → d = s.clean)
      ∧ (s.dev.dgst.running = none → (s.dev.hdr pDGST).pwr = 0 → s.dev.dgst.queue ≠ [] → (∀ q, q ∈ s.dev.dgst.queue → q.prio < 4) →
          ∃ j, j ∈ s.dev.dgst.queue ∧ (∀ q, q ∈ s.dev.dgst.queue → q.prio ≤ j.prio)
            ∧ ((j.bad = true ∨ 2 ^ 61 - 1 < j.decl) → j.forLog = false → d.byte (j.addr + 56) = 8 ∧ d.dgst.running = none ∧ d.cell pDGST 0x128 = s.dev.cell pDGST 0x128 + 1 ∧ bitOf (d.hdr pDGST).evtStat 1 = true)
            ∧ (j.bad = false → j.decl ≤ 2 ^ 61 - 1 →
                (s.dev.sysc.cur = .recovery → j.hwpad = false → j.forLog = false → d.byte (j.addr + 56) = 7 ∧ d.dgst.running = none)
                ∧ ((s.dev.sysc.cur ≠ .recovery ∨ j.hwpad = true) →
                    (j.importing = false → j.resuming = false → (j.hwpad = false ∨ j.len - j.pos ≤ j.decl) →
                      d = { s.clean with dgst := { s.dev.dgst with queue := s.dev.dgst.queue.erase j, running := some { j with chain := Config.chainInit j.alg, fed := 0, ran := 0, resuming := false } } })
                    ∧ (j.importing = false → j.resuming = false → j.hwpad = true → j.decl < j.len - j.pos → d.dgst.running = none ∧ bitOf (d.hdr pDGST).evtStat 2 = true ∧ (j.forLog = false → d.byte (j.addr + 56) = 1))
                    ∧ ((j.importing = true ∨ j.resuming = true) →
                        (∀ c n, s.dev.importJob j = .ok (c, n) → (j.hwpad = false ∨ n + (j.len - j.pos) ≤ j.decl) → d.dgst.running = some { j with chain := c, fed := n, ran := 0, resuming := false } ∧ d.mem = s.dev.mem)
                        ∧ (∀ e, s.dev.importJob j = .error e → d.dgst.running = none ∧ d.byte (j.addr + 56) = BitVec.ofNat 8 e ∧ (e = 3 → bitOf (d.hdr pDGST).evtStat 3 = true))))))))
  ∧ (∀ (s : State) (blocks n : Nat) (j k : DJob), s.dev.dgst.running = some j → n = blocks * algBlock j.alg →
    k = { j with fed := j.fed + n, pos := j.pos + n, ran := j.ran + n, chain := chainOver j.alg j.chain (s.dev.bytes (j.src + j.pos) n) } →
    Completes (.dgstPreempt blocks) s (fun d =>
      (j.len ≤ j.pos + n → d = s.clean)
      ∧ (j.pos + n < j.len → s.dev.inMem (j.src + j.pos) n = false → d.dgst.running = none ∧ (j.forLog = false → d.byte (j.addr + 56) = 2))
      ∧ (j.pos + n < j.len → s.dev.inMem (j.src + j.pos) n = true →
          (((∃ q, q ∈ s.dev.dgst.queue ∧ j.prio < q.prio) ∨ (∃ q, q ∈ s.dev.dgst.queue ∧ q.prio = j.prio ∧ s.dev.rf pDGST 0x800 0 16 * 1024 ≤ j.ran + n)) →
            d.dgst.running = none ∧ d.dgst.queue = s.dev.dgst.queue ++ [{ k with resuming := true }] ∧ d.cell pDGST 0x12C = s.dev.cell pDGST 0x12C + 1
            ∧ (j.forLog = false → j.keyed = false → ∀ i, i < 256 → d.byte (j.state + i) = k.record.getD i 0) ∧ (j.forLog = true → d.mem = s.dev.mem))
          ∧ ((∀ q, q ∈ s.dev.dgst.queue → q.prio ≤ j.prio) → ((∀ q, q ∈ s.dev.dgst.queue → q.prio ≠ j.prio) ∨ j.ran + n < s.dev.rf pDGST 0x800 0 16 * 1024) →
            d.dgst.running = some k ∧ d.dgst.queue = s.dev.dgst.queue ∧ d.mem = s.dev.mem))))
  ∧ (∀ (s : State) (j : DJob) (left whole : Nat) (tail chain : List Byte), s.dev.dgst.running = some j → left = j.len - j.pos → whole = left / algBlock j.alg * algBlock j.alg →
    tail = s.dev.bytes (j.src + j.pos + whole) (left - whole) → chain = chainOver j.alg j.chain (s.dev.bytes (j.src + j.pos) whole) →
    Completes .dgstJobEnd s (fun d => d.dgst.running = none ∧ bitOf (d.hdr pDGST).evtStat 0 = true
      ∧ (j.forLog = false →
          (s.dev.inMem (j.src + j.pos) left = false → d.byte (j.addr + 56) = 2)
          ∧ (s.dev.inMem (j.src + j.pos) left = true →
              (j.final = false → left = whole → d.byte (j.addr + 56) = 0 ∧ d.cell pDGST 0x124 = s.dev.cell pDGST 0x124 + 1)
              ∧ (j.final = true → j.hwpad = true → j.fed + left < j.decl → d.byte (j.addr + 56) = 1 ∧ bitOf (d.hdr pDGST).evtStat 2 = true)
              ∧ (j.final = true → j.hwpad = false → (j.fed + left) % algBlock j.alg ≠ 0 → d.byte (j.addr + 56) = 1 ∧ bitOf (d.hdr pDGST).evtStat 2 = true)
              ∧ (∀ dg, j.final = true → dg = fitBytes (algDigest j.alg) (Config.digestOf j.alg (if j.hwpad then chainOver j.alg chain (padTail j.alg (j.fed + left) tail) else chain)) →
                  ((j.hwpad = true ∧ j.decl ≤ j.fed + left) ∨ (j.hwpad = false ∧ (j.fed + left) % algBlock j.alg = 0)) →
                  (s.dev.inMem j.out (algDigest j.alg) = false → d.byte (j.addr + 56) = 2)
                  ∧ (s.dev.inMem j.out (algDigest j.alg) = true → d.byte (j.addr + 56) = 0 ∧ d.cell pDGST 0x124 = s.dev.cell pDGST 0x124 + 1
                      ∧ (j.compare = false → d.byte (j.addr + 57) = 0 ∧ ((j.out + algDigest j.alg ≤ j.addr + 56 ∨ j.addr + 64 ≤ j.out) → d.bytes j.out (algDigest j.alg) = dg))
                      ∧ (j.compare = true → d.byte (j.addr + 57) = (if s.dev.bytes j.out (algDigest j.alg) = dg then 1 else 2)
                          ∧ ∀ x, x < j.addr + 56 ∨ j.addr + 64 ≤ x → d.byte x = s.dev.byte x)))))))
  ∧ (∀ (s : State) (num m : Nat), m < 45 → s.dev.pageError pDGST = none → Completes (.dgstJobCancel num m) s (fun d =>
      ((∀ q, q ∈ s.dev.dgst.running.toList ++ s.dev.dgst.queue → q.num ≠ num) → d = s.clean)
      ∧ (∀ j, (s.dev.dgst.running.toList ++ s.dev.dgst.queue).find? (fun q => q.num == num) = some j →
          (∀ q, q ∈ d.dgst.running.toList ++ d.dgst.queue ↔ q ∈ s.dev.dgst.running.toList ++ s.dev.dgst.queue ∧ q.num ≠ num)
          ∧ d.cell pDGST 0x128 = s.dev.cell pDGST 0x128 + 1 ∧ (d.hdr pDGST).evtStat = setBit (s.dev.hdr pDGST).evtStat 0 ∧ (j.forLog = false → d.byte (j.addr + 56) = 5)
          ∧ (j.forLog = false → ∀ x, x < j.addr + 56 ∨ j.addr + 64 ≤ x → d.byte x = s.dev.byte x))))
  ∧ (∀ (s : State) (len m a b : Nat), m < 45 → s.dev.pageError pDGST = none → a = s.dev.rf pDGST 0x114 0 26 → b = s.dev.rf pDGST 0x118 0 26 →
    Completes (.standaloneCompare len m) s (fun d => d = { s.clean with dgst := { s.dev.dgst with cmpResult := d.dgst.cmpResult }, regs := d.regs } ∧ d.cell pDGST 0x110 = u32 (len % 128)
      ∧ d.dgst.cmpResult = (if len < 1 ∨ 64 < len ∨ sramEnd < a + len ∨ sramEnd < b + len then 3 else if s.dev.bytes a len = s.dev.bytes b len then 1 else 2)))
  ∧ (∀ (s : State) (m : Nat), m < 45 → s.dev.takesWrite pDGST 0x804 → Completes (.ctxKeyRenew m) s (fun d =>
      d.dgst = { s.dev.dgst with kCtx := fitBytes 32 (Config.drbg s.dev.free) } ∧ d.free = s.dev.free + 1 ∧ d.mem = s.dev.mem ∧ bitOf (d.hdr pDGST).evtStat 4 = true))

/-! ## The NOR die, the one-time row and the configuration store (R433 to R463) -/

/-- R433, R434, R436 to R441, R451 and R461 to R463.  What is the model's own choice or reading here: log entries 51, 22 and 23. -/
def Obligations.NorAndOneTimeRow : Prop :=
  (∀ (s : State) (b m addr : Nat) (ws : List Word), b < 2 → m < 45 → s.dev.takesWrite pFSTO (0x804 + 16 * b) → addr = s.dev.rf pFSTO (0x800 + 16 * b) 0 24 →
    ws = (List.range 64).map (fun i => s.dev.cell pFSTO (0x1000 + 0x100 * b + 4 * i)) →
    ((s.dev.norOp b).isSome = true → Completes (.norProgram b m) s (fun d => d = s.clean.deny pFSTO) ∧ Completes (.norErase b m) s (fun d => d = s.clean.deny pFSTO))
    ∧ ((s.dev.norOp b) = none → (s.dev.fsto.pfail = true ∨ (b = s.dev.fsto.bank ∧ s.dev.fsto.recovery = false ∧ addr / 65536 < 192)) → ∀ c, c = .norProgram b m ∨ c = .norErase b m →
        Completes c s (fun d => (if b = 0 then d.fsto.result0 else d.fsto.result1) = (if s.dev.fsto.pfail then 5 else 4) ∧ d.norOp b = none ∧ d.nor = s.dev.nor ∧ bitOf (d.hdr pFSTO).evtStat 7 = true))
    ∧ ((s.dev.norOp b) = none → s.dev.fsto.pfail = false → (b ≠ s.dev.fsto.bank ∨ s.dev.fsto.recovery = true ∨ 192 ≤ addr / 65536) →
        Completes (.norProgram b m) s (fun d => d.nor = s.dev.nor ∧ d.norOp (1 - b) = s.dev.norOp (1 - b)
          ∧ ((∃ i, i < 64 ∧ s.dev.norWord (bankBase b + addr / 256 * 256 + 4 * i) &&& ws.getD i 0 ≠ ws.getD i 0) →
              (if b = 0 then d.fsto.result0 else d.fsto.result1) = 3 ∧ d.norOp b = none ∧ bitOf (d.hdr pFSTO).evtStat 8 = true)
          ∧ ((∀ i, i < 64 → s.dev.norWord (bankBase b + addr / 256 * 256 + 4 * i) &&& ws.getD i 0 = ws.getD i 0) →
              d.norOp b = some { erase := false, addr := bankBase b + addr / 256 * 256, data := ws } ∧ d = { s.clean with fsto := d.fsto, regs := d.regs }))
        ∧ Completes (.norErase b m) s (fun d => d.norOp b = some { erase := true, addr := bankBase b + addr / 65536 * 65536, data := [] } ∧ d.norOp (1 - b) = s.dev.norOp (1 - b)
          ∧ d = { s.clean with fsto := d.fsto, regs := d.regs })))
  ∧ (∀ (s : State) (b : Nat) (e : NorEnd), b < 2 → Completes (.norOpComplete b e) s (fun d =>
      (s.dev.norOp b = none → d = s.clean)
      ∧ (∀ o, s.dev.norOp b = some o → d.norOp b = none ∧ d.norOp (1 - b) = s.dev.norOp (1 - b)
          ∧ (if b = 0 then d.fsto.result0 else d.fsto.result1) = (match e with | .done => 0 | .dieError => 1 | .timeout => 2)
          ∧ (e = .done → d = { s.clean with nor := d.nor, fsto := d.fsto }) ∧ (e ≠ .done → bitOf (d.hdr pFSTO).evtStat 7 = true)
          ∧ (o.erase = false → (∀ w, w < o.addr / 4 ∨ o.addr / 4 + o.data.length ≤ w → d.norWord (4 * w) = s.dev.norWord (4 * w))
              ∧ ∀ i, i < o.data.length →
                (e = .done → d.norWord (o.addr + 4 * i) = s.dev.norWord (o.addr + 4 * i) &&& o.data.getD i 0)
                ∧ d.norWord (o.addr + 4 * i) &&& s.dev.norWord (o.addr + 4 * i) = d.norWord (o.addr + 4 * i)
                ∧ d.norWord (o.addr + 4 * i) &&& o.data.getD i 0 = s.dev.norWord (o.addr + 4 * i) &&& o.data.getD i 0)
          ∧ (o.erase = true → ∀ w, d.norWord (4 * w) = (if w / 16384 = o.addr / 65536 then (if e = .done then 0xFFFFFFFF else d.norWord (4 * w)) else s.dev.norWord (4 * w))))))
  ∧ (∀ (s : State) (addr m : Nat), m < 45 → s.dev.takesRead pFSTO →
    Completes (.bankFault addr m) s (fun d => d.nor = s.dev.nor
      ∧ (s.dev.norOp (addr / 0x1000000) = none → d = { s.clean with out := [.word (s.dev.norWord addr) false] })
      ∧ (s.dev.norOp (addr / 0x1000000) ≠ none → d.out = [.word 0xFFFFFFFF (m != 33)] ∧ d.cell pFSTO 0x120 = s.dev.cell pFSTO 0x120 + 1 ∧ bitOf (d.hdr pFSTO).evtStat 2 = true
          ∧ d.fsto.armed = false ∧ d.fsto.faultAddr = (if s.dev.fsto.armed then addr else s.dev.fsto.faultAddr)))
    ∧ Completes (.busyFaultAddrRead m) s (fun d => d = { s.clean with fsto := { s.dev.fsto with faultAddr := 0, armed := true }, out := [.word (u32 s.dev.fsto.faultAddr) false] }))
  ∧ (∀ (s : State) (m w k : Nat) (bits : Word) (err : Bool), m < 45 → s.dev.takesWrite pFSTO 0x828 → w = s.dev.rf pFSTO 0x820 0 8 → bits = s.dev.cell pFSTO 0x824 →
    Completes (.otpProgram m err) s (fun d => (∀ j, j ≠ w → d.otp.get otpDefault j = s.dev.otp.get otpDefault j) ∧ d = { s.clean with otp := d.otp, fsto := { s.dev.fsto with otpResult := d.fsto.otpResult }, free := d.free }
      ∧ (((w < 16 ∧ bitOf (s.dev.otp.get otpDefault 24) 8 = true) ∨ 24 < w ∨ (w = 24 ∧ 65536 ≤ bits.toNat)) → d.fsto.otpResult = 1 ∧ d.otp = s.dev.otp)
      ∧ (¬ ((w < 16 ∧ bitOf (s.dev.otp.get otpDefault 24) 8 = true) ∨ 24 < w ∨ (w = 24 ∧ 65536 ≤ bits.toNat)) →
          d.otp.get otpDefault w ||| s.dev.otp.get otpDefault w = d.otp.get otpDefault w ∧ d.otp.get otpDefault w ||| (s.dev.otp.get otpDefault w ||| bits) = s.dev.otp.get otpDefault w ||| bits
          ∧ (err = false → d.fsto.otpResult = 0 ∧ d.otp.get otpDefault w = s.dev.otp.get otpDefault w ||| bits) ∧ (err = true → d.fsto.otpResult = 3)))
    ∧ Completes (.keyRevoke k m) s (fun d => bitOf (d.hdr pFSTO).evtStat 9 = true
      ∧ ((k % 4 = s.dev.fsto.imgKey ∨ (s.dev.sysc.manifest.valid = true ∧ k % 4 = s.dev.fsto.manKey)) → d.fsto.otpResult = 2 ∧ d.otp = s.dev.otp)
      ∧ (k % 4 ≠ s.dev.fsto.imgKey → (s.dev.sysc.manifest.valid = false ∨ k % 4 ≠ s.dev.fsto.manKey) → d.fsto.otpResult = 0 ∧ d.revoked (k % 4) = true
          ∧ ∀ j, d.otp.get otpDefault j = (if j = 24 then s.dev.otp.get otpDefault 24 ||| u32 (2 ^ (k % 4)) else s.dev.otp.get otpDefault j))))
  ∧ (∀ (s : State) (m : Nat) (force : Bool), m < 45 → s.dev.takesWrite pFSTO 0x82C →
    let ok := s.dev.slotOk (1 - s.dev.fsto.bank) = true ∧ s.dev.fsto.imgSvn ≤ (s.dev.hdrAt (bankBase (1 - s.dev.fsto.bank))).svn
    Completes (.rollbackCommit force m) s (fun d => (∀ j, j < 16 ∨ 24 ≤ j → d.otp.get otpDefault j = s.dev.otp.get otpDefault j)
      ∧ (s.dev.fsto.imgSvn ≤ s.dev.rollback → d = { s.clean with regs := d.regs })
      ∧ (s.dev.rollback < s.dev.fsto.imgSvn → bitOf (d.hdr pFSTO).evtStat 5 = true ∧ (force = false → ¬ ok → d.otp = s.dev.otp)
          ∧ ((force = true ∨ ok) → ∀ k, k < 256 → bitOf (d.otp.get otpDefault (16 + k / 32)) (k % 32) = (bitOf (s.dev.otp.get otpDefault (16 + k / 32)) (k % 32) || decide (k < s.dev.fsto.imgSvn))))))
  ∧ (∀ (s : State) (m : Nat), m < 45 → s.dev.pageError pFSTO = none → Completes (.bootOk m) s (fun d =>
      ((s.dev.fsto.recovery = true ∨ s.dev.fsto.bootOk = true) → d = s.clean)
      ∧ (s.dev.fsto.recovery = false → s.dev.fsto.bootOk = false → d.fsto.bootOk = true ∧ d.fsto.watchdog = false ∧ bitOf (d.hdr pFSTO).evtStat 0 = true
          ∧ ∀ b, b < 2 → s.dev.liveTally = some b → 0 < s.dev.tally.length → d.norWord (tallyEntryAddr b (s.dev.tally.length - 1) + 4) = 0)))

/-- R437 and R455 to R458.  What is the model's own choice or reading here: log entries 55 and 50. -/
def Obligations.ConfigurationStore : Prop :=
  (∀ (s : State), Completes .configRecordFlush s (fun d =>
      (s.dev.fsto.pfail = true → d = s.clean)
      ∧ (s.dev.fsto.pfail = false → d.fsto.ring = [] ∧ d = { s.clean with nor := d.nor, fsto := { s.dev.fsto with ring := [] } }
          ∧ ∀ r c rot a n, s.dev.fsto.ring = [r] → s.dev.cfgLive.getLast? = some (c, rot) → c < 124 → a = cfgSector c + s.dev.cfgFree c → n = (r.words 0x3FFFFFFF).length →
            s.dev.cfgFree c + 4 * n ≤ 65536 → (∀ i, i < n → s.dev.norWord (a + 4 * i) = 0xFFFFFFFF) →
            (∀ x, x ∈ s.dev.cfgWindow → ∀ f, f ∈ s.dev.cfgRecs x.1 → ¬ (f.rcd.type = r.type ∧ f.rcd.key = r.key)) →
            (∀ i, i < n → d.norWord (a + 4 * i) = (r.words 0x3FFFFFFF).getD i 0) ∧ ∀ w, w < a / 4 ∨ a / 4 + n ≤ w → d.norWord (4 * w) = s.dev.norWord (4 * w))))
  ∧ (∀ (s : State), Completes .configCompaction s (fun d =>
      ((s.dev.fsto.pfail = true ∨ s.dev.cfgLive.length ≤ s.dev.rf pFSTO 0x830 0 6) → d = s.clean)
      ∧ (s.dev.fsto.pfail = false → s.dev.rf pFSTO 0x830 0 6 < s.dev.cfgLive.length → d = { s.clean with nor := d.nor }
          ∧ ∀ c rot rest, s.dev.cfgLive = (c, rot) :: rest → rest ≠ [] → (∀ w, w / 16384 = cfgSector c / 65536 → d.norWord (4 * w) = 0xFFFFFFFF)
            ∧ ((∀ f, f ∈ s.dev.cfgRecs c → f.state ≠ 0x3FFFFFFF) → ∀ w, w / 16384 ≠ cfgSector c / 65536 → d.norWord (4 * w) = s.dev.norWord (4 * w)))))

/-! ## DORMANT, clocks, rails, the sideband and reset (R451 to R494) -/

/-- R466 to R469, R471 to R473, R475 to R477 and R494.  What is the model's own reading here (MODE.BUSY from the prepare phase on): log entry 62. -/
def Obligations.DormantEntryAndWake : Prop :=
  (∀ (s : State), Completes .idleTimerExpiry s (fun d =>
      ((s.dev.powr.entry ≠ .timing ∨ s.dev.idleMay = false) → d = s.clean)
      ∧ (s.dev.powr.entry = .timing → s.dev.idleMay = true → d.powr = { s.dev.powr with entry := .prepare, step := 1, timerAt := none, expiredAt := s.dev.now, stopped := [] }
          ∧ d.cell pPOWR 0x118 = s.dev.cell pPOWR 0x118 + 1 ∧ d = { s.clean with powr := d.powr, regs := d.regs, sysc := { s.dev.sysc with busy := true } }))
    ∧ Completes .prepareStepAnswer s (fun d =>
      ((s.dev.powr.entry ≠ .prepare ∨ 12 < s.dev.powr.step) → d = s.clean)
      ∧ (s.dev.powr.entry = .prepare → s.dev.powr.step ≤ 12 →
          (s.dev.prepAnswer s.dev.powr.step = none → d.powr.step = s.dev.powr.step + 1 ∧ d.powr.entry = .prepare ∧ (s.dev.powr.step = 2 → d.host.stopped = true)
              ∧ (s.dev.powr.step ≤ 7 → d.powr.stopped = s.dev.powr.stopped ++ [s.dev.powr.step]) ∧ d = { s.clean with powr := d.powr, host := { s.dev.host with stopped := d.host.stopped } })
          ∧ (∀ b r, s.dev.prepAnswer s.dev.powr.step = some (b, r) → s.dev.entryRefused d b r s.dev.powr.step)))
    ∧ Completes .prepareStepTimeout s (fun d => ((s.dev.powr.entry ≠ .prepare ∨ 12 < s.dev.powr.step) → d = s.clean)
      ∧ (s.dev.powr.entry = .prepare → s.dev.powr.step ≤ 12 → s.dev.entryRefused d (prepBlock s.dev.powr.step) 6 s.dev.powr.step))
    ∧ Completes .dormantCommit s (fun d => ((s.dev.powr.entry ≠ .prepare ∨ s.dev.powr.step ≠ 13) → d = s.clean)
      ∧ (s.dev.powr.entry = .prepare → s.dev.powr.step = 13 →
          (s.dev.powr.wakeLatch ≠ 0 → s.dev.entryRefused d pPOWR 7 13)
          ∧ (s.dev.powr.wakeLatch = 0 → d.powr.entry = .commit ∧ d.powr.backoff = 0 ∧ d.cell pPOWR 0x11C = s.dev.cell pPOWR 0x11C + 1 ∧ d.valt.st = .freeze ∧ d.valt.cause = 1
              ∧ d.valt.thenReset = none ∧ d.host.stopped = true))))
  ∧ (∀ (s : State) (k : Nat), Completes (.voteWithdraw k) s (fun d =>
      ((s.dev.powr.entry ≠ .prepare ∨ k < 8 ∨ s.dev.powr.step ≤ k ∨ s.dev.prepAnswer k = none) → d = s.clean)
      ∧ (∀ b r, s.dev.powr.entry = .prepare → 8 ≤ k → k < s.dev.powr.step → s.dev.prepAnswer k = some (b, r) → s.dev.entryRefused d b r k)))
  ∧ (∀ (s : State) (v : Word) (m addr : Nat),
    let asleep := s.dev.powr.entry = .commit ∨ (s.dev.sysc.cur = .dormant ∧ s.dev.powr.entry ≠ .waking ∧ s.dev.powr.entry ≠ .prepare)
    (m < 45 → s.dev.pageError pPOWR = none → Completes (.powrWakeWrite v m) s (fun d =>
      (bitOf v 0 = false → d = s.clean) ∧ (bitOf v 0 = true → s.dev.powr.entry = .prepare → s.dev.entryRefused d pPOWR 7 s.dev.powr.step)
      ∧ (bitOf v 0 = true → asleep → hasBit d.powr.wakeLatch 5 = true ∧ d = { s.clean with powr := d.powr })
      ∧ (bitOf v 0 = true → s.dev.powr.entry ≠ .prepare → ¬ asleep → d = s.clean)))
    ∧ Completes (.smbusAddressMatch addr) s (fun d =>
      ((addr ≠ s.dev.smbAddr ∨ s.dev.powr.phase = .inReset) → d = s.clean)
      ∧ (addr = s.dev.smbAddr → s.dev.powr.phase ≠ .inReset →
          (asleep → hasBit d.powr.wakeLatch 3 = true ∧ d.side.wakes = (s.dev.side.wakes + 1) % 2 ^ 32 ∧ d.side.addrNacks = (s.dev.side.addrNacks + 1) % 2 ^ 32 ∧ bitOf (d.hdr pSIDE).evtStat 0 = true)
          ∧ (s.dev.sysc.cur ≠ .dormant → s.dev.powr.entry ≠ .commit →
              (s.dev.side.running = false → d = { s.clean with side := { s.dev.side with addrNacks := (s.dev.side.addrNacks + 1) % 2 ^ 32 } })
              ∧ (s.dev.side.running = true → s.dev.powr.entry = .prepare → s.dev.entryRefused d pSIDE 7 s.dev.powr.step)
              ∧ (s.dev.side.running = true → s.dev.powr.entry ≠ .prepare → d = s.clean)))))
  ∧ (∀ (s : State), Completes .dormantWake s (fun d =>
      ((s.dev.sysc.cur ≠ .dormant ∨ s.dev.powr.entry ≠ .none ∨ s.dev.powr.wakeLatch = 0 ∨ s.dev.valt.st = .halt) → d = s.clean)
      ∧ (s.dev.sysc.cur = .dormant → s.dev.powr.entry = .none → s.dev.powr.wakeLatch ≠ 0 → s.dev.valt.st ≠ .halt →
          d.powr.entry = .waking ∧ d.powr.wakeSrc = s.dev.powr.wakeLatch ∧ d.powr.wakeLatch = 0 ∧ d.powr.wokeAt = s.dev.now ∧ d.clkr.pllLock = s.dev.clkr.pllLock ||| 3 ∧ d.sysc = { s.dev.sysc with busy := true }
          ∧ hasBit d.powr.padHeld 2 = false ∧ d.mem = s.dev.mem ∧ ∀ c, c < 4 → (d.chan c).st = (if (s.dev.chan c).st = .selfRefresh then .running else (s.dev.chan c).st)))
    ∧ Completes .wakeComplete s (fun d =>
      ((s.dev.powr.entry ≠ .waking ∨ s.dev.valt.st = .halt) → d = s.clean)
      ∧ (s.dev.powr.entry = .waking → s.dev.valt.st ≠ .halt → d.powr.entry ≠ .waking ∧ d.host.stopped = false ∧ (∀ p, pageExists p = true → (d.hdr p).pwr = 0)
          ∧ (s.dev.valt.st = .parked → d.valt.st = .idle)
          ∧ (s.dev.sysc.cur = .dormant → d.sysc.cur = s.dev.sysc.ret.getD .standalone ∧ d.sysc.ret = none ∧ bitOf (d.hdr pPOWR).evtStat 2 = true
              ∧ d.powr.timeWake = (s.dev.now - s.dev.powr.wokeAt) / 100000)
          ∧ (s.dev.sysc.cur ≠ .dormant → d.sysc.cur = s.dev.sysc.cur))))
  ∧ (∀ (s : State) (g : Nat), Completes (.padHoldRelease g) s (fun d =>
      ((4 ≤ g ∨ hasBit s.dev.powr.padHeld g = false ∨ s.dev.padMatches g = false) → d = s.clean)
      ∧ (g < 4 → hasBit s.dev.powr.padHeld g = true → s.dev.padMatches g = true → hasBit d.powr.padHeld g = false ∧ (∀ j, j ≠ g → hasBit d.powr.padHeld j = hasBit s.dev.powr.padHeld j)
          ∧ d = { s.clean with powr := d.powr }))
    ∧ Completes (.padHoldTimeout g) s (fun d =>
      ((4 ≤ g ∨ hasBit s.dev.powr.padHeld g = false ∨ (s.dev.sysc.cur = .dormant ∧ s.dev.powr.entry ≠ .waking)) → d = s.clean)
      ∧ (g < 4 → hasBit s.dev.powr.padHeld g = true → (s.dev.sysc.cur ≠ .dormant ∨ s.dev.powr.entry = .waking) → hasBit d.powr.padHeld g = false
          ∧ (∀ j, j ≠ g → hasBit d.powr.padHeld j = hasBit s.dev.powr.padHeld j) ∧ bitOf (d.hdr pPOWR).evtStat 4 = true
          ∧ (∀ n, g = 0 → n < 16 → (s.dev.port n).prsnt = true → (d.port n).pwren = hasBit ((s.dev.powr.padLevel.find 0).getD 0) n)
          ∧ (g ≠ 0 → d.ports = s.dev.ports))))

/-- R473, R478, R480 to R482, R484 and R491 to R494.  What is the model's own choice or reading here: log entries 53 and 61. -/
def Obligations.ClocksRailsAndSideband : Prop :=
  (∀ (s : State) (mvs : List Nat), Completes (.railSample mvs) s (fun d => d.sysc = s.dev.sysc ∧ d.clkr = s.dev.clkr ∧ d.mem = s.dev.mem
      ∧ ∀ i, (mvs.length ≤ i ∨ 8 ≤ i → d.powr.rails.find i = s.dev.powr.rails.find i)
        ∧ ∀ v old tol, i < 8 → mvs[i]? = some v → old = (s.dev.powr.rails.find i).getD (0, 0, 0) →
            tol = ((s.dev.sysc.manifest.rails.find? (fun t => t.1 == i)).map (fun t => t.2 % 16)).getD 0 →
            ((s.dev.sysc.manifest.valid = false ∨ railOut (railNominal.getD i 0) tol v = false) → d.powr.rails.find i = some (v, old.2.1, 0))
            ∧ (s.dev.sysc.manifest.valid = true → railOut (railNominal.getD i 0) tol v = true →
                (old.2.2 = 9 → d.powr.rails.find i = some (v, satAt 255 (old.2.1 + 1), 10) ∧ bitOf (d.hdr pPOWR).evtStat 3 = true)
                ∧ (old.2.2 ≠ 9 → d.powr.rails.find i = some (v, old.2.1, min 11 (old.2.2 + 1))))))
  ∧ (∀ (s : State) (i : Nat) (trains : Bool), Completes (.referenceLoss i) s (fun d =>
      ((3 < i ∨ hasBit s.dev.clkr.refs i = false) → d = s.clean)
      ∧ (i ≤ 3 → hasBit s.dev.clkr.refs i = true → d.clkr.refs = s.dev.clkr.refs - 2 ^ i
          ∧ (i = 0 → d.powr.phase = .inReset ∧ d.clkr.hold = .crystal ∧ d.clkr.cause = 8 ∧ d.clkr.vaulted = false ∧ d.clkr.warmResets = (s.dev.clkr.warmResets + 1) % 2 ^ 32 ∧ d.mem = [] ∧ d.sysc.straps = s.dev.sysc.straps)
          ∧ (i ≠ 0 → bitOf (d.hdr pCLKR).evtStat 1 = true ∧ d.powr.phase = s.dev.powr.phase)
          ∧ (1 ≤ i → i ≤ 2 → (d.hport (i - 1)).lstate = 0)
          ∧ (i = 3 → (∀ n, n < 16 → (d.port n).st ≠ .up) ∧ ∀ n, n < 4 → (d.lane n).st ≠ .up)))
    ∧ Completes (.referenceAppears i trains) s (fun d =>
      ((3 < i ∨ hasBit s.dev.clkr.refs i = true) → d = s.clean)
      ∧ (i ≤ 3 → hasBit s.dev.clkr.refs i = false → (i ≠ 0 ∨ s.dev.clkr.hold ≠ .crystal) → d = { s.clean with clkr := { s.dev.clkr with refs := s.dev.clkr.refs + 2 ^ i } })
      ∧ (i = 0 → hasBit s.dev.clkr.refs 0 = false → s.dev.clkr.hold = .crystal → d.clkr.hold = .none ∧ d.clkr.refs = s.dev.clkr.refs + 1 ∧ d.clkr.pwrCycles = s.dev.clkr.pwrCycles)))
  ∧ (∀ (s : State) (p : Nat) (ppm : Int), Completes (.pllLockLoss p) s (fun d =>
      (s.dev.pllLocked p = false → d = s.clean)
      ∧ (s.dev.pllLocked p = true →
          (p < 2 → (hasBit s.dev.clkr.refs 0 = false → d.clkr.hold = .crystal ∧ d.powr.phase = .inReset ∧ d.clkr.cause = 8) ∧ (hasBit s.dev.clkr.refs 0 = true → d.clkr.hold = .none ∧ d.fsto.bootOk = false))
          ∧ (2 ≤ p → bitOf (d.hdr pCLKR).evtStat 0 = true ∧ d.clkr.losses = satAt 255 (s.dev.clkr.losses + 1) ∧ d.clkr.hold = s.dev.clkr.hold)
          ∧ (2 ≤ p → p < 4 → (d.hport (p - 2)).lstate = 0) ∧ (4 ≤ p → p < 20 → (d.port (p - 4)).st ≠ .up) ∧ (20 ≤ p → (d.lane (p - 20)).st ≠ .up)))
    ∧ Completes (.aonCalibration ppm) s (fun d =>
      ((hasBit s.dev.clkr.pllLock 0 = false ∨ s.dev.sysc.cur = .dormant) → d = s.clean)
      ∧ (hasBit s.dev.clkr.pllLock 0 = true → s.dev.sysc.cur ≠ .dormant → d.clkr = { s.dev.clkr with aonPpm := ppm }
          ∧ ((-20000 ≤ ppm ∧ ppm ≤ 20000) → d = { s.clean with clkr := d.clkr }) ∧ ((ppm < -20000 ∨ 20000 < ppm) → bitOf (d.hdr pCLKR).evtStat 3 = true)))
    ∧ Completes .hourTick s (fun d => d.clkr = { s.dev.clkr with opHours := (s.dev.clkr.opHours + 1) % 2 ^ 32, opSeconds := 0 } ∧ d.nor = s.dev.nor
      ∧ (s.dev.fwRuns = false → d = { s.clean with clkr := d.clkr })
      ∧ (s.dev.fwRuns = true → d.fsto.ring = s.dev.fsto.ring ++ [{ type := 8, key := 0, seq := s.dev.fsto.cfgSeq, data := [u32 s.dev.clkr.pwrCycles, u32 d.clkr.opHours] }])))
  ∧ (∀ (s : State) (src : Nat) (ok : Bool) (eid : Option Nat) (rs : List (List Byte)), Completes (.smbusPacketReceive src ok eid rs) s (fun d =>
      (s.dev.side.running = false → d = s.clean)
      ∧ (s.dev.side.running = true → ok = true → d.out = rs.map Out.smbus ∧ d.cell pSIDE 0x114 = s.dev.cell pSIDE 0x114 + 1 ∧ d.cell pSIDE 0x118 = s.dev.cell pSIDE 0x118 + u32 rs.length
          ∧ d.side = { s.dev.side with eid := match eid with | some e => e % 256 | none => s.dev.side.eid } ∧ d = { s.clean with side := d.side, regs := d.regs, out := d.out })
      ∧ (s.dev.side.running = true → ok = false → d.out = [] ∧ d.cell pSIDE 0x11C = s.dev.cell pSIDE 0x11C + 1 ∧ d.side.eid = s.dev.side.eid ∧ bitOf (d.hdr pSIDE).evtStat 1 = true)))
  ∧ (∀ (s : State) (v : Word) (m : Nat), Completes .smbusTimeout s (fun d => (s.dev.side.running = false → d = s.clean)
      ∧ (s.dev.side.running = true → d.side.busy = false ∧ d.side.master = false ∧ d.cell pSIDE 0x120 = s.dev.cell pSIDE 0x120 + 1 ∧ bitOf (d.hdr pSIDE).evtStat 2 = true ∧ d.side.running = true))
    ∧ (m < 45 → s.dev.pageError pSIDE = none → Completes (.alertAck v m) s (fun d => d.cell pSIDE 0x10C = u32 (fld v 0 2)
        ∧ d.side = { s.dev.side with alert := if bitOf v 8 then false else s.dev.side.alert } ∧ d = { s.clean with side := d.side, regs := d.regs })))

/-- R20, R21, R288, R451, R453, R483, R484, R486 and R490.
What is the model's own choice or reading here: log entries 6, 54 and 56. -/
def Obligations.ResetAndStart : Prop :=
  (∀ (s : State), Completes .porNAssert s (fun d => d.powr.phase = .inReset ∧ d.clkr.hold = .por ∧ d.mem = [] ∧ d.otp = s.dev.otp ∧ d.regs = Dev.reset.regs ∧ d.sysc = Dev.reset.sysc ∧ d.host = Dev.reset.host
      ∧ d.zone = Dev.reset.zone ∧ d.fsto = Dev.reset.fsto ∧ d.valt.image = s.dev.valt.image ∧ d.valt.flash = s.dev.valt.flash ∧ d.evnt.pages = s.dev.evnt.pages ∧ d.evnt.ring = []
      ∧ (s.dev.fsto.op0 = none → s.dev.fsto.op1 = none → d.nor = s.dev.nor)))
  ∧ (∀ (s : State) (straps : Word) (trains : Bool), Completes (.porNRelease straps trains) s (fun d =>
      ((s.dev.powr.phase ≠ .inReset ∨ s.dev.clkr.hold ≠ .por) → d = s.clean)
      ∧ (s.dev.powr.phase = .inReset → s.dev.clkr.hold = .por →
          d.clkr.hold = .none ∧ d.sysc.straps = u32 (fld straps 0 6) ∧ d.otp = s.dev.otp ∧ d.clkr.opSeconds = 0
          ∧ d.clkr.pwrCycles = ((((s.dev.cfgRead 8 0).getD [0, 0]).getD 0 0).toNat + 1) % 2 ^ 32 ∧ d.clkr.opHours = (((s.dev.cfgRead 8 0).getD [0, 0]).getD 1 0).toNat
          ∧ (((∀ i, i < 8 → s.dev.otp.get otpDefault i = 0) ∨ (∀ i, i < 8 → s.dev.otp.get otpDefault i = 0xFFFFFFFF)) → d.sysc.cur = .recovery ∧ d.fsto.recovery = true ∧ d.fsto.cause = 3 ∧ d.powr.phase = .rom)
          ∧ ((∃ i, i < 8 ∧ s.dev.otp.get otpDefault i ≠ 0) → (∃ i, i < 8 ∧ s.dev.otp.get otpDefault i ≠ 0xFFFFFFFF) →
              (bitOf straps 3 = true → d.sysc.cur = .recovery ∧ d.fsto.recovery = true ∧ d.fsto.cause = 0 ∧ d.powr.phase = .rom)
              ∧ (bitOf straps 3 = false → s.dev.bestManifest = none → s.dev.sysc.manifest.valid = false → d.sysc.cur = .recovery ∧ d.fsto.recovery = true ∧ d.fsto.cause = 4 ∧ d.powr.phase = .rom)))))
  ∧ (∀ (s : State) (c : Instr) (k : Nat) (v : Word) (m : Nat),
    (c = .warmReset k ∧ 1 ≤ k ∧ k ≤ 9 ∧ k ≠ 5 ∧ k ≠ 8 ∧ s.dev.powr.phase ≠ .inReset ∧ (k = 9 → s.dev.jtagLocked = false))
    ∨ (c = .managerWarmReset v m ∧ k = 6 ∧ m < 45 ∧ s.dev.takesWrite pCLKR 0x800 ∧ bitOf v 0 = true ∧ bitOf v 31 = true)
    ∨ (c = .bootWatchdogExpiry ∧ k = 1 ∧ s.dev.fsto.watchdog = true ∧ s.dev.fsto.bootOk = false ∧ s.dev.powr.phase ≠ .inReset)
    ∨ (c = .recoveryCommitReset ∧ k = 3 ∧ s.dev.fsto.recovery = true ∧ s.dev.fsto.recReset = true) →
    Completes c s (fun d =>
      (s.dev.passBefore k → s.dev.valt.st = .idle → d.valt.st = .freeze ∧ d.valt.cause = 0 ∧ d.valt.thenReset = some k ∧ d.host.stopped = true ∧ d.clkr = s.dev.clkr)
      ∧ (∀ o, s.dev.passBefore k → (s.dev.valt.st = .freeze ∨ s.dev.valt.st = .save ∨ s.dev.valt.st = .seal) → s.dev.valt.thenReset = some o →
          d.valt = { s.dev.valt with thenReset := some (min o k) } ∧ d.clkr = { s.dev.clkr with warmResets := (s.dev.clkr.warmResets + 1) % 2 ^ 32 })
      ∧ (¬ s.dev.passBefore k → d.clkr.hold = .none ∧ (d.clkr.cause = k ∨ d.clkr.cause = 2) ∧ d.fsto.bootOk = false ∧ d.otp = s.dev.otp ∧ d.sysc.straps = s.dev.sysc.straps
          ∧ d.clkr.pwrCycles = s.dev.clkr.pwrCycles ∧ d.clkr.opHours = s.dev.clkr.opHours ∧ d.host.ctxs = [] ∧ d.valt.image = s.dev.valt.image)))
  ∧ (∀ (s : State) (k m : Nat) (v : Word),
    ((k = 0 ∨ 9 < k ∨ s.dev.powr.phase = .inReset ∨ (k = 9 ∧ s.dev.jtagLocked = true)) → Completes (.warmReset k) s (fun d => d = s.clean))
    ∧ (s.dev.powr.phase ≠ .inReset → Completes (.warmReset 5) s (fun d => d.powr.phase = .inReset ∧ d.clkr.hold = .thermal ∧ d.clkr.cause = 5 ∧ d.thrm.tripped = true ∧ d.mem = [] ∧ d.otp = s.dev.otp))
    ∧ (m < 45 → s.dev.takesWrite pCLKR 0x800 → bitOf v 0 = true → bitOf v 31 = false → Completes (.managerWarmReset v m) s (fun d => d = s.clean.deny pCLKR))
    ∧ ((s.dev.fsto.watchdog = false ∨ s.dev.fsto.bootOk = true ∨ s.dev.powr.phase = .inReset) → Completes .bootWatchdogExpiry s (fun d => d = s.clean))
    ∧ ((s.dev.fsto.recovery = false ∨ s.dev.fsto.recReset = false) → Completes .recoveryCommitReset s (fun d => d = s.clean)))
  ∧ (∀ (s : State), Completes .startupModeSelect s (fun d => (s.dev.powr.phase ≠ .starting → d = s.clean)
      ∧ (s.dev.powr.phase = .starting →
          (s.dev.sysc.base = none → d.sysc.cur = .standalone ∧ d.powr.phase = .running ∧ d.host.recovered = true)
          ∧ (s.dev.sysc.base = some .peerStandby → d.sysc.cur = .peerStandby ∧ d.powr.phase = .running ∧ d.peer.standby = true)
          ∧ (∀ b, s.dev.sysc.base = some b → b ≠ .peerStandby →
              (s.dev.reachedAdopted.length < 2 * s.dev.takenSleds.length → s.dev.paired = true → d.sysc.cur = .peerStandby ∧ d.sysc.base = some .peerStandby ∧ d.powr.phase = .running ∧ d.peer.standby = true
                  ∧ bitOf (d.hdr pPEER).evtStat 9 = true)
              ∧ ((2 * s.dev.takenSleds.length ≤ s.dev.reachedAdopted.length ∨ s.dev.paired = false) → d.sysc.cur = b ∧ d.powr.phase = .recovering ∧ d.host.recovered = s.dev.host.recovered)))))
  ∧ (∀ (s : State) (r : Readout), Completes (.startupRecovery r) s (fun d => (s.dev.powr.phase ≠ .recovering → d = s.clean)
      ∧ (s.dev.powr.phase = .recovering → d.powr.phase = .running ∧ d.host.recovered = true ∧ d.valt.restoreMs = r.ms ∧ d.sysc.cur = s.dev.sysc.cur ∧ bitOf (d.hdr pVALT).evtStat 2 = true
          ∧ ∀ im, s.dev.valt.image = some im → im.num ≤ d.valt.anchor.cleared)))

/-! ## Temperatures, the ladder and the fans (R495 to R509) -/

/-- R496 to R501, R503 to R505, R507 and R509.  What is the model's own choice or reading here: log entries 20 and 52. -/
def Obligations.SensorsAndLadder : Prop :=
  (∀ (s : State) (counts : List Nat),
    let t := fun i => s.dev.tempOf i (counts.getD i 0)
    let stuck := fun i => (s.dev.sensor i).hist ≠ [] ∧ (s.dev.sensor i).count = counts.getD i 0 ∧ 15 ≤ (s.dev.sensor i).same
    Completes (.sensorResult counts) s (fun d =>
      ((counts.length ≠ 24 ∨ s.dev.sysc.cur = .dormant ∨ (s.dev.powr.phase = .inReset ∧ s.dev.clkr.hold ≠ .thermal)) → d = s.clean)
      ∧ (counts.length = 24 → s.dev.sysc.cur ≠ .dormant → s.dev.trim 16 8 ≠ 0 →
          (s.dev.powr.phase = .inReset → s.dev.clkr.hold = .thermal →
            (t 22 < 1600 → t 23 < 1600 → d.clkr.hold = .none) ∧ ((1600 ≤ t 22 ∨ 1600 ≤ t 23) → d.clkr = s.dev.clkr ∧ d.powr = s.dev.powr))
          ∧ (s.dev.powr.phase ≠ .inReset → (∃ i, i < 24 ∧ (s.dev.sensor i).broken = false ∧ 1888 ≤ t i ∧ t i ≤ 2400 ∧ ¬ stuck i ∧ (s.dev.sensor i).off < 7) →
              d.powr.phase = .inReset ∧ d.clkr.hold = .thermal ∧ d.clkr.cause = 5 ∧ d.thrm.tripped = true ∧ d.clkr.tripToTell.isSome = true ∧ d.powr.padLevel.find 1 = some 15 ∧ d.mem = [])
          ∧ (s.dev.powr.phase ≠ .inReset → (∀ i, i < 24 → (s.dev.sensor i).broken = true ∨ t i < 1888 ∨ 2400 < t i) →
              (∀ i, i < 24 → (d.sensor i).count = counts.getD i 0 ∧ (d.sensor i).hist = (t i :: (s.dev.sensor i).hist).take 4
                ∧ (((s.dev.sensor i).broken = true ∨ t i < -640 ∨ 2400 < t i ∨ stuck i) → (d.sensor i).broken = true)
                ∧ ((s.dev.sensor i).broken = false → -640 ≤ t i → t i ≤ 2400 → ¬ stuck i → (s.dev.sensor i).off < 7 → (d.sensor i).broken = false)
                ∧ ((s.dev.sensor i).broken = false → (d.sensor i).broken = true → bitOf (d.hdr pTHRM).evtStat 3 = true)
                ∧ d.effective i ≤ d.thrm.tj)
              ∧ d.thrm.tjSensor < 24 ∧ d.effective d.thrm.tjSensor = d.thrm.tj
              ∧ d.thrm.step = max s.dev.thrm.step (max d.stepMet d.stepFloor) ∧ (s.dev.thrm.step < d.thrm.step → bitOf (d.hdr pTHRM).evtStat 0 = true)
              ∧ (d.thrm.step = 4 → s.dev.thrm.stoppedAt = none → s.dev.powr.entry ≠ .commit → d.thrm.stoppedAt = some s.dev.now ∧ d.host.stopped = true ∧ bitOf (d.hdr pTHRM).evtStat 1 = true)))))
  ∧ (∀ (s : State) (a b : Nat), Completes (.dormantSensorResult a b) s (fun d =>
      (s.dev.sysc.cur ≠ .dormant → d = s.clean)
      ∧ (s.dev.sysc.cur = .dormant → s.dev.trim 16 8 ≠ 0 → s.dev.powr.entry = .none → s.dev.tempOf 22 a < 1888 → s.dev.tempOf 23 b < 1888 →
          (d.sensor 22).hist = (s.dev.tempOf 22 a :: (s.dev.sensor 22).hist).take 4 ∧ (d.sensor 23).hist = (s.dev.tempOf 23 b :: (s.dev.sensor 23).hist).take 4
          ∧ (∀ i, i < 22 → d.sensor i = s.dev.sensor i) ∧ d.sysc.cur = .dormant
          ∧ ((∃ i, (i = 22 ∨ i = 23) ∧ (d.sensor i).broken = false ∧ ((16 * s.dev.rf pTHRM 0x81C 0 8 : Nat) : Int) ≤ (d.sensor i).filtered) → hasBit d.powr.wakeLatch 6 = true)
          ∧ ((∀ i, i = 22 ∨ i = 23 → (d.sensor i).broken = true ∨ (d.sensor i).filtered < ((16 * s.dev.rf pTHRM 0x81C 0 8 : Nat) : Int)) → d.powr = s.dev.powr))))
  ∧ (∀ (s : State),
    let k := s.dev.thrm.step
    Completes .ladderStepLeave s (fun d =>
      ((k = 0 ∨ 3 < k ∨ k ≤ s.dev.stepFloor ∨ s.dev.stepAt k - ((16 * s.dev.rf pTHRM 0x804 0 8 : Nat) : Int) ≤ s.dev.thrm.tj) → d = s.clean)
      ∧ (1 ≤ k → k ≤ 3 → s.dev.stepFloor < k → s.dev.thrm.tj < s.dev.stepAt k - ((16 * s.dev.rf pTHRM 0x804 0 8 : Nat) : Int) →
          d.thrm = { s.dev.thrm with step := k - 1 } ∧ bitOf (d.hdr pTHRM).evtStat 0 = true ∧ d.cell pTHRM 0x128 = s.dev.cell pTHRM 0x128))
    ∧ Completes .stopResume s (fun d =>
      ((s.dev.thrm.stoppedAt = none ∨ k ≠ 4 ∨ ((16 * s.dev.rf pTHRM 0x804 16 8 : Nat) : Int) ≤ s.dev.thrm.tj ∨ (s.dev.valt.st ≠ .parked ∧ s.dev.valt.st ≠ .idle)) → d = s.clean)
      ∧ (s.dev.thrm.stoppedAt ≠ none → k = 4 → s.dev.thrm.tj < ((16 * s.dev.rf pTHRM 0x804 16 8 : Nat) : Int) → (s.dev.valt.st = .parked ∨ s.dev.valt.st = .idle) →
          d.thrm = { s.dev.thrm with stoppedAt := none, step := 3 } ∧ d.powr.entry = .waking ∧ d.sysc = { s.dev.sysc with busy := s.dev.sysc.busy || decide (s.dev.sysc.cur = .dormant) } ∧ bitOf (d.hdr pTHRM).evtStat 2 = true
          ∧ ∀ c, c < 4 → (d.chan c).st ≠ .selfRefresh)))
  ∧ (∀ (s : State) (v : Word) (m : Nat), m < 45 → s.dev.takesWrite pTHRM 0x818 → Completes (.brokenClrWrite v m) s (fun d => d.mem = s.dev.mem ∧ d.thrm.step = s.dev.thrm.step
      ∧ (∀ i, d.sensor i = (if i < 24 ∧ bitOf v i = true then { s.dev.sensor i with broken := false, same := 0, off := 0 } else s.dev.sensor i))
      ∧ ∀ g, g ∈ d.thrm.blind ↔ g < 7 ∧ ∀ i, i ∈ groupsG.getD g [] → (d.sensor i).broken = true))

/-- R198, R501 to R503, R506, R508 and R509. -/
def Obligations.SledTemperaturesAndFans : Prop :=
  (∀ (s : State), Completes .sledSensorPoll s (fun d => d = { s.clean with ports := d.ports }
      ∧ ∀ n, ((16 ≤ n ∨ (s.dev.port n).st ≠ .up ∨ (s.dev.port n).verUsed < 0x12) → d.port n = s.dev.port n)
        ∧ (n < 16 → (s.dev.port n).st = .up → 0x12 ≤ (s.dev.port n).verUsed →
            (d.port n).mgmt = (s.dev.port n).mgmt ++ [{ op := 7, xid := (s.dev.port n).nextXid, args := [], data := [], again := false }] ∧ (d.port n).st = .up)))
  ∧ (∀ (s : State) (n xid st b0 b1 b2 : Nat), n < 16 → Completes (.sensorResponse n xid st b0 b1 b2) s (fun d =>
      (s.dev.mgmtReq (.port n) 7 xid = none → d = s.clean.mgmtFree (.port n) 7 ∧ d = { s.clean with ports := d.ports })
      ∧ (s.dev.mgmtReq (.port n) 7 xid ≠ none → d.mgmtReq (.port n) 7 xid = none
          ∧ (st ≠ 0 → d = { s.clean with ports := d.ports })
          ∧ (st = 0 → d.thrm.sleds.find n = some (b0 % 256 + b1 % 256 * 256 + b2 % 256 * 65536, s.dev.now) ∧ (∀ k, k ≠ n → d.thrm.sleds.find k = s.dev.thrm.sleds.find k)
              ∧ hasBit d.thrm.sledTold n = decide (85 ≤ sledTemp (b0 % 256) (b1 % 256)) ∧ d.thrm.step = s.dev.thrm.step ∧ d.thrm.tj = s.dev.thrm.tj
              ∧ (85 ≤ sledTemp (b0 % 256) (b1 % 256) → hasBit s.dev.thrm.sledTold n = false → bitOf (d.hdr pTHRM).evtStat 6 = true)
              ∧ ((sledTemp (b0 % 256) (b1 % 256) < 85 ∨ hasBit s.dev.thrm.sledTold n = true) → d.regs = s.dev.regs)))))
  ∧ (∀ (s : State) (rpms : List Nat), Completes (.fanUpdate rpms) s (fun d =>
      ((s.dev.sysc.cur = .dormant ∨ s.dev.powr.phase = .inReset) → d = s.clean)
      ∧ (s.dev.sysc.cur ≠ .dormant → s.dev.powr.phase ≠ .inReset → d = { s.clean with thrm := { s.dev.thrm with fans := d.thrm.fans } }
          ∧ ∀ n, (s.dev.fanCount ≤ n → d.thrm.fans.get Fan.reset n = s.dev.thrm.fans.get Fan.reset n)
            ∧ ∀ f g, n < s.dev.fanCount → f = s.dev.thrm.fans.get Fan.reset n → g = d.thrm.fans.get Fan.reset n →
              g.rpm = rpms.getD n 0 ∧ g.failed = (f.failed && decide (rpms.getD n 0 < s.dev.rf pTHRM 0x814 0 16)) ∧ (g.duty = 100 ∨ (f.duty ≤ g.duty + 10 ∧ g.duty ≤ f.duty + 10))
              ∧ (s.dev.fansFull = true → g.duty = 100)
              ∧ (s.dev.fansFull = false → bitOf (s.dev.cell pTHRM 0x814) 31 = true → g.duty = fanStep f.duty (s.dev.rf pTHRM 0x814 16 7))
              ∧ (s.dev.fansFull = false → bitOf (s.dev.cell pTHRM 0x814) 31 = false →
                  ((∃ e, e ∈ d.thrm.fans ∧ e.1 ≠ n ∧ e.2.failed = true) → g.duty = 100)
                  ∧ ((∀ e, e ∈ d.thrm.fans → e.1 = n ∨ e.2.failed = false) → s.dev.sledTemps = [] → g.duty = fanStep f.duty (s.dev.fanCurve s.dev.thrm.tj))))))
  ∧ (∀ (s : State) (n rpm : Nat) (f : Fan), f = s.dev.thrm.fans.get Fan.reset n → Completes (.fanFailure n rpm) s (fun d =>
      ((s.dev.fanCount ≤ n ∨ f.failed = true ∨ f.duty < 30 ∨ s.dev.rf pTHRM 0x814 0 16 ≤ rpm) → d = s.clean)
      ∧ (n < s.dev.fanCount → f.failed = false → 30 ≤ f.duty → rpm < s.dev.rf pTHRM 0x814 0 16 →
          d.thrm.fans.get Fan.reset n = { f with failed := true, rpm := rpm } ∧ bitOf (d.hdr pTHRM).evtStat 5 = true
          ∧ ∀ m, m < s.dev.fanCount → m ≠ n → ((s.dev.fansFull = true ∨ bitOf (s.dev.cell pTHRM 0x814) 31 = false) → (d.thrm.fans.get Fan.reset m).duty = 100)
            ∧ (d.thrm.fans.get Fan.reset m).failed = (s.dev.thrm.fans.get Fan.reset m).failed)))

/-! ## The event recorder (R510 to R524) -/

/-- R512 to R514 with R510, R511, R520 and R521: what an offered event does to the recorder.
What is the model's own choice or reading here: log entry 57. -/
def Obligations.OfferedEventIsFoldedKeptOrDropped : Prop :=
  (∀ (s : State) (page num : Nat) (ps : List Nat) (k : OfferKind) (w : Stamp), (pageExists page = false ∨ num = 0 ∨ (sevList page).length < num) →
    Completes (.eventOffer page num ps k w) s (fun d => d = s.clean))
  ∧ (∀ (s : State) (page num : Nat) (ps : List Nat) (w : Stamp), page < 512 → pageExists page = true → 0 < num → num ≤ (sevList page).length →
    Completes (.eventOffer page num ps .flag w) s (fun d =>
      d.hdr page = { s.dev.hdr page with evtStat := setBit (s.dev.hdr page).evtStat (evtFlag page num), evtCount := (s.dev.hdr page).evtCount + 1, irq := if bitOf (s.dev.hdr page).evtEn (evtFlag page num) then setBit (s.dev.hdr page).irq (evtFlag page num) else (s.dev.hdr page).irq }
      ∧ (∀ q, q ≠ page → d.hdr q = s.dev.hdr q) ∧ Dev.RecordsOnly s.clean d
      ∧ (s.dev.evntUp = false → d.evnt = s.dev.evnt ∧ d.fsto.held = s.dev.fsto.held ++ [{ page := page, num := num, params := ps, stamp := s.dev.stamp }])
      ∧ (s.dev.evntUp = true → bitOf (s.dev.hdr page).evtEn (evtFlag page num) = false → d = s.clean.setFlag page (evtFlag page num))))
  ∧ (∀ (s : State) (page num : Nat) (ps : List Nat) (k : OfferKind) (w : Stamp) (code sev : Nat) (p : List Word) (at_ : Stamp) (cap : Nat),
    page < 512 → pageExists page = true → 0 < num → num ≤ (sevList page).length → s.dev.evntUp = true →
    (k = .flag → bitOf (s.dev.hdr page).evtEn (evtFlag page num) = true) →
    code = blockCode page * 256 + num → sev = (sevList page).getD (num - 1) 0 → p = ((ps ++ [0, 0, 0, 0]).take 4).map u32 →
    at_ = (if k = .deferred then w else s.dev.stamp) → cap = (if s.dev.evnt.frozen then 256 else 32768) →
    Completes (.eventOffer page num ps k w) s (fun d =>
      let r : Rec := { code := code, sev := sev, folded := false, deferred := decide (k = .deferred), carried := false, held := s.dev.evnt.frozen, rep := 1, stamp := at_, params := p, written := false }
      let folds := folding code = true ∧ s.dev.rf pEVNT 0x800 0 16 ≠ 0
      d.cell pEVNT 0x10C = s.dev.cell pEVNT 0x10C + 1
      ∧ d.cell pEVNT 0x110 + d.cell pEVNT 0x114 + d.cell pEVNT 0x118 = s.dev.cell pEVNT 0x110 + s.dev.cell pEVNT 0x114 + s.dev.cell pEVNT 0x118 + 1
      ∧ (k ≠ .flag → ∀ q, d.hdr q = s.dev.hdr q) ∧ Dev.RecordsOnly s.clean d ∧ d.evnt.frozen = s.dev.evnt.frozen
      ∧ (if s.dev.evnt.frozen then d.evnt.ring = s.dev.evnt.ring else d.evnt.hold = s.dev.evnt.hold)
      ∧ (∀ pre q post, folds → s.dev.recs = pre ++ q :: post → (∀ x, x ∈ post → x.written = true ∨ x.code ≠ code ∨ x.params.getD 0 0 ≠ p.getD 0 0) →
          q.written = false → q.code = code → q.params.getD 0 0 = p.getD 0 0 →
          ((q.stamp.cycles = at_.cycles ∧ at_.since q.stamp * 1000 ≤ s.dev.rf pEVNT 0x800 0 16 ∧ q.rep < 65535) →
              d.recs = pre ++ { q with rep := q.rep + 1, folded := true, params := p } :: post ∧ d.cell pEVNT 0x114 = s.dev.cell pEVNT 0x114 + 1)
          ∧ ((q.stamp.cycles ≠ at_.cycles ∨ s.dev.rf pEVNT 0x800 0 16 < at_.since q.stamp * 1000 ∨ 65535 ≤ q.rep) → s.dev.recs.length < cap →
              d.recs = s.dev.recs ++ [r] ∧ d.cell pEVNT 0x110 = s.dev.cell pEVNT 0x110 + 1))
      ∧ (¬ folds →
          (s.dev.recs.length < cap → d.recs = s.dev.recs ++ [r] ∧ d.cell pEVNT 0x110 = s.dev.cell pEVNT 0x110 + 1)
          ∧ (∀ pre v post, cap ≤ s.dev.recs.length → s.dev.recs = pre ++ v :: post → v.sev < 4 →
              ((v.written = true ∧ ∀ x, x ∈ pre → x.written = false)
                ∨ ((∀ x, x ∈ s.dev.recs → x.written = false ∧ v.sev ≤ x.sev) ∧ v.sev < sev ∧ ∀ x, x ∈ pre → x.sev ≠ v.sev)) →
              d.recs = pre ++ post ++ [r] ∧ d.cell pEVNT 0x110 = s.dev.cell pEVNT 0x110 + 1
              ∧ d.cell pEVNT (0x11C + 4 * v.sev) = s.dev.cell pEVNT (0x11C + 4 * v.sev) + 1)
          ∧ (cap ≤ s.dev.recs.length → (∀ x, x ∈ s.dev.recs → x.written = false ∧ sev ≤ x.sev) →
              d.recs = s.dev.recs ∧ d.cell pEVNT 0x118 = s.dev.cell pEVNT 0x118 + 1 ∧ d.cell pEVNT (0x11C + 4 * sev) = s.dev.cell pEVNT (0x11C + 4 * sev) + 1))))

/-- R513, R515 to R517, R519 and R524: freezes, the report of what was lost, and pages of the log. -/
def Obligations.FreezesAndLogPages : Prop :=
  (∀ (s : State) (v : Word) (m : Nat) (y : Dev), m < 45 → s.dev.takesWrite pEVNT 0x100 → y = s.clean.setCell pEVNT 0x100 (u32 (if bitOf v 0 then 1 else 0)) →
    Completes (.ringFreeze v m) s (fun d =>
      (bitOf v 8 = true → s.dev.evnt.frozen = false →
          d = { y with evnt := { s.dev.evnt with frozen := true, hold := [], freezer := m, frozenAt := s.dev.now } })
      ∧ (bitOf v 8 = s.dev.evnt.frozen → d = y)
      ∧ (bitOf v 8 = false → s.dev.evnt.frozen = true → s.dev.evnt.ring.length + s.dev.evnt.hold.length ≤ 32768 →
          d = { y with evnt := { s.dev.evnt with frozen := false, hold := [], ring := s.dev.evnt.ring ++ s.dev.evnt.hold } })))
  ∧ (∀ (s : State), Completes .freezeTimeout s (fun d =>
      (s.dev.evnt.frozen = false → d = s.clean)
      ∧ (s.dev.evnt.frozen = true → Dev.RecordsOnly s.clean d ∧ d.evnt.frozen = false ∧ d.evnt.hold = [] ∧ bitOf (d.hdr pEVNT).evtStat 1 = true
          ∧ (s.dev.evnt.ring.length + s.dev.evnt.hold.length < 32768 → s.dev.evnt.ring ++ s.dev.evnt.hold <+: d.evnt.ring))))
  ∧ (∀ (s : State), Completes .recordsLostReport s (fun d =>
      ((∀ i, i < 4 → (s.dev.cell pEVNT (0x11C + 4 * i)).toNat = s.dev.evnt.reported.getD i 0) → d = s.clean)
      ∧ ((∃ i, i < 4 ∧ s.dev.evnt.reported.getD i 0 < 2 ^ 32 ∧ (s.dev.cell pEVNT (0x11C + 4 * i)).toNat ≠ s.dev.evnt.reported.getD i 0) →
          (∀ i, i < 4 → d.evnt.reported.getD i 0 = (s.dev.cell pEVNT (0x11C + 4 * i)).toNat) ∧ bitOf (d.hdr pEVNT).evtStat 0 = true ∧ Dev.RecordsOnly s.clean d)))
  ∧ (∀ (s : State) (failed : List Nat) (sleds : List Nat) (may : Prop),
    sleds = (List.range 16).filter (fun n => (s.dev.port n).st == .up && !hasBit s.dev.peer.fenceLost n) →
    (may ↔ s.dev.active = true ∧ 3 ≤ sleds.length ∧ bitOf (s.dev.cell pEVNT 0x100) 0 = true) →
    Completes (.logPageWrite failed) s (fun d =>
      (¬ may → s.dev.evnt.logUp = false → d = s.clean)
      ∧ (¬ may → s.dev.evnt.logUp = true → d.evnt.logUp = false ∧ d.evnt.pages = s.dev.evnt.pages ∧ bitOf (d.hdr pEVNT).evtStat 4 = true ∧ Dev.RecordsOnly s.clean d)
      ∧ (may → s.dev.evnt.logUp = false → d.evnt.logUp = true ∧ bitOf (d.hdr pEVNT).evtStat 4 = true)
      ∧ (may → s.dev.evnt.logUp = true →
          ((∀ r, r ∈ s.dev.evnt.ring → r.written = true) → d = s.clean)
          ∧ (∀ r, r ∈ s.dev.evnt.ring → r.written = false →
              (s.dev.evnt.pageNo % 64 = 0 → 0 < s.dev.evnt.pageNo → s.dev.evnt.sealedExtent ≠ some (s.dev.evnt.pageNo / 64 - 1) → d.evnt = s.dev.evnt)
              ∧ (∀ a b c, s.dev.evnt.pageNo % 64 ≠ 0 → s.dev.evnt.triple = [a, b, c] → a ≠ b → b ≠ c → a ≠ c →
                  (∀ x, x = a ∨ x = b ∨ x = c → (s.dev.blk x).confirmed < 768) →
                  d.evnt.pageNo = s.dev.evnt.pageNo + 1
                  ∧ (s.dev.evnt.pageNo % 64 = 63 → d.evnt.sealing = some (s.dev.evnt.pageNo / 64))
                  ∧ ((∃ i, i ∈ failed ∧ i < 3) → bitOf (d.hdr pEVNT).evtStat 3 = true)
                  ∧ ((∀ i, i ∈ failed → 3 ≤ i) →
                      d.evnt.triple = s.dev.evnt.triple ∧ d.cell pEVNT 0x130 = s.dev.cell pEVNT 0x130 + 1
                      ∧ d.evnt.pages = s.dev.evnt.pages ++ [{ page := s.dev.evnt.pageNo, extent := s.dev.evnt.pageNo / 64, first := false, used := ((s.dev.evnt.ring.filter (fun r => !r.written)).take 2045).length, prevSeal := if s.dev.evnt.pageNo < 64 then [] else s.dev.evnt.sealLast, recs := (s.dev.evnt.ring.filter (fun r => !r.written)).take 2045, blocks := [a, b, c] }]
                      ∧ ((s.dev.evnt.ring.filter (fun r => !r.written)).length ≤ 2045 → (s.dev.hdr pMEDI).epochApplied = s.dev.sysc.epoch → d.evnt.ring = s.dev.evnt.ring.map (fun r => { r with written := true }))
                      ∧ ∀ x, x = a ∨ x = b ∨ x = c → (d.blk x).confirmed = (s.dev.blk x).confirmed + 1))))))

/-! ## The ledgers and the audit (R525 to R534) -/

/-- R527 to R534: the audit's commands.  What is the model's own choice or reading here: log entries 58 and 47. -/
def Obligations.AuditFindsAndTellsViolations : Prop :=
  (∀ (s : State), Completes .auditStrobe s (fun d =>
      ((s.dev.auditSuspended = true ∨ bitOf (s.dev.cell pLEDG 0x100) 0 = false) → d = s.clean)
      ∧ (s.dev.auditSuspended = false → bitOf (s.dev.cell pLEDG 0x100) 0 = true →
          (s.dev.ledg.pass ≠ none → d.cell pLEDG 0x12C = s.dev.cell pLEDG 0x12C + 1 ∧ bitOf (d.hdr pLEDG).evtStat 1 = true ∧ Dev.RecordsOnly s.clean d)
          ∧ (s.dev.ledg.pass = none → ∃ p, p.time = s.dev.now ∧ d = { s.clean with ledg := { s.dev.ledg with pass := some p, poisonedOnce := false } }
              ∧ (∀ q, pageExists q = true → (q, (s.dev.hdr q).evtCount) ∈ p.counts)
              ∧ (bitOf (s.dev.cell pLEDG 0x800) 17 = true → ((∃ x, (17, 0, x) ∈ p.fails) ↔
                  s.dev.cell pEVNT 0x10C ≠ s.dev.cell pEVNT 0x110 + s.dev.cell pEVNT 0x114 + s.dev.cell pEVNT 0x118))
              ∧ (∀ q, q < 2 → bitOf (s.dev.cell pLEDG 0x800) 0 = true → ((∃ x, (0, q, x) ∈ p.fails) ↔
                  s.dev.cell (pHOST q) 0x12C ≠ s.dev.cell (pHOST q) 0x130 + s.dev.cell (pHOST q) 0x134 + u32 (s.dev.ctxHeld q)))
              ∧ (∀ n i x, (n, i, x) ∈ p.fails → n < 18 ∧ x ≠ 0 ∧ bitOf (s.dev.cell pLEDG 0x800) n = true)))))
  ∧ (∀ (s : State) (en : Bool) (m : Nat), m < 45 → s.dev.takesWrite pLEDG 0x100 → Completes (.auditNow en m) s (fun d =>
      d.cell pLEDG 0x100 = (if en then 1 else 0)
      ∧ (en = false → d.ledg = s.dev.ledg ∧ (bitOf (s.dev.cell pLEDG 0x100) 0 = true → bitOf (d.hdr pLEDG).evtStat 3 = true)
          ∧ (bitOf (s.dev.cell pLEDG 0x100) 0 = false → d = s.clean.setCell pLEDG 0x100 0))
      ∧ (en = true → (s.dev.auditSuspended = true → d = s.clean.setCell pLEDG 0x100 1)
          ∧ (s.dev.auditSuspended = false → s.dev.ledg.pass = none →
              ∃ p, p.time = s.dev.now ∧ d = { s.clean.setCell pLEDG 0x100 1 with ledg := { s.dev.ledg with pass := some p, poisonedOnce := false } }))))
  ∧ (∀ (s : State) (us : Nat) (po : Option (Nat × Nat)), Completes (.auditPassEnd us po) s (fun d =>
      (s.dev.ledg.pass = none → d = s.clean)
      ∧ (∀ p, s.dev.ledg.pass = some p →
          (po ≠ none → s.dev.ledg.poisonedOnce = false → d = { s.clean with ledg := { s.dev.ledg with poisonedOnce := true } })
          ∧ (po ≠ none → s.dev.ledg.poisonedOnce = true → d.ledg = { s.dev.ledg with pass := none, poisonedOnce := false, result := 3, lastUs := us }
              ∧ d.cell pLEDG 0x108 = s.dev.cell pLEDG 0x108 + 1 ∧ bitOf (d.hdr pLEDG).evtStat 2 = true)
          ∧ (po = none → d.ledg.pass = none ∧ d.ledg.lastCounts = p.counts ∧ d.ledg.lastUs = us ∧ d.cell pLEDG 0x108 = s.dev.cell pLEDG 0x108 + 1
              ∧ (p.fails = [] → (s.dev.ledg.lastCounts = [] ∨ bitOf (s.dev.cell pLEDG 0x800) 17 = false
                    ∨ ∀ e, e ∈ p.counts → (e.2 - ((s.dev.ledg.lastCounts.find? (fun y => y.1 == e.1)).map Prod.snd).getD 0).toNat < 2 ^ 31) →
                  d.ledg.result = 1 ∧ d.ledg.violMask = 0 ∧ d.ledg.latched = s.dev.ledg.latched ∧ d.cell pLEDG 0x10C = s.dev.cell pLEDG 0x10C
                  ∧ d.regs.hdr = s.dev.regs.hdr ∧ d.host = s.dev.host ∧ d.evnt = s.dev.evnt)
              ∧ (∀ v vs, p.fails = v :: vs → d.ledg.result = 2 ∧ bitOf (d.hdr pLEDG).evtStat 0 = true ∧ hasBit d.ledg.violMask v.1 = true
                  ∧ d.ledg.latched = (if s.dev.ledg.latched.isSome then s.dev.ledg.latched else some (v.1, v.2.1, v.2.2, p.time))
                  ∧ (s.dev.ledg.lastCounts = [] → d.cell pLEDG 0x10C = s.dev.cell pLEDG 0x10C + u32 p.fails.length)
                  ∧ d.host.telemetry = s.dev.host.telemetry + 1)
              ∧ (∀ e w, p.fails = [] → bitOf (s.dev.cell pLEDG 0x800) 17 = true → e ∈ p.counts → s.dev.ledg.lastCounts.find? (fun y => y.1 == e.1) = some (e.1, w) →
                  2 ^ 31 ≤ (e.2 - w).toNat → e.1 ∉ s.dev.ledg.resets →
                  d.ledg.result = 2 ∧ bitOf (d.hdr pLEDG).evtStat 0 = true ∧ d.ledg.violMask = 2 ^ 17)))))
  ∧ (∀ (s : State) (v : Word) (m : Nat), m < 45 → s.dev.takesWrite pLEDG 0x800 → Completes (.ledgerAuditDisable (some v) m) s (fun d =>
      d.cell pLEDG 0x800 = v &&& 0x3FFFF ∧ d.ledg = s.dev.ledg ∧ Dev.RecordsOnly s.clean d
      ∧ ((∃ i, i < 18 ∧ bitOf (s.dev.cell pLEDG 0x800) i = true ∧ bitOf v i = false) → bitOf (d.hdr pLEDG).evtStat 3 = true)
      ∧ ((∀ i, i < 18 → bitOf (s.dev.cell pLEDG 0x800) i = true → bitOf v i = true) → d = s.clean.setCell pLEDG 0x800 (v &&& 0x3FFFF))))
  ∧ (∀ (s : State) (m : Nat), m < 45 → s.dev.takesWrite pLEDG 0x100 → Completes (.ledgerAuditDisable none m) s (fun d =>
      (bitOf (s.dev.cell pLEDG 0x100) 0 = false → d = s.clean)
      ∧ (bitOf (s.dev.cell pLEDG 0x100) 0 = true → d.cell pLEDG 0x100 = 0 ∧ bitOf (d.hdr pLEDG).evtStat 3 = true ∧ Dev.RecordsOnly s.clean d)))
  ∧ (∀ (s : State) (m : Nat), m < 45 → s.dev.takesRead pLEDG →
    Completes (.violLedgerRead m) s (fun d =>
      (s.dev.ledg.latched = none → d = { s.clean with out := [.word 0 false] })
      ∧ (∀ l i x t, s.dev.ledg.latched = some (l, i, x, t) → l < 32 → i < 8192 →
          d = { s.clean with ledg := { s.dev.ledg with latched := none }, out := [.word (u32 (2 ^ 31 + l * 2 ^ 24 + i)) false] }))
    ∧ Completes (.violTimeLoRead m) s (fun d =>
      (s.dev.ledg.latched = none → d.out = [.word 0 false] ∧ d.ledg.hiLatch.get 0 m = 0)
      ∧ (∀ l i x t, s.dev.ledg.latched = some (l, i, x, t) →
          d.out = [.word (u32 t) false] ∧ d.ledg.hiLatch.get 0 m = t / 2 ^ 32 % 2 ^ 32
          ∧ (∀ k, k ≠ m → d.ledg.hiLatch.get 0 k = s.dev.ledg.hiLatch.get 0 k) ∧ d.ledg.latched = s.dev.ledg.latched)))

/-! ## The queue, the steps, reset and what every step keeps -/

/-- The model's queue (log entry 1): commands run one at a time, in the order in which they came. -/
def Obligations.StepRunsTheFrontCommand : Prop :=
  ∀ (c : Instr) (rest : List Instr) (s : State), Machine.step { s with pending := c :: rest } = exec c { s with pending := rest }

/-- The model's tick (log entry 2) with R49, R50 and R484. -/
def Obligations.EmptyQueueLetsTimePass : Prop :=
  ∀ (s : State), s.pending = [] → ∃ t, Machine.step s = .next t ∧ t.pending = []
    ∧ (s.dev.powr.phase = .inReset → t = s)
    ∧ (s.dev.powr.phase ≠ .inReset → s.dev.rf pSYSC 0x808 16 16 = 0 → s.dev.sysc.timeFrac < 100000000 →
        t.dev.sysc = { s.dev.sysc with time := (s.dev.sysc.time + 1) % 2 ^ 64 }
        ∧ t.dev = { s.dev with sysc := t.dev.sysc, clkr := { s.dev.clkr with opSeconds := t.dev.clkr.opSeconds } }
        ∧ t.dev.clkr.opSeconds = (if s.dev.sysc.time / 1000000000 < (s.dev.sysc.time + 1) % 2 ^ 64 / 1000000000 ∧ s.dev.clkr.opSeconds < 3599
            then s.dev.clkr.opSeconds + 1 else s.dev.clkr.opSeconds))

/-- R31, R33, R41, R483 and the register tables, as the state right after reset has them. -/
def Obligations.ResetLeavesTableValues : Prop :=
  let d := State.reset.dev
  State.reset.pending = [] ∧ d.powr.phase = .inReset ∧ d.sysc.epoch = 0 ∧ d.sysc.epochRetired = 0xFFFFFFFF ∧ d.sysc.time = 0 ∧ d.sysc.fabErr.armed = true
  ∧ (∀ p, (d.hdr p).en = true ∧ (d.hdr p).unlocked = false ∧ (d.hdr p).lock = false ∧ (d.hdr p).pwr = 0 ∧ (d.hdr p).evtStat = 0 ∧ (d.hdr p).evtEn = 0
      ∧ (d.hdr p).evtCount = 0 ∧ (d.hdr p).irq = 0 ∧ (d.hdr p).epochApplied = 0)
  ∧ d.cell pLEDG 0x100 = 1 ∧ d.cell pLEDG 0x800 = 0x3FFFF ∧ d.cell pEVNT 0x100 = 1 ∧ d.cell pEVNT 0x804 = 0x03E83040 ∧ d.cell pEVNT 0x808 = 0x64
  ∧ d.cell pPOWR 0x800 = 0x1424 ∧ d.cell pTHRM 0x800 = 0x6E6A6764 ∧ d.cell pSCHD 0x800 = 0x00640028 ∧ d.cell pMEDI 0x800 = 0x04502814
  ∧ (∀ p, p < 2 → d.cell (pHOST p) 0x800 = 0x96) ∧ d.cell pZONE 0x800 = 0x00040001
  ∧ (∀ c i, c < 4 → i < 8 → (d.cellI (pDRAM c) 0x114 i).toNat = [400, 600, 300, 300, 500, 200, 1000, 5000].getD i 0)
  ∧ d.nor = [] ∧ d.otp = [] ∧ d.evnt.ring = [] ∧ d.valt.image = none ∧ d.out = []

/-- No stops; and log entry 3. -/
def Obligations.EveryCommandAnswersANextState : Prop :=
  (∀ (c : Instr) (s : State), ∃ t, exec c s = .next t ∧ t.pending = s.pending)
  ∧ (∀ (c : Instr) (s : State), Instr.wf c = false → exec c s = .next { s with dev := s.clean })

/-- The invariant of `EveryStepKeepsCanonicalForm` holds at reset (log entry 4). -/
def Obligations.CanonicalFormAtReset : Prop :=
  State.reset.dev.canonical ∧ State.reset.queueWf

/-- The canonical form (log entry 4) is kept by every step. -/
def Obligations.EveryStepKeepsCanonicalForm : Prop :=
  ∀ (s t : State), s.dev.canonical → s.queueWf → Machine.step s = .next t → t.dev.canonical ∧ t.queueWf
end

