-- ==== Sys2Proof/Laws/SMap.lean ====
section
/-! SUPPORT. The laws of sparse maps: what a read gives after a write, and that every operation keeps the canonical form. -/

namespace Sys2Proof.Machine

variable {α : Type}

@[simp] theorem SMap.get_nil (dflt : α) (i : Nat) : SMap.get dflt [] i = dflt := rfl
@[simp] theorem SMap.find_nil (i : Nat) : SMap.find ([] : SMap α) i = none := rfl

theorem SMap.get_eq_find (dflt : α) (m : SMap α) (i : Nat) : m.get dflt i = (m.find i).getD dflt := by
  induction m with
  | nil => rfl
  | cons e m ih => obtain ⟨k, v⟩ := e; simp only [SMap.get, SMap.find]; split <;> simp_all

@[simp] theorem SMap.find_del (m : SMap α) (i j : Nat) : (m.del i).find j = if i = j then none else m.find j := by
  induction m with
  | nil => simp [SMap.del]
  | cons e m ih =>
    obtain ⟨k, v⟩ := e
    simp only [SMap.del, SMap.find]
    split <;> rename_i h
    · rw [ih]; split
      · rfl
      · rw [if_neg]; omega
    · simp only [SMap.find, ih]
      split <;> split <;> simp_all

theorem SMap.find_ins_of_none (m : SMap α) (i : Nat) (x : α) (j : Nat) (h : m.find i = none) :
    (m.ins i x).find j = if i = j then some x else m.find j := by
  induction m with
  | nil => simp [SMap.ins, SMap.find]
  | cons e m ih =>
    obtain ⟨k, v⟩ := e
    simp only [SMap.find] at h
    split at h
    · cases h
    · rename_i hk
      simp only [SMap.ins]
      split
      · simp only [SMap.find]
      · simp only [SMap.find, ih h]
        split <;> split <;> simp_all

/-- Reading a map after an entry is listed. -/
@[simp] theorem SMap.find_set (m : SMap α) (i : Nat) (x : α) (j : Nat) : (m.set i x).find j = if i = j then some x else m.find j := by
  unfold SMap.set
  rw [SMap.find_ins_of_none _ _ _ _ (by simp [SMap.find_del]), SMap.find_del]
  split <;> rfl

/-- Reading a map after a value is put. -/
@[simp] theorem SMap.get_put [DecidableEq α] (dflt : α) (m : SMap α) (i : Nat) (x : α) (j : Nat) :
    (m.put dflt i x).get dflt j = if i = j then x else m.get dflt j := by
  unfold SMap.put
  split
  · rename_i h; subst h; simp only [SMap.get_eq_find, SMap.find_del]; split <;> rfl
  · simp only [SMap.get_eq_find]
    rw [SMap.find_ins_of_none _ _ _ _ (by simp [SMap.find_del]), SMap.find_del]
    split <;> rfl

@[simp] theorem SMap.get_upd [DecidableEq α] (dflt : α) (m : SMap α) (i : Nat) (f : α → α) (j : Nat) :
    (m.upd dflt i f).get dflt j = if i = j then f (m.get dflt i) else m.get dflt j := by
  unfold SMap.upd; simp

@[simp] theorem SMap.get_del (dflt : α) (m : SMap α) (i j : Nat) : (m.del i).get dflt j = if i = j then dflt else m.get dflt j := by
  simp only [SMap.get_eq_find, SMap.find_del]; split <;> rfl

@[simp] theorem SMap.find_modify (m : SMap α) (i : Nat) (f : α → α) (j : Nat) :
    (m.modify i f).find j = if i = j then (m.find j).map f else m.find j := by
  induction m with
  | nil => simp [SMap.modify]
  | cons e m ih =>
    obtain ⟨k, v⟩ := e
    simp only [SMap.modify]
    by_cases h : k = i
    · subst h; simp only [if_true, SMap.find]; split <;> simp_all
    · simp only [if_neg h, SMap.find]; split <;> simp_all
      intro hij; omega

@[simp] theorem SMap.get_set (dflt : α) (m : SMap α) (i : Nat) (x : α) (j : Nat) : (m.set i x).get dflt j = if i = j then x else m.get dflt j := by
  simp only [SMap.get_eq_find, SMap.find_set]; split <;> rfl

/-! ## The canonical form -/

theorem SMap.wfFrom_mono [DecidableEq α] (dflt : α) {lo hi : Nat} {m : SMap α} (h : lo ≤ hi) (w : m.wfFrom dflt hi = true) : m.wfFrom dflt lo = true := by
  cases m with
  | nil => rfl
  | cons e m =>
    obtain ⟨k, v⟩ := e
    simp only [SMap.wfFrom, Bool.and_eq_true, decide_eq_true_eq] at *
    exact ⟨⟨by omega, w.1.2⟩, w.2⟩

theorem SMap.wfFrom_del [DecidableEq α] (dflt : α) {lo : Nat} {m : SMap α} (i : Nat) (w : m.wfFrom dflt lo = true) : (m.del i).wfFrom dflt lo = true := by
  induction m generalizing lo with
  | nil => rfl
  | cons e m ih =>
    obtain ⟨k, v⟩ := e
    simp only [SMap.wfFrom, Bool.and_eq_true, decide_eq_true_eq] at w
    simp only [SMap.del]; split
    · exact SMap.wfFrom_mono dflt (by omega) (ih w.2)
    · simp only [SMap.wfFrom, Bool.and_eq_true, decide_eq_true_eq]; exact ⟨w.1, ih w.2⟩

theorem SMap.wfFrom_ins [DecidableEq α] (dflt : α) {lo : Nat} {m : SMap α} {i : Nat} {x : α} (hi : lo ≤ i) (hx : x ≠ dflt) (hn : m.find i = none)
    (w : m.wfFrom dflt lo = true) : (m.ins i x).wfFrom dflt lo = true := by
  induction m generalizing lo with
  | nil => simp [SMap.ins, SMap.wfFrom, hi, hx]
  | cons e m ih =>
    obtain ⟨k, v⟩ := e
    simp only [SMap.wfFrom, Bool.and_eq_true, decide_eq_true_eq] at w
    simp only [SMap.find] at hn
    split at hn
    · cases hn
    · simp only [SMap.ins]; split
      · simp only [SMap.wfFrom, Bool.and_eq_true, decide_eq_true_eq]
        exact ⟨⟨hi, hx⟩, ⟨⟨by omega, w.1.2⟩, w.2⟩⟩
      · simp only [SMap.wfFrom, Bool.and_eq_true, decide_eq_true_eq]
        exact ⟨w.1, ih (by omega) hn w.2⟩

/-- Putting a value keeps the canonical form. -/
theorem SMap.wf_put [DecidableEq α] (dflt : α) {m : SMap α} (i : Nat) (x : α) (w : m.wf dflt = true) : (m.put dflt i x).wf dflt = true := by
  unfold SMap.put SMap.wf at *
  split
  · exact SMap.wfFrom_del dflt i w
  · rename_i h
    exact SMap.wfFrom_ins dflt (Nat.zero_le i) h (by simp [SMap.find_del]) (SMap.wfFrom_del dflt i w)

theorem SMap.wfFrom_keep [DecidableEq α] (dflt : α) {lo : Nat} {m : SMap α} (p : Nat → α → Bool) (w : m.wfFrom dflt lo = true) :
    (m.keep p).wfFrom dflt lo = true := by
  induction m generalizing lo with
  | nil => rfl
  | cons e m ih =>
    obtain ⟨k, v⟩ := e
    simp only [SMap.wfFrom, Bool.and_eq_true, decide_eq_true_eq] at w
    have h2 := ih w.2
    unfold SMap.keep at *
    simp only [List.filter_cons]; split
    · simp only [SMap.wfFrom, Bool.and_eq_true, decide_eq_true_eq]; exact ⟨w.1, h2⟩
    · exact SMap.wfFrom_mono dflt (by omega) h2

/-- Keeping some entries keeps the canonical form. -/
theorem SMap.wf_keep [DecidableEq α] (dflt : α) {m : SMap α} (p : Nat → α → Bool) (w : m.wf dflt = true) : (m.keep p).wf dflt = true :=
  SMap.wfFrom_keep dflt p w

end Sys2Proof.Machine
end

