-- ==== Sys2Proof/Laws/Events.lean ====
section
/-! SUPPORT. What the recording of an event changes: registers, the recorder, the held events, the alert line and HOST's asynchronous events,
and nothing else of the part. -/

namespace Sys2Proof.Machine

namespace Dev.RecordsOnly

theorem refl (d : Dev) : Dev.RecordsOnly d d := rfl

theorem trans {a b c : Dev} (h : Dev.RecordsOnly a b) (g : Dev.RecordsOnly b c) : Dev.RecordsOnly a c := by
  unfold Dev.RecordsOnly Dev.recorded at *
  rw [h] at g; exact g

/-- What is sent out beside does not matter. -/
theorem emit {a b : Dev} (h : Dev.RecordsOnly a b) (o : List Out) : Dev.RecordsOnly { a with out := o } { b with out := o } := by
  unfold Dev.RecordsOnly at h
  rw [h]; rfl

end Dev.RecordsOnly

/-- A fold of operations that only record, only records. -/
theorem Dev.each_recordsOnly {α : Type} (d : Dev) (l : List α) (f : Dev → α → Dev) (h : ∀ x a, Dev.RecordsOnly x (f x a)) :
    Dev.RecordsOnly d (d.each l f) := by
  unfold Dev.each
  induction l generalizing d with
  | nil => exact Dev.RecordsOnly.refl d
  | cons a l ih => exact (h d a).trans (ih (f d a))

theorem Dev.setHdr_recordsOnly (d : Dev) (p : Nat) (f : PageHdr → PageHdr) : Dev.RecordsOnly d (d.setHdr p f) := rfl
theorem Dev.setCellI_recordsOnly (d : Dev) (p o i : Nat) (v : Word) : Dev.RecordsOnly d (d.setCellI p o i v) := rfl
theorem Dev.setCell_recordsOnly (d : Dev) (p o : Nat) (v : Word) : Dev.RecordsOnly d (d.setCell p o v) := rfl
theorem Dev.count_recordsOnly (d : Dev) (p o n : Nat) : Dev.RecordsOnly d (d.count p o n) := rfl
theorem Dev.setFlag_recordsOnly (d : Dev) (p i : Nat) : Dev.RecordsOnly d (d.setFlag p i) := rfl
theorem Dev.deny_recordsOnly (d : Dev) (p : Nat) : Dev.RecordsOnly d (d.deny p) := rfl
theorem Dev.modCtx_recordsOnly (d : Dev) (c : Nat) (f : Ctx → Ctx) : Dev.RecordsOnly d (d.modCtx c f) := rfl
theorem Dev.setHport_recordsOnly (d : Dev) (n : Nat) (f : HPort → HPort) : Dev.RecordsOnly d (d.setHport n f) := rfl
theorem Dev.commitCtx_recordsOnly (d : Dev) (c st : Nat) (x : Bool) (w : Nat) : Dev.RecordsOnly d (d.commitCtx c st x w) := rfl

theorem Dev.aenFn_recordsOnly (d : Dev) (p n : Nat) (a : Aen) : Dev.RecordsOnly d (d.aenFn p n a) := by
  unfold Dev.aenFn
  simp only []
  repeat' split
  all_goals rfl

theorem Dev.aen_recordsOnly (d : Dev) (a : Aen) : Dev.RecordsOnly d (d.aen a) :=
  d.each_recordsOnly _ _ (fun x pf => x.aenFn_recordsOnly pf.1 pf.2 a)

theorem Dev.evnt_recordsOnly (d : Dev) (v : Evnt) : Dev.RecordsOnly d { d with evnt := v } := rfl
theorem Dev.alert_recordsOnly (d : Dev) (v : Bool) : Dev.RecordsOnly d { d with side := { d.side with alert := v } } := rfl
theorem Dev.held_recordsOnly (d : Dev) (v : List HeldEvent) : Dev.RecordsOnly d { d with fsto := { d.fsto with held := v } } := rfl

theorem Dev.ite_recordsOnly {d a b : Dev} (P : Prop) [Decidable P] (ha : Dev.RecordsOnly d a) (hb : Dev.RecordsOnly d b) :
    Dev.RecordsOnly d (if P then a else b) := by
  split
  · exact ha
  · exact hb

theorem Dev.countLost_recordsOnly (d : Dev) (s : Option Nat) : Dev.RecordsOnly d (d.countLost s) := by
  cases s <;> rfl

theorem Dev.alerted_recordsOnly (d : Dev) (sev : Nat) : Dev.RecordsOnly d (d.alerted sev) := by
  have h : Dev.RecordsOnly d (if sev = 3 then d.aen aenError else d) := Dev.ite_recordsOnly _ (d.aen_recordsOnly _) (Dev.RecordsOnly.refl d)
  exact Dev.ite_recordsOnly _ (h.trans (Dev.alert_recordsOnly _ _)) h

theorem Dev.newRec_recordsOnly (d : Dev) (r : Rec) : Dev.RecordsOnly d (d.newRec r) :=
  Dev.ite_recordsOnly _
    ((((d.countLost_recordsOnly _).trans (Dev.count_recordsOnly _ _ _ _)).trans (Dev.evnt_recordsOnly _ _)).trans (Dev.alerted_recordsOnly _ _))
    ((d.countLost_recordsOnly _).trans (Dev.count_recordsOnly _ _ _ _))

theorem Dev.offer_recordsOnly (d : Dev) (code sev : Nat) (ps : List Word) (s : Option Stamp) : Dev.RecordsOnly d (d.offer code sev ps s) := by
  unfold Dev.offer
  refine (d.count_recordsOnly pEVNT 0x10C 1).trans ?_
  dsimp only
  split
  · exact (Dev.count_recordsOnly _ _ _ _).trans (Dev.evnt_recordsOnly _ _)
  · exact Dev.newRec_recordsOnly _ _

/-- What raising an event changes. -/
theorem Dev.raise_recordsOnly (d : Dev) (p n : Nat) (ps : List Nat) : Dev.RecordsOnly d (d.raise p n ps) := by
  unfold Dev.raise
  extract_lets d1
  split
  · exact (d.setFlag_recordsOnly _ _).trans (Dev.held_recordsOnly _ _)
  · exact Dev.ite_recordsOnly _ ((d.setFlag_recordsOnly _ _).trans (Dev.offer_recordsOnly _ _ _ _ _)) (d.setFlag_recordsOnly _ _)

/-! ## Block by block -/

/-- What only records leaves every other block as it was. -/
theorem Dev.RecordsOnly.field {α : Type} {d e : Dev} (h : Dev.RecordsOnly d e) (f : Dev → α) (hf : f (d.recorded e) = f d) : f e = f d := by
  rw [h]; exact hf

@[simp] theorem Dev.raise_sysc (d : Dev) (p n : Nat) (ps : List Nat) : (d.raise p n ps).sysc = d.sysc := (d.raise_recordsOnly p n ps).field Dev.sysc rfl
@[simp] theorem Dev.raise_ledg (d : Dev) (p n : Nat) (ps : List Nat) : (d.raise p n ps).ledg = d.ledg := (d.raise_recordsOnly p n ps).field Dev.ledg rfl
@[simp] theorem Dev.raise_powr (d : Dev) (p n : Nat) (ps : List Nat) : (d.raise p n ps).powr = d.powr := (d.raise_recordsOnly p n ps).field Dev.powr rfl
@[simp] theorem Dev.raise_clkr (d : Dev) (p n : Nat) (ps : List Nat) : (d.raise p n ps).clkr = d.clkr := (d.raise_recordsOnly p n ps).field Dev.clkr rfl
@[simp] theorem Dev.raise_thrm (d : Dev) (p n : Nat) (ps : List Nat) : (d.raise p n ps).thrm = d.thrm := (d.raise_recordsOnly p n ps).field Dev.thrm rfl
@[simp] theorem Dev.raise_dgst (d : Dev) (p n : Nat) (ps : List Nat) : (d.raise p n ps).dgst = d.dgst := (d.raise_recordsOnly p n ps).field Dev.dgst rfl
@[simp] theorem Dev.raise_cryp (d : Dev) (p n : Nat) (ps : List Nat) : (d.raise p n ps).cryp = d.cryp := (d.raise_recordsOnly p n ps).field Dev.cryp rfl
@[simp] theorem Dev.raise_dram (d : Dev) (p n : Nat) (ps : List Nat) : (d.raise p n ps).dram = d.dram := (d.raise_recordsOnly p n ps).field Dev.dram rfl
@[simp] theorem Dev.raise_ten (d : Dev) (p n : Nat) (ps : List Nat) : (d.raise p n ps).ten = d.ten := (d.raise_recordsOnly p n ps).field Dev.ten rfl
@[simp] theorem Dev.raise_zone (d : Dev) (p n : Nat) (ps : List Nat) : (d.raise p n ps).zone = d.zone := (d.raise_recordsOnly p n ps).field Dev.zone rfl
@[simp] theorem Dev.raise_sched (d : Dev) (p n : Nat) (ps : List Nat) : (d.raise p n ps).sched = d.sched := (d.raise_recordsOnly p n ps).field Dev.sched rfl
@[simp] theorem Dev.raise_media (d : Dev) (p n : Nat) (ps : List Nat) : (d.raise p n ps).media = d.media := (d.raise_recordsOnly p n ps).field Dev.media rfl
@[simp] theorem Dev.raise_prty (d : Dev) (p n : Nat) (ps : List Nat) : (d.raise p n ps).prty = d.prty := (d.raise_recordsOnly p n ps).field Dev.prty rfl
@[simp] theorem Dev.raise_valt (d : Dev) (p n : Nat) (ps : List Nat) : (d.raise p n ps).valt = d.valt := (d.raise_recordsOnly p n ps).field Dev.valt rfl
@[simp] theorem Dev.raise_peer (d : Dev) (p n : Nat) (ps : List Nat) : (d.raise p n ps).peer = d.peer := (d.raise_recordsOnly p n ps).field Dev.peer rfl
@[simp] theorem Dev.raise_ports (d : Dev) (p n : Nat) (ps : List Nat) : (d.raise p n ps).ports = d.ports := (d.raise_recordsOnly p n ps).field Dev.ports rfl
@[simp] theorem Dev.raise_mem (d : Dev) (p n : Nat) (ps : List Nat) : (d.raise p n ps).mem = d.mem := (d.raise_recordsOnly p n ps).field Dev.mem rfl
@[simp] theorem Dev.raise_nor (d : Dev) (p n : Nat) (ps : List Nat) : (d.raise p n ps).nor = d.nor := (d.raise_recordsOnly p n ps).field Dev.nor rfl
@[simp] theorem Dev.raise_otp (d : Dev) (p n : Nat) (ps : List Nat) : (d.raise p n ps).otp = d.otp := (d.raise_recordsOnly p n ps).field Dev.otp rfl
@[simp] theorem Dev.raise_out (d : Dev) (p n : Nat) (ps : List Nat) : (d.raise p n ps).out = d.out := (d.raise_recordsOnly p n ps).field Dev.out rfl
@[simp] theorem Dev.raise_free (d : Dev) (p n : Nat) (ps : List Nat) : (d.raise p n ps).free = d.free := (d.raise_recordsOnly p n ps).field Dev.free rfl
@[simp] theorem Dev.offer_sysc (d : Dev) (c v : Nat) (ps : List Word) (s : Option Stamp) : (d.offer c v ps s).sysc = d.sysc := (d.offer_recordsOnly c v ps s).field Dev.sysc rfl
@[simp] theorem Dev.offer_ledg (d : Dev) (c v : Nat) (ps : List Word) (s : Option Stamp) : (d.offer c v ps s).ledg = d.ledg := (d.offer_recordsOnly c v ps s).field Dev.ledg rfl
@[simp] theorem Dev.offer_powr (d : Dev) (c v : Nat) (ps : List Word) (s : Option Stamp) : (d.offer c v ps s).powr = d.powr := (d.offer_recordsOnly c v ps s).field Dev.powr rfl
@[simp] theorem Dev.offer_clkr (d : Dev) (c v : Nat) (ps : List Word) (s : Option Stamp) : (d.offer c v ps s).clkr = d.clkr := (d.offer_recordsOnly c v ps s).field Dev.clkr rfl
@[simp] theorem Dev.offer_thrm (d : Dev) (c v : Nat) (ps : List Word) (s : Option Stamp) : (d.offer c v ps s).thrm = d.thrm := (d.offer_recordsOnly c v ps s).field Dev.thrm rfl
@[simp] theorem Dev.offer_dgst (d : Dev) (c v : Nat) (ps : List Word) (s : Option Stamp) : (d.offer c v ps s).dgst = d.dgst := (d.offer_recordsOnly c v ps s).field Dev.dgst rfl
@[simp] theorem Dev.offer_cryp (d : Dev) (c v : Nat) (ps : List Word) (s : Option Stamp) : (d.offer c v ps s).cryp = d.cryp := (d.offer_recordsOnly c v ps s).field Dev.cryp rfl
@[simp] theorem Dev.offer_dram (d : Dev) (c v : Nat) (ps : List Word) (s : Option Stamp) : (d.offer c v ps s).dram = d.dram := (d.offer_recordsOnly c v ps s).field Dev.dram rfl
@[simp] theorem Dev.offer_ten (d : Dev) (c v : Nat) (ps : List Word) (s : Option Stamp) : (d.offer c v ps s).ten = d.ten := (d.offer_recordsOnly c v ps s).field Dev.ten rfl
@[simp] theorem Dev.offer_zone (d : Dev) (c v : Nat) (ps : List Word) (s : Option Stamp) : (d.offer c v ps s).zone = d.zone := (d.offer_recordsOnly c v ps s).field Dev.zone rfl
@[simp] theorem Dev.offer_sched (d : Dev) (c v : Nat) (ps : List Word) (s : Option Stamp) : (d.offer c v ps s).sched = d.sched := (d.offer_recordsOnly c v ps s).field Dev.sched rfl
@[simp] theorem Dev.offer_media (d : Dev) (c v : Nat) (ps : List Word) (s : Option Stamp) : (d.offer c v ps s).media = d.media := (d.offer_recordsOnly c v ps s).field Dev.media rfl
@[simp] theorem Dev.offer_prty (d : Dev) (c v : Nat) (ps : List Word) (s : Option Stamp) : (d.offer c v ps s).prty = d.prty := (d.offer_recordsOnly c v ps s).field Dev.prty rfl
@[simp] theorem Dev.offer_valt (d : Dev) (c v : Nat) (ps : List Word) (s : Option Stamp) : (d.offer c v ps s).valt = d.valt := (d.offer_recordsOnly c v ps s).field Dev.valt rfl
@[simp] theorem Dev.offer_peer (d : Dev) (c v : Nat) (ps : List Word) (s : Option Stamp) : (d.offer c v ps s).peer = d.peer := (d.offer_recordsOnly c v ps s).field Dev.peer rfl
@[simp] theorem Dev.offer_ports (d : Dev) (c v : Nat) (ps : List Word) (s : Option Stamp) : (d.offer c v ps s).ports = d.ports := (d.offer_recordsOnly c v ps s).field Dev.ports rfl
@[simp] theorem Dev.offer_mem (d : Dev) (c v : Nat) (ps : List Word) (s : Option Stamp) : (d.offer c v ps s).mem = d.mem := (d.offer_recordsOnly c v ps s).field Dev.mem rfl
@[simp] theorem Dev.offer_nor (d : Dev) (c v : Nat) (ps : List Word) (s : Option Stamp) : (d.offer c v ps s).nor = d.nor := (d.offer_recordsOnly c v ps s).field Dev.nor rfl
@[simp] theorem Dev.offer_otp (d : Dev) (c v : Nat) (ps : List Word) (s : Option Stamp) : (d.offer c v ps s).otp = d.otp := (d.offer_recordsOnly c v ps s).field Dev.otp rfl
@[simp] theorem Dev.offer_out (d : Dev) (c v : Nat) (ps : List Word) (s : Option Stamp) : (d.offer c v ps s).out = d.out := (d.offer_recordsOnly c v ps s).field Dev.out rfl
@[simp] theorem Dev.offer_free (d : Dev) (c v : Nat) (ps : List Word) (s : Option Stamp) : (d.offer c v ps s).free = d.free := (d.offer_recordsOnly c v ps s).field Dev.free rfl

/-! ## Headers and registers -/

@[simp] theorem Dev.setHdr_hdr (d : Dev) (p : Nat) (f : PageHdr → PageHdr) (q : Nat) : (d.setHdr p f).hdr q = if p = q then f (d.hdr p) else d.hdr q := by
  unfold Dev.setHdr Dev.hdr; simp
@[simp] theorem Dev.setHdr_cellI (d : Dev) (p : Nat) (f : PageHdr → PageHdr) (q o i : Nat) : (d.setHdr p f).cellI q o i = d.cellI q o i := rfl
@[simp] theorem Dev.setCellI_hdr (d : Dev) (p o i : Nat) (v : Word) (q : Nat) : (d.setCellI p o i v).hdr q = d.hdr q := rfl
@[simp] theorem Dev.setCell_hdr (d : Dev) (p o : Nat) (v : Word) (q : Nat) : (d.setCell p o v).hdr q = d.hdr q := rfl
@[simp] theorem Dev.count_hdr (d : Dev) (p o n q : Nat) : (d.count p o n).hdr q = d.hdr q := rfl

/-- A value put at a key is read there. -/
@[simp] theorem Dev.setCellI_self (d : Dev) (p o i : Nat) (v : Word) : (d.setCellI p o i v).cellI p o i = v := by
  unfold Dev.setCellI Dev.cellI; simp
@[simp] theorem Dev.setCell_self (d : Dev) (p o : Nat) (v : Word) : (d.setCell p o v).cell p o = v := Dev.setCellI_self d p o 0 v

/-- Cells of different keys do not disturb each other. -/
theorem Dev.setCellI_ne (d : Dev) {p o i q r j : Nat} (v : Word) (h : cellKey p o i ≠ cellKey q r j) : (d.setCellI p o i v).cellI q r j = d.cellI q r j := by
  unfold Dev.setCellI Dev.cellI
  simp only [SMap.get_eq_find]
  unfold SMap.put
  split
  · rw [SMap.find_del, if_neg h]
  · rw [SMap.find_ins_of_none _ _ _ _ (by simp [SMap.find_del]), SMap.find_del, if_neg h, if_neg h]

theorem cellKey_ne {p o q r : Nat} (ho : o < 65536) (hr : r < 65536) (i j : Nat) (h : p % 1024 ≠ q % 1024 ∨ o ≠ r) : cellKey p o i ≠ cellKey q r j := by
  unfold cellKey; omega

@[simp] theorem Dev.aenFn_hdr (d : Dev) (p n : Nat) (a : Aen) (q : Nat) : (d.aenFn p n a).hdr q = d.hdr q := by
  unfold Dev.aenFn
  simp only []
  repeat' split
  all_goals rfl
@[simp] theorem Dev.aenFn_regs (d : Dev) (p n : Nat) (a : Aen) : (d.aenFn p n a).regs = d.regs := by
  unfold Dev.aenFn
  simp only []
  repeat' split
  all_goals rfl

/-- A fold of operations that keep something, keeps it. -/
theorem Dev.each_keeps {α β : Type} (d : Dev) (l : List α) (f : Dev → α → Dev) (g : Dev → β) (h : ∀ x a, g (f x a) = g x) : g (d.each l f) = g d := by
  unfold Dev.each
  induction l generalizing d with
  | nil => rfl
  | cons a l ih => rw [List.foldl_cons, ih, h]

@[simp] theorem Dev.aen_regs (d : Dev) (a : Aen) : (d.aen a).regs = d.regs := d.each_keeps _ _ Dev.regs (fun x pf => x.aenFn_regs pf.1 pf.2 a)

@[simp] theorem Dev.alerted_regs (d : Dev) (sev : Nat) : (d.alerted sev).regs = d.regs := by
  unfold Dev.alerted
  dsimp only
  split <;> split <;> simp

theorem Dev.hdr_of_regs {d e : Dev} (h : d.regs.hdr = e.regs.hdr) (q : Nat) : d.hdr q = e.hdr q := by unfold Dev.hdr; rw [h]

@[simp] theorem Dev.countLost_hdrs (d : Dev) (s : Option Nat) : (d.countLost s).regs.hdr = d.regs.hdr := by cases s <;> rfl

@[simp] theorem Dev.offer_hdr (d : Dev) (c v : Nat) (ps : List Word) (s : Option Stamp) (q : Nat) : (d.offer c v ps s).hdr q = d.hdr q := by
  apply Dev.hdr_of_regs
  unfold Dev.offer
  dsimp only
  split
  · rfl
  · unfold Dev.newRec
    dsimp only
    generalize addRec _ _ _ = a
    split
    · rw [Dev.alerted_regs]
      exact Dev.countLost_hdrs _ _
    · exact Dev.countLost_hdrs _ _

@[simp] theorem PageHdr.flagged_evtStat (h : PageHdr) (n : Nat) : (h.flagged n).evtStat = setBit h.evtStat n := rfl
@[simp] theorem PageHdr.flagged_evtCount (h : PageHdr) (n : Nat) : (h.flagged n).evtCount = h.evtCount + 1 := rfl
@[simp] theorem PageHdr.flagged_evtEn (h : PageHdr) (n : Nat) : (h.flagged n).evtEn = h.evtEn := rfl
@[simp] theorem PageHdr.flagged_pwr (h : PageHdr) (n : Nat) : (h.flagged n).pwr = h.pwr := rfl

/-- The flag that an event sets, and its count (R43, R45): the recording sets no other flag. -/
@[simp] theorem Dev.raise_hdr (d : Dev) (p n : Nat) (ps : List Nat) (q : Nat) :
    (d.raise p n ps).hdr q = if p = q then (d.hdr p).flagged (evtFlag p n) else d.hdr q := by
  unfold Dev.raise
  dsimp only
  split
  · exact Dev.setHdr_hdr _ _ _ _
  · split
    · rw [Dev.offer_hdr]; exact Dev.setHdr_hdr _ _ _ _
    · exact Dev.setHdr_hdr _ _ _ _

/-- Recording counts in EVNT's own registers; every other register stays. -/
theorem Dev.offer_cellI (d : Dev) (c v : Nat) (ps : List Word) (s : Option Stamp) (q o i : Nat) (h : q % 1024 ≠ 5) (ho : o < 65536) :
    (d.offer c v ps s).cellI q o i = d.cellI q o i := by
  have hc : ∀ (e : Dev) (r n : Nat), r < 65536 → (e.count pEVNT r n).cellI q o i = e.cellI q o i := by
    intro e r n hr
    exact Dev.setCellI_ne _ _ (cellKey_ne hr ho _ _ (Or.inl (by show 5 % 1024 ≠ q % 1024; omega)))
  have hl : ∀ (e : Dev) (x : Option Nat), (e.countLost x).cellI q o i = e.cellI q o i := by
    intro e x; cases x with
    | none => rfl
    | some y => exact hc e _ 1 (by omega)
  unfold Dev.offer
  dsimp only
  split
  · exact (hc _ _ _ (by omega)).trans (hc _ _ _ (by omega))
  · unfold Dev.newRec
    dsimp only
    generalize addRec _ _ _ = a
    split
    · unfold Dev.cellI
      rw [Dev.alerted_regs]
      exact ((hc _ _ _ (by omega)).trans (hl _ _)).trans (hc _ _ _ (by omega))
    · exact ((hc _ _ _ (by omega)).trans (hl _ _)).trans (hc _ _ _ (by omega))

theorem Dev.raise_cellI (d : Dev) (p n : Nat) (ps : List Nat) (q o i : Nat) (h : q % 1024 ≠ 5) (ho : o < 65536) :
    (d.raise p n ps).cellI q o i = d.cellI q o i := by
  unfold Dev.raise
  dsimp only
  split
  · rfl
  · split
    · rw [Dev.offer_cellI _ _ _ _ _ _ _ _ h ho]; rfl
    · rfl

theorem Dev.offer_snap (d : Dev) (c v : Nat) (ps : List Word) (s : Option Stamp) : (d.offer c v ps s).regs.snap = d.regs.snap := by
  have hl : ∀ (e : Dev) (x : Option Nat), (e.countLost x).regs.snap = e.regs.snap := by intro e x; cases x <;> rfl
  unfold Dev.offer
  dsimp only
  split
  · rfl
  · unfold Dev.newRec
    dsimp only
    generalize addRec _ _ _ = a
    split
    · rw [Dev.alerted_regs]; exact hl _ _
    · exact hl _ _
theorem Dev.raise_snap (d : Dev) (p n : Nat) (ps : List Nat) : (d.raise p n ps).regs.snap = d.regs.snap := by
  unfold Dev.raise
  dsimp only
  split
  · rfl
  · split
    · rw [Dev.offer_snap]; rfl
    · rfl

end Sys2Proof.Machine
end

