-- ==== Sys2Proof/Laws/Memory.lean ====
section
/-! SUPPORT. The laws of SRAM and DRAM, of the NOR die and of the one-time row: what is read after a store, and that each operation keeps the
canonical form. -/

namespace Sys2Proof.Machine

/-- Bytes stored keep the canonical form. -/
theorem Memory.wf_store {m : Memory} (a : Nat) (bs : List Byte) (w : m.wf = true) : (m.store a bs).wf = true := by
  induction bs generalizing m a with
  | nil => exact w
  | cons b bs ih => exact ih (a + 1) (SMap.wf_put memDefault a b w)

/-- A byte outside those stored reads as before. -/
theorem Memory.get_store_outside (m : Memory) (a : Nat) (bs : List Byte) (i : Nat) (h : i < a ∨ a + bs.length ≤ i) :
    (m.store a bs).get memDefault i = m.get memDefault i := by
  induction bs generalizing m a with
  | nil => rfl
  | cons b bs ih =>
    simp only [List.length_cons] at h
    rw [Memory.store, ih (m.put memDefault a b) (a + 1) (by omega), SMap.get_put, if_neg (by omega)]

/-- A byte stored reads as stored. -/
theorem Memory.get_store_inside (m : Memory) (a : Nat) (bs : List Byte) (i : Nat) (h : i < bs.length) :
    (m.store a bs).get memDefault (a + i) = bs[i] := by
  induction bs generalizing m a i with
  | nil => cases h
  | cons b bs ih =>
    rw [Memory.store]
    cases i with
    | zero => rw [Memory.get_store_outside _ _ _ _ (by omega)]; simp
    | succ i =>
      have := ih (m.put memDefault a b) (a + 1) i (by simpa using h)
      rw [show a + (i + 1) = a + 1 + i by omega]; simpa using this

/-- Memory right after reset is in canonical form. -/
theorem Dev.reset_mem_wf : Memory.wf Dev.reset.mem = true := rfl

theorem Dev.store_mem_wf {d : Dev} (a : Nat) (bs : List Byte) (w : Memory.wf d.mem = true) : Memory.wf (d.store a bs).mem = true :=
  Memory.wf_store a bs w

theorem Dev.byte_store_outside (d : Dev) (a : Nat) (bs : List Byte) (i : Nat) (h : i < a ∨ a + bs.length ≤ i) : (d.store a bs).byte i = d.byte i :=
  Memory.get_store_outside d.mem a bs i h

/-- What was stored is what is read. -/
theorem Dev.bytes_store (d : Dev) (a : Nat) (bs : List Byte) : (d.store a bs).bytes a bs.length = bs := by
  have h : ∀ (e : Dev) (n i : Nat) (l : List Byte), l.length = n → (∀ j (hj : j < l.length), e.byte (i + j) = l[j]) → e.bytes i n = l := by
    intro e n
    induction n with
    | zero => intro i l hl _; rw [List.length_eq_zero_iff] at hl; simp [hl, Dev.bytes]
    | succ n ih =>
      intro i l hl hb
      cases l with
      | nil => simp at hl
      | cons x l =>
        rw [Dev.bytes]
        have h0 := hb 0 (by simp)
        simp at h0
        rw [h0, ih (i + 1) l (by simpa using hl) (fun j hj => by
          have := hb (j + 1) (by simpa using hj)
          rw [show i + (j + 1) = i + 1 + j by omega] at this; simpa using this)]
  exact h _ _ _ _ rfl (fun j hj => Memory.get_store_inside d.mem a bs j hj)

/-! ## The NOR die and the one-time row -/

theorem Dev.norProg_wf {d : Dev} (a : Nat) (v : Word) (w : d.nor.wf norDefault = true) : (d.norProg a v).nor.wf norDefault = true :=
  SMap.wf_put norDefault _ _ w

theorem Dev.norErase_wf {d : Dev} (a : Nat) (w : d.nor.wf norDefault = true) : (d.norErase a).nor.wf norDefault = true :=
  SMap.wf_keep norDefault (fun i _ => decide (i < a / 65536 * 16384) || decide (a / 65536 * 16384 + 16384 ≤ i)) w

theorem Dev.otpSet_wf {d : Dev} (i : Nat) (v : Word) (w : d.otp.wf otpDefault = true) : (d.otpSet i v).otp.wf otpDefault = true :=
  SMap.wf_put otpDefault _ _ w

/-- A word of the row after bits are set. -/
theorem Dev.otpSet_get (d : Dev) (i : Nat) (v : Word) (j : Nat) :
    (d.otpSet i v).otp.get otpDefault j = if i = j then d.otp.get otpDefault i ||| v else d.otp.get otpDefault j := by
  unfold Dev.otpSet; simp

end Sys2Proof.Machine
end

