-- ==== Sys2Proof/Laws/Run.lean ====
section
/-! SUPPORT. How a command runs: the laws of `State.run`, of `Completes`, and of register accesses that are served. -/

namespace Sys2Proof.Machine

@[simp] theorem State.clean_regs (s : State) : s.clean.regs = s.dev.regs := rfl
@[simp] theorem State.clean_sysc (s : State) : s.clean.sysc = s.dev.sysc := rfl
@[simp] theorem State.clean_evnt (s : State) : s.clean.evnt = s.dev.evnt := rfl
@[simp] theorem State.clean_ledg (s : State) : s.clean.ledg = s.dev.ledg := rfl
@[simp] theorem State.clean_powr (s : State) : s.clean.powr = s.dev.powr := rfl
@[simp] theorem State.clean_clkr (s : State) : s.clean.clkr = s.dev.clkr := rfl
@[simp] theorem State.clean_side (s : State) : s.clean.side = s.dev.side := rfl
@[simp] theorem State.clean_thrm (s : State) : s.clean.thrm = s.dev.thrm := rfl
@[simp] theorem State.clean_fsto (s : State) : s.clean.fsto = s.dev.fsto := rfl
@[simp] theorem State.clean_dgst (s : State) : s.clean.dgst = s.dev.dgst := rfl
@[simp] theorem State.clean_cryp (s : State) : s.clean.cryp = s.dev.cryp := rfl
@[simp] theorem State.clean_dram (s : State) : s.clean.dram = s.dev.dram := rfl
@[simp] theorem State.clean_host (s : State) : s.clean.host = s.dev.host := rfl
@[simp] theorem State.clean_ten (s : State) : s.clean.ten = s.dev.ten := rfl
@[simp] theorem State.clean_zone (s : State) : s.clean.zone = s.dev.zone := rfl
@[simp] theorem State.clean_sched (s : State) : s.clean.sched = s.dev.sched := rfl
@[simp] theorem State.clean_media (s : State) : s.clean.media = s.dev.media := rfl
@[simp] theorem State.clean_prty (s : State) : s.clean.prty = s.dev.prty := rfl
@[simp] theorem State.clean_valt (s : State) : s.clean.valt = s.dev.valt := rfl
@[simp] theorem State.clean_peer (s : State) : s.clean.peer = s.dev.peer := rfl
@[simp] theorem State.clean_ports (s : State) : s.clean.ports = s.dev.ports := rfl
@[simp] theorem State.clean_mem (s : State) : s.clean.mem = s.dev.mem := rfl
@[simp] theorem State.clean_nor (s : State) : s.clean.nor = s.dev.nor := rfl
@[simp] theorem State.clean_otp (s : State) : s.clean.otp = s.dev.otp := rfl
@[simp] theorem State.clean_out (s : State) : s.clean.out = [] := rfl
@[simp] theorem State.clean_free (s : State) : s.clean.free = s.dev.free := rfl

@[simp] theorem State.clean_hdr_ (s : State) (p : Nat) : s.clean.hdr p = s.dev.hdr p := rfl
@[simp] theorem State.clean_cellI_ (s : State) (p o i : Nat) : s.clean.cellI p o i = s.dev.cellI p o i := rfl
@[simp] theorem State.clean_cell_ (s : State) (p o : Nat) : s.clean.cell p o = s.dev.cell p o := rfl
@[simp] theorem State.clean_rf_ (s : State) (p o l n : Nat) : s.clean.rf p o l n = s.dev.rf p o l n := rfl
@[simp] theorem State.clean_now_ (s : State) : s.clean.now = s.dev.now := rfl
@[simp] theorem State.clean_byte_ (s : State) (a : Nat) : s.clean.byte a = s.dev.byte a := rfl
@[simp] theorem State.clean_port_ (s : State) (n : Nat) : s.clean.port n = s.dev.port n := rfl
@[simp] theorem State.clean_lane_ (s : State) (n : Nat) : s.clean.lane n = s.dev.lane n := rfl
@[simp] theorem State.clean_hport_ (s : State) (n : Nat) : s.clean.hport n = s.dev.hport n := rfl
@[simp] theorem State.clean_fn_ (s : State) (p f : Nat) : s.clean.fn p f = s.dev.fn p f := rfl
@[simp] theorem State.clean_ctx_ (s : State) (c : Nat) : s.clean.ctx c = s.dev.ctx c := rfl
@[simp] theorem State.clean_slice_ (s : State) (n : Nat) : s.clean.slice n = s.dev.slice n := rfl
@[simp] theorem State.clean_part_ (s : State) (n : Nat) : s.clean.part n = s.dev.part n := rfl
@[simp] theorem State.clean_zn_ (s : State) (z : Nat) : s.clean.zn z = s.dev.zn z := rfl
@[simp] theorem State.clean_area_ (s : State) (a : Nat) : s.clean.area a = s.dev.area a := rfl
@[simp] theorem State.clean_ns_ (s : State) (n : Nat) : s.clean.ns n = s.dev.ns n := rfl
@[simp] theorem State.clean_die_ (s : State) (k : Nat) : s.clean.die k = s.dev.die k := rfl
@[simp] theorem State.clean_blk_ (s : State) (k : Nat) : s.clean.blk k = s.dev.blk k := rfl
@[simp] theorem State.clean_op_ (s : State) (k : Nat) : s.clean.op k = s.dev.op k := rfl
@[simp] theorem State.clean_pool_ (s : State) (p : Nat) : s.clean.pool p = s.dev.pool p := rfl
@[simp] theorem State.clean_chan_ (s : State) (c : Nat) : s.clean.chan c = s.dev.chan c := rfl
@[simp] theorem State.clean_cfgMode_ (s : State) : s.clean.cfgMode = s.dev.cfgMode := rfl
@[simp] theorem State.clean_partitioned_ (s : State) : s.clean.partitioned = s.dev.partitioned := rfl
@[simp] theorem State.clean_paired_ (s : State) : s.clean.paired = s.dev.paired := rfl
@[simp] theorem State.clean_active_ (s : State) : s.clean.active = s.dev.active := rfl
@[simp] theorem State.clean_portMode_ (s : State) : s.clean.portMode = s.dev.portMode := rfl
@[simp] theorem State.clean_stamp_ (s : State) : s.clean.stamp = s.dev.stamp := rfl
@[simp] theorem State.clean_evntUp_ (s : State) : s.clean.evntUp = s.dev.evntUp := rfl
@[simp] theorem State.clean_norWord_ (s : State) (a : Nat) : s.clean.norWord a = s.dev.norWord a := rfl
@[simp] theorem State.clean_mayServe_ (s : State) : s.clean.mayServe = s.dev.mayServe := rfl
@[simp] theorem State.clean_bytes_ (s : State) (a n : Nat) : s.clean.bytes a n = s.dev.bytes a n := by
  induction n generalizing a with
  | zero => rfl
  | succ n ih => simp only [Dev.bytes, ih]; rfl

/-- A command that names only what the part has completes with what its meaning makes of the part. -/
theorem completes_of {c : Instr} {s : State} {P : Dev → Prop} (f : Dev → Dev)
    (hrun : exec c s = s.run (Instr.wf c) f) (hwf : Instr.wf c = true) (h : P (f s.clean)) : Completes c s P := by
  refine ⟨{ s with dev := f s.clean }, ?_, rfl, h⟩
  rw [hrun, hwf]; rfl

/-- Every command answers a next state, and leaves the queue alone. -/
theorem run_next (s : State) (ok : Bool) (f : Dev → Dev) :
    s.run ok f = .next { s with dev := if ok then f s.clean else s.clean } := rfl

/-- A write that is taken does what its register does. -/
theorem Dev.onWrite_of {d : Dev} {page off master : Nat} {k : Dev → Dev} (h : d.takesWrite page off) :
    d.onWrite page off master k = k d := by
  obtain ⟨h1, h2⟩ := h
  unfold Dev.onWrite
  rw [h1]
  simp only [ite_eq_right_iff, and_imp, Bool.not_eq_true]
  intro a b; rw [h2 a] at b; cases b

/-- A read that is served does what its register does. -/
theorem Dev.onRead_of {d : Dev} {page off master : Nat} {k : Dev → Dev} (h : d.takesRead page) :
    d.onRead page off master k = k d := by
  unfold Dev.onRead; rw [show d.pageError page = none from h]

theorem State.clean_takesWrite {s : State} {page off : Nat} (h : s.dev.takesWrite page off) : s.clean.takesWrite page off := h
theorem State.clean_takesRead {s : State} {page : Nat} (h : s.dev.takesRead page) : s.clean.takesRead page := h

end Sys2Proof.Machine
end

