-- ==== Sys2Proof/Laws/State.lean ====
section
/-! SUPPORT. What each part of the state reads as after a part of it is changed: a change shows where it is made, and nowhere else. -/

namespace Sys2Proof.Machine

@[simp] theorem Dev.port_setPort (d : Dev) (n : Nat) (f : Port → Port) (k : Nat) :
    (d.setPort n f).port k = if n = k then f (d.port n) else d.port k := by unfold Dev.setPort Dev.port; simp
@[simp] theorem Dev.lane_setLane (d : Dev) (n : Nat) (f : Lane → Lane) (k : Nat) :
    (d.setLane n f).lane k = if n = k then f (d.lane n) else d.lane k := by unfold Dev.setLane Dev.lane; simp
@[simp] theorem Dev.hport_setHport (d : Dev) (n : Nat) (f : HPort → HPort) (k : Nat) :
    (d.setHport n f).hport k = if n = k then f (d.hport n) else d.hport k := by unfold Dev.setHport Dev.hport; simp
@[simp] theorem Dev.fn_setFn (d : Dev) (p n : Nat) (f : Fn → Fn) (q k : Nat) :
    (d.setFn p n f).fn q k = if p = q ∧ n = k then f (d.fn p n) else d.fn q k := by
  unfold Dev.setFn Dev.fn; simp only [Dev.hport_setHport]
  by_cases h : p = q
  · subst h; simp
  · simp [h]
@[simp] theorem Dev.ctx_modCtx (d : Dev) (c : Nat) (f : Ctx → Ctx) (k : Nat) :
    (d.modCtx c f).ctx k = if c = k then (d.ctx k).map f else d.ctx k := by unfold Dev.modCtx Dev.ctx; simp
@[simp] theorem Dev.slice_setSlice (d : Dev) (n : Nat) (f : Slice → Slice) (k : Nat) :
    (d.setSlice n f).slice k = if n = k then f (d.slice n) else d.slice k := by unfold Dev.setSlice Dev.slice; simp
@[simp] theorem Dev.part_setPart (d : Dev) (n : Nat) (f : Partition → Partition) (k : Nat) :
    (d.setPart n f).part k = if n = k then f (d.part n) else d.part k := by unfold Dev.setPart Dev.part; simp
@[simp] theorem Dev.zn_setZn (d : Dev) (n : Nat) (f : Zone → Zone) (k : Nat) :
    (d.setZn n f).zn k = if n = k then f (d.zn n) else d.zn k := by unfold Dev.setZn Dev.zn; simp
@[simp] theorem Dev.area_setArea (d : Dev) (n : Nat) (f : Area → Area) (k : Nat) :
    (d.setArea n f).area k = if n = k then f (d.area n) else d.area k := by unfold Dev.setArea Dev.area; simp
@[simp] theorem Dev.ns_modNs (d : Dev) (n : Nat) (f : Ns → Ns) (k : Nat) :
    (d.modNs n f).ns k = if n = k then (d.ns k).map f else d.ns k := by unfold Dev.modNs Dev.ns; simp
@[simp] theorem Dev.die_setDie (d : Dev) (n : Nat) (f : Die → Die) (k : Nat) :
    (d.setDie n f).die k = if n = k then f (d.die n) else d.die k := by unfold Dev.setDie Dev.die; simp
@[simp] theorem Dev.die_setBlk (d : Dev) (n : Nat) (f : Block → Block) (k : Nat) : (d.setBlk n f).die k = d.die k := rfl
@[simp] theorem Dev.blk_setBlk (d : Dev) (n : Nat) (f : Block → Block) (k : Nat) :
    (d.setBlk n f).blk k = if n = k then f (d.blk n) else d.blk k := by
  unfold Dev.blk; simp only [Dev.die_setBlk]
  unfold Dev.setBlk; simp only [SMap.find_set]
  split
  · rename_i h; subst h; rfl
  · rfl
@[simp] theorem Dev.op_modOp (d : Dev) (n : Nat) (f : OpenOp → OpenOp) (k : Nat) :
    (d.modOp n f).op k = if n = k then (d.op k).map f else d.op k := by unfold Dev.modOp Dev.op; simp
@[simp] theorem Dev.pool_setPool (d : Dev) (n : Nat) (f : Pool → Pool) (k : Nat) :
    (d.setPool n f).pool k = if n = k then f (d.pool n) else d.pool k := by unfold Dev.setPool Dev.pool; simp
@[simp] theorem Dev.chan_setChan (d : Dev) (n : Nat) (f : Chan → Chan) (k : Nat) :
    (d.setChan n f).chan k = if n = k then f (d.chan n) else d.chan k := by unfold Dev.setChan Dev.chan; simp
@[simp] theorem Dev.kslot_setKslot (d : Dev) (n : Nat) (f : KeySlot → KeySlot) (k : Nat) :
    (d.setKslot n f).kslot k = if n = k then f (d.kslot n) else d.kslot k := by unfold Dev.setKslot Dev.kslot; simp

@[simp] theorem Dev.sub_modSub (d : Dev) (n : Nat) (f : Sub → Sub) (k : Nat) :
    (d.modSub n f).sched.subs.find k = if n = k then (d.sched.subs.find k).map f else d.sched.subs.find k := by unfold Dev.modSub; simp
@[simp] theorem Dev.recon_modRecon (d : Dev) (n : Nat) (f : Recon → Recon) (k : Nat) :
    (d.modRecon n f).sched.recons.find k = if n = k then (d.sched.recons.find k).map f else d.sched.recons.find k := by unfold Dev.modRecon; simp
@[simp] theorem Dev.stream_modStream (d : Dev) (n : Nat) (f : Stream → Stream) (k : Nat) :
    (d.modStream n f).sched.streams.find k = if n = k then (d.sched.streams.find k).map f else d.sched.streams.find k := by
  unfold Dev.modStream; simp
@[simp] theorem Dev.port_setLnk (d : Dev) (n : Nat) (f : Link → Link) (k : Nat) :
    (d.setLnk (.port n) f).port k = if n = k then { d.port n with link := f (d.port n).link } else d.port k := Dev.port_setPort ..
@[simp] theorem Dev.lane_setLnk (d : Dev) (n : Nat) (f : Link → Link) (k : Nat) :
    (d.setLnk (.lane n) f).lane k = if n = k then { d.lane n with link := f (d.lane n).link } else d.lane k := Dev.lane_setLane ..

/-! ## Where a change is kept -/

@[simp] theorem Dev.setPort_ports (d : Dev) (n : Nat) (f : Port → Port) : (d.setPort n f).ports = d.ports.upd Port.reset n f := rfl
@[simp] theorem Dev.setLane_lanes (d : Dev) (n : Nat) (f : Lane → Lane) : (d.setLane n f).peer = { d.peer with lanes := d.peer.lanes.upd Lane.reset n f } := rfl
@[simp] theorem Dev.setHport_host (d : Dev) (n : Nat) (f : HPort → HPort) :
    (d.setHport n f).host = { d.host with ports := d.host.ports.upd HPort.reset n f } := rfl
@[simp] theorem Dev.modCtx_host (d : Dev) (c : Nat) (f : Ctx → Ctx) : (d.modCtx c f).host = { d.host with ctxs := d.host.ctxs.modify c f } := rfl
@[simp] theorem Dev.setSlice_ten (d : Dev) (n : Nat) (f : Slice → Slice) :
    (d.setSlice n f).ten = { d.ten with slices := d.ten.slices.upd Slice.reset n f } := rfl
@[simp] theorem Dev.setPart_ten (d : Dev) (n : Nat) (f : Partition → Partition) :
    (d.setPart n f).ten = { d.ten with parts := d.ten.parts.upd Partition.reset n f } := rfl
@[simp] theorem Dev.setZn_zone (d : Dev) (n : Nat) (f : Zone → Zone) :
    (d.setZn n f).zone = { d.zone with zones := d.zone.zones.upd Zone.fresh n f } := rfl
@[simp] theorem Dev.setArea_zone (d : Dev) (n : Nat) (f : Area → Area) :
    (d.setArea n f).zone = { d.zone with areas := d.zone.areas.upd Area.reset n f } := rfl
@[simp] theorem Dev.modNs_zone (d : Dev) (n : Nat) (f : Ns → Ns) : (d.modNs n f).zone = { d.zone with nss := d.zone.nss.modify n f } := rfl
@[simp] theorem Dev.setDie_media (d : Dev) (n : Nat) (f : Die → Die) :
    (d.setDie n f).media = { d.media with dies := d.media.dies.upd Die.reset n f } := rfl
@[simp] theorem Dev.setBlk_media (d : Dev) (n : Nat) (f : Block → Block) :
    (d.setBlk n f).media = { d.media with blocks := d.media.blocks.set n (f (d.blk n)) } := rfl
@[simp] theorem Dev.modOp_media (d : Dev) (n : Nat) (f : OpenOp → OpenOp) : (d.modOp n f).media = { d.media with ops := d.media.ops.modify n f } := rfl
@[simp] theorem Dev.setPool_sched (d : Dev) (n : Nat) (f : Pool → Pool) :
    (d.setPool n f).sched = { d.sched with pools := d.sched.pools.upd Pool.reset n f } := rfl
@[simp] theorem Dev.setChan_dram (d : Dev) (n : Nat) (f : Chan → Chan) : (d.setChan n f).dram = { d.dram with ch := d.dram.ch.upd Chan.reset n f } := rfl
@[simp] theorem Dev.setKslot_cryp (d : Dev) (n : Nat) (f : KeySlot → KeySlot) :
    (d.setKslot n f).cryp = { d.cryp with slots := d.cryp.slots.upd KeySlot.reset n f } := rfl
@[simp] theorem Dev.setHdr_cells (d : Dev) (p : Nat) (f : PageHdr → PageHdr) : (d.setHdr p f).regs = { d.regs with hdr := d.regs.hdr.upd PageHdr.reset p f } := rfl
@[simp] theorem Dev.modSub_sched (d : Dev) (n : Nat) (f : Sub → Sub) : (d.modSub n f).sched = { d.sched with subs := d.sched.subs.modify n f } := rfl
@[simp] theorem Dev.modRecon_sched (d : Dev) (n : Nat) (f : Recon → Recon) :
    (d.modRecon n f).sched = { d.sched with recons := d.sched.recons.modify n f } := rfl
@[simp] theorem Dev.modStream_sched (d : Dev) (n : Nat) (f : Stream → Stream) :
    (d.modStream n f).sched = { d.sched with streams := d.sched.streams.modify n f } := rfl
@[simp] theorem Dev.modeBusy_sysc (d : Dev) : d.modeBusy.sysc = { d.sysc with busy := true } := rfl
@[simp] theorem Dev.takeFree_free (d : Dev) : d.takeFree.free = d.free + 1 := rfl

end Sys2Proof.Machine
end

