-- ==== Sys2Proof/Machine/Pins.lean ====
section
/-! DEFINITION. The balls of the package: what each carries, the wires and strobes of the DRAM channels, and what state a pin takes (R536 to
R549). -/

namespace Sys2Proof.Machine

/-- What a ball carries (R537, R547). -/
inductive Ball where
  | none
  | rail (name : String)
  /-- A named signal, with its number where it has one. -/
  | sig (name : String) (n : Nat)
  /-- A ball of a DRAM channel, 0 for DRA to 3 for DRD. -/
  | dram (ch : Nat) (name : String) (n : Nat)
  deriving DecidableEq, Repr

/-! ## The DRAM strobe groups (R538) -/

/-- The wire of data bit `b` of strobe group `g`. -/
def strobeWire (g b : Nat) : String × Nat :=
  let s := g / 10
  let q := g % 10
  if q < 8 then ("DQ", 32 * s + 4 * q + b) else ("CB", 8 * s + 4 * (q - 8) + b)

/-- The group whose strobe pair times group `g`: its own with x4 parts, the even one of its byte with x8 parts. -/
def DramRecord.strobeOf (r : DramRecord) (g : Nat) : Nat := if r.width = 8 then g / 2 * 2 else g

/-- The controller drives and terminates the strobe balls of a group; those of the odd groups stay high-impedance with x8 parts. -/
def DramRecord.strobeUsed (r : DramRecord) (g : Nat) : Bool := r.strobeOf g == g

/-- The device of a rank that group `g` of a subchannel's ten belongs to: one a group with x4 parts, one a byte with x8 parts. -/
def DramRecord.deviceOfGroup (r : DramRecord) (g : Nat) : Nat := if r.width = 8 then g % 10 / 2 else g % 10

/-- The byte of its subchannel that a group serves: training seed *j* of R444 belongs to byte *j*. -/
def byteOfGroup (g : Nat) : Nat := g % 10 / 2

/-! ## The ball map (R536, R540 to R546): rows by their index, 1 to 42 -/

/-- The letters of the rows, in order. -/
def rowNames : List String :=
  ["A", "B", "C", "D", "E", "F", "G", "H", "J", "K", "L", "M", "N", "P", "T", "U", "V", "W", "Y", "AA", "AB", "AC", "AD", "AE", "AF", "AG",
   "AH", "AJ", "AK", "AL", "AM", "AN", "AP", "AT", "AU", "AV", "AW", "AY", "BA", "BB", "BC", "BD"]

/-- A DRAM block (R544). -/
def dramBall (ch depth g : Nat) : Ball :=
  let bit (b : Nat) : Ball := let w := strobeWire g b; .dram ch w.1 w.2
  match depth with
  | 0 => bit 0
  | 1 => bit 1
  | 2 => .dram ch "DQS_T" g
  | 3 => .dram ch "DQS_C" g
  | 4 => bit 2
  | 5 => bit 3
  | 6 => .rail "VSS"
  | _ => if g < 14 then .dram ch "CA" g else if g = 14 then .dram ch "CK_T" 0 else if g = 15 then .dram ch "CK_C" 0 else .dram ch "CS_N" (g - 16)

/-- The corners, from the top row downward (R545). -/
def cornerBall (south : Bool) (k col : Nat) : Ball :=
  let nw1 : List Ball := [.sig "DRAM_RESET_N" 0, .sig "DRAM_ALERT_N" 0, .sig "POR_N" 0, .sig "PFAIL_N" 0, .sig "HOLDUP_OK" 0, .sig "SIDE_SCL" 0,
    .sig "SIDE_SDA" 0, .sig "SIDE_ALERT_N" 0]
  let nw2 : List Ball := [.sig "TCK" 0, .sig "TMS" 0, .sig "TDI" 0, .sig "TDO" 0, .sig "TRST_N" 0, .rail "VSS", .sig "REF25" 0, .sig "RSVD" 0]
  let sw1 : List Ball := [.sig "CAL_DDR" 0, .sig "CAL_SER" 0, .sig "FAN_PWM" 0, .sig "FAN_TACH" 0, .sig "FAN_PWM" 1, .sig "FAN_TACH" 1,
    .sig "FAN_PWM" 2, .sig "FAN_TACH" 2]
  let sw2 : List Ball := [.sig "FAN_PWM" 3, .sig "FAN_TACH" 3, .sig "STRAP_PORT_MODE" 0, .sig "STRAP_BOOT_SRC" 0, .sig "STRAP_BOOT_SRC" 1,
    .sig "STRAP_RECOVERY" 0, .sig "STRAP_SMB_OFS" 0, .sig "STRAP_SMB_OFS" 1]
  ((if south then (if col = 1 then sw1 else sw2) else (if col = 1 then nw1 else nw2))[k]?).getD .none

/-- The lane whose cell a slot of an edge's tier holds (R542): the prefixes of its transmit and receive balls, and its number. -/
def laneCell (east : Bool) (tier slot : Nat) : Option (String × String × Nat) :=
  let pcie (n : Nat) : Option (String × String × Nat) := some ("PCIE_TX", "PCIE_RX", n)
  let slk (n : Nat) : Option (String × String × Nat) := some ("SLK_TX", "SLK_RX", n)
  if east = false ∧ tier = 1 then pcie slot
  else if east = false then (if slot < 8 then slk slot else if 10 ≤ slot then pcie (slot + 3) else none)
  else if tier = 1 then (if slot < 8 then slk (slot + 8) else if slot < 12 then some ("PTX", "PRX", slot - 8) else none)
  else none

/-- A position of a lane cell (R541). -/
def laneBall (tx rx : String) (n depth half : Nat) : Ball :=
  let pol := if half = 0 then "_P" else "_N"
  match depth with
  | 0 => .sig (tx ++ pol) n
  | 2 => .sig (rx ++ pol) n
  | _ => .rail "VSS"

/-- The edge positions that hold no lane cell (R543). -/
def edgeFill (east : Bool) (tier row col : Nat) : Ball :=
  if east = false then
    let k := row - 25
    match col with
    | 5 => ([Ball.sig "PCIE_REFCLK_A_P" 0, .sig "PCIE_REFCLK_A_N" 0, .sig "PCIE_REFCLK_B_P" 0, .sig "PCIE_REFCLK_B_N" 0][k]?).getD .none
    | 6 => .rail "VSS"
    | 7 => ([Ball.sig "PERST_A_N" 0, .sig "PERST_B_N" 0, .sig "CLKREQ_A_N" 0, .sig "CLKREQ_B_N" 0][k]?).getD .none
    | _ => ([Ball.sig "WAKE_A_N" 0, .sig "WAKE_B_N" 0, .rail "VSS", .rail "VSS"][k]?).getD .none
  else if tier = 1 then (if col = 42 then .sig (if row = 33 then "LREF_P" else "LREF_N") 0 else .rail "VSS")
  else if row < 25 then
    (match col with
    | 38 => .sig "SLOT_PRSNT_N" (row - 9)
    | 37 => .sig "SLOT_PWREN" (row - 9)
    | 36 => .sig "SLOT_ATTN_N" (row - 9)
    | _ => .sig "SLOT_SDA" (row - 9))
  else if row = 25 ∧ col = 38 then .sig "SLOT_SCL" 0
  else .rail "VSS"

/-- An edge position (R541 to R543). -/
def edgeBall (row col : Nat) : Ball :=
  let east := decide (35 ≤ col)
  let outer := if east then 42 - col else col - 1
  let tier := outer / 4 + 1
  match laneCell east tier ((row - 9) / 2) with
  | some (tx, rx, n) => laneBall tx rx n (outer % 4) ((row - 9) % 2)
  | none => edgeFill east tier row col

/-- The inner field (R546); the 64 positions in its middle carry no ball (R536). -/
def innerBall (row col : Nat) : Ball :=
  let frame (l : List String) (k : Nat) : Ball := .rail (l.getD k "VSS")
  if row < 14 then frame ["VDDQ", "VSS", "VCORE", "VSS", "VSRAM"] (row - 9)
  else if 30 ≤ row then frame ["VDDQ", "VSS", "VCORE", "VSS", "VSRAM"] (34 - row)
  else if col < 14 then frame ["VPCIE", "VSS", "VSER", "VSS", "VANA"] (col - 9)
  else if 31 ≤ col then frame ["VSER", "VSS", "VSER", "VSS"] (34 - col)
  else if col = 30 then .rail (if row ≤ 21 then "VIO" else "VANA")
  else if 18 ≤ row ∧ row ≤ 25 ∧ 18 ≤ col ∧ col ≤ 25 then .none
  else if (row = 14 ∧ (col = 14 ∨ col = 28)) ∨ (row = 28 ∧ (col = 14 ∨ col = 28)) then .rail "VAON"
  else .rail (if (row + col) % 2 = 0 then "VCORE" else "VSS")

/-- What the ball at a row and a column carries (R540). -/
def ballAt (row col : Nat) : Ball :=
  if row = 0 ∨ 42 < row ∨ col = 0 ∨ 42 < col then .none
  else if row ≤ 8 then
    (if col ≤ 2 then cornerBall false (row - 1) col else if col ≤ 22 then dramBall 0 (row - 1) (col - 3) else dramBall 1 (row - 1) (col - 23))
  else if 35 ≤ row then
    (if col ≤ 2 then cornerBall true (row - 35) col else if col ≤ 22 then dramBall 2 (42 - row) (col - 3) else dramBall 3 (42 - row) (col - 23))
  else if col ≤ 8 ∨ 35 ≤ col then edgeBall row col
  else innerBall row col

/-! ## Pin states (R549) -/

/-- What the part is doing, as the table of pin states divides it. -/
inductive PinCond where
  | unpowered | porLow | warmReset | dormant
  deriving DecidableEq, Repr

/-- The state of a pin that the part's blocks do not drive. -/
inductive PinState where
  | highZ | idle | low | high | held | released | byLink | comparator | holdLowOrReleased
  deriving DecidableEq, Repr

/-- The groups of the table. -/
inductive PinGroup where
  | pcie | sledPeer | dram | dramReset | slotPwren | slotWire | fanPwm | smbus | smbusAlert | clkreqWake
  deriving DecidableEq, Repr

/-- The table of R549. -/
def PinGroup.state (g : PinGroup) (c : PinCond) : PinState :=
  match g, c with
  | .pcie, .unpowered => .highZ | .pcie, .porLow => .highZ | .pcie, .warmReset => .idle | .pcie, .dormant => .byLink
  | .sledPeer, .unpowered => .highZ | .sledPeer, .porLow => .highZ | .sledPeer, .warmReset => .idle | .sledPeer, .dormant => .idle
  | .dram, .dormant => .held | .dram, _ => .highZ
  | .dramReset, .warmReset => .low | .dramReset, .dormant => .high | .dramReset, _ => .highZ
  | .slotPwren, .warmReset => .held | .slotPwren, .dormant => .held | .slotPwren, _ => .highZ
  | .slotWire, .warmReset => .held | .slotWire, .dormant => .held | .slotWire, _ => .released
  | .fanPwm, .warmReset => .held | .fanPwm, .dormant => .holdLowOrReleased | .fanPwm, _ => .released
  | .smbus, .dormant => .comparator | .smbus, _ => .released
  | .smbusAlert, .dormant => .held | .smbusAlert, _ => .released
  | .clkreqWake, .dormant => .byLink | .clkreqWake, _ => .released

/-- The strobe balls of group `g` of a channel while the part runs: high-impedance where its parts do not use them (R538). -/
def Dev.strobeHighZ (d : Dev) (g : Nat) : Bool := !d.drec.strobeUsed g

end Sys2Proof.Machine
end

