-- ==== Sys2Proof/Tests/Slice0.lean ====
section
/-! SUPPORT. Tests of the model: for each check of WellFormed a term that it refuses, and for each command one step on a small state that meets
the conditions under which a statement says what it does, with the outcome the rule gives. -/

namespace Sys2Proof.Tests

open Sys2Proof.Machine

/-- A small state: the part after reset, changed by `f`, with no command waiting. -/
def stOf (f : Dev → Dev) : State := { dev := f Dev.reset, pending := [] }

/-- What the part is after a command. -/
def ran (c : Instr) (s : State) : Option Dev :=
  match exec c s with
  | .next t => if t.pending = s.pending then some t.dev else none
  | _ => none

/-- The command is well formed and leaves a part that `p` holds of. -/
def runs (c : Instr) (s : State) (p : Dev → Bool) : Bool := Instr.wf c && (match ran c s with | some d => p d | none => false)

/-! ## The fabric, the register pages and the epochs -/

set_option maxRecDepth 100000 in
theorem test_fabricAccessError : (stOf id).dev.unmapped (0x2000000000 % 2 ^ 40) = some 0 ∧
    runs (.fabricAccessError 0x2000000000 false 5) (stOf id) (fun d =>
      d.sysc.fabErr == { addr := 0x2000000000, write := false, cause := 0, master := 5, count := 1, armed := false }
      && d.out == [.word 0xFFFFFFFF true] && (d.hdr pSYSC).evtStat == 1 && (d.hdr pSYSC).evtCount == 1) = true := by decide
set_option maxRecDepth 100000 in
theorem test_fabricAccessError_noBlock : (stOf id).dev.unmapped (0x10000A0000 % 2 ^ 40) = some 1 ∧
    runs (.fabricAccessError 0x10000A0000 true 33) (stOf id) (fun d => d.sysc.fabErr.cause == 1 && d.out == []) = true := by decide
/-- A page whose clock is stopped. -/
def stopped5 : State := stOf (fun d => d.setHdr 5 (fun h => { h with pwr := 1 }))
set_option maxRecDepth 100000 in
theorem test_unservedPageAccess : pageExists 5 = true ∧ (stopped5.dev.hdr 5).pwr ≠ 0 ∧
    runs (.unservedPageAccess 5 0x100 false 33) stopped5 (fun d =>
      d.sysc.fabErr.cause == 3 && d.sysc.fabErr.addr == 0x1000050100 && d.out == [.word 0xFFFFFFFF false] && (d.hdr 5).pwr == 1) = true := by decide
set_option maxRecDepth 100000 in
theorem test_unservedPageAccess_header :
    runs (.unservedPageAccess 5 0x0 false 0) stopped5 (fun d => d.out == [.word 0x00010005 false] && d.sysc.fabErr.count == 0) = true := by decide
set_option maxRecDepth 100000 in
theorem test_registerWrite : (stOf id).dev.pageError pPOWR = none ∧
    runs (.registerWrite pPOWR 0x104 0x2710 4 0) (stOf id) (fun d => d.cell pPOWR 0x104 == 0x2710) = true
    ∧ runs (.registerWrite pPOWR 0x104 0x2710 2 0) (stOf id) (fun d => d.cell pPOWR 0x104 == 0x1388 && bitOf (d.hdr pPOWR).evtStat 31) = true
    ∧ runs (.registerWrite pSYSC 0x100 0 4 0) (stOf id) (fun d => d.cell pSYSC 0x100 == 0x1600A100 && (d.hdr pSYSC).evtStat == 0) = true
    ∧ runs (.registerWrite pPOWR 0x800 0 4 0) (stOf id) (fun d => d.cell pPOWR 0x800 == 0x1424 && bitOf (d.hdr pPOWR).evtStat 31) = true := by decide
set_option maxRecDepth 100000 in
theorem test_registerWrite_shadow :
    runs (.registerWrite pSCHD 0x500 4 4 0) (stOf id) (fun d => d.cell pSCHD 0x100 == 0x208 && d.shadowI pSCHD 0x100 0 == 4) = true
    ∧ runs (.registerWrite pSCHD 0x100 4 4 0) (stOf id) (fun d => d.cell pSCHD 0x100 == 0x208 && bitOf (d.hdr pSCHD).evtStat 31) = true
    ∧ runs (.registerWrite pSCHD 0x8800 4 4 0) (stOf id) (fun d => d.shadowI pSCHD 0x800 0 == 0x640028 && bitOf (d.hdr pSCHD).evtStat 31) = true := by decide
set_option maxRecDepth 100000 in
theorem test_expertKeyWrite :
    runs (.expertKeyWrite pPOWR 0x45585054 33) (stOf id) (fun d => (d.hdr pPOWR).unlocked && (d.hdr pPOWR).evtStat == 0) = true
    ∧ runs (.expertKeyWrite pPOWR 0x45585055 33) (stOf id) (fun d =>
        !(d.hdr pPOWR).unlocked && (d.hdr pPOWR).evtStat == 0x80000000 && (d.hdr pSYSC).evtStat == 2) = true := by decide
set_option maxRecDepth 100000 in
theorem test_evtForceWrite :
    runs (.evtForceWrite pPOWR 0x80000041 3) (stOf id) (fun d => (d.hdr pPOWR).evtStat == 0x80000001 && (d.hdr pPOWR).evtCount == 2) = true := by decide
set_option maxRecDepth 100000 in
theorem test_evtStatClear :
    runs (.evtStatClear pPOWR 7 2 3) (stOf (fun d => d.setHdr pPOWR (fun h => { h with evtStat := 15 }))) (fun d => (d.hdr pPOWR).evtStat == 10) = true := by decide
set_option maxRecDepth 100000 in
theorem test_fabErrCountRead : (stOf id).dev.pageError pSYSC = none ∧
    runs (.fabErrCountRead 1) (stOf (fun d => d.fabricError 7 0 3 false)) (fun d => d.out == [.word 1 false] && d.sysc.fabErr.count == 0 && d.sysc.fabErr.armed) = true := by decide
set_option maxRecDepth 100000 in
theorem test_timeLoRead :
    runs (.timeLoRead 4) (stOf (fun d => { d with sysc := { d.sysc with time := 0x123456789A } })) (fun d =>
      d.out == [.word 0x3456789A false] && d.sysc.hiLatch.get 0 4 == 0x12 && d.sysc.hiLatch.get 0 5 == 0) = true := by decide
set_option maxRecDepth 100000 in
theorem test_timeLoad :
    runs (.timeLoad 0x00030001 0) (stOf (fun d => (d.setHdr pSYSC (fun h => { h with unlocked := true })).setCell pSYSC 0x804 2)) (fun d =>
      d.sysc.time == 0x200000000 && d.cell pSYSC 0x808 == 0x30000) = true := by decide
set_option maxRecDepth 100000 in
theorem test_epochCommit :
    runs (.epochCommit 0) (stOf id) (fun d => d.sysc.epoch == 0 && d.sysc.epochResult == 7 && (d.hdr pSYSC).evtStat == 4) = true
    ∧ runs (.epochCommit 0) (stOf (fun d => { d with sysc := { d.sysc with cur := .standalone } })) (fun d => d.sysc.epoch == 1 && d.sysc.epochResult == 0) = true
    ∧ runs (.epochCommit 0) (stOf (fun d => { d with sysc := { d.sysc with cur := .standalone, epoch := 1 } })) (fun d => d.sysc.epoch == 1 && d.sysc.epochResult == 1) = true := by decide
set_option maxRecDepth 100000 in
theorem test_epochApplyOnDrain : (stOf id).dev.stampedWork pSCHD = false ∧
    runs (.epochApplyOnDrain pSCHD) (stOf (fun d => { d with sysc := { d.sysc with epoch := 1 }, regs := { d.regs with snap := [(cellKey pSCHD 0x100 0, 4)] } })) (fun d =>
      d.cell pSCHD 0x100 == 4 && (d.hdr pSCHD).epochApplied == 1 && d.regs.snap == []) = true := by decide
set_option maxRecDepth 100000 in
theorem test_registerWrite_wide :
    runs (.registerWrite pSCHD 0x500 0x500000004 8 0) (stOf id) (fun d => d.shadowI pSCHD 0x100 0 == 4 && d.shadowI pSCHD 0x104 0 == 5) = true := by decide
set_option maxRecDepth 100000 in
theorem test_timeHiRead : (stOf id).dev.hdr pSYSC = PageHdr.reset ∧
    runs (.unservedPageAccess pSYSC 0x124 false 4) (stOf (fun d => { d with sysc := { d.sysc with hiLatch := [(4, 0x12)] } })) (fun d => d.out == [.word 0x12 false]) = true := by decide
set_option maxRecDepth 100000 in
theorem test_interrupt :
    runs (.evtForceWrite pPOWR 3 0) (stOf (fun d => d.setHdr pPOWR (fun h => { h with evtEn := 1 }))) (fun d => (d.hdr pPOWR).irq == 1 && (d.hdr pPOWR).evtStat == 3) = true
    ∧ runs (.evtStatClear pPOWR 1 0 0) (stOf (fun d => d.setHdr pPOWR (fun h => { h with evtStat := 3, irq := 3 }))) (fun d => (d.hdr pPOWR).irq == 2) = true := by decide

/-! ## Zones -/

/-- A namespace of zones of 4 GiB over sleds 0 to 7, 6+2. -/
def ns1 : Ns := { d := 6, members := [0, 1, 2, 3, 4, 5, 6, 7], plc := false, groups := 1, meta_ := 0, pi := 0, guard := 16, zones := 4, slot := 0,
                  attached := [], cond := 0, rebuild := [], cursors := [] }
/-- A context that executes a command. -/
def ctxOf (cmd : NvCmd) : Ctx :=
  { fn := 0, sq := 1, e := { cid := 7, nsid := 1, ptr := .prp true, psdt := false, badAt := none, cmd := cmd }, st := .executing, slice := none, gen := 0,
    epoch := 0, lender := none, cls := .a, admitted := 0, order := 0, deadline := 0, begun := false, status := 0, dnr := false, dw0 := 0, marked := false, dmaDone := true,
    data := [], got := [], path := 0, left := 0, stalled := false, recorded := false, psn := none }
/-- The zone of the tests: zone 0 of namespace 1. -/
def z1 : Nat := zoneKey 1 0
/-- Context 0 executes a command on namespace 1. -/
def withCmd (cmd : NvCmd) (f : Dev → Dev) : State :=
  stOf (fun d => f { d with host := { d.host with ctxs := [(0, ctxOf cmd)] }, zone := { d.zone with nss := [(1, ns1)] } })
def noPr : PrInfo := { act := false, guard := false, app := false, ref := false, tag := 0, mask := 0, first := 0 }

set_option maxRecDepth 100000 in
theorem test_write : (withCmd (.write 0 8 noPr) id).dev.ringRoom = true ∧
    runs (.write 0) (withCmd (.write 0 8 noPr) id) (fun d =>
      (d.zn z1).cmds == [.write 0 0 8 0 false false none] && (d.zn z1).st == .empty && (d.ctx 0).any (fun x => x.begun && x.st == .executing)) = true := by decide
set_option maxRecDepth 100000 in
theorem test_write_refused :
    runs (.write 0) (withCmd (.write 4 8 noPr) id) (fun d => (d.zn z1).cmds == [] && (d.ctx 0).any (fun x => x.status == 0x1BC && x.st == .committed)) = true
    ∧ runs (.write 0) (withCmd (.write 0 8 noPr) (fun d => d.setZn z1 (fun v => { v with st := .full }))) (fun d => (d.ctx 0).any (fun x => x.status == 0x1B9)) = true
    ∧ runs (.write 0) (withCmd (.write 294911 2 noPr) (fun d => d.setZn z1 (fun v => { v with st := .closed, sptr := 294911, wp := 294911 })))
        (fun d => (d.ctx 0).any (fun x => x.status == 0x1B8)) = true := by decide
set_option maxRecDepth 100000 in
theorem test_zoneAppend :
    runs (.zoneAppend 0) (withCmd (.zoneAppend 0 4 noPr) (fun d => d.setZn z1 (fun v => { v with st := .closed, sptr := 16, wp := 16 }))) (fun d =>
      (d.zn z1).cmds == [.write 0 16 4 0 true false none] && (d.zn z1).st == .implicitlyOpened) = true := by decide
set_option maxRecDepth 100000 in
theorem test_writeZeroes :
    runs (.writeZeroes 0) (withCmd (.writeZeroes 0 4 noPr) id) (fun d => (d.zn z1).cmds == [.write 0 0 4 0 false false none]) = true := by decide
/-- Context 0 executes an action on zone 0, which is in state `st`. -/
def withAct (a : ZAction) (st : ZoneState) (cmds : List ZCmd) : State :=
  withCmd (.zoneSend 0 a false []) (fun d => d.setZn z1 (fun v => { v with st := st, gen := 65535, wp := 8, sptr := 8, cmds := cmds }))
def waitsAs (a : ZAction) (d : Dev) : Bool := (d.zn z1).cmds == [.write 3 8 1 0 false false none, .action 0 a] && (d.zn z1).st == .closed
set_option maxRecDepth 100000 in
theorem test_zoneOpen : runs (.zoneOpen 0) (withAct .open_ .closed [.write 3 8 1 0 false false none]) (waitsAs .open_) = true := by decide
set_option maxRecDepth 100000 in
theorem test_zoneClose : runs (.zoneClose 0) (withAct .close .closed [.write 3 8 1 0 false false none]) (waitsAs .close) = true := by decide
set_option maxRecDepth 100000 in
theorem test_zoneFinish : runs (.zoneFinish 0) (withAct .finish .closed [.write 3 8 1 0 false false none]) (waitsAs .finish) = true := by decide
set_option maxRecDepth 100000 in
theorem test_zoneReset : runs (.zoneReset 0) (withAct .reset .closed [.write 3 8 1 0 false false none]) (waitsAs .reset) = true := by decide
set_option maxRecDepth 100000 in
theorem test_zoneOffline : runs (.zoneOffline 0) (withAct .offline .closed [.write 3 8 1 0 false false none]) (waitsAs .offline) = true := by decide
set_option maxRecDepth 100000 in
theorem test_setZoneDescriptorExtension :
    runs (.setZoneDescriptorExtension 0) (withAct .setExt .closed [.write 3 8 1 0 false false none]) (waitsAs .setExt) = true
    ∧ runs (.setZoneDescriptorExtension 0) (withCmd (.zoneSend 0 .setExt false [0xA5, 2]) id) (fun d =>
        (d.zn z1).cmds == [] && (d.ctx 0).any (fun x => x.status == 0x002)) = true := by decide
set_option maxRecDepth 100000 in
theorem test_zoneActionTakeEffect :
    runs (.zoneActionTakeEffect 1 0) (withAct .open_ .closed [.action 0 .open_]) (fun d =>
      (d.zn z1).st == .explicitlyOpened && (d.zn z1).wp == 8 && (d.zn z1).cmds == [] && d.valt.ring.length == 1 && (d.ctx 0).any (fun x => x.st == .committed && x.status == 0)) = true
    ∧ runs (.zoneActionTakeEffect 1 0) (withAct .reset .full [.action 0 .reset]) (fun d =>
        (d.zn z1).st == .empty && (d.zn z1).gen == 0 && (d.zn z1).wp == 0) = true
    ∧ runs (.zoneActionTakeEffect 1 0) (withAct .close .full [.action 0 .close]) (fun d => (d.zn z1).st == .full && (d.ctx 0).any (fun x => x.status == 0x1BF)) = true := by decide
/-- Zone 0 has an append of two blocks, one staged, in area 5. -/
def staging (f : Dev → Dev) : State :=
  withCmd (.zoneAppend 0 2 noPr) (fun d => f ((({ d with valt := { d.valt with holdup := true, stageOk := true, budget := 4096 } }).setZn z1 (fun v =>
    { v with st := .implicitlyOpened, area := some 5, groups := [{ pos := 3, blocks := [], missing := [] }], cmds := [.write 0 0 2 0 true false none] })).setArea 5
      (fun a => { a with st := .filling, zone := z1 })))
set_option maxRecDepth 100000 in
theorem test_stageCommand : (staging id).dev.stageOpen z1 5 = true ∧
    runs (.stageCommand 1 0) (staging (fun d => (d.setKslot 0 (fun k => { k with st := .loaded })))) (fun d =>
      (d.zn z1).sptr == 2 && (d.zn z1).wp == 0 && (d.area 5).fill == 2) = true := by decide
set_option maxRecDepth 100000 in
theorem test_commitRecord : (staging id).dev.acked none = true ∧
    runs (.commitRecord 1 0) (staging (fun d => d.setZn z1 (fun v => { v with wp := 16, sptr := 18, cmds := [.write 0 16 2 2 true false none] }))) (fun d =>
      (d.zn z1).wp == 18 && (d.zn z1).cmds == [] && (d.ctx 0).any (fun x => x.st == .committed && x.status == 0 && x.dw0 == 16) && d.valt.ring.length == 1) = true := by decide
set_option maxRecDepth 100000 in
theorem test_zoneActivation : roomFor (stOf id).dev.zone.areas false = true ∧
    runs (.zoneActivation 1 0) (withCmd (.write 0 2 noPr) (fun d => d.setZn z1 (fun v => { v with cmds := [.write 0 0 2 0 false false none] }))) (fun d =>
      (d.zn z1).area == some 0 && (d.area 0).st == .filling && (d.area 0).zone == z1 && (d.zn z1).st == .empty) = true := by decide
set_option maxRecDepth 100000 in
theorem test_stripeGroupAllocate :
    runs (.stripeGroupAllocate 1 0) (withCmd (.write 0 2 noPr) (fun d =>
      { d with zone := { d.zone with nss := [(1, { ns1 with members := [] })], zones := [(z1, { Zone.fresh with area := some 0, cmds := [.write 0 0 2 0 false false none] })] } })) (fun d =>
      (d.zn z1).groups == [{ pos := 0, blocks := [], missing := [] }] && (d.zn z1).st == .implicitlyOpened) = true := by decide
set_option maxRecDepth 100000 in
theorem test_read :
    runs (.read 0) (withCmd (.read 5 2 noPr) id) (fun d => (d.ctx 0).any (fun x => x.got.map Prod.fst == [0, 1] && x.left == 0) && d.sched.subs == []) = true := by decide
set_option maxRecDepth 100000 in
theorem test_flush : runs (.flush 0) (withCmd .flush id) (fun d => (d.ctx 0).any (fun x => x.st == .committed && x.status == 0)) = true := by decide
set_option maxRecDepth 100000 in
theorem test_reportZones :
    runs (.reportZones 0) (withCmd (.zoneReceive 1048576 false 0 true 1) id) (fun d =>
      d.out == [.report 0 0 (.zones 1 [{ zslba := 1048576, state := 1, zcap := 294912, wp := 1048576, zfc := false, zdev := false, ext := [] }])]) = true := by decide
set_option maxRecDepth 100000 in
theorem test_extendedReportZones :
    runs (.extendedReportZones 0) (withCmd (.zoneReceive 0 true 0 false 1) id) (fun d =>
      (match d.out with | [.report 0 0 (.zones 4 [x])] => x.ext == List.replicate 64 0 | _ => false)) = true := by decide
set_option maxRecDepth 100000 in
/-- Contexts 0 and 1 execute writes of one submission queue; context 1's was fetched first. -/
theorem test_write_order :
    runs (.write 0) (withCmd (.write 0 8 noPr) (fun d => { d with host := { d.host with ctxs := [(0, { ctxOf (.write 0 8 noPr) with order := 1 }), (1, ctxOf (.write 0 8 noPr))] } }))
      (fun d => (d.zn z1).cmds == [] && (d.ctx 0).any (fun x => !x.begun)) = true := by decide

/-! ## The deadline scheduler -/

/-- A descriptor and an open operation on die 0 of sled 0. -/
def descOf (op : Nat) (use : DieUse) : Desc := { Desc.at_ 0 0 3 use with op := op }
def opOf (op : Nat) (use : DieUse) : OpenOp :=
  { d := descOf op use, phase := .sent, issued := 0, ran := 0, startedAt := 0, step := 0, tried := [], index0 := 0, cwGot := 0, cwLost := 0, naks := 0,
    data := [], zeros := 0, result := 0, dieState := 0, arrayUs := 0, timedOut := false, txAt := 0, due := 0, queuedAt := 0 }
def itemOf (kind : ItemKind) (op : Nat) (use : DieUse) : QItem :=
  { kind := kind, deadline := 5000000, seq := 1, queuedAt := 0, epoch := 0, urgent := false, d := descOf op use, suspends := false }
/-- Sled 0 is adopted and UP, and its die 0 has answered; the clock is at 1 ms. -/
def sledUp (x : Die → Die) (ops : SMap OpenOp) (f : Dev → Dev) : State :=
  stOf (fun d => f (({ d with sysc := { d.sysc with time := 1000000 }
                              media := { d.media with sleds := [(0, { adopted := true, valid := true, plc := false, ms5 := false })], ops := ops } }.setPort 0
    (fun p => { p with st := .up })).setDie 0 (fun y => x { y with st := .idle, geomRead := true })))

set_option maxRecDepth 100000 in
theorem test_dieDispatch :
    ((sledUp (fun y => { y with queue := [itemOf .erase 0x20 .erase] }) [] id).dev.nextItem 0).isSome = true ∧
    runs (.dieDispatch 0 0) (sledUp (fun y => { y with queue := [itemOf .erase 0x20 .erase] }) [] id) (fun d =>
      (d.die 0).st == .erasing && (d.die 0).queue == [] && (d.blk 3).st == .erasing && (d.blk 3).erases == 1 && (d.op 0).any (fun o => o.d.op == 0x20)) = true
    ∧ runs (.dieDispatch 0 0) (stOf id) (fun d => d == Dev.reset) = true := by decide
/-- Die 0 has a program running (operation 7) and a SUSPEND open (operation 8). -/
def suspending (st : DieState) (op use : Nat) : State :=
  sledUp (fun y => { y with st := st, running := some 7, psusp := 1, queue := if use = 0 then [itemOf .read 1 (.sub 0)] else [] })
    [(7, opOf 0x10 (.unit 0 0 0)), (8, opOf op (if op = 0x30 then .suspend else .resume))] id
set_option maxRecDepth 100000 in
theorem test_suspendResult :
    runs (.suspendResult 0 8 3) (suspending .suspending 0x30 0) (fun d => (d.die 0).st == .progSuspended && (d.die 0).suspendedAt == 1000000 && (d.op 8).isNone) = true
    ∧ runs (.suspendResult 0 8 4) (suspending .suspending 0x30 0) (fun d => (d.die 0).st == .idle && (d.die 0).psusp == 0) = true := by decide
set_option maxRecDepth 100000 in
theorem test_suspendHoldExpiry :
    runs (.suspendHoldExpiry 0 0) (suspending .progSuspended 0x40 0) (fun d => (d.die 0).st == .resuming && (d.op 0).any (fun o => o.d.op == 0x31)) = true := by decide
set_option maxRecDepth 100000 in
theorem test_resumeResult :
    runs (.resumeResult 0 8 5) (suspending .resuming 0x31 1) (fun d => (d.die 0).st == .programming && (d.die 0).lastResume == 1000000
      && (d.op 7).any (fun o => o.startedAt == 1000000)) = true := by decide
set_option maxRecDepth 100000 in
theorem test_suspendTimeout :
    runs (.suspendTimeout 0 0) (suspending .suspending 0x30 0) (fun d => (d.die 0).wait == .suspend && (d.op 0).any (fun o => o.d.op == 0x40)) = true
    ∧ runs (.suspendTimeout 0 0) (suspending .resuming 0x31 0) (fun d => (d.die 0).wait == .resume) = true := by decide
set_option maxRecDepth 100000 in
theorem test_statusTimeout :
    runs (.statusTimeout 0 0) (sledUp (fun y => { y with st := .suspending, wait := .suspend }) [(9, opOf 0x40 .status)] id) (fun d =>
      (d.op 9).isNone && (d.die 0).wait == .none && (d.die 0).faultRun == 1 && bitOf (d.hdr pMEDI).evtStat 10 && (d.die 0).st == .idle) = true := by decide
set_option maxRecDepth 100000 in
theorem test_programTimeout :
    runs (.programTimeout 0 9) (sledUp (fun y => { y with st := .programming, running := some 9 }) [(9, opOf 0x10 (.vaultRow 0 0))] id) (fun d =>
      (d.op 9).isNone && bitOf (d.hdr pMEDI).evtStat 10 && bitOf (d.hdr pMEDI).evtStat 2) = true := by decide
set_option maxRecDepth 100000 in
theorem test_eraseTimeout :
    runs (.eraseTimeout 0 9) (sledUp (fun y => { y with st := .erasing, running := some 9 }) [(9, opOf 0x20 .erase)] (fun d => d.setBlk 3 (fun b => { b with st := .erasing, erases := 4 }))) (fun d =>
      (d.op 9).isNone && bitOf (d.hdr pMEDI).evtStat 10 && (d.blk 3).st == .uncertain && (d.blk 3).erases == 4) = true := by decide
/-- A sub-request of class A for zone 0 of namespace 1. -/
def subOf : Sub :=
  { ctx := some 0, stream := none, req := { pf := false, slice := 70, gen := 0 }, cls := .a, epoch := 0, deadline := 9000000, dieDeadline := 8000000, gen := 4,
    nsid := 1, zone := 0, zgen := 0, row := 0, unit := 0, off := 0, count := 1, path := .direct, hedged := false,
    noAround := false, recon := none, ownBad := false, accessed := true, old := none, got := [] }
set_option maxRecDepth 100000 in
theorem test_memberTimeout :
    runs (.memberTimeout 0 9) (sledUp id [(9, opOf 1 (.sub 5))] id) (fun d => bitOf (d.hdr pSCHD).evtStat 3 && (d.op 9).any (fun o => o.timedOut)) = true
    ∧ (sledUp id [(9, opOf 1 (.sub 5))] id).dev.stale (.sub 5) 0 = true
    ∧ runs (.memberTimeout 0 9) (sledUp id [(9, opOf 1 (.sub 5))] (fun d => { d with sched := { d.sched with subs := [(5, { subOf with gen := 0 })] } })) (fun d =>
        bitOf (d.hdr pSCHD).evtStat 3) = true := by decide
/-- The row of the tests: group 0 of zone 0 at position 0, block 3 on every sled, every sled adopted with a die that answers. -/
def rowUp (f : Dev → Dev) : State :=
  stOf (fun d => f (((List.range 8).foldl (fun (x : Dev) i => (x.setPort i (fun p => { p with st := .up })).setDie (dieKey i 0) (fun y => { y with st := .idle, geomRead := true }))
    { d with zone := { d.zone with nss := [(1, ns1)] }
             media := { d.media with sleds := (List.range 8).map (fun i => (i, { adopted := true, valid := true, plc := false, ms5 := false })) } }).setZn z1 (fun v =>
      { v with st := .full, wp := 294912, sptr := 294912, phys := 110592, groups := [{ pos := 0, blocks := (List.range 8).map (fun i => (i, 3)), missing := [] }] })))
def hedge (held : Nat) : State :=
  rowUp (fun d => { d with sched := { d.sched with subs := [(5, { subOf with req := { pf := true, slice := 0, gen := 0 } })], pools := [(64, { share := 65536, avail := held, held := 3, refused := 0 })] } })
set_option maxRecDepth 100000 in
theorem test_hedgeStart :
    runs (.hedgeStart 5) (hedge 100) (fun d => (d.pool 64).avail == 94 && (d.pool 64).held == 9 && (d.sched.subs.find 5).any (fun x => x.hedged && x.recon == some 0)) = true
    ∧ runs (.hedgeStart 5) (hedge 2) (fun d => (d.pool 64).refused == 1 && (d.pool 64).avail == 2 && bitOf (d.hdr pSCHD).evtStat 2) = true := by decide
def waitingRecon : Recon :=
  { who := .sub 5, pool := some 65, paid := [], nsid := 1, zone := 0, zgen := 0, row := 0, target := 0, need := 6, folded := 0, old := none, begun := false, dead := false, asked := [], good := [], bad := [], wait := [], got := [], gen := 4,
    cls := .a, req := subOf.req, epoch := 0, deadline := 8000000, off := 0, count := 1, waiting := true, order := 0 }
set_option maxRecDepth 100000 in
theorem test_forcedCreditGrant :
    runs .forcedCreditGrant (rowUp (fun d => { d with sched := { d.sched with recons := [(2, waitingRecon)] } })) (fun d =>
      (d.pool 65).avail == 8186 && (d.pool 65).held == 6 && (d.sched.recons.find 2).any (fun x => !x.waiting)) = true
    ∧ runs .forcedCreditGrant (rowUp (fun d => { d with sched := { d.sched with recons := [(2, waitingRecon)], pools := [] } })) (fun d =>
      (d.pool 65).held == 0 && (d.sched.recons.find 2).any (fun x => x.waiting)) = true := by decide
set_option maxRecDepth 100000 in
theorem test_creditPoolSplit :
    runs .creditPoolSplit (stOf (fun d => { d with sched := { d.sched with splitting := some true } })) (fun d =>
      (d.pool 0).share == 1024 && (d.pool 63).avail == 1024 && (d.pool 64).share == 0 && (d.pool 65).share == 8192) = true
    ∧ runs .creditPoolSplit (stOf (fun d => { d with sched := { d.sched with splitting := some false } })) (fun d => (d.pool 64).avail == 65536) = true
    ∧ runs .creditPoolSplit (stOf (fun d => ({ d with sched := { d.sched with splitting := some true } }).setPool 64 (fun p => { p with held := 1 }))) (fun d =>
      d.sched.splitting == some true && (d.pool 0).share == 0) = true := by decide
def streamOf (window : Nat) : Stream :=
  { nsid := 1, zone := 0, req := { pf := true, slice := 0, gen := 0 }, partn := 0, hostPos := 0, readPos := 0, declared := 0, served := [1000000, 500000], measured := 0,
    target := 0, window := window, held := [(9, 0), (10, 1)], paused := false, touched := 0, buf := [] }
def paced (window free : Nat) : State := rowUp (fun d => { d with sched := { d.sched with streams := [(4, streamOf window)], bufFree := free } })
set_option maxRecDepth 100000 in
theorem test_readAheadIssue :
    runs (.readAheadIssue 4) (paced 1000000 100) (fun d => (d.sched.streams.find 4).any (fun x => x.readPos == 64 && x.held.length == 6) && d.sched.bufFree == 96) = true
    ∧ runs (.readAheadIssue 4) (paced 1000000 1) (fun d => (d.sched.streams.find 4).any (fun x => x.readPos == 0 && x.paused) && bitOf (d.hdr pSCHD).evtStat 6) = true
    ∧ runs (.readAheadIssue 4) (paced 0 100) (fun d => (d.sched.streams.find 4) == some (streamOf 0)) = true := by decide
set_option maxRecDepth 100000 in
theorem test_streamRateUpdate :
    runs (.streamRateUpdate 4) (paced 0 0) (fun d => (d.sched.streams.find 4).any (fun x => x.measured == 15000000 && x.served == [0, 1000000, 500000])) = true := by decide
set_option maxRecDepth 100000 in
theorem test_streamIdleExpiry :
    runs (.streamIdleExpiry 4) (paced 0 7) (fun d => (d.sched.streams.find 4).isNone && d.sched.bufFree == 9 && bitOf (d.hdr pSCHD).evtStat 7) = true := by decide
set_option maxRecDepth 100000 in
theorem test_suspendHoldExpiry_sensing : (suspending .progSuspended 1 0).dev.sensing 0 = 1 ∧
    runs (.suspendHoldExpiry 0 0) (suspending .progSuspended 1 0) (fun d => (d.die 0).st == .progSuspended && (d.die 0).holdUp) = true := by decide
set_option maxRecDepth 100000 in
theorem test_forcedCreditGrant_begun :
    runs .forcedCreditGrant (rowUp (fun d => { d with sched := { d.sched with recons := [(2, { waitingRecon with begun := true, good := [1, 2, 3, 4, 5, 6] })] } })) (fun d =>
      (d.pool 65).held == 0 && (d.sched.recons.find 2).any (fun x => !x.waiting)) = true := by decide

/-! ## The flash media engine -/

def goodCw (stamp : List Byte) : CwRes := { good := true, corrected := 3, unsat := 0, stamp := stamp, body := [7, 255] }
def badCw : CwRes := { good := false, corrected := 0, unsat := 9, stamp := [], body := [] }
/-- Die 0 reads for `use`, whose one codeword is being decoded, at a step of the ladder. -/
def decodes (use : DieUse) (ph : OpPhase) (step : Nat) (f : Dev → Dev) : State :=
  sledUp (fun y => { y with st := .reading }) [(9, { opOf 1 use with phase := ph, step := step, d := { descOf 1 use with cwmask := 1 } })] f
def rawBusy (d : Dev) : Dev := { d with media := { d.media with raw := { RawRead.reset with busy := true, decode := true } } }
def wants5 (d : Dev) : Dev := { d with sched := { d.sched with subs := [(5, { subOf with gen := 0, ctx := none, recon := none })] } }
set_option maxRecDepth 100000 in
theorem test_decodeEnd :
    runs (.decodeEnd 0 9 [(0, goodCw [])]) (decodes .raw .decoding 0 rawBusy) (fun d =>
      (d.op 9).isNone && (d.die 0).st == .idle && d.media.raw.done && !d.media.raw.busy && d.media.raw.data == [7, 255] && d.media.raw.zeros == 5) = true
    ∧ runs (.decodeEnd 0 9 [(0, badCw)]) (decodes .raw .decoding 0 rawBusy) (fun d => (d.op 9).isNone && (d.die 0).st == .idle && d.media.raw.fail && !d.media.raw.done) = true
    ∧ runs (.decodeEnd 0 9 [(0, goodCw [])]) (decodes (.sample 0 false) .decoding 0 id) (fun d => (d.op 9).isNone && (d.die 0).st == .idle) = true := by decide
/-- The stamp that the zone map expects of the codeword being decoded. -/
def stampOf5 : List Byte :=
  let d := (decodes (.sub 5) .softDecoding 0 wants5).dev
  ((d.op 9).bind (fun o => d.expected o 0)).getD []
set_option maxRecDepth 100000 in
theorem test_decodeEnd_sub : stampOf5.length = 16 ∧
    runs (.decodeEnd 0 9 [(0, goodCw stampOf5)]) (decodes (.sub 5) .softDecoding 0 wants5) (fun d =>
      (d.op 9).isNone && (d.die 0).st == .idle && d.sched.subs == [] && bitOf (d.hdr pMEDI).evtStat 0) = true
    ∧ (decodes (.sub 5) .softDecoding 0 wants5).dev.stale (.sub 5) 0 = false := by decide
set_option maxRecDepth 100000 in
theorem test_decodeEnd_ladder :
    runs (.decodeEnd 0 9 [(0, badCw)]) (decodes (.sub 5) .decoding 0 wants5) (fun d => d.media.ops.any (fun e => e.2.phase == .sent && e.2.step == 1) && (d.die 0).st == .reading) = true
    ∧ runs (.decodeEnd 0 9 [(0, badCw)]) (decodes (.sub 5) .decoding 7 wants5) (fun d => bitOf (d.hdr pMEDI).evtStat 1) = true := by decide
set_option maxRecDepth 100000 in
theorem test_softDecodeStart :
    runs (.softDecodeStart 0 9) (sledUp id [(9, { opOf 2 .raw with phase := .softWait })] id) (fun d => (d.op 9).any (fun o => o.phase == .softDecoding)) = true
    ∧ runs (.softDecodeStart 0 9) (sledUp id [(9, { opOf 2 .raw with phase := .softWait })] (fun d => d.setCell pMEDI 0x800 0)) (fun d => (d.op 9).any (fun o => o.phase == .softWait)) = true := by decide
/-- The expert registers of MEDI are unlocked, and the raw read names block 3 of die 0. -/
def rawPort (x : Die → Die) : State := sledUp x [] (fun d => ((d.setHdr pMEDI (fun h => { h with unlocked := true })).setCell pMEDI 0x820 3).setBlk 3 (fun b => { b with st := .allocated, confirmed := 9 }))
set_option maxRecDepth 100000 in
theorem test_rawRead :
    runs (.rawRead 2) (rawPort id) (fun d => d.media.raw.busy && d.media.raw.master == 2 && (d.die 0).queue.any (fun i => i.d.use == .raw && i.d.block == 3)) = true
    ∧ runs (.rawRead 2) (rawPort (fun y => { y with retired := true })) (fun d => d.media.raw.fail && d.media.raw.result == 7 && !d.media.raw.busy) = true := by decide
set_option maxRecDepth 100000 in
theorem test_rawRead_turned_away :
    runs (.rawRead 2) (stOf (fun d => ({ d with media := { d.media with raw := { RawRead.reset with busy := true } } }).setHdr pMEDI (fun h => { h with unlocked := true })))
        (fun d => bitOf (d.hdr pMEDI).evtStat 31 && d.media.raw.master == 0) = true
    ∧ runs (.rawRead 2) (stOf (fun d => { (rawPort id).dev with media := ((rawPort id).dev.setDie 0 (fun y => { y with st := .offline })).media }))
        (fun d => d.media.raw.fail && d.media.raw.result == 9) = true := by decide
set_option maxRecDepth 100000 in
theorem test_trackerSampling :
    runs .trackerSampling (sledUp id [] (fun d => d.setBlk 3 (fun b => { b with st := .allocated, confirmed := 100 }))) (fun d =>
      (d.die 0).queue.map (fun i => i.d.use) == [.sample 0 false, .sample 0 true, .sample 1 false, .sample 1 true]) = true := by decide
set_option maxRecDepth 100000 in
theorem test_trackerCheckpoint :
    runs .trackerCheckpoint (sledUp id [] (fun d => d.setBlk 3 (fun b => { b with st := .allocated, confirmed := 100 }))) (fun d =>
      d.valt.nextSeq == d.valt.ring.length && d.valt.ring.all (fun r => match r.body with | .track .. => true | _ => false)) = true := by decide
/-- Block 3 of die 0 is a member of the only group of zone 0, and block 7 is erased. -/
def migrating (st : ZoneState) (reads : Nat) : State :=
  sledUp id [] (fun d => ((({ d with zone := { d.zone with nss := [(1, ns1)] }, sysc := { d.sysc with time := 86400000000000 * 400 } }.setBlk 3 (fun b =>
    { b with st := .allocated, confirmed := 2, reads := reads })).setBlk 7 (fun b => { b with st := .erased, erases := 300 }))).setZn z1 (fun v =>
      { v with st := st, groups := [{ pos := 0, blocks := [(0, 3)], missing := [] }] }))
set_option maxRecDepth 100000 in
theorem test_wearMigrationStart :
    runs (.wearMigrationStart 0 0 3) (migrating .full 0) (fun d => d.media.copies.map (fun c => (c.2.src, c.2.dst, c.2.total)) == [(3, 7, 2)] && (d.blk 7).st == .allocated) = true := by decide
set_option maxRecDepth 100000 in
theorem test_readDisturbMigration :
    runs (.readDisturbMigration 0 0 3) (migrating .full 10000000) (fun d =>
      (d.blk 7).st == .allocated && (d.blk 3).st == .allocated && d.media.copies.map (fun c => (c.2.src, c.2.dst, c.2.total)) == [(3, 7, 2)]) = true := by decide
set_option maxRecDepth 100000 in
theorem test_dieRetireWrite :
    runs (.dieRetireWrite 33 0x80000000) (rawPort id) (fun d => (d.die 0).retireReq && !(d.die 0).retired) = true
    ∧ runs (.dieRetireWrite 33 0) (rawPort id) (fun d => !(d.die 0).retireReq && bitOf (d.hdr pMEDI).evtStat 31) = true
    ∧ runs (.dieRetireWrite 33 0x80000005) (rawPort id) (fun d => !(d.die 5).retireReq && (d.hdr pMEDI).evtStat == 0) = true := by decide
set_option maxRecDepth 100000 in
/-- A die whose retirement has been asked for, with no open operation: what `DIE_RETIREMENT` needs. -/
theorem test_dieRetirement : let s := sledUp (fun y => { y with retireReq := true }) [] id
    (s.dev.die 0).retireReq = true ∧ (s.dev.die 0).retired = false ∧ s.dev.ringRoom = true ∧ s.dev.media.ops = [] ∧ s.dev.diePresent 0 = true := by decide

/-! ## Sled ports and links -/

/-- Port 3 in a state, its link changed by `g`; the part runs, at 1 ms. -/
def portIn (st : PortState) (g : Link → Link) (f : Dev → Dev) : State :=
  stOf (fun d => f ({ d with sysc := { d.sysc with time := 1000000 }, powr := { d.powr with phase := .running } }.setPort 3 (fun p => { p with st := st, link := g p.link })))
def lnk3 (d : Dev) : Link := (d.port 3).link
/-- Lane 2 in a state, its link changed by `g`. -/
def laneIn (st : PortState) (g : Link → Link) : State := stOf (fun d => d.setLane 2 (fun p => { p with st := st, link := g p.link }))
def trialOf (rate : Nat) (ph : TrialPhase) : Trial :=
  { rate := rate, start := rate, symMax := 1024, phase := ph, startedAt := 0, corrected := 0, uncorr := false, windowDone := decide (ph = .verdict), other := none }

set_option maxRecDepth 100000 in
theorem test_slotInsertion :
    runs (.slotInsertion 3 []) (portIn .empty id id) (fun d => (d.port 3).st == .powering && (d.port 3).pwren && bitOf (d.hdr (pSLK 3)).evtStat 10) = true
    ∧ runs (.slotInsertion 3 []) (portIn .empty id (fun d => d.setCell (pSLK 3) 0x100 0x30)) (fun d => (d.port 3).st == .off && !(d.port 3).pwren) = true := by decide
set_option maxRecDepth 100000 in
theorem test_slotInsertion_refused : let rec_ := [0x54, 0x4B, 1, 0, 7, 0, 0, 0, 0, 0, 0, 0, 0xFF, 0xFF, 0xA5, 2]
    ((portIn .empty id id).dev.sledRecord rec_).1 = 2 ∧
    runs (.slotInsertion 3 rec_) (portIn .empty id id) (fun d => (d.port 3).st == .refused && bitOf (d.hdr (pSLK 3)).evtStat 14) = true := by decide
set_option maxRecDepth 100000 in
theorem test_powerWaitExpiry : runs (.powerWaitExpiry 3) (portIn .powering id id) (fun d => (d.port 3).st == .training) = true := by decide
set_option maxRecDepth 100000 in
theorem test_trainTrialStart :
    runs (.trainTrialStart (.port 3)) (portIn .training id id) (fun d => (lnk3 d).trial == some { trialOf 3 .prbs with startedAt := 1000000 } && (lnk3 d).trials == 1) = true
    ∧ runs (.trainTrialStart (.lane 2)) (laneIn .training (fun x => { x with trial := some (trialOf 1 .idleGap) })) (fun d =>
        (d.lane 2).link.trial == some (trialOf 1 .prbs)) = true := by decide
set_option maxRecDepth 100000 in
theorem test_prbsPhaseEnd :
    runs (.prbsPhaseEnd (.port 3)) (portIn .training (fun x => { x with trial := some (trialOf 3 .prbs) }) id) (fun d => (lnk3 d).trial == some (trialOf 3 .locking)) = true := by decide
set_option maxRecDepth 100000 in
theorem test_alignmentMarker :
    runs (.alignmentMarker (.port 3) (some 89129085)) (portIn .training (fun x => { x with align := .candidate, candPos := 5, trial := some (trialOf 3 .locking) }) id) (fun d =>
      (lnk3 d).align == .locked && (lnk3 d).trial == some (trialOf 3 .counting)) = true
    ∧ runs (.alignmentMarker (.port 3) none) (portIn .hold (fun x => { x with align := .locked, miss := 3 }) id) (fun d => (lnk3 d).align == .search && (lnk3 d).lockLoss == 1) = true
    ∧ runs (.alignmentMarker (.port 3) none) (portIn .hold (fun x => { x with align := .locked, miss := 2 }) id) (fun d => (lnk3 d).align == .locked && (lnk3 d).miss == 3) = true := by decide
set_option maxRecDepth 100000 in
theorem test_lossOfSignal : runs (.lossOfSignal (.port 3)) (portIn .training (fun x => { x with align := .locked }) id) (fun d => (lnk3 d).align == .search && (d.port 3).st == .training) = true := by decide
set_option maxRecDepth 100000 in
theorem test_trainingWindowEnd :
    runs (.trainingWindowEnd (.port 3) 2000 false) (portIn .training (fun x => { x with trial := some { trialOf 1 .counting with other := some (true, 5) } }) id) (fun d =>
      (d.port 3).st == .hold && bitOf (d.hdr (pSLK 3)).evtStat 2) = true
    ∧ runs (.trainingWindowEnd (.port 3) 97 false) (portIn .training (fun x => { x with trial := some (trialOf 3 .counting) }) id) (fun d =>
      (lnk3 d).trial.any (fun t => t.phase == .verdict && t.corrected == 97 && t.windowDone)) = true := by decide
set_option maxRecDepth 100000 in
theorem test_trainReceive :
    runs (.trainReceive (.port 3) true 212) (portIn .training (fun x => { x with trial := some (trialOf 2 .verdict) }) id) (fun d =>
      (d.port 3).st == .exchange && (lnk3 d).rate == 2 && (lnk3 d).instanceNo == 1 && (lnk3 d).txq.map Pkt.args == [[0, 1731, 256, 128, 1]]) = true := by decide
set_option maxRecDepth 100000 in
theorem test_trialTimeout :
    runs (.trialTimeout (.port 3)) (portIn .training (fun x => { x with trial := some (trialOf 3 .locking) }) id) (fun d => (lnk3 d).trial.any (fun t => t.rate == 2 && t.phase == .idleGap)) = true := by decide
set_option maxRecDepth 100000 in
theorem test_holdExpiry : runs (.holdExpiry (.port 3)) (portIn .hold id id) (fun d => (d.port 3).st == .training) = true := by decide
/-- A frame that fails the RS decode, and one that cannot be located. -/
def badFrame : RxFrame := { rsOk := false, corrected := 0, headersOk := true, bytes := [] }
set_option maxRecDepth 100000 in
theorem test_frameReceive :
    badFrame.passes = false ∧
    runs (.frameReceive (.port 3) badFrame) (portIn .up (fun x => { x with align := .locked }) id) (fun d => (lnk3 d).nakOut && (lnk3 d).fecUncorr == 1) = true
    ∧ runs (.frameReceive (.port 3) badFrame) (portIn .up id id) (fun d => !(lnk3 d).nakOut) = true := by decide
def statusPkt : Pkt := { typ := 0, vc := 0, len := 0, op := 0x40, tag := 1, seq := 0, args := [], data := [] }
set_option maxRecDepth 100000 in
theorem test_frameTransmit :
    runs (.frameTransmit (.port 3)) (portIn .up (fun x => { x with txq := [statusPkt], credited := true, tx := [(0, { Vc.reset with limit := 64 })] }) id) (fun d =>
      (lnk3 d).txFsn == 1 && (lnk3 d).held.length == 1 && ((lnk3 d).txVc 0).out == 1 && ((lnk3 d).txVc 0).avail == 63) = true
    ∧ runs (.frameTransmit (.port 3)) (portIn .up (fun x => { x with txFsn := 9 }) id) (fun d => (match d.out with | [.frame _ f] => f.isNull && f.fsn == 9 | _ => false) && (lnk3 d).txFsn == 9) = true := by decide
def heldFrame (tries : Nat) : TxFrame := { fsn := 0x2C4, kinds := [1], payload := [], sentAt := 0, tries := tries }
set_option maxRecDepth 100000 in
theorem test_replayTimeout :
    runs (.replayTimeout (.port 3)) (portIn .up (fun x => { x with held := [heldFrame 1] }) id) (fun d => (lnk3 d).replaying == [0x2C4] && (lnk3 d).replays == 1) = true
    ∧ runs (.replayTimeout (.lane 2)) (laneIn .up (fun x => { x with held := [heldFrame 4], rate := 3 })) (fun d => (d.lane 2).st == .training && (d.lane 2).link.capRate == 2) = true := by decide
set_option maxRecDepth 100000 in
theorem test_creditReceive :
    runs (.creditReceive (.port 3) [64, 1154, 0, 64]) (portIn .exchange id id) (fun d => ((lnk3 d).txVc 1).limit == 1154 && (d.port 3).mgmt.map MgmtReq.op == [1]) = true := by decide
set_option maxRecDepth 100000 in
theorem test_linkReset :
    runs (.linkReset (.lane 2) 1) (laneIn .up (fun x => { x with rate := 3, txq := [statusPkt] })) (fun d =>
      (d.lane 2).st == .training && (d.lane 2).link.txq == [] && (d.lane 2).link.capRate == 2 && bitOf (d.hdr pPEER).evtStat 8) = true
    ∧ runs (.linkReset (.port 3) 6) (portIn .up (fun x => { x with align := .locked }) id) (fun d => (d.port 3).st == .training && (lnk3 d).resets == 1 && bitOf (d.hdr (pSLK 3)).evtStat 1) = true := by decide
set_option maxRecDepth 100000 in
theorem test_linkResetReceive : runs (.linkResetReceive (.lane 2)) (laneIn .up id) (fun d => (d.lane 2).st == .training && d.out == []) = true := by decide
set_option maxRecDepth 100000 in
theorem test_echoReceive :
    runs (.echoReceive (.port 3) 999000) (portIn .up (fun x => { x with probeAt := 999000 }) id) (fun d => (lnk3 d).rtt == 1000 && (lnk3 d).txq == [ctlPkt 2 [1000500]]) = true := by decide
set_option maxRecDepth 100000 in
theorem test_linkTimeSync :
    runs .linkTimeSync (portIn .up (fun x => { x with rtt := 200 }) id) (fun d => (lnk3 d).txq == [ctlPkt 3 [1000000], ctlPkt 2 [1000100]] && (d.port 4).link.txq == []) = true := by decide
/-- Port 0 is UP with operation 9 open. -/
def bursts (o : OpenOp) (f : Port → Port) : State := sledUp id [(9, o)] (fun d => d.setPort 0 f)
set_option maxRecDepth 100000 in
theorem test_completionReceive :
    runs (.completionReceive 0 8 0 0 0 ⟨0, 0, 16⟩) (bursts (opOf 1 (.sub 5)) id) (fun d => (d.port 0).stray == 1) = true
    ∧ runs (.completionReceive 0 9 0 0 0 ⟨0, 0, 16⟩) (bursts { opOf 1 (.sub 5) with naks := 1 } id) (fun d => (d.op 9).any (fun o => o.phase == .held)) = true
    ∧ (bursts (opOf 1 (.sub 5)) id).dev.active = false
    ∧ runs (.completionReceive 0 9 0 0 0 ⟨0, 0, 16⟩) (bursts (opOf 1 (.sub 5)) id) (fun d => (d.op 9).any (fun o => o.phase == .decoding)) = true := by decide
set_option maxRecDepth 100000 in
theorem test_dataBurstReceive :
    runs (.dataBurstReceive 0 9 0 1 0 144 144 []) (bursts (opOf 1 (.sub 5)) id) (fun d => (d.op 9).any (fun o => o.cwGot == 1)) = true
    ∧ runs (.dataBurstReceive 0 9 0 1 0 144 143 []) (bursts (opOf 1 (.sub 5)) id) (fun d =>
        (d.op 9).any (fun o => o.naks == 1) && (d.port 0).naks.map NakBurst.tries == [1] && (d.port 0).link.txq == [ctlPkt 5 [9, 0, 1]]) = true
    ∧ runs (.dataBurstReceive 0 9 0 1 0 144 143 []) (bursts { opOf 1 (.sub 5) with naks := 1 } (fun p => { p with naks := [{ tag := 9, seq := 0, tries := 2 }] })) (fun d =>
        (d.port 0).burstFail == 1 && (d.port 0).naks == [] && bitOf (d.hdr (pSLK 0)).evtStat 4) = true := by decide
set_option maxRecDepth 100000 in
theorem test_burstNakReceive :
    runs (.burstNakReceive 0 9 0 3) (bursts (opOf 0x10 (.unit 0 0 0)) id) (fun d => (d.port 0).link.txq == [ctlPkt 6 [9]] && (d.port 0).burstFail == 1) = true := by decide
/-- Port 3 in a state with one management request of operation `op` waiting. -/
def asked (st : PortState) (op : Nat) (args : List Nat) (f : Dev → Dev) : State :=
  portIn st id (fun d => f (d.setPort 3 (fun p => { p with mgmt := [{ op := op, xid := 4, args := args, data := [], again := false }] })))
set_option maxRecDepth 100000 in
theorem test_managementTimeout :
    runs (.managementTimeout (.port 3) 1 4) (asked .exchange 1 [] id) (fun d => (lnk3 d).txq.map Pkt.op == [1] && (d.port 3).mgmt.map MgmtReq.again == [true]) = true := by decide
def capOf (vmax owner : Nat) : Cap := { verMax := vmax, verMin := 0x10, plc := false, features := 0, serial := 77, owner := owner, dies := 0, token := 0 }
set_option maxRecDepth 100000 in
theorem test_capResponse :
    runs (.capResponse (.port 3) 4 (capOf 0x22 0)) (asked .exchange 1 [] id) (fun d => (d.port 3).st == .unadopted && (d.port 3).verUsed == 0x13 && bitOf (d.hdr (pSLK 3)).evtStat 9) = true
    ∧ (asked .exchange 1 [] id).dev.mayAdopt 3 true = false ∧ (capOf 0xF 0).refused = true := by decide
set_option maxRecDepth 100000 in
theorem test_adoptResponse :
    runs (.adoptResponse 3 4 2) (asked .unadopted 4 [] (fun d => d.setPort 3 (fun p => { p with adopting := true }))) (fun d => !(d.port 3).adopting && (d.port 3).st == .unadopted) = true := by decide
set_option maxRecDepth 100000 in
theorem test_authResponse :
    runs (.authResponse (.port 3) 4 2 [] []) (asked .auth 3 [1] id) (fun d => (d.port 3).st == .hold && (d.port 3).authFails == 1 && bitOf (d.hdr (pSLK 3)).evtStat 7) = true
    ∧ runs (.authResponse (.lane 2) 4 0 [] []) (stOf (fun d => d.setLane 2 (fun p => { p with st := .auth, mgmt := [{ op := 3, xid := 4, args := [2], data := [], again := false }] }))) (fun d =>
        (d.lane 2).st == .up && (d.lane 2).authed) = true := by decide
set_option maxRecDepth 100000 in
theorem test_geomResponse :
    runs (.geomResponse 3 4 0 (Geom.column false) [1, 2]) (asked .up 2 [5] (fun d => { d with sysc := { d.sysc with base := some .standalone } })) (fun d =>
      (d.die (dieKey 3 5)).geomRead && (d.die (dieKey 3 5)).factoryBad == [1, 2] && (d.die (dieKey 3 5)).st == .idle) = true := by decide
set_option maxRecDepth 100000 in
theorem test_vtableResponse :
    runs (.vtableResponse 3 4 0 (List.replicate 64 (List.replicate 15 1))) (asked .up 8 [5] id) (fun d => (d.die (dieKey 3 5)).vectors.length == 64) = true
    ∧ readLevels false = 15 ∧ runs (.vtableResponse 3 4 0 []) (asked .up 8 [5] id) (fun d => (d.port 3).mgmt == []) = true := by decide
set_option maxRecDepth 100000 in
theorem test_releaseResponse :
    runs (.releaseResponse 3 4 0) (asked .up 5 [] (fun d => d.setPort 3 (fun p => { p with owner := 9, kSled := [1] }))) (fun d => (d.port 3).st == .unadopted && (d.port 3).owner == 0 && (d.port 3).kSled == []) = true := by decide
set_option maxRecDepth 100000 in
theorem test_dieStatusPoll :
    runs (.dieStatusPoll 0 0) (sledUp (fun y => { y with wait := .poll }) [] id) (fun d => (d.op 0).any (fun o => o.d.op == 0x40)) = true := by decide
set_option maxRecDepth 100000 in
theorem test_slotAttnSample :
    runs (.slotAttnSample 3 true) (portIn .up id id) (fun d => (d.port 3).lows == 1 && !(d.port 3).button) = true
    ∧ runs (.slotAttnSample 3 true) (portIn .up id (fun d => d.setPort 3 (fun p => { p with lows := 1 }))) (fun d => (d.port 3).button && bitOf (d.hdr (pSLK 3)).evtStat 12) = true := by decide
def present3 (st : PortState) (f : Dev → Dev) : State := portIn st id (fun d => f (d.setPort 3 (fun p => { p with prsnt := true })))
set_option maxRecDepth 100000 in
theorem test_sledRemoval :
    runs (.sledRemoval 3) (present3 .up (fun d => d.setPort 3 (fun p => { p with pwren := true }))) (fun d =>
      (d.port 3).st == .empty && !(d.port 3).pwren && !(d.port 3).prsnt && bitOf (d.hdr (pSLK 3)).evtStat 11) = true := by decide
set_option maxRecDepth 100000 in
theorem test_portRetrain :
    runs (.portRetrain 3 ⟨33, false⟩) (present3 .refused (fun d => d.setPort 3 (fun p => { p with authFails := 3 }))) (fun d => (d.port 3).st == .powering && (d.port 3).authFails == 0) = true
    ∧ runs (.portRetrain 3 ⟨33, false⟩) (present3 .hold id) (fun d => (d.port 3).st == .training) = true := by decide
set_option maxRecDepth 100000 in
theorem test_portQuiesce :
    runs (.portQuiesce 3 33) (portIn .up id id) (fun d => (d.port 3).st == .quiescing) = true
    ∧ runs (.portQuiesce 3 33) (portIn .up id (fun d => { d with zone := { d.zone with nss := [(1, ns1)] } })) (fun d => (d.port 3).st == .up && bitOf (d.hdr (pSLK 3)).evtStat 13) = true := by decide
set_option maxRecDepth 100000 in
theorem test_quiescedReceive :
    runs (.quiescedReceive 3) (portIn .quiescing id id) (fun d => (d.port 3).st == .off && d.rf (pSLK 3) 0x10C 0 2 == 1) = true := by decide
set_option maxRecDepth 100000 in
theorem test_quiesceTimeout : runs (.quiesceTimeout 3) (portIn .quiescing id id) (fun d => (d.port 3).st == .off && d.rf (pSLK 3) 0x10C 0 2 == 1) = true := by decide
set_option maxRecDepth 100000 in
theorem test_quiescedWaitExpiry :
    runs (.quiescedWaitExpiry 3) (portIn .off id (fun d => d.setPort 3 (fun p => { p with slotoffWait := true }))) (fun d => !(d.port 3).slotoffWait && d.rf (pSLK 3) 0x10C 0 2 == 1) = true := by decide
set_option maxRecDepth 100000 in
theorem test_slotoffReceive :
    runs (.slotoffReceive 2 7 3) (portIn .hold id (fun d => d.setPort 3 (fun p => { p with pwren := true }))) (fun d =>
      (d.port 3).st == .off && !(d.port 3).pwren && (d.lane 2).link.txq.map Pkt.tag == [7]) = true := by decide
set_option maxRecDepth 100000 in
theorem test_slotoffResponse :
    runs (.slotoffResponse 2 4 0) (stOf (fun d => d.setLane 2 (fun p => { p with mgmt := [{ op := 0x14, xid := 4, args := [3], data := [], again := false }] }))) (fun d =>
      d.rf (pSLK 3) 0x10C 0 2 == 1 && (d.lane 2).mgmt == []) = true := by decide
set_option maxRecDepth 100000 in
theorem test_portRestore : runs (.portRestore 3 33) (present3 .off id) (fun d => (d.port 3).st == .powering && (d.port 3).pwren) = true := by decide
set_option maxRecDepth 100000 in
theorem test_portEnableWrite :
    runs (.portEnableWrite 3 33 true) (present3 .off (fun d => d.setCell (pSLK 3) 0x100 0x30)) (fun d => (d.port 3).st == .powering && d.cell (pSLK 3) 0x100 == 0x31) = true
    ∧ runs (.portEnableWrite 3 33 false) (present3 .hold id) (fun d => (d.port 3).st == .off && d.cell (pSLK 3) 0x100 == 0x30) = true := by decide
set_option maxRecDepth 100000 in
theorem test_sledReleaseWrite :
    runs (.sledReleaseWrite 3 33) (portIn .up id (fun d => d.setHdr (pSLK 3) (fun h => { h with unlocked := true }))) (fun d =>
      (d.port 3).mgmt.map MgmtReq.op == [5] && d.cell (pSLK 3) 0x810 == 0x100) = true
    ∧ runs (.sledReleaseWrite 3 33) (portIn .up id (fun d => { d with zone := { d.zone with nss := [(1, ns1)] } }.setHdr (pSLK 3) (fun h => { h with unlocked := true }))) (fun d =>
        (d.port 3).mgmt == [] && bitOf (d.hdr (pSLK 3)).evtStat 13) = true := by decide
set_option maxRecDepth 100000 in
theorem test_programSettleTimeout :
    runs (.programSettleTimeout 3) (portIn .training id (fun d => { d with media := { d.media with unconfirmed := [(blkKey 3 0 0, { left := 0, good := true, wl := 1, use := .raw })] } })) (fun d =>
      d.media.unconfirmed == []) = true := by decide
set_option maxRecDepth 100000 in
theorem test_unlinked :
    runs (.completionReceive 0 9 0 0 0 ⟨0, 0, 16⟩) (bursts (opOf 1 (.sub 5)) (fun p => { p with st := .training })) (fun d => (d.port 0).stray == 0 && (d.op 9).any (fun o => o.phase == .sent)) = true
    ∧ (bursts (opOf 1 (.sub 5)) id).dev.holdsSuspended 0 = false := by decide
set_option maxRecDepth 100000 in
theorem test_slots_in_dormant :
    runs (.slotInsertion 3 [7]) (portIn .empty id (fun d => { d with sysc := { d.sysc with cur := .dormant } })) (fun d => (d.port 3).prsnt && (d.port 3).slotRec == [7] && (d.port 3).st == .empty) = true
    ∧ runs (.sledRemoval 3) (present3 .up (fun d => { d with sysc := { d.sysc with cur := .dormant } })) (fun d => (d.port 3).gone && !(d.port 3).prsnt && (d.port 3).st == .up) = true := by decide
set_option maxRecDepth 100000 in
theorem test_portRetrain_quiesces : runs (.portRetrain 3 ⟨33, true⟩) (portIn .up id id) (fun d => (d.port 3).st == .quiescing) = true := by decide

/-! ## Protection, rebuild and the pair -/

def foldJob : PJob := { kind := .fold 5, cls := 1, order := 0 }
def hostJob : PJob := { kind := .recon 9, cls := 0, order := 1 }
def engine (jobs : SMap PJob) (run : Option Nat) : State := stOf (fun d => { d with prty := { d.prty with jobs := jobs, running := run, nextJob := 2 } })
set_option maxRecDepth 100000 in
theorem test_prtyJobStart :
    runs .prtyJobStart (engine [(0, foldJob), (1, hostJob)] none) (fun d => d.prty.running == some 1) = true
    ∧ runs .prtyJobStart (engine [(0, foldJob), (1, hostJob)] (some 0)) (fun d => d.prty.running == some 1) = true
    ∧ runs .prtyJobStart (engine [(0, foldJob), (1, hostJob)] (some 1)) (fun d => d.prty.running == some 1) = true := by decide
/-- The fold of unit 1 of row 0 waits in area 5, for zone 0. -/
def folding : State := rowUp (fun d =>
  ({ d with prty := { d.prty with jobs := [(0, foldJob)], running := some 0, nextJob := 1 } }.setZn z1 (fun v => { v with st := .implicitlyOpened })).setArea 5 (fun a =>
    { a with st := .filling, zone := z1, fill := 64, unit := 1, queued := true, accRow := some 0, accN := 1 }))
set_option maxRecDepth 100000 in
theorem test_prtyJobEnd_applies : (folding.dev.area 5).queued = true ∧ (folding.dev.area 5).gen = (folding.dev.zn z1).gen
    ∧ ((folding.dev.zn z1).groupOf 0).isSome = true ∧ folding.dev.prty.running = some 0 ∧ folding.dev.prty.nextJob = 1
    ∧ gfPow 1 0x80 = 0x1D ∧ gfPow 3 1 = 8 := by decide
set_option maxRecDepth 100000 in
theorem test_slowWindowTick :
    runs .slowWindowTick (stOf (fun d => { d with prty := { d.prty with slow := [(2, [40])] } })) (fun d => hasBit d.prty.demoted 2 && !hasBit d.prty.demoted 3 && bitOf (d.hdr pPRTY).evtStat 3) = true
    ∧ runs .slowWindowTick (stOf (fun d => { d with prty := { d.prty with demoted := 4, calm := [(2, 59)] } })) (fun d => d.prty.demoted == 0 && bitOf (d.hdr pPRTY).evtStat 4) = true := by decide
def inMode (m : Mode) (f : Dev → Dev) : State := stOf (fun d => f { d with sysc := { d.sysc with cur := m, base := some .standalone, time := 1000000 } })
set_option maxRecDepth 100000 in
theorem test_replaceStart :
    runs (.replaceStart 6 33) (inMode .standalone id) (fun d =>
      d.sysc.cur == .service && d.sysc.ret == some .standalone && d.prty.replace == some { slot := 6, started := 1000000 }) = true
    ∧ runs (.replaceStart 6 33) (inMode .service id) (fun d => d.sysc.epochResult == 5 && d.prty.replace == none && bitOf (d.hdr pSYSC).evtStat 2) = true := by decide
set_option maxRecDepth 100000 in
theorem test_replaceWaitExpiry :
    runs .replaceWaitExpiry (inMode .service (fun d => { d with sysc := { d.sysc with ret := some .partitioned, service := some .replacement }, prty := { d.prty with replace := some { slot := 6, started := 0 } } })) (fun d =>
      d.sysc.cur == .partitioned && d.prty.replace == none && bitOf (d.hdr pPRTY).evtStat 5) = true := by decide
def rebuildOf (sled : Nat) : Rebuild :=
  { target := { sled := sled, kind := .replacement }, started := 0, total := 0, done := 0, lost := 0, left := 0, cur := none, busy := false, buf := [], gone := false }
set_option maxRecDepth 100000 in
theorem test_rebuildRow :
    runs .rebuildRow (rowUp (fun d => { d with prty := { d.prty with rebuild := some (rebuildOf 9) } }.setPort 9 (fun p => { p with st := .up }))) (fun d =>
      d.prty.rebuild == none && bitOf (d.hdr pPRTY).evtStat 1) = true := by decide
/-- Sled 2 is a rebuild target without a block of group 0, and block 7 of its die 0 is erased. -/
def lacking : State := rowUp (fun d =>
  ((({ d with prty := { d.prty with rebuild := some (rebuildOf 2) }, zone := { d.zone with nss := [(1, { ns1 with rebuild := [2] })] } }).setZn z1 (fun v =>
    { v with groups := [{ pos := 0, blocks := [(0, 3), (1, 3), (3, 3), (4, 3), (5, 3), (6, 3), (7, 3)], missing := [] }] })).setBlk (blkKey 2 0 7) (fun b => { b with st := .erased })))
set_option maxRecDepth 100000 in
theorem test_rebuildRow_takes :
    runs .rebuildRow lacking (fun d => (d.blk (blkKey 2 0 7)).st == .allocated && d.prty.rebuild.any (fun r => r.cur == some (z1, 0, 0, 768) && r.left == 768 && !r.busy)) = true := by decide

/-- A controller of a pair in state `p`, standby or not, lane 2 UP, at 10 ms. -/
def pairIn (p : PairState) (standby : Bool) (f : Dev → Dev) : State :=
  stOf (fun d => f ({ d with sysc := { d.sysc with time := 10000000, cur := if standby then .peerStandby else .standalone, base := some (if standby then .peerStandby else .standalone) }
                             peer := { d.peer with pair := p, standby := standby } }.setLane 2 (fun l => { l with st := .up })))
set_option maxRecDepth 100000 in
theorem test_heartbeatSend :
    runs .heartbeatSend (pairIn .mirrored false id) (fun d => (d.lane 2).link.txq == [ctlPkt 0x0A [1, 3, 0, 0, 1]] && (d.lane 1).link.txq == []) = true := by decide
set_option maxRecDepth 100000 in
theorem test_heartbeatReceive :
    runs (.heartbeatReceive 2 4 1 1 false 7) (pairIn .solo false id) (fun d => d.peer.pair == .resync && d.peer.lastHb == 10000000 && d.peer.peerMode == 4) = true
    ∧ runs (.heartbeatReceive 2 1 3 0 false 7) (pairIn .resync true id) (fun d => d.peer.pair == .mirrored && d.peer.wasMirrored && d.peer.peerBase == some .standalone) = true := by decide
set_option maxRecDepth 100000 in
theorem test_heartbeatTimeout :
    runs .heartbeatTimeout (pairIn .mirrored false id) (fun d => d.peer.pair == .solo && d.peer.peerMode == 7 && bitOf (d.hdr pPEER).evtStat 1) = true
    ∧ runs .heartbeatTimeout (pairIn .mirrored true (fun d => { d with peer := { d.peer with wasMirrored := true } })) (fun d => d.peer.pair == .solo && d.peer.checking && d.peer.lostAt == 10000000) = true := by decide
set_option maxRecDepth 100000 in
theorem test_holdoffReceive : runs (.holdoffReceive 2 250) (pairIn .mirrored true id) (fun d => d.peer.holdMs == 250) = true := by decide
set_option maxRecDepth 100000 in
theorem test_peerTimeSync :
    runs .peerTimeSync (pairIn .mirrored false id) (fun d => (d.lane 2).link.txq == [ctlPkt 3 [10000000], ctlPkt 2 [10000000]]) = true := by decide
set_option maxRecDepth 100000 in
theorem test_peerProbeReceive : runs (.peerProbeReceive 2 77) (pairIn .mirrored true id) (fun d => (d.lane 2).link.txq == [ctlPkt 4 [77]]) = true := by decide
set_option maxRecDepth 100000 in
theorem test_peerTimeReceive :
    runs (.peerTimeReceive 2 9999700) (pairIn .mirrored true id) (fun d => d.peer.timeOfs == 300 && bitOf (d.hdr pPEER).evtStat 7) = true
    ∧ runs (.peerTimeReceive 2 10000000) (pairIn .mirrored true id) (fun d => d.peer.timeOfs == 0 && d.rf pSYSC 0x808 16 16 == 0) = true := by decide
set_option maxRecDepth 100000 in
theorem test_mirrorReceive :
    runs (.mirrorReceive 2 0 5 4096 1 0 [7, 8]) (pairIn .mirrored true id) (fun d => d.byte (areaBase 5 + 4097) == 8 && d.peer.rxPsn == 1 && (d.lane 2).link.txq.map Pkt.tag == [0]) = true
    ∧ runs (.mirrorReceive 2 4294967295 5 4096 1 0 [7, 8]) (pairIn .mirrored true id) (fun d => d.mem == [] && d.peer.rxPsn == 0) = true := by decide
set_option maxRecDepth 100000 in
theorem test_rowevtReceive :
    runs (.rowevtReceive 2 0 5 0 0 0 9 0 1) (pairIn .mirrored true id) (fun d => (d.area 5).st == .filling && (d.area 5).gen == 9 && (d.zn z1).area == some 5) = true
    ∧ runs (.rowevtReceive 2 0 5 7 0 0 9 0 1) (pairIn .mirrored true (fun d => d.setArea 5 (fun a => { a with st := .draining }))) (fun d => (d.area 5).st == .free) = true := by decide
set_option maxRecDepth 100000 in
theorem test_journalReceive :
    runs (.journalReceive 2 0 [{ seq := 41, at_ := 0, body := .retire 0 0 3 1 5 }] none) (pairIn .mirrored true id) (fun d => d.valt.nextSeq == 42 && d.peer.rxPsn == 1) = true := by decide
set_option maxRecDepth 100000 in
theorem test_keysReceive :
    runs (.keysReceive 2 (some 0) false [1] []) (pairIn .mirrored true (fun d => d.setKslot 4 (fun k => { k with st := .loaded, nsid := 1 }))) (fun d => (d.kslot 4).st == .empty && d.peer.rxPsn == 1) = true := by decide
def psnPkt (n : Nat) : PsnPkt := { psn := n, pkt := statusPkt, sentAt := 0 }
set_option maxRecDepth 100000 in
theorem test_peerAckReceive :
    runs (.peerAckReceive 2 6) (pairIn .resync false (fun d => { d with peer := { d.peer with unacked := [psnPkt 5, psnPkt 6], resyncPsn := 6 } })) (fun d =>
      d.peer.unacked == [] && d.peer.txAcked == 2 && d.peer.pair == .mirrored) = true := by decide
set_option maxRecDepth 100000 in
theorem test_psnResend :
    runs (.psnResend 6) (pairIn .resync false (fun d => { d with peer := { d.peer with unacked := [psnPkt 5, psnPkt 6] } })) (fun d =>
      d.peer.resends == 1 && (d.lane 2).link.txq == [statusPkt]) = true := by decide
/-- The same with sled 3 adopted and UP. -/
def pairSled (standby : Bool) (f : Dev → Dev) : State :=
  pairIn .mirrored standby (fun d => f ({ d with media := { d.media with sleds := [(3, { adopted := true, valid := true, plc := false, ms5 := false })] } }.setPort 3 (fun p =>
    { p with st := .up, token := 256, mgmt := [{ op := 6, xid := 4, args := [0], data := [], again := false }] })))
set_option maxRecDepth 100000 in
theorem test_leaseRenew :
    runs .leaseRenew (pairSled false id) (fun d => (d.port 3).mgmt.map MgmtReq.args == [[0], [2]]) = true
    ∧ (pairSled false id).dev.active = true ∧ (pairSled false id).dev.holdsSled 3 = true := by decide
set_option maxRecDepth 100000 in
theorem test_fenceResponse :
    runs (.fenceResponse 3 4 0 257 900 true) (pairSled false id) (fun d => (d.port 3).token == 257 && d.peer.leases == [(3, 900)] && hasBit d.peer.fenceLost 3 && bitOf (d.hdr pPEER).evtStat 4) = true
    ∧ runs (.fenceResponse 3 4 0 256 900 true) (pairSled false id) (fun d => d.peer.fenceLost == 0) = true := by decide
set_option maxRecDepth 100000 in
theorem test_takeoverLeaseCheck :
    runs .takeoverLeaseCheck (pairSled true (fun d => { d with peer := { d.peer with checking := true, leases := [(3, 10000)], lostAt := 5000000 } })) (fun d =>
      d.peer.taking == some (.auto, 10000000) && d.peer.fencing == [3] && ((d.port 3).mgmt.map MgmtReq.args) == [[0], [1]]) = true
    ∧ runs .takeoverLeaseCheck (pairSled true (fun d => { d with peer := { d.peer with checking := true, leases := [(3, 700)], lostAt := 0 } })) (fun d =>
        d.peer.taking == none && !d.peer.checking && bitOf (d.hdr pPEER).evtStat 3) = true := by decide
set_option maxRecDepth 100000 in
theorem test_forceTakeover :
    runs (.forceTakeover 33) (pairSled true id) (fun d => d.peer.taking == some (.forced, 10000000)) = true
    ∧ runs (.forceTakeover 33) (pairSled false id) (fun d => d.peer.taking == none) = true := by decide
set_option maxRecDepth 100000 in
theorem test_handoverStart :
    runs (.handoverStart true 33) (pairIn .mirrored false id) (fun d => d.peer.handover == some .draining && d.sysc.cur == .service) = true
    ∧ runs (.handoverStart false 33) (pairIn .mirrored false id) (fun d => d.peer.handover == none && d.sysc.epochResult == 6 && bitOf (d.hdr pPEER).evtStat 6) = true := by decide
set_option maxRecDepth 100000 in
theorem test_handoverSend :
    runs .handoverSend (pairIn .mirrored false (fun d => { d with peer := { d.peer with handover := some .draining } })) (fun d =>
      d.peer.handover == some .sent && (d.lane 2).mgmt.map MgmtReq.op == [0x11]) = true := by decide
set_option maxRecDepth 100000 in
theorem test_handoverReceive :
    runs (.handoverReceive 2 8) (pairSled true id) (fun d => d.peer.taking == some (.planned, 10000000) && (d.lane 2).link.txq.map Pkt.tag == [8]) = true
    ∧ runs (.handoverReceive 2 8) (pairIn .mirrored false (fun d => { d with peer := { d.peer with handover := some .sent }, zone := { d.zone with nss := [(1, { ns1 with attached := [0] })] } }.setLane 2 (fun l =>
        { l with mgmt := [{ op := 0x11, xid := 8, args := [], data := [], again := false }] }))) (fun d =>
        d.peer.standby && d.sysc.cur == .peerStandby && (d.ns 1).any (fun n => n.attached == [])) = true := by decide
/-- The expert registers of CRYP are unlocked, and a pairing code is held. -/
def coded (p : PairState) (standby : Bool) (f : Dev → Dev) : State :=
  pairIn p standby (fun d => f ({ d with cryp := { d.cryp with pairCode := some ([], 0) } }.setHdr pCRYP (fun h => { h with unlocked := true })))
set_option maxRecDepth 100000 in
theorem test_pairGive : runs (.pairGive 33) (coded .unpaired false id) (fun d => d.cryp.give && !d.cryp.take && d.cryp.pairPhase == .exchanging && (d.lane 2).st == .training) = true := by decide
set_option maxRecDepth 100000 in
theorem test_pairTake :
    runs (.pairTake 33) (coded .unpaired false id) (fun d => d.cryp.take && !d.cryp.give) = true
    ∧ runs (.pairTake 33) (coded .unpaired false (fun d => { d with sysc := { d.sysc with cur := .service } })) (fun d => d.sysc.epochResult == 5 && !d.cryp.take) = true := by decide
set_option maxRecDepth 100000 in
theorem test_pairReceive :
    runs (.pairReceive 2 8 0x55 0 []) (coded .unpaired false id) (fun d => (d.lane 2).link.txq.map (fun p => (p.op, p.tag, p.args)) == [(0x12, 8, [2])]) = true := by decide
set_option maxRecDepth 100000 in
theorem test_pairResponse :
    runs (.pairResponse 2 8 2) (coded .unpaired false (fun d => d.setLane 2 (fun l => { l with mgmt := [{ op := 0x12, xid := 8, args := [], data := [], again := false }] }))) (fun d =>
      d.cryp.pairCode == none && d.cryp.pairResult == 2 && d.peer.pair == .unpaired && bitOf (d.hdr pCRYP).evtStat 2) = true := by decide
set_option maxRecDepth 100000 in
theorem test_unpair :
    runs (.unpair 33) (coded .solo true (fun d => { d with cryp := { d.cryp with pairId := 9 } })) (fun d =>
      d.cryp.pairId == 0 && d.sysc.base == none && d.peer.pair == .unpaired && (d.lane 2).st == .off) = true := by decide
set_option maxRecDepth 100000 in
theorem test_pairCodeExpiry :
    runs .pairCodeExpiry (coded .unpaired false (fun d => { d with cryp := { d.cryp with pairPhase := .exchanging } })) (fun d => d.cryp.pairCode == none && d.cryp.pairResult == 3 && bitOf (d.hdr pCRYP).evtStat 2) = true := by decide
set_option maxRecDepth 100000 in
theorem test_peerEnableWrite :
    runs (.peerEnableWrite false 33) (pairIn .solo false id) (fun d => d.peer.pair == .unpaired && (d.lane 2).st == .off && d.cell pPEER 0x100 == 0) = true
    ∧ runs (.peerEnableWrite true 33) (pairIn .unpaired false (fun d => d.setCell pPEER 0x100 0)) (fun d => (d.lane 0).st == .training && d.cell pPEER 0x100 == 1) = true := by decide
set_option maxRecDepth 100000 in
theorem test_prtyJobEnd_discarded :
    runs .prtyJobEnd (stOf (fun d => { d with prty := { d.prty with jobs := [(1, hostJob)], running := some 1, nextJob := 2 }, sched := { d.sched with recons := [(9, { waitingRecon with begun := true, dead := true })] } }))
      (fun d => d.prty.jobs == [] && d.cell pSCHD 0x1B4 == 1) = true := by decide
set_option maxRecDepth 100000 in
theorem test_refused_elsewhere :
    runs (.replaceStart 6 33) (inMode .peerStandby id) (fun d => d.sysc.epochResult == 6 && d.prty.replace == none && bitOf (d.hdr pSYSC).evtStat 2) = true
    ∧ runs (.forceTakeover 33) (pairSled false id) (fun d => d.sysc.epochResult == 6 && bitOf (d.hdr pSYSC).evtStat 2) = true
    ∧ runs (.handoverStart true 33) (pairIn .mirrored true id) (fun d => d.sysc.epochResult == 6 && d.peer.handover == none) = true := by decide

/-! ## Vault and journal -/

set_option maxRecDepth 100000 in
theorem test_pfailAccept :
    runs .pfailAccept (inMode .standalone (fun d => { d with host := { d.host with recovered := true } })) (fun d =>
      d.valt.st == .freeze && d.valt.byPfail && d.valt.accepted == 1000000 && d.host.stopped) = true
    ∧ runs .pfailAccept (inMode .recovery (fun d => { d with powr := { d.powr with phase := .running } })) (fun d => d.valt.st == .idle && d.valt.pfailLow) = true
    ∧ runs .pfailAccept (inMode .peerStandby (fun d => d.setLane 1 (fun l => { l with st := .up }))) (fun d => d.valt.st == .halt && (d.lane 1).st == .off) = true := by decide
/-- Five UP sleds of this controller with whole pools of one block. -/
def poolSleds (f : Dev → Dev) : State := stOf (fun d =>
  f (([0, 1, 2, 3, 4].foldl (fun x n => x.setPort n (fun p => { p with st := .up, link := { p.link with rate := 3 } }))
    ({ d with valt := { d.valt with st := .freeze, byPfail := true, anchor := { d.valt.anchor with pool := [0, 1, 2, 3, 4].map (fun n => (n, List.replicate 48 (n * 256 * 2048))) } } }))))
set_option maxRecDepth 100000 in
theorem test_vaultSet : (poolSleds id).dev.vaultBudget = ([0, 1, 2, 3, 4], 10172) := by decide
set_option maxRecDepth 100000 in
theorem test_vaultSnapshotDone_none :
    runs .vaultSnapshotDone (stOf (fun d => { d with valt := { d.valt with st := .freeze, byPfail := true } })) (fun d => d.valt.st == .halt && d.valt.last == 2) = true := by decide
def passing (st : VState) (rose : Bool) : State := stOf (fun d => { d with valt := { d.valt with st := st, byPfail := true, accepted := 0, rose := rose, pfailLow := true }, sysc := { d.sysc with time := 7000000 } })
set_option maxRecDepth 100000 in
theorem test_pfailNRise :
    runs .pfailNRise (passing .save false) (fun d => d.valt.rose && d.valt.roseMs == 7 && d.valt.st == .save) = true
    ∧ runs .pfailNRise (passing .save true) (fun d => d.valt.rose && d.valt.roseMs == 0) = true
    ∧ runs .pfailNRise (passing .halt false) (fun d => !d.valt.rose && !d.valt.pfailLow && d.valt.st == .halt) = true := by decide
set_option maxRecDepth 100000 in
theorem test_haltRelease_low : runs .haltRelease (passing .halt false) (fun d => d.valt.st == .halt) = true := by decide
set_option maxRecDepth 100000 in
theorem test_holdupOkChange :
    runs (.holdupOkChange true) (stOf id) (fun d => d.valt.stageOk && d.valt.holdup) = true
    ∧ runs (.holdupOkChange false) (stOf (fun d => { d with valt := { d.valt with holdup := true, stageOk := true } })) (fun d => !d.valt.stageOk && bitOf (d.hdr pVALT).evtStat 3) = true := by decide
def recAt (q : Nat) (b : JBody) : JRec := { seq := q, at_ := 0, body := b }
/-- The journal runs in an open triple on sleds 0 to 2. -/
def journaling (f : Dev → Dev) : State := stOf (fun d =>
  f { d with sysc := { d.sysc with cur := .standalone, base := some .standalone, time := 1000000 }, host := { d.host with recovered := true }, powr := { d.powr with phase := .running }
             valt := { d.valt with triples := [([7, 524288 + 7, 1048576 + 7], 0)], nextSeq := 3, ring := [recAt 1 (.ckptBegin 1), recAt 2 (.ckptBegin 2)] } })
set_option maxRecDepth 100000 in
theorem test_journaling : (journaling id).dev.journalRuns = true ∧ (journaling id).dev.ringRoom = true := by decide
set_option maxRecDepth 100000 in
theorem test_journalPageWrite :
    runs (.journalPageWrite []) (journaling id) (fun d => d.valt.ring == [] && d.valt.pages == 1 && (d.blk 7).confirmed == 1 && (d.blk 8).confirmed == 0
      && d.valt.flash.any (fun p => (p.recs.map (fun r => r.body.len)).sum == 4096)) = true
    ∧ runs (.journalPageWrite []) (journaling (fun d => { d with sysc := { d.sysc with time := 999999 } })) (fun d => d.valt.pages == 0 && d.valt.ring.length == 2) = true := by decide
set_option maxRecDepth 100000 in
theorem test_checkpointStart :
    runs (.checkpointStart none) (journaling (fun d => { d with valt := { d.valt with pages := 65536 } })) (fun d =>
      d.valt.ring.getLast? == some (JRec.mk 3 1000000 (.ckptBegin 1)) && d.valt.ckptOn == some (3, 1000000, 65536)) = true
    ∧ runs (.checkpointStart none) (journaling (fun d => { d with valt := { d.valt with pages := 65535 } })) (fun d => d.valt.ckptOn == none) = true := by decide
set_option maxRecDepth 100000 in
theorem test_checkpointStart_write :
    runs (.checkpointStart (some 33)) (journaling (fun d => d.setHdr pVALT (fun h => { h with unlocked := true }))) (fun d => d.valt.ckptOn == some (3, 1000000, 0)) = true := by decide
set_option maxRecDepth 100000 in
theorem test_checkpointEnd_waits :
    runs .checkpointEnd (journaling (fun d => { d with valt := { d.valt with ckptOn := some (2, 0, 0), ckptNew := some { num := 1, begin_ := 2, nss := [], zones := [], blocks := [], retired := [] } } })) (fun d =>
      d.valt.ckpt == none && d.valt.ring.length == 2) = true := by decide
set_option maxRecDepth 100000 in
theorem test_checkpointEnd :
    runs .checkpointEnd (journaling (fun d => { d with fsto := { d.fsto with pfail := true }, valt := { d.valt with ring := [], pages := 9, ckptOn := some (2, 0, 4), ckptNew := some { num := 1, begin_ := 2, nss := [], zones := [], blocks := [], retired := [] } } })) (fun d =>
      (d.valt.ckpt.map Ckpt.num) == some 1 && d.valt.pages == 0 && d.valt.ring.map JRec.body == [.ckptEnd 1 2 5] && bitOf (d.hdr pVALT).evtStat 8) = true := by decide
set_option maxRecDepth 100000 in
theorem test_jseqLoRead :
    runs (.jseqLoRead 33) (stOf (fun d => { d with valt := { d.valt with nextSeq := 3 * 4294967296 + 5 } })) (fun d => d.out == [.word 5 false] && d.valt.hiLatch.get 0 33 == 3) = true := by decide
set_option maxRecDepth 100000 in
theorem test_loadPeakRead :
    runs (.loadPeakRead 33) (stOf (fun d => { d with valt := { d.valt with peak := 2000 } })) (fun d => d.out == [.word 2000 false] && d.valt.peak == 1024) = true := by decide
set_option maxRecDepth 100000 in
theorem test_pfailAccept_dormant :
    runs .pfailAccept (inMode .dormant id) (fun d => d.valt.pfailLow && d.fsto.pfail && d.valt.st == .idle && d.fsto.held.length == 1) = true := by decide
set_option maxRecDepth 100000 in
theorem test_journalPage_descriptors :
    runs (.journalPageWrite []) (journaling id) (fun d => d.cell pMEDI 0x1B8 == 3 && d.cell pMEDI 0x1BC == 3) = true := by decide
/-- The same sleds, each with a die that has answered: the pools hold a block for every row of an image (`Dev.poolReady`). -/
def poolDies : Dev := (poolSleds (fun d => [0, 1, 2, 3, 4].foldl (fun x n => x.setDie (dieKey n 0) (fun y => { y with geomRead := true }))
  { d with media := { d.media with sleds := (List.range 5).map (fun i => (i, { adopted := true, valid := true, plc := false, ms5 := false })) } })).dev
def poolBlocks (d : Dev) (n : Nat) : Bool :=
  (d.valt.anchor.pool.get [] n).all (fun b => d.diePresent (b / 2048) && !(d.die (b / 2048)).retired)
set_option maxRecDepth 100000 in
theorem pool_ready (d : Dev) (h : d.vaultBudget.1.all (fun n => !(d.valt.anchor.pool.get [] n).isEmpty && poolBlocks d n) = true) : d.poolReady := by
  intro n k hn _
  have hn' := List.all_eq_true.mp h n hn
  simp only [Bool.and_eq_true, poolBlocks, List.all_eq_true, Bool.not_eq_true', List.isEmpty_eq_false_iff] at hn'
  have hlt : k % (d.valt.anchor.pool.get [] n).length < (d.valt.anchor.pool.get [] n).length :=
    Nat.mod_lt _ (List.length_pos_iff.mpr hn'.1)
  have hb := hn'.2 _ (List.getElem_mem hlt)
  refine ⟨_, k / (d.valt.anchor.pool.get [] n).length, ?_, hb.1, hb.2⟩
  simp [Dev.vaultPlace, List.getElem?_eq_getElem hlt]
set_option maxRecDepth 100000 in
theorem test_poolReady : poolDies.poolReady ∧ poolDies.vaultBudget.1.length = 5 := ⟨pool_ready _ (by decide), by decide⟩

/-! ## Host interface -/

/-- The PF of port A is ready, with admin queues and the pair 1 of eight entries. -/
def pf0 : Fn := { Fn.reset with present := true, en := true, rdy := true, allot := 191, sqs := [(0, Sq.mk 0 8 0 0 none), (1, Sq.mk 1 8 0 1 none)],
                                cqs := [(0, Cq.mk 8 0 0 true 0 true 0 0), (1, Cq.mk 8 0 0 true 5 true 0 0)] }
def hostUp (f : Fn → Fn) (g : Dev → Dev) : State := stOf (fun d =>
  g { d with sysc := { d.sysc with cur := .standalone, base := some .standalone, time := 1000000 }
             host := { d.host with recovered := true, ports := [(0, { HPort.reset with lstate := 2, gen := 5, width := 16, fns := [(0, f pf0)] })] }
             powr := { d.powr with phase := .running } })
def sqeOf (cmd : NvCmd) : Sqe := { cid := 7, nsid := 1, ptr := .prp true, psdt := false, badAt := none, cmd := cmd }
set_option maxRecDepth 100000 in
theorem test_sqTailDoorbell :
    runs (.sqTailDoorbell 0 0 1 3 none) (hostUp (fun f => { f with ps := 3, lastPs := 1 }) id) (fun d => (((d.fn 0 0).sqs.find 1).map Sq.tail) == some 3 && (d.fn 0 0).ps == 1) = true
    ∧ runs (.sqTailDoorbell 0 0 1 8 none) (hostUp id id) (fun d => (((d.fn 0 0).sqs.find 1).map Sq.tail) == some 1) = true := by decide
set_option maxRecDepth 100000 in
theorem test_cqHeadDoorbell :
    runs (.cqHeadDoorbell 0 0 1 2) (hostUp id id) (fun d => (((d.fn 0 0).cqs.find 1).map Cq.head) == some 2) = true := by decide
set_option maxRecDepth 100000 in
theorem test_commandFetch :
    runs (.commandFetch 0 0 1 (sqeOf .flush)) (hostUp id (fun d => { d with zone := { d.zone with nss := [(1, { ns1 with attached := [0] })] } })) (fun d =>
      (d.ctx 0).any (fun x => x.st == .executing && x.sq == 1 && x.e.cid == 7 && !x.begun) && d.cell (pHOST 0) 0x12C == 1 && (((d.fn 0 0).sqs.find 1).map Sq.head) == some 1) = true
    ∧ runs (.commandFetch 0 0 1 (sqeOf .flush)) (hostUp id id) (fun d => (d.ctx 0).any (fun x => x.st == .committed && x.status == 0x00B)) = true
    ∧ runs (.commandFetch 0 0 1 (sqeOf .flush)) (hostUp id (fun d => { d with host := { d.host with stopped := true } })) (fun d => d.ctx 0 == none) = true := by decide
def heldCtx (cmd : NvCmd) (st : CtxState) : Ctx := { ctxOf cmd with st := st, sq := 1 }
def withCtx (x : Ctx) (f : Fn → Fn) : State := hostUp f (fun d => { d with host := { d.host with ctxs := [(3, x)] } })
set_option maxRecDepth 100000 in
theorem test_cqEntryPost :
    runs (.cqEntryPost 3) (withCtx { heldCtx .flush .committed with status := 0 } id) (fun d =>
      d.out == [.cqe 0 0 1 1 (heldCtx .flush .committed).e.cid 0 false true 0, .msix 0 0 5] && d.ctx 3 == none && d.cell (pHOST 0) 0x130 == 1) = true
    ∧ runs (.cqEntryPost 3) (withCtx (heldCtx .flush .committed) (fun f => { f with cqs := [(1, Cq.mk 8 1 0 true 5 true 0 0)] })) (fun d =>
      d.out == [] && (d.ctx 3).any (fun x => x.stalled) && d.cell (pHOST 0) 0x158 == 1) = true
    ∧ runs (.cqEntryPost 3) (withCtx (heldCtx .flush .executing) id) (fun d => d.out == [] && (d.ctx 3).isSome) = true := by decide
set_option maxRecDepth 100000 in
theorem test_msixUnmask :
    runs (.msixUnmask 0 0 (some 5)) (hostUp (fun f => { f with masked := [5, 6], pba := [6, 5] }) id) (fun d => d.out == [.msix 0 0 5] && (d.fn 0 0).pba == [6]) = true
    ∧ runs (.msixUnmask 0 0 none) (hostUp (fun f => { f with msiMask := true, masked := [6], pba := [6, 9] }) id) (fun d => d.out == [.msix 0 0 9] && (d.fn 0 0).pba == [6]) = true := by decide
set_option maxRecDepth 100000 in
theorem test_interruptCoalescingTimeout :
    runs (.interruptCoalescingTimeout 0 0 1) (hostUp (fun f => { f with cqs := [(1, Cq.mk 8 0 2 true 5 true 2 0)] }) id) (fun d => d.out == [.msix 0 0 5]) = true
    ∧ runs (.interruptCoalescingTimeout 0 0 1) (hostUp id id) (fun d => d.out == []) = true := by decide
set_option maxRecDepth 100000 in
theorem test_atsInvalidateRequest :
    runs (.atsInvalidateRequest 0 0 9 [1, 2]) (hostUp (fun f => { f with atc := [(9, 1), (8, 1), (9, 3)] }) id) (fun d => (d.fn 0 0).atc == [(8, 1), (9, 3)] && d.out == [.invalidated 0 0]) = true := by decide
def readCtx : Ctx := { heldCtx (.read 0 1 noPr) .executing with begun := true, dmaDone := false, left := 0, data := List.replicate 4096 9, e := sqeOf (.read 0 1 noPr) }
def withNs (x : Ctx) : State := hostUp id (fun d => { d with zone := { d.zone with nss := [(1, ns1)] }, host := { d.host with ctxs := [(3, x)] } })
set_option maxRecDepth 100000 in
theorem test_hostDmaComplete_read :
    runs (.hostDmaComplete 3 [] []) (withNs readCtx) (fun d => d.out == [.hostData 0 0 none (List.replicate 4096 9)] && (d.ctx 3).any (fun x => x.st == .committed && x.status == 0)) = true := by decide
set_option maxRecDepth 100000 in
theorem test_hostDmaComplete_write :
    runs (.hostDmaComplete 3 (List.replicate 4096 6) []) (withNs { readCtx with e := sqeOf (.write 0 1 noPr), data := [] }) (fun d =>
      (d.ctx 3).any (fun x => x.dmaDone && x.data.length == 4096 && x.st == .executing)) = true
    ∧ runs (.hostDmaComplete 3 [6] []) (withNs { readCtx with e := sqeOf (.write 0 1 noPr), data := [] }) (fun d => (d.ctx 3).any (fun x => !x.dmaDone)) = true := by decide
set_option maxRecDepth 100000 in
theorem test_dmaError :
    runs (.dmaError 3 2 0x500000001) (withNs readCtx) (fun d =>
      (d.ctx 3).any (fun x => x.st == .committed && x.status == 4 && !x.dnr) && d.cell (pHOST 0) 0x14C == 1 && d.cell (pHOST 0) 0x150 == 5 && d.cell (pHOST 0) 0x154 == 0x20000000
        && bitOf (d.hdr (pHOST 0)).evtStat 4) = true := by decide
set_option maxRecDepth 100000 in
theorem test_dmaErrInfoRead :
    runs (.dmaErrInfoRead 0 33) (hostUp id (fun d => (d.setCell (pHOST 0) 0x154 0x20000000).setHport 0 (fun h => { h with dmaArmed := false }))) (fun d =>
      d.out == [.word 0x20000000 false] && d.cell (pHOST 0) 0x154 == 0 && (d.hport 0).dmaArmed) = true := by decide
set_option maxRecDepth 100000 in
theorem test_pcieLinkUp :
    runs (.pcieLinkUp 0 5 16) (hostUp id (fun d => d.setHport 0 (fun h => { h with lstate := 1 }))) (fun d => (d.hport 0).lstate == 2 && (d.hport 0).width == 16 && bitOf (d.hdr (pHOST 0)).evtStat 0) = true
    ∧ runs (.pcieLinkUp 0 5 3) (hostUp id (fun d => d.setHport 0 (fun h => { h with lstate := 1 }))) (fun d => (d.hport 0).lstate == 1) = true := by decide
set_option maxRecDepth 100000 in
theorem test_portDown :
    runs (.pcieLinkDown 0) (withNs readCtx) (fun d => (d.hport 0).lstate == 0 && d.host.ctxs == [] && d.cell (pHOST 0) 0x134 == 1 && bitOf (d.hdr (pHOST 0)).evtStat 1) = true
    ∧ runs (.perstNAssert 0) (withNs readCtx) (fun d => (d.hport 0).perst && d.host.ctxs == [] && !(d.fn 0 0).en) = true
    ∧ runs (.perstNRelease 0) (hostUp id (fun d => d.setHport 0 (fun h => { h with perst := true, lstate := 0 }))) (fun d => !(d.hport 0).perst && (d.hport 0).lstate == 1) = true := by decide
set_option maxRecDepth 100000 in
theorem test_pcieLinkRetrain :
    runs (.pcieLinkRetrain 0 3 33) (hostUp id id) (fun d => d.cell (pHOST 0) 0x108 == 3 && (d.hport 0).lstate == 1) = true
    ∧ runs (.pcieLinkRetrain 0 6 33) (hostUp id id) (fun d => d.cell (pHOST 0) 0x108 == 5 && bitOf (d.hdr (pHOST 0)).evtStat 31) = true := by decide
/-- A due admin command in context 3 of the PF. -/
def adm (cmd : NvCmd) (f : Fn → Fn) (g : Dev → Dev) : State :=
  hostUp f (fun d => g { d with host := { d.host with ctxs := [(3, { ctxOf cmd with sq := 0, e := sqeOf cmd })] } })
def endsWith (st dw : Nat) (d : Dev) : Bool := (d.ctx 3).any (fun x => x.st == .committed && x.status == st && x.dw0 == dw)
set_option maxRecDepth 100000 in
theorem test_createIoSq :
    runs (.createIoSq 3) (adm (.createSq 2 64 1 true) id id) (fun d => endsWith 0 0 d && ((d.fn 0 0).sqs.find 2).isSome) = true
    ∧ runs (.createIoSq 3) (adm (.createSq 1 64 1 true) id id) (endsWith 0x101 0) = true
    ∧ runs (.createIoSq 3) (adm (.createSq 2 64 9 true) id id) (endsWith 0x100 0) = true := by decide
set_option maxRecDepth 100000 in
theorem test_createIoCq :
    runs (.createIoCq 3) (adm (.createCq 2 64 9 true true) id id) (fun d => endsWith 0 0 d && ((d.fn 0 0).cqs.find 2).any (fun q => q.vec == 9 && q.phase)) = true
    ∧ runs (.createIoCq 3) (adm (.createCq 2 1 9 true true) id id) (endsWith 0x102 0) = true := by decide
set_option maxRecDepth 100000 in
theorem test_deleteIoSq_empty :
    runs (.deleteIoSq 3) (adm (.deleteSq 1) id id) (fun d => endsWith 0 0 d && (d.fn 0 0).sqs.find 1 == none && bitOf (d.hdr (pHOST 0)).evtStat 3) = true
    ∧ runs (.deleteIoSq 3) (adm (.deleteSq 5) id id) (endsWith 0x101 0) = true := by decide
set_option maxRecDepth 100000 in
/-- The worked example of R326 in small: one entry stands, one is aborted. -/
theorem test_deleteIoSq_busy :
    runs (.deleteIoSq 3) (adm (.deleteSq 1) id (fun d => { d with host := { d.host with ctxs := d.host.ctxs ++ [(4, { heldCtx .flush .committed with status := 0x80 }), (5, heldCtx .flush .executing)] } })) (fun d =>
      (d.ctx 4).any (fun x => x.status == 0x80 && x.marked) && (d.ctx 5).any (fun x => x.st == .committed && x.status == 8 && !x.dnr)
        && d.cell (pHOST 0) 0x138 == 1 && d.cell (pHOST 0) 0x13C == 1 && (d.ctx 3).any (fun x => x.st == .executing)) = true := by decide
set_option maxRecDepth 100000 in
theorem test_deleteIoCq :
    runs (.deleteIoCq 3) (adm (.deleteCq 1) id id) (endsWith 0x10C 0) = true
    ∧ runs (.deleteIoCq 3) (adm (.deleteCq 1) (fun f => { f with sqs := [] }) id) (fun d => endsWith 0 0 d && (d.fn 0 0).cqs.find 1 == none) = true := by decide
set_option maxRecDepth 100000 in
theorem test_identify :
    runs (.identify 3) (adm (.identify 6 0 2) id id) (fun d => d.out == [.report 0 0 (.fields [("ZASL", 9)])] && endsWith 0 0 d) = true
    ∧ runs (.identify 3) (adm (.identify 4 0 0) id id) (endsWith 2 0) = true
    ∧ runs (.identify 3) (adm (.identify 1 0 0) id id) (fun d => d.out.any (fun o => match o with | .report _ _ (.fields l) => l.contains ("MDTS", 9) && l.contains ("CNTLID", 1) | _ => false)) = true := by decide
set_option maxRecDepth 100000 in
theorem test_getLogPage :
    runs (.getLogPage 3) (adm (.getLog 4 false 0 4096) (fun f => { f with changedNs := [1] }) id) (fun d => d.out == [.report 0 0 (.list [1])] && (d.fn 0 0).changedNs == []) = true
    ∧ runs (.getLogPage 3) (adm (.getLog 6 false 0 4096) id id) (endsWith 0x109 0) = true := by decide
set_option maxRecDepth 100000 in
theorem test_setFeatures :
    runs (.setFeatures 3) (adm (.setFeatures (.power 2)) id id) (fun d => (d.fn 0 0).ps == 2 && endsWith 0 0 d) = true
    ∧ runs (.setFeatures 3) (adm (.setFeatures (.queues 3 3)) id id) (endsWith 0 0xBE00BE) = true
    ∧ runs (.setFeatures 3) (adm (.setFeatures (.other 6)) id id) (endsWith 2 0) = true := by decide
set_option maxRecDepth 100000 in
theorem test_getFeatures :
    runs (.getFeatures 3) (adm (.getFeatures 2) (fun f => { f with ps := 2 }) id) (endsWith 0 2) = true
    ∧ runs (.getFeatures 3) (adm (.getFeatures 6) id id) (endsWith 2 0) = true := by decide
set_option maxRecDepth 100000 in
theorem test_asyncEventRequest :
    runs (.asyncEventRequest 3) (adm .asyncEvent (fun f => { f with aens := [aenZone] }) id) (fun d => endsWith 0 0xBFEF02 d && (d.fn 0 0).aens == []) = true
    ∧ runs (.asyncEventRequest 3) (adm .asyncEvent id id) (fun d => (d.ctx 3).any (fun x => x.st == .executing && x.begun)) = true := by decide
set_option maxRecDepth 100000 in
theorem test_abort : runs (.abort 3) (adm (.abort 1 7) id id) (fun d => endsWith 0 1 d && d.cell (pHOST 0) 0x140 == 1) = true := by decide
set_option maxRecDepth 100000 in
theorem test_nsRefused :
    runs (.namespaceDelete 3) (adm .nsDelete id (fun d => { d with sysc := { d.sysc with cur := .service } })) (fun d => endsWith 0x00C 0 d && d.sysc.epochResult == 5) = true := by decide
def nsPar : NsParams := { nsid := 0, d := 6, members := [0, 1, 2, 3, 4, 5, 6, 7], plc := false, groups := 1, lbaf := 0, pi := 0, zones := 1 }
set_option maxRecDepth 100000 in
theorem test_namespaceCreate_full :
    runs (.namespaceCreate 3) (adm (.nsCreate nsPar) id (fun d => { d with media := { d.media with sleds := (List.range 8).map (fun n => (n, { SledMedia.reset with adopted := true, valid := true })) } })) (endsWith 0x115 0) = true
    ∧ runs (.namespaceCreate 3) (adm (.nsCreate { nsPar with d := 7 }) id id) (endsWith 2 0) = true := by decide
set_option maxRecDepth 100000 in
theorem test_namespaceDelete :
    runs (.namespaceDelete 3) (adm .nsDelete id (fun d => { d with zone := { d.zone with nss := [(1, { ns1 with slot := 2 })] } }.setKslot 2 (fun k => { k with st := .loaded, nsid := 1 }))) (fun d =>
      d.ns 1 == none && endsWith 0 0 d && d.kslot 2 == KeySlot.reset) = true := by decide
set_option maxRecDepth 100000 in
theorem test_namespaceAttachment :
    runs (.namespaceAttachment 3) (adm (.nsAttach true [1]) id (fun d => { d with zone := { d.zone with nss := [(1, ns1)] } })) (fun d => (d.ns 1).any (fun n => n.attached == [0]) && endsWith 0 0 d) = true
    ∧ runs (.namespaceAttachment 3) (adm (.nsAttach false [1]) id (fun d => { d with zone := { d.zone with nss := [(1, ns1)] } })) (endsWith 0x11A 0) = true := by decide
set_option maxRecDepth 100000 in
theorem test_virtualizationManagement : runs (.virtualizationManagement 3) (adm (.virtMgmt 9 0x101 1) id id) (endsWith 0 0) = true := by decide
set_option maxRecDepth 100000 in
theorem test_sanitize :
    runs (.sanitize 3) (adm (.sanitize 4) id (fun d => { d with host := { d.host with ctxs := d.host.ctxs ++ [(5, heldCtx .flush .executing)] }, fsto := { d.fsto with pfail := true } })) (fun d =>
      d.cryp.san.any (fun s => s.phase == .draining && s.started == 1000000) && endsWith 0 0 d) = true
    ∧ runs (.sanitize 3) (adm (.sanitize 2) id id) (endsWith 2 0) = true := by decide
set_option maxRecDepth 100000 in
theorem test_layoutChange :
    runs (.layoutChange 0xF 33) (inMode .standalone (fun d => { d with fsto := { d.fsto with pfail := true } })) (fun d => d.zone.usable == some [0, 1, 2, 3] && d.sysc.cur == .standalone) = true
    ∧ runs (.layoutChange 0xF 33) (inMode .service id) (fun d => d.zone.usable == none && d.sysc.epochResult == 5) = true := by decide
set_option maxRecDepth 100000 in
theorem test_firmwareImageDownload_refused : runs (.firmwareImageDownload 3) (adm (.fwDownload 2 [1, 2, 3, 4]) id id) (endsWith 2 0) = true := by decide
set_option maxRecDepth 100000 in
theorem test_firmwareCommit :
    runs (.firmwareCommit 3) (adm (.fwCommit 2 1) id id) (endsWith 0 0) = true
    ∧ runs (.firmwareCommit 3) (adm (.fwCommit 1 1) id id) (endsWith 0x106 0) = true := by decide
def activating (p : ActPhase) : State := adm (.fwCommit 3 0) (fun f => { f with pp := true }) (fun d =>
  { d with host := { d.host with act := p, actCtx := 3, actSlot := 2 }, sysc := { d.sysc with cur := .service, ret := some .standalone, service := some .activation }, fsto := { d.fsto with pfail := true } })
set_option maxRecDepth 100000 in
theorem test_activationDrainTimeout :
    runs .activationDrainTimeout (activating .draining) (fun d => endsWith 0x112 0 d && d.host.act == .idle && !(d.fn 0 0).pp && d.sysc.cur == .standalone && bitOf (d.hdr (pHOST 0)).evtStat 6) = true := by decide
set_option maxRecDepth 100000 in
theorem test_activationResume :
    runs .activationResume (activating .swapping) (fun d => endsWith 0 0 d && d.host.act == .idle && !(d.fn 0 0).pp && d.sysc.cur == .standalone && bitOf (d.hdr (pHOST 0)).evtStat 5) = true := by decide
set_option maxRecDepth 100000 in
theorem test_controllerDisable :
    runs (.controllerDisable 0 0) (withNs readCtx) (fun d => !(d.fn 0 0).en && (d.fn 0 0).sqs == [] && d.host.ctxs == [] && bitOf (d.hdr (pHOST 0)).evtStat 2) = true
    ∧ runs (.functionLevelReset 0 0) (withNs readCtx) (fun d => !(d.fn 0 0).en && d.host.ctxs == []) = true
    ∧ runs (.controllerDisable 0 0) (activating .swapping) (fun d => (d.fn 0 0).later == 1 && (d.fn 0 0).en) = true := by decide
set_option maxRecDepth 100000 in
theorem test_controllerEnable :
    runs (.controllerEnable 0 0 6 4 32 32) (hostUp (fun _ => Fn.reset) id) (fun d => (d.fn 0 0).en && (d.fn 0 0).rdy && (d.fn 0 0).allot == 16383) = true
    ∧ runs (.controllerEnable 0 0 5 4 32 32) (hostUp (fun _ => Fn.reset) id) (fun d => (d.fn 0 0).cfs && !(d.fn 0 0).rdy) = true := by decide
set_option maxRecDepth 100000 in
theorem test_vfReady :
    runs (.vfReady 0 1) (hostUp id (fun d => { d with sysc := { d.sysc with cur := .partitioned, base := some .partitioned } }.setFn 0 1 (fun f => { f with present := true, en := true }))) (fun d =>
      (d.fn 0 1).rdy && (d.fn 0 1).allot == 191) = true
    ∧ runs (.vfReady 0 1) (hostUp id (fun d => d.setFn 0 1 (fun f => { f with present := true, en := true }))) (fun d => !(d.fn 0 1).rdy) = true := by decide
set_option maxRecDepth 100000 in
theorem test_shutdownRequest :
    runs (.shutdownRequest 0 0) (hostUp id id) (fun d => (d.fn 0 0).shst == 2 && (d.fn 0 0).stopping) = true
    ∧ runs (.shutdownRequest 0 0) (withNs readCtx) (fun d => (d.fn 0 0).shst == 1) = true := by decide
def apstFn : Fn → Fn := fun f => { f with feats := [.apst true [(100, 4), (0, 0)]], sqs := [] }
set_option maxRecDepth 100000 in
theorem test_apstTransition :
    runs (.apstTransition 0 0) (hostUp apstFn id) (fun d => (d.fn 0 0).ps == 4) = true
    ∧ runs (.apstTransition 0 0) (hostUp apstFn (fun d => { d with peer := { d.peer with pair := .solo } })) (fun d => (d.fn 0 0).ps == 3) = true
    ∧ runs (.apstTransition 0 0) (hostUp id id) (fun d => (d.fn 0 0).ps == 0) = true := by decide
set_option maxRecDepth 100000 in
theorem test_configurationWrite :
    runs (.configurationWrite 0 (.vfEnable 3)) (hostUp id id) (fun d => (d.fn 0 3).present && !(d.fn 0 4).present) = true
    ∧ runs (.configurationWrite 0 (.maskVec 0 7)) (hostUp id id) (fun d => (d.fn 0 0).masked == [7]) = true
    ∧ runs (.configurationWrite 0 (.linkState 7)) (hostUp id id) (fun d => (d.hport 0).lstate == 7) = true := by decide
set_option maxRecDepth 100000 in
theorem test_firmwareImageDownload :
    runs (.firmwareImageDownload 3) (adm (.fwDownload 4 [1, 2, 3, 4]) id id) (fun d => endsWith 0 0 d && d.norBytes (0x1000000 + 4) 4 == [1, 2, 3, 4] && d.fsto.dlErased == [0]) = true := by decide
set_option maxRecDepth 100000 in
theorem test_activationWithoutReset_unverified : runs (.activationWithoutReset 3) (adm (.fwCommit 3 0) id id) (endsWith 0x107 0) = true := by decide
set_option maxRecDepth 100000 in
theorem test_activationSwap :
    runs .activationSwap (activating .draining) (fun d => d.host.act == .swapping && d.fsto.bank == 1 && d.fsto.watchdog) = true := by decide
set_option maxRecDepth 100000 in
theorem test_namespaceAttachment_rebuilding :
    runs (.namespaceAttachment 3) (adm (.nsAttach true [1]) id (fun d => { d with zone := { d.zone with nss := [(1, { ns1 with rebuild := [2] })] } })) (fun d =>
      d.sysc.epochResult == 4 && (d.ns 1).any (fun n => n.attached == [])) = true
    ∧ runs (.layoutChange 0xF 33) (inMode .peerStandby id) (fun d => d.zone.usable == none && d.sysc.epochResult == 6) = true := by decide

/-! ## Tenancy -/

def tenBase : Slice := { Slice.reset with exists_ := true, resCtx := 1024, resArea := 128 }
/-- PARTITIONED, VF 1 enabled; slice 5 of partition 0 may exist. -/
def tenUp (five : Slice) (f : Dev → Dev) : State := stOf (fun d =>
  f ({ d with sysc := { d.sysc with cur := .partitioned, base := some .partitioned, time := 1000000 }
              ten := { d.ten with active := true, slices := [(0, tenBase), (5, five)], parts := [(0, { Partition.reset with avail := 799, spent := 1 })] } }.setFn 0 1 (fun g =>
                { g with present := true, en := true, binds := [(3, { index := 5, held := false })] })))
def five : Slice := { Slice.reset with exists_ := true, gen := 7, pasid := 0x3A41, resCtx := 96, resArea := 8, version := some 0x12 }
set_option maxRecDepth 100000 in
theorem test_tenancyEnable :
    runs (.tenancyEnable 0 33) (inMode .service id) (fun d => d.sysc.epochResult == 5 && !d.ten.active) = true
    ∧ runs (.tenancyEnable 0 33) (inMode .standalone (fun d => { d with fsto := { d.fsto with pfail := true } })) (fun d =>
      d.sysc.cur == .partitioned && (d.part 63).avail == 800 && (d.slice 64).resCtx == 1024 && !(d.slice 65).exists_ && bitOf (d.hdr pPART).evtStat 0) = true := by decide
set_option maxRecDepth 100000 in
theorem test_tenancyDisable :
    runs (.tenancyDisable 33) (tenUp five id) (fun d => d.sysc.epochResult == 6 && d.ten.active) = true
    ∧ runs (.tenancyDisable 33) (tenUp Slice.reset (fun d => { d.setFn 0 1 (fun g => { g with present := false }) with fsto := { d.fsto with pfail := true } })) (fun d =>
      d.sysc.cur == .standalone && !d.ten.active && !(d.slice 0).exists_) = true := by decide
def asks5 (q : Word) (x : Dev) : Dev := (x.setCell 256 0x1A8 0x3A41).setCell 256 0x1AC q
set_option maxRecDepth 100000 in
theorem test_sliceCreate :
    runs (.sliceCreate 5 33) (tenUp Slice.reset (asks5 0x00600008)) (fun d => (d.slice 5).exists_ && (d.slice 5).gen == 1 && (d.slice 5).pasid == 0x3A41 && (d.slice 5).resCtx == 96 && (d.slice 0).resCtx == 928
      && (d.slice 0).resArea == 120) = true
    ∧ runs (.sliceCreate 0 33) (tenUp Slice.reset id) (fun d => (d.slice 0).result == 7 && bitOf (d.hdr 256).evtStat 21) = true
    ∧ runs (.sliceCreate 5 33) (tenUp Slice.reset (asks5 0x04010008)) (fun d => (d.slice 5).result == 2) = true := by decide
def heldBy (s gen : Nat) : Ctx := { heldCtx .flush .executing with fn := 1, slice := some s, gen := gen }
set_option maxRecDepth 100000 in
theorem test_sliceReset :
    runs (.sliceReset 5 33) (tenUp { five with heldCtx := 1 } (fun d => { d with host := { d.host with ctxs := [(3, heldBy 5 7), (4, heldBy 0 0)] } })) (fun d =>
      (d.slice 5).gen == 8 && (d.slice 5).draining && d.host.ctxs.map Prod.fst == [4] && (d.slice 5).discard == 1 && (d.slice 5).heldCtx == 0
        && ((d.fn 0 1).binds.get SqBind.reset 3).held) = true
    ∧ runs (.sliceReset 5 33) (tenUp { five with draining := true } id) (fun d => (d.slice 5).result == 1 && (d.slice 5).gen == 7) = true := by decide
set_option maxRecDepth 100000 in
theorem test_sliceRemove :
    runs (.sliceRemove 5 33) (tenUp five id) (fun d => (d.slice 5).removing && (d.slice 5).draining && (d.slice 5).gen == 8) = true
    ∧ runs (.sliceRemove 5 33) (tenUp { five with draining := true } id) (fun d => (d.slice 5).removeWait && !(d.slice 5).removing) = true := by decide
set_option maxRecDepth 100000 in
theorem test_sliceResize :
    runs (.sliceResize 5 33) (tenUp five (asks5 0x00640008)) (fun d => (d.slice 5).resCtx == 100 && (d.slice 0).resCtx == 1020 && (d.slice 5).resizing == none) = true
    ∧ runs (.sliceResize 5 33) (tenUp { five with heldCtx := 90 } (asks5 0x00500008)) (fun d => (d.slice 5).resCtx == 96 && (d.slice 5).resizing == some (80, 8)) = true := by decide
set_option maxRecDepth 100000 in
theorem test_sliceDrainComplete :
    runs (.sliceDrainComplete 5) (tenUp { five with draining := true, oldGen := 6 } id) (fun d => !(d.slice 5).draining && (d.slice 5).waiting.length == 1 && bitOf (d.hdr 256).evtStat 17) = true
    ∧ runs (.sliceDrainComplete 5) (tenUp { five with draining := true, removing := true, oldGen := 6 } id) (fun d => !(d.slice 5).exists_ && (d.slice 0).resCtx == 1120) = true := by decide
set_option maxRecDepth 100000 in
theorem test_resizeShrinkComplete :
    runs (.resizeShrinkComplete 5) (tenUp { five with resizing := some (80, 8) } id) (fun d => (d.slice 5).resCtx == 80 && (d.slice 0).resCtx == 1040 && (d.slice 5).resizing == none) = true := by decide
set_option maxRecDepth 100000 in
theorem test_sqBindWrite :
    runs (.sqBindWrite 0 1 4 5) (tenUp five id) (fun d => (d.fn 0 1).binds.get SqBind.reset 4 == { index := 5, held := false }) = true
    ∧ runs (.sqBindWrite 0 1 4 6) (tenUp five id) (fun d => (d.fn 0 1).binds.get SqBind.reset 4 == SqBind.reset) = true := by decide
set_option maxRecDepth 100000 in
theorem test_tokenRefill : runs .tokenRefill (tenUp five id) (fun d => (d.part 0).avail == 800 && (d.part 0).spent == 0) = true
    ∧ runs .tokenRefill (tenUp five (fun d => d.setPart 0 (fun p => { p with avail := 800, spent := 0 }))) (fun d => (d.part 0).avail == 800) = true := by decide
/-- HELLO with VER_MAX 1.1 and VER_MIN 1.0, TID 9. -/
def hello : List Word := [0x00090110, 0, 0x1011, 0, 0, 0, 0, 0]
set_option maxRecDepth 100000 in
theorem test_negonHello :
    runs (.negonHello 0 1 5 none hello) (tenUp { five with version := none } id) (fun d => (d.slice 5).version == some 0x11 && !(d.slice 5).upFull && (d.slice 5).waiting.length == 1) = true
    ∧ runs (.negonHello 0 1 5 none [0, 0, 0x2020]) (tenUp five id) (fun d => (d.slice 5).version == none) = true
    ∧ runs (.negonHello 0 1 5 none hello) (tenUp { five with upFull := true } id) (fun d => (d.slice 5).drops == 1) = true := by decide
set_option maxRecDepth 100000 in
theorem test_negonInfo :
    runs (.negonInfo 0 1 5 none []) (tenUp five id) (fun d => !(d.slice 5).upFull && (d.slice 5).waiting.any (fun m => m.words.getD 3 0 == 0x3A41)) = true
    ∧ runs (.negonInfo 0 1 5 none []) (tenUp { five with strict := true } id) (fun d => (d.slice 5).waiting == [] && bitOf (d.hdr 256).evtStat 20) = true := by decide
set_option maxRecDepth 100000 in
theorem test_negonStats :
    runs (.negonStats 0 1 5 none []) (tenUp five id) (fun d => !(d.slice 5).upFull && (d.slice 5).waiting.length == 1) = true := by decide
set_option maxRecDepth 100000 in
theorem test_negonUser :
    runs (.negonUser 0 1 5 none []) (tenUp five id) (fun d => (d.slice 5).upFull && bitOf (d.hdr 256).evtStat 5 && msgGen (d.slice 5).up == 7) = true
    ∧ runs (.negonUser 0 1 5 none []) (tenUp { five with version := none } id) (fun d => !(d.slice 5).upFull && (d.slice 5).waiting.length == 1) = true := by decide
set_option maxRecDepth 100000 in
theorem test_negonResize :
    runs (.negonResize 0 1 5 none [0, 0x00030000]) (tenUp five id) (fun d => (d.slice 5).upFull && bitOf (d.hdr 256).evtStat 5) = true := by decide
set_option maxRecDepth 100000 in
theorem test_mailboxDownAck : runs (.mailboxDownAck 0 1 5 none) (tenUp { five with downFull := true } id) (fun d => !(d.slice 5).downFull) = true := by decide
set_option maxRecDepth 100000 in
theorem test_mailboxUpAck : runs (.mailboxUpAck 5 33) (tenUp { five with upFull := true, up := [1] } id) (fun d => !(d.slice 5).upFull && (d.slice 5).up == []) = true := by decide
set_option maxRecDepth 100000 in
theorem test_mailboxPost :
    runs (.mailboxPost 5 33) (tenUp five (fun d => d.setCell 256 0x460 0x44)) (fun d => (d.slice 5).waiting.map (fun m => m.words.headD 0) == [0x44]) = true := by decide
def posted (gen : Nat) : DownMsg := { manager := true, at_ := 0, words := [0x400, u32 gen] }
set_option maxRecDepth 100000 in
theorem test_mailboxDownDeliver :
    runs (.mailboxDownDeliver 5) (tenUp { five with waiting := [posted 7], mbxVec := 0x80000009 } id) (fun d => (d.slice 5).downFull && (d.slice 5).waiting == [] && d.out == [.msix 0 1 9]) = true
    ∧ runs (.mailboxDownDeliver 5) (tenUp { five with waiting := [posted 6] } id) (fun d => !(d.slice 5).downFull && (d.slice 5).drops == 1 && bitOf (d.hdr 256).evtStat 19) = true := by decide
set_option maxRecDepth 100000 in
theorem test_tenancy_epoch :
    runs (.tenancyEnable 0 33) (inMode .standalone (fun d => { d with sysc := { d.sysc with epoch := 1 } })) (fun d => d.sysc.epochResult == 1 && !d.ten.active) = true
    ∧ runs (.tenancyEnable 0 33) (inMode .standalone (fun d => { d with fsto := { d.fsto with pfail := true } })) (fun d => d.sysc.epoch == 1) = true := by decide

/-! ## DRAM -/

/-- DRA serves, with 16 GiB in use and the manifest's two ranks. -/
def dramUp (g : Chan → Chan) (f : Dev → Dev) : State := stOf (fun d =>
  let e := { d with sysc := { d.sysc with manifest := { d.sysc.manifest with dram := { d.sysc.manifest.dram with width := 8, density := 16, ranks := 2 } } }, fsto := { d.fsto with pfail := true } }
  f (e.setChan 0 (fun c => g { c with st := .running, usableGiB := 32 })))
def rq (p a : Nat) (w : Bool) : DramReq := { port := p, write := w, addr := a, len := 4, arrived := 0, use := .plain }
set_option maxRecDepth 100000 in
theorem test_dramRequest :
    runs (.dramRequest 5 (dramBase + 8) 4 none false .plain) (dramUp id id) (fun d => (d.chan 0).reqs == [rq 5 8 false] && ((d.chan 0).ports.get DramPort.reset 5).opened == 1) = true
    ∧ runs (.dramRequest 5 (dramBase + 8) 4 (some [1, 2]) true .plain) (dramUp id id) (fun d =>
      d.byte (dramBase + 9) == 2 && d.dram.poison == [0] && d.cell 64 0x138 == 1 && ((d.chan 0).ports.get DramPort.reset 5).done == 1) = true := by decide
set_option maxRecDepth 100000 in
theorem test_dramBurstRead :
    runs (.dramBurstRead 0 0 [0, 9]) (dramUp (fun c => { c with reqs := [rq 5 8 false], ports := [(5, { DramPort.reset with issued := 1, opened := 1 })] }) id) (fun d =>
      d.out == [.burst 5 [0, 0, 0, 0] true] && d.cell 64 0x134 == 1 && bitOf (d.hdr 64).evtStat 1 && ((d.chan 0).ports.get DramPort.reset 5).opened == 0 && !(d.chan 0).armed) = true
    ∧ runs (.dramBurstRead 0 0 [0, 3]) (dramUp (fun c => { c with reqs := [rq 5 8 false] }) id) (fun d =>
      d.out == [.burst 5 [0, 0, 0, 0] false] && d.cell 64 0x130 == 1 && bitOf (d.hdr 64).evtStat 0) = true := by decide
set_option maxRecDepth 100000 in
theorem test_pageCloseTimeout :
    runs (.pageCloseTimeout 0 3) (dramUp (fun c => { c with banks := [(3, { openRow := some 5, ctr := 3, postponed := 1 })] }) id) (fun d =>
      (d.chan 0).banks.get DramBank.reset 3 == { openRow := none, ctr := 3, postponed := 1 }) = true := by decide
set_option maxRecDepth 100000 in
theorem test_dramErrInfoRead :
    runs (.dramErrInfoRead 0 4) (dramUp (fun c => { c with armed := false }) (fun d => d.setCell 64 0x144 0x80000005)) (fun d =>
      d.out == [.word 0x80000005 false] && d.cell 64 0x144 == 0 && (d.chan 0).armed) = true := by decide
set_option maxRecDepth 100000 in
theorem test_latMaxRead :
    runs (.latMaxRead 0 4) (dramUp (fun c => { c with ports := [(3, { DramPort.reset with latMax := 777 })] }) (fun d => d.setCell 64 0x110 3)) (fun d =>
      d.out == [.word 777 false] && ((d.chan 0).ports.get DramPort.reset 3).latMax == 0) = true := by decide
set_option maxRecDepth 100000 in
theorem test_pauseMaxRead :
    runs (.pauseMaxRead 0 4) (dramUp (fun c => { c with pauseMax := 400 }) id) (fun d => d.out == [.word 400 false] && (d.chan 0).pauseMax == 0) = true := by decide
set_option maxRecDepth 100000 in
theorem test_refreshDue :
    runs (.refreshDue 0 [3, 4]) (dramUp (fun c => { c with banks := [(3, { openRow := some 5, ctr := 3, postponed := 1 })] }) id) (fun d =>
      (d.chan 0).banks.get DramBank.reset 3 == { openRow := none, ctr := 3, postponed := 0 }) = true := by decide
set_option maxRecDepth 100000 in
theorem test_mr4Poll :
    runs (.mr4Poll 0 [.beyond 5, .single 1, .double 3, .single 1]) (dramUp id id) (fun d =>
      (d.chan 0).temp == [5, 1, 3, 1] && (d.chan 0).dbl == [true, false] && hasBit d.thrm.hot 0 && (d.hdr 64).evtStat == 0x104) = true
    ∧ runs (.mr4Poll 0 [.single 1, .single 1, .single 1, .single 1]) (dramUp (fun c => { c with dbl := [true, true], calm := [1, 0] }) id) (fun d =>
      (d.chan 0).dbl == [false, true] && (d.hdr 64).evtStat == 0x8) = true := by decide
set_option maxRecDepth 100000 in
theorem test_dqsOscMeasure :
    runs (.dqsOscMeasure 0 1 12 400) (dramUp id id) (fun d => (d.chan 0).drift == [0, 12] && d.cell 64 0x154 == 1 && (d.chan 0).pauseMax == 400) = true
    ∧ runs (.dqsOscMeasure 0 1 12 501) (dramUp id id) (fun d => (d.chan 0).drift == [0, 0]) = true := by decide
set_option maxRecDepth 100000 in
theorem test_retrainStep :
    runs (.retrainStep 0 1 2 2000 none) (dramUp (fun c => { c with trainFails := [2, 1], drift := [4, 5] }) id) (fun d => (d.chan 0).trainFails == [0, 0] && (d.chan 0).drift == [4, 0]) = true
    ∧ runs (.retrainStep 0 1 0 2000 (some 1)) (dramUp (fun c => { c with trainFails := [0, 3] }) id) (fun d =>
      bitOf (d.hdr 64).evtStat 4 && d.cell 64 0x158 == 1 && (d.chan 0).cond == some (1, 2)) = true := by decide
set_option maxRecDepth 100000 in
theorem test_patrolScrub :
    runs (.patrolScrub 0 []) (dramUp (fun c => { c with scrubPos := 536870911 }) id) (fun d => (d.chan 0).scrubPos == 0 && (d.chan 0).scrubPasses == 1) = true
    ∧ runs (.patrolScrub 0 [0, 9]) (dramUp (fun c => { c with scrubPos := 1, ueSeen := [256], scrubTold := true }) id) (fun d =>
      (d.chan 0).scrubPos == 2 && d.cell 64 0x134 == 1 && (d.chan 0).cond == some (0, 1)) = true := by decide
set_option maxRecDepth 100000 in
theorem test_rankRetirement :
    runs (.rankRetirement 0) (dramUp (fun c => { c with cond := some (1, 2) }) id) (fun d => bitOf (d.hdr 64).evtStat 5 && ((d.chan 0).retiring.map Retirement.rank == some 1)) = true
    ∧ runs (.rankRetirement 0) (dramUp (fun c => { c with cond := some (1, 2), retired := 1 }) id) (fun d => bitOf (d.hdr 64).evtStat 7 && (d.chan 0).retiring == none) = true := by decide
set_option maxRecDepth 100000 in
theorem test_rankRetireWrite :
    runs (.rankRetireWrite 0 0x80000001 33) (dramUp id (fun d => d.setHdr 64 (fun h => { h with unlocked := true }))) (fun d =>
      (d.chan 0).retiring.map Retirement.cause == some 3 && (d.chan 0).retiring.map Retirement.rank == some 1) = true
    ∧ runs (.rankRetireWrite 0 1 33) (dramUp id (fun d => d.setHdr 64 (fun h => { h with unlocked := true }))) (fun d => bitOf (d.hdr 64).evtStat 31 && (d.chan 0).retiring == none) = true := by decide
def rankLeaving (r : Nat) : Retirement := { rank := r, cause := 0, started := 0, moved := true, copied := 0, poisoned := 0 }
set_option maxRecDepth 100000 in
theorem test_rankCopyStart :
    runs (.rankCopyStart 0) (dramUp (fun c => { c with retiring := some (rankLeaving 0) }) id) (fun d => (d.chan 0).st == .copying) = true
    ∧ runs (.rankCopyStart 0) (dramUp (fun c => { c with retiring := some (rankLeaving 1) }) id) (fun d => (d.chan 0).retired == 2 && (d.chan 0).usableGiB == 16 && bitOf (d.hdr 64).evtStat 6) = true := by decide
set_option maxRecDepth 100000 in
theorem test_rankCopyDone :
    runs (.rankCopyDone 0 [4, 5]) (dramUp (fun c => { c with st := .copying, retiring := some (rankLeaving 0) }) id) (fun d =>
      (d.chan 0).lowRank == 1 && (d.chan 0).retired == 1 && (d.chan 0).usableGiB == 16 && d.dram.poison == [4] && (d.chan 0).st == .running) = true := by decide

/-! ## Key slots and digests -/

def crypUp (sel : Word) (k : KeySlot) (f : Dev → Dev) : State := stOf (fun d =>
  f ((({ d with cryp := { d.cryp with drbgOk := true } }.setCell pCRYP 0x104 sel).setCell pCRYP 0x108 77).setKslot 5 (fun _ => k)))
def key5 (st : SlotState) : KeySlot := { st := st, nsid := 3, key := [1, 2], inflight := 0 }
set_option maxRecDepth 100000 in
theorem test_slotGenerate :
    runs (.slotGenerate 33) (crypUp 5 KeySlot.reset id) (fun d => (d.kslot 5).st == .loaded && (d.kslot 5).nsid == 77 && d.cryp.result == 0 && d.cryp.drbgReqs == 1) = true
    ∧ runs (.slotGenerate 33) (crypUp 5 (key5 .loaded) id) (fun d => d.cryp.result == 2 && (d.kslot 5).nsid == 3) = true := by decide
set_option maxRecDepth 100000 in
theorem test_slotLoad :
    runs (.slotLoad 33) (crypUp 5 (key5 .loaded) id) (fun d => d.cryp.result == 2) = true
    ∧ runs (.slotLoad 33) (crypUp 5 KeySlot.reset (fun d => d.setCell pCRYP 0x118 0x3FFFFF8)) (fun d => d.cryp.result == 4 && (d.kslot 5).st == .empty) = true := by decide
set_option maxRecDepth 100000 in
theorem test_slotExport :
    runs (.slotExport 33) (crypUp 5 KeySlot.reset id) (fun d => d.cryp.result == 2) = true
    ∧ runs (.slotExport 33) (crypUp 5 (key5 .loaded) id) (fun d => d.cryp.result == 0 && (d.kslot 5).st == .loaded) = true := by decide
set_option maxRecDepth 100000 in
theorem test_slotZero :
    runs (.slotZero 33) (crypUp 5 (key5 .loaded) id) (fun d => d.cryp.busy && (d.kslot 5).st == .draining && (d.kslot 5).key == [1, 2]) = true
    ∧ runs (.slotZero 33) (crypUp 5 (key5 .loaded) (fun d => { d with cryp := { d.cryp with busy := true } })) (fun d => bitOf (d.hdr pCRYP).evtStat 31 && (d.kslot 5).st == .loaded) = true := by decide
set_option maxRecDepth 100000 in
theorem test_slotDrainComplete :
    runs (.slotDrainComplete 5) (crypUp 5 (key5 .draining) (fun d => { d with cryp := { d.cryp with busy := true, zeroing := some 5 } })) (fun d =>
      d.kslot 5 == KeySlot.reset && !d.cryp.busy && d.cryp.result == 0) = true := by decide
set_option maxRecDepth 100000 in
theorem test_sealKey :
    runs (.sealKey 33) (crypUp 5 KeySlot.reset id) (fun d => d.cryp.result == 0) = true
    ∧ runs (.sealKey 33) (crypUp 5 KeySlot.reset (fun d => d.setCell pCRYP 0x118 0x3FFFFE0)) (fun d => d.cryp.result == 4 && d.mem == []) = true := by decide
set_option maxRecDepth 100000 in
theorem test_unsealKey :
    runs (.unsealKey 33) (crypUp 5 KeySlot.reset (fun d => d.setCell pCRYP 0x118 0x3FFFFE0)) (fun d => d.cryp.result == 4) = true := by decide
set_option maxRecDepth 100000 in
theorem test_random :
    runs (.random 33) (crypUp 5 KeySlot.reset id) (fun d => d.cryp.result == 0 && d.free == 1) = true
    ∧ runs (.random 33) (crypUp 5 KeySlot.reset (fun d => { d with cryp := { d.cryp with drbgOk := false } })) (fun d => d.cryp.result == 5 && d.mem == []) = true := by decide
set_option maxRecDepth 100000 in
theorem test_drbgReseed :
    runs (.drbgReseed true) (crypUp 5 KeySlot.reset (fun d => { d with cryp := { d.cryp with drbgOk := false } })) (fun d => d.cryp.drbgOk) = true := by decide
set_option maxRecDepth 100000 in
theorem test_drbgHealthFail :
    runs (.drbgHealthFail 2 1) (crypUp 5 KeySlot.reset id) (fun d => !d.cryp.drbgOk && bitOf (d.hdr pCRYP).evtStat 4) = true := by decide
/-- A job of SHA-256, final, padded by the engine, whose source is 64 bytes of zeros. -/
def dj (n prio flags len : Nat) : DJob :=
  { num := n, addr := 0x1000, master := 4, alg := 0, flags := flags, prio := prio, src := 0x2000, len := len, decl := len, state := 0x3000, out := 0x4000, prev := 0, bad := false,
    fed := 0, pos := 0, ran := 0, chain := [], resuming := false }
def hashing (run : Option DJob) (q : List DJob) : State := stOf (fun d => { d with dgst := { d.dgst with running := run, queue := q } })
set_option maxRecDepth 100000 in
theorem test_dgstJobSubmit :
    runs (.dgstJobSubmit 0x1000 4) (hashing none []) (fun d => d.dgst.queue.map DJob.addr == [0x1000] && d.dgst.submit.find 4 == some 0 && d.cell pDGST 0x120 == 1) = true
    ∧ runs (.dgstJobSubmit 0x1000 4) (hashing none (List.replicate 16 (dj 0 0 9 64))) (fun d => d.dgst.submit.find 4 == some 0xFFFFFFFF && d.dgst.queue.length == 16) = true := by decide
set_option maxRecDepth 100000 in
theorem test_dgstJobSelect :
    runs .dgstJobSelect (hashing none [dj 1 0 9 64, dj 2 2 9 64]) (fun d => d.dgst.running.map DJob.num == some 2 && d.dgst.queue.length == 1) = true
    ∧ runs .dgstJobSelect (hashing none [{ dj 1 0 9 64 with bad := true }]) (fun d => d.dgst.running == none && d.byte 0x1038 == 8 && bitOf (d.hdr pDGST).evtStat 1) = true := by decide
set_option maxRecDepth 100000 in
theorem test_dgstPreempt :
    runs (.dgstPreempt 2) (hashing (some (dj 1 0 9 640)) [dj 2 2 9 64]) (fun d => d.dgst.running == none && d.dgst.queue.map DJob.num == [2, 1] && d.cell pDGST 0x12C == 1) = true
    ∧ runs (.dgstPreempt 2) (hashing (some (dj 1 2 9 640)) [dj 2 1 9 64]) (fun d => d.dgst.running.map DJob.pos == some 128) = true := by decide
set_option maxRecDepth 100000 in
theorem test_dgstJobEnd :
    runs .dgstJobEnd (hashing (some (dj 1 0 9 64)) []) (fun d => d.dgst.running == none && d.cell pDGST 0x124 == 1 && bitOf (d.hdr pDGST).evtStat 0) = true
    ∧ runs .dgstJobEnd (hashing (some { dj 1 0 9 64 with decl := 65 }) []) (fun d => d.byte 0x1038 == 1 && bitOf (d.hdr pDGST).evtStat 2 && d.cell pDGST 0x128 == 1) = true := by decide
set_option maxRecDepth 100000 in
theorem test_dgstJobCancel :
    runs (.dgstJobCancel 1 4) (hashing (some (dj 1 0 9 64)) [dj 2 0 9 64]) (fun d => d.dgst.running == none && d.dgst.queue.length == 1 && d.byte 0x1038 == 5 && (d.hdr pDGST).evtStat == 1) = true := by decide
set_option maxRecDepth 100000 in
theorem test_standaloneCompare :
    runs (.standaloneCompare 4 4) (stOf (fun d => (d.setCell pDGST 0x118 64).store 67 [1])) (fun d => d.dgst.cmpResult == 2 && d.cell pDGST 0x110 == 4) = true
    ∧ runs (.standaloneCompare 65 4) (stOf id) (fun d => d.dgst.cmpResult == 3) = true := by decide
set_option maxRecDepth 100000 in
theorem test_ctxKeyRenew :
    runs (.ctxKeyRenew 33) (stOf (fun d => d.setHdr pDGST (fun h => { h with unlocked := true }))) (fun d => d.free == 1 && bitOf (d.hdr pDGST).evtStat 4) = true := by decide

/-! ## The NOR die, the one-time row and the configuration store -/

def fstoUp (f : Dev → Dev) : State := stOf (fun d => f (d.setHdr pFSTO (fun h => { h with unlocked := true })))
set_option maxRecDepth 100000 in
theorem test_norProgram :
    runs (.norProgram 1 33) (fstoUp (fun d => (d.setCell pFSTO 0x810 0x100).setCell pFSTO 0x1104 0xFFFF0000)) (fun d =>
      d.fsto.op1.map NorOp.addr == some 0x1000100 && d.fsto.op1.map (fun o => o.data.getD 1 0) == some 0xFFFF0000 && d.nor == []) = true
    ∧ runs (.norProgram 1 33) (fstoUp (fun d => d.norProg 0x1000000 0)) (fun d => d.fsto.op1 == none && d.fsto.result1 == 3 && bitOf (d.hdr pFSTO).evtStat 8) = true := by decide
set_option maxRecDepth 100000 in
theorem test_norErase :
    runs (.norErase 0 33) (fstoUp id) (fun d => d.fsto.op0 == none && d.fsto.result0 == 4 && bitOf (d.hdr pFSTO).evtStat 7) = true
    ∧ runs (.norErase 1 33) (fstoUp (fun d => { d with fsto := { d.fsto with op1 := some { erase := true, addr := 0x1000000, data := [] } } })) (fun d => bitOf (d.hdr pFSTO).evtStat 31) = true := by decide
set_option maxRecDepth 100000 in
theorem test_norOpComplete :
    runs (.norOpComplete 1 .done) (fstoUp (fun d => { d.norProg 0x1000000 0xF0F with fsto := { d.fsto with op1 := some { erase := false, addr := 0x1000000, data := [0xFF, 0] } } })) (fun d =>
      d.norWord 0x1000000 == 0xF && d.norWord 0x1000004 == 0 && d.norWord 0x1000008 == 0xFFFFFFFF && d.fsto.op1 == none) = true
    ∧ runs (.norOpComplete 1 .done) (fstoUp (fun d => { (d.norProg 0x1000000 0).norProg 0x1010000 0 with fsto := { d.fsto with op1 := some { erase := true, addr := 0x1000000, data := [] } } })) (fun d =>
      d.norWord 0x1000000 == 0xFFFFFFFF && d.norWord 0x1010000 == 0) = true := by decide
set_option maxRecDepth 100000 in
theorem test_bankFault :
    runs (.bankFault 0x1000010 4) (fstoUp (fun d => { d with fsto := { d.fsto with op1 := some { erase := true, addr := 0x1000000, data := [] } } })) (fun d =>
      d.out == [.word 0xFFFFFFFF true] && d.fsto.faultAddr == 0x1000010 && !d.fsto.armed && d.cell pFSTO 0x120 == 1 && bitOf (d.hdr pFSTO).evtStat 2) = true
    ∧ runs (.bankFault 0x10 4) (fstoUp (fun d => d.norProg 0x10 5)) (fun d => d.out == [.word 5 false]) = true := by decide
set_option maxRecDepth 100000 in
theorem test_busyFaultAddrRead :
    runs (.busyFaultAddrRead 4) (fstoUp (fun d => { d with fsto := { d.fsto with faultAddr := 9, armed := false } })) (fun d => d.out == [.word 9 false] && d.fsto.armed && d.fsto.faultAddr == 0) = true := by decide
set_option maxRecDepth 100000 in
theorem test_otpProgram :
    runs (.otpProgram 33 false) (fstoUp (fun d => (d.setCell pFSTO 0x820 16).setCell pFSTO 0x824 6)) (fun d => d.otp == [(16, 6)] && d.fsto.otpResult == 0) = true
    ∧ runs (.otpProgram 33 false) (fstoUp (fun d => (d.setCell pFSTO 0x820 25).setCell pFSTO 0x824 6)) (fun d => d.otp == [] && d.fsto.otpResult == 1) = true := by decide
set_option maxRecDepth 100000 in
theorem test_keyRevoke :
    runs (.keyRevoke 2 33) (fstoUp id) (fun d => d.otp == [(24, 4)] && bitOf (d.hdr pFSTO).evtStat 9) = true
    ∧ runs (.keyRevoke 0 33) (fstoUp id) (fun d => d.otp == [] && d.fsto.otpResult == 2) = true := by decide
set_option maxRecDepth 100000 in
theorem test_rollbackCommit :
    runs (.rollbackCommit true 33) (fstoUp (fun d => { d with fsto := { d.fsto with imgSvn := 33 } })) (fun d => d.otp == [(16, 0xFFFFFFFF), (17, 1)] && d.rollback == 33 && bitOf (d.hdr pFSTO).evtStat 5) = true
    ∧ runs (.rollbackCommit true 33) (fstoUp id) (fun d => d.otp == [] && (d.hdr pFSTO).evtStat == 0) = true := by decide
def tallied (d : Dev) : Dev := (((d.norProg (sectorAddr 0 193) 0x4C545A4F).norProg (sectorAddr 0 193 + 4) 1).norProg (tallyEntryAddr 0 0) 0xA55A0100)
set_option maxRecDepth 100000 in
theorem test_bootOk :
    runs (.bootOk 0) (fstoUp (fun d => { tallied d with fsto := { d.fsto with watchdog := true } })) (fun d =>
      d.fsto.bootOk && !d.fsto.watchdog && d.norWord (tallyEntryAddr 0 0 + 4) == 0 && bitOf (d.hdr pFSTO).evtStat 0) = true := by decide
/-- Configuration sector `c` is live under rotation `r`. -/
def liveSector (c r : Nat) (d : Dev) : Dev := (d.norProg (cfgSector c) 0x46435A4F).norProg (cfgSector c + 4) (u32 r)
set_option maxRecDepth 100000 in
theorem test_configRecordFlush :
    runs .configRecordFlush (fstoUp (fun d => { liveSector 0 0 d with fsto := { d.fsto with ring := [{ type := 8, key := 0, seq := 3, data := [5] }] } })) (fun d =>
      d.fsto.ring == [] && d.norWord (cfgSector 0 + 16) == 0x3FFFFFFF && d.norWord (cfgSector 0 + 20) == 0x208 && d.norWord (cfgSector 0 + 36) == 5) = true := by decide
set_option maxRecDepth 100000 in
theorem test_configCompaction :
    runs .configCompaction (fstoUp (fun d => (liveSector 1 1 (liveSector 0 0 d)).setCell pFSTO 0x830 1)) (fun d =>
      d.norWord (cfgSector 0) == 0xFFFFFFFF && d.norWord (cfgSector 1) == 0x46435A4F) = true
    ∧ runs .configCompaction (fstoUp (liveSector 0 0)) (fun d => d.norWord (cfgSector 0) == 0x46435A4F) = true := by decide

/-! ## DORMANT, clocks, rails, the sideband and reset -/

def powrIn (e : EntryPhase) (step : Nat) (f : Dev → Dev) : State := stOf (fun d =>
  f { d with powr := { d.powr with entry := e, step := step, phase := .running }, fsto := { d.fsto with bootOk := true, pfail := true }, sysc := { d.sysc with cur := .standalone, base := some .standalone } })
set_option maxRecDepth 100000 in
theorem test_idleTimerExpiry :
    runs .idleTimerExpiry (powrIn .timing 0 id) (fun d => d.powr.entry == .prepare && d.powr.step == 1 && d.cell pPOWR 0x118 == 1) = true
    ∧ runs .idleTimerExpiry (powrIn .timing 0 (fun d => d.setCell pPOWR 0x10C 1)) (fun d => d.powr.entry == .timing) = true := by decide
set_option maxRecDepth 100000 in
theorem test_prepareStepAnswer :
    runs .prepareStepAnswer (powrIn .prepare 2 id) (fun d => d.powr.step == 3 && d.host.stopped && d.powr.stopped == [2]) = true
    ∧ runs .prepareStepAnswer (powrIn .prepare 7 (fun d => { d with dgst := { d.dgst with running := some (dj 1 0 9 64) } })) (fun d =>
      d.powr.refBlock == 7 && d.powr.refReason == 2 && d.powr.refStep == 7 && d.powr.backoff == 1 && bitOf (d.hdr pPOWR).evtStat 0) = true := by decide
set_option maxRecDepth 100000 in
theorem test_prepareStepTimeout :
    runs .prepareStepTimeout (powrIn .prepare 3 id) (fun d => d.powr.refReason == 6 && d.powr.refBlock == pSCHD && d.powr.entry == .timing) = true := by decide
set_option maxRecDepth 100000 in
theorem test_voteWithdraw :
    runs (.voteWithdraw 9) (powrIn .prepare 12 (fun d => d.setChan 1 (fun c => { c with st := .copying }))) (fun d => d.powr.refBlock == 65 && d.powr.refStep == 9) = true := by decide
set_option maxRecDepth 100000 in
theorem test_dormantCommit :
    runs .dormantCommit (powrIn .prepare 13 id) (fun d => d.powr.entry == .commit && d.valt.st == .freeze && d.valt.cause == 1 && d.cell pPOWR 0x11C == 1) = true
    ∧ runs .dormantCommit (powrIn .prepare 13 (fun d => { d with powr := { d.powr with wakeLatch := 8 } })) (fun d => d.powr.refReason == 7 && d.valt.st == .idle) = true := by decide
set_option maxRecDepth 100000 in
theorem test_powrWakeWrite :
    runs (.powrWakeWrite 1 33) (powrIn .commit 0 id) (fun d => d.powr.wakeLatch == 32) = true
    ∧ runs (.powrWakeWrite 1 33) (powrIn .prepare 4 id) (fun d => d.powr.refBlock == pPOWR && d.powr.refStep == 4) = true := by decide
def dormant (f : Dev → Dev) : State := powrIn .none 0 (fun d => f { d with sysc := { d.sysc with cur := .dormant, ret := some .standalone }, valt := { d.valt with st := .parked } })
set_option maxRecDepth 100000 in
theorem test_smbusAddressMatch :
    runs (.smbusAddressMatch 0x6A) (dormant id) (fun d => d.powr.wakeLatch == 8 && d.side.wakes == 1 && bitOf (d.hdr pSIDE).evtStat 0) = true
    ∧ runs (.smbusAddressMatch 0x6A) (powrIn .none 0 id) (fun d => d.side.addrNacks == 1 && d.side.wakes == 0) = true := by decide
set_option maxRecDepth 100000 in
theorem test_dormantWake :
    runs .dormantWake (dormant (fun d => ({ d with powr := { d.powr with wakeLatch := 8 } }).setChan 0 (fun c => { c with st := .selfRefresh }))) (fun d =>
      d.powr.entry == .waking && d.powr.wakeSrc == 8 && d.powr.wakeLatch == 0 && (d.chan 0).st == .running) = true := by decide
set_option maxRecDepth 100000 in
theorem test_wakeComplete :
    runs .wakeComplete (dormant (fun d => { d with powr := { d.powr with entry := .waking } })) (fun d =>
      d.sysc.cur == .standalone && d.powr.entry == .timing && d.valt.st == .idle && bitOf (d.hdr pPOWR).evtStat 2) = true := by decide
set_option maxRecDepth 100000 in
theorem test_padHoldRelease :
    runs (.padHoldRelease 2) (powrIn .none 0 (fun d => { d with powr := { d.powr with padHeld := 5 } })) (fun d => d.powr.padHeld == 1) = true := by decide
set_option maxRecDepth 100000 in
theorem test_padHoldTimeout :
    runs (.padHoldTimeout 0) (powrIn .none 0 (fun d => { d.setPort 3 (fun p => { p with prsnt := true }) with powr := { d.powr with padHeld := 1, padLevel := [(0, 8)] } })) (fun d =>
      (d.port 3).pwren && d.powr.padHeld == 0 && bitOf (d.hdr pPOWR).evtStat 4) = true := by decide
def railed (n : Nat) : State := powrIn .none 0 (fun d => { d with sysc := { d.sysc with manifest := { d.sysc.manifest with valid := true, rails := [(0, 4)] } }, powr := { d.powr with rails := [(0, 700, 2, n)] } })
set_option maxRecDepth 100000 in
theorem test_railSample :
    runs (.railSample [734]) (railed 9) (fun d => d.powr.rails.find 0 == some (734, 3, 10) && bitOf (d.hdr pPOWR).evtStat 3) = true
    ∧ runs (.railSample [735]) (railed 9) (fun d => d.powr.rails.find 0 == some (735, 2, 0) && (d.hdr pPOWR).evtStat == 0) = true := by decide
set_option maxRecDepth 100000 in
theorem test_referenceLoss :
    runs (.referenceLoss 3) (laneIn .up id) (fun d => (d.lane 2).st == .up) = true
    ∧ runs (.referenceLoss 3) (portIn .up id (fun d => { d with clkr := { d.clkr with refs := 9 } })) (fun d => (d.port 3).st == .training && bitOf (d.hdr pCLKR).evtStat 1 && d.clkr.refs == 1) = true
    ∧ runs (.referenceLoss 0) (portIn .up id (fun d => { d with clkr := { d.clkr with refs := 9 } })) (fun d => d.powr.phase == .inReset && d.clkr.cause == 8 && d.clkr.warmResets == 1) = true := by decide
set_option maxRecDepth 100000 in
theorem test_referenceAppears :
    runs (.referenceAppears 1 true) (powrIn .none 0 id) (fun d => hasBit d.clkr.refs 1) = true
    ∧ runs (.referenceAppears 0 true) (stOf (fun d => { d with clkr := { d.clkr with hold := .crystal } })) (fun d => d.clkr.hold == .none && d.sysc.cur == .recovery) = true := by decide
set_option maxRecDepth 100000 in
theorem test_pllLockLoss :
    runs (.pllLockLoss 7) (portIn .up id (fun d => { d with clkr := { d.clkr with refs := 9 } })) (fun d => (d.port 3).st == .training && bitOf (d.hdr pCLKR).evtStat 0 && d.clkr.losses == 1) = true := by decide
set_option maxRecDepth 100000 in
theorem test_aonCalibration :
    runs (.aonCalibration (-20001)) (powrIn .none 0 (fun d => { d with clkr := { d.clkr with pllLock := 1 } })) (fun d => d.clkr.aonPpm == -20001 && bitOf (d.hdr pCLKR).evtStat 3) = true := by decide
set_option maxRecDepth 100000 in
theorem test_hourTick :
    runs .hourTick (powrIn .none 0 (fun d => { d with clkr := { d.clkr with opHours := 6, opSeconds := 3599, pwrCycles := 2 } })) (fun d =>
      d.clkr.opHours == 7 && d.clkr.opSeconds == 0 && d.fsto.ring.map CfgRec.data == [[2, 7]]) = true := by decide
def sideUp (f : Dev → Dev) : State := powrIn .none 0 (fun d => f { d with side := { d.side with running := true, busy := true } })
set_option maxRecDepth 100000 in
theorem test_smbusPacketReceive :
    runs (.smbusPacketReceive 0x20 true (some 9) [[1, 2]]) (sideUp id) (fun d => d.side.eid == 9 && d.out == [.smbus [1, 2]] && d.cell pSIDE 0x114 == 1 && d.cell pSIDE 0x118 == 1) = true
    ∧ runs (.smbusPacketReceive 0x20 false (some 9) [[1, 2]]) (sideUp id) (fun d => d.side.eid == 0 && d.out == [] && d.cell pSIDE 0x11C == 1 && bitOf (d.hdr pSIDE).evtStat 1) = true := by decide
set_option maxRecDepth 100000 in
theorem test_smbusTimeout : runs .smbusTimeout (sideUp id) (fun d => !d.side.busy && d.cell pSIDE 0x120 == 1 && bitOf (d.hdr pSIDE).evtStat 2) = true := by decide
set_option maxRecDepth 100000 in
theorem test_alertAck : runs (.alertAck 0x102 33) (sideUp (fun d => { d with side := { d.side with alert := true } })) (fun d => !d.side.alert && d.cell pSIDE 0x10C == 2) = true := by decide
set_option maxRecDepth 100000 in
theorem test_porNAssert :
    runs .porNAssert (powrIn .none 0 (fun d => (d.store 5 [7]).otpSet 16 1)) (fun d => d.mem == [] && d.otp == [(16, 1)] && d.powr.phase == .inReset && d.clkr.hold == .por) = true := by decide
set_option maxRecDepth 100000 in
theorem test_porNRelease :
    runs (.porNRelease 0x31 true) (stOf (fun d => { d with clkr := { d.clkr with hold := .por }, powr := { d.powr with phase := .inReset } })) (fun d =>
      d.clkr.hold == .none && d.sysc.straps == 0x31 && d.clkr.pwrCycles == 1 && d.fsto.cause == 3 && d.sysc.cur == .recovery) = true
    ∧ runs (.porNRelease 8 true) (stOf (fun d => { d.otpSet 0 1 with clkr := { d.clkr with hold := .por }, powr := { d.powr with phase := .inReset } })) (fun d => d.fsto.cause == 0 && d.powr.phase == .rom) = true
    ∧ runs (.porNRelease 0 true) (stOf (fun d => { d.otpSet 0 1 with clkr := { d.clkr with hold := .por }, powr := { d.powr with phase := .inReset } })) (fun d => d.fsto.cause == 4 && d.powr.phase == .rom) = true := by decide
def owning (f : Dev → Dev) : State := powrIn .none 0 (fun d => f { d with host := { d.host with recovered := true }, fsto := { d.fsto with bootOk := false, watchdog := true } })
set_option maxRecDepth 100000 in
theorem test_bootWatchdogExpiry :
    runs .bootWatchdogExpiry (owning id) (fun d => d.valt.st == .freeze && d.valt.thenReset == some 1) = true
    ∧ runs .bootWatchdogExpiry (owning (fun d => { d with host := { d.host with recovered := false } })) (fun d => d.clkr.cause == 1 && d.clkr.hold == .none && d.sysc.cur == .recovery) = true := by decide
set_option maxRecDepth 100000 in
theorem test_warmReset :
    runs (.warmReset 9) (owning (fun d => { d with valt := { d.valt with st := .save, thenReset := some 6 } })) (fun d => d.valt.thenReset == some 6 && d.clkr.warmResets == 1) = true
    ∧ runs (.warmReset 5) (owning id) (fun d => d.clkr.hold == .thermal && d.powr.phase == .inReset && d.thrm.tripped) = true := by decide
set_option maxRecDepth 100000 in
theorem test_managerWarmReset :
    runs (.managerWarmReset 0x80000001 33) (owning (fun d => d.setHdr pCLKR (fun h => { h with unlocked := true }))) (fun d => d.valt.thenReset == some 6) = true
    ∧ runs (.managerWarmReset 1 33) (owning (fun d => d.setHdr pCLKR (fun h => { h with unlocked := true }))) (fun d => bitOf (d.hdr pCLKR).evtStat 31 && d.valt.st == .idle) = true := by decide
set_option maxRecDepth 100000 in
theorem test_recoveryCommitReset :
    runs .recoveryCommitReset (stOf (fun d => { d with fsto := { d.fsto with recovery := true, recReset := true } })) (fun d => d.clkr.cause == 3 && d.clkr.warmResets == 1) = true := by decide
def starting (b : Option Mode) (f : Dev → Dev) : State := stOf (fun d => f { d with powr := { d.powr with phase := .starting }, sysc := { d.sysc with base := b }, fsto := { d.fsto with pfail := true } })
set_option maxRecDepth 100000 in
theorem test_startupModeSelect :
    runs .startupModeSelect (starting (some .peerStandby) id) (fun d => d.sysc.cur == .peerStandby && d.powr.phase == .running && d.peer.standby) = true
    ∧ runs .startupModeSelect (starting (some .partitioned) id) (fun d => d.sysc.cur == .partitioned && d.powr.phase == .recovering) = true
    ∧ runs .startupModeSelect (starting (some .standalone) (fun d => { d.setPort 2 (fun p => { p with st := .up, token := 0x101 }) with peer := { d.peer with pair := .solo } })) (fun d =>
      d.sysc.cur == .peerStandby && d.sysc.base == some .peerStandby && bitOf (d.hdr pPEER).evtStat 9) = true := by decide
set_option maxRecDepth 100000 in
theorem test_startupModeSelect_blank :
    runs .startupModeSelect (starting none (fun d => (List.range 8).foldl (fun x n => x.setPort n (fun p => { p with st := .unadopted })) d)) (fun d => d.sysc.cur == .standalone && d.powr.phase == .running && d.host.recovered) = true := by decide
set_option maxRecDepth 100000 in
theorem test_startupRecovery :
    runs (.startupRecovery { pages := 0, segs := [], unread := [], bad := [], ms := 12 }) (stOf (fun d =>
      { d with powr := { d.powr with phase := .recovering }, sysc := { d.sysc with cur := .standalone, base := some .standalone }, fsto := { d.fsto with pfail := true } })) (fun d =>
      d.powr.phase == .running && d.host.recovered && d.valt.restoreMs == 12 && bitOf (d.hdr pVALT).evtStat 2) = true := by decide

/-! ## Temperatures, the ladder and the fans -/

/-- The trims of the worked example of R506: C25 40,000, SLOPE 50, sensor 5 with OFS -2. -/
def trimmed (f : Dev → Dev) : State := powrIn .none 0 (fun d => f ((d.otpSet 12 (u32 (40000 + 50 * 65536 + 0 * 2 ^ 24))).otpSet 13 (u32 (14 * 2 ^ 12))))
set_option maxRecDepth 100000 in
theorem test_tempOf : (trimmed id).dev.tempOf 5 43766 = 1600 ∧ (trimmed id).dev.tempOf 4 40000 = 400 := by decide
def coolCounts : List Nat := List.replicate 24 40000
set_option maxRecDepth 100000 in
theorem test_sensorResult :
    runs (.sensorResult coolCounts) (trimmed id) (fun d => (d.sensor 5).hist == [394] && (d.sensor 4).hist == [400] && d.thrm.tj == 400 && d.thrm.tjSensor == 0 && d.thrm.step == 0) = true
    ∧ runs (.sensorResult (coolCounts.set 5 0)) (trimmed id) (fun d => (d.sensor 5).broken && bitOf (d.hdr pTHRM).evtStat 3 && d.thrm.tj == 448) = true := by decide
set_option maxRecDepth 100000 in
theorem test_sensorResult_ladder :
    runs (.sensorResult (coolCounts.set 5 43766)) (trimmed id) (fun d => d.thrm.tj == 1600 && d.thrm.tjSensor == 5 && d.thrm.step == 1 && bitOf (d.hdr pTHRM).evtStat 0) = true
    ∧ runs (.sensorResult (coolCounts.set 4 44650)) (trimmed id) (fun d => d.powr.phase == .inReset && d.clkr.hold == .thermal && d.clkr.cause == 5 && d.powr.padLevel.find 1 == some 15) = true := by decide
set_option maxRecDepth 100000 in
theorem test_sensorResult_hold :
    runs (.sensorResult coolCounts) (trimmed (fun d => { d with powr := { d.powr with phase := .inReset }, clkr := { d.clkr with hold := .thermal } })) (fun d => d.clkr.hold == .none) = true := by decide
set_option maxRecDepth 100000 in
theorem test_dormantSensorResult :
    runs (.dormantSensorResult 43000 40000) (trimmed (fun d => { d with sysc := { d.sysc with cur := .dormant } })) (fun d => d.powr.wakeLatch == 64 && (d.sensor 22).hist == [1360]) = true
    ∧ runs (.dormantSensorResult 42999 40000) (trimmed (fun d => { d with sysc := { d.sysc with cur := .dormant } })) (fun d => d.powr.wakeLatch == 0) = true := by decide
set_option maxRecDepth 100000 in
theorem test_ladderStepLeave :
    runs .ladderStepLeave (trimmed (fun d => { d with thrm := { d.thrm with step := 2, tj := 1599 } })) (fun d => d.thrm.step == 1 && bitOf (d.hdr pTHRM).evtStat 0) = true
    ∧ runs .ladderStepLeave (trimmed (fun d => { d with thrm := { d.thrm with step := 2, tj := 1600 } })) (fun d => d.thrm.step == 2) = true := by decide
set_option maxRecDepth 100000 in
theorem test_stopResume :
    runs .stopResume (trimmed (fun d => { d with thrm := { d.thrm with step := 4, tj := 1500, stoppedAt := some 0 }, valt := { d.valt with st := .parked } })) (fun d =>
      d.thrm.step == 3 && d.thrm.stoppedAt == none && d.powr.entry == .waking && bitOf (d.hdr pTHRM).evtStat 2) = true := by decide
set_option maxRecDepth 100000 in
theorem test_brokenClrWrite :
    runs (.brokenClrWrite 0x20 33) (trimmed (fun d => ((d.setHdr pTHRM (fun h => { h with unlocked := true })).setSensor 5 (fun s => { s with broken := true })).setSensor 6 (fun s => { s with broken := true }))) (fun d =>
      !(d.sensor 5).broken && (d.sensor 6).broken && d.thrm.blind == []) = true := by decide
def port12 (f : Dev → Dev) : State := portIn .up id (fun d => f (d.setPort 3 (fun p => { p with verUsed := 0x12, mgmt := [{ op := 7, xid := 4, args := [], data := [], again := false }] })))
set_option maxRecDepth 100000 in
theorem test_sledSensorPoll :
    runs .sledSensorPoll (port12 id) (fun d => (d.port 3).mgmt.map MgmtReq.op == [7, 7]) = true
    ∧ runs .sledSensorPoll (port12 (fun d => d.setPort 3 (fun p => { p with verUsed := 0x11 }))) (fun d => (d.port 3).mgmt.length == 1) = true := by decide
set_option maxRecDepth 100000 in
theorem test_sensorResponse :
    runs (.sensorResponse 3 4 0 84 85 0x80) (port12 id) (fun d => d.thrm.sleds.find 3 == some (0x805554, 1000000) && bitOf (d.hdr pTHRM).evtStat 6 && (d.port 3).mgmt == []) = true
    ∧ runs (.sensorResponse 3 4 0 84 200 0x80) (port12 id) (fun d => d.thrm.sleds.find 3 == some (0x80C854, 1000000) && (d.hdr pTHRM).evtStat == 0) = true := by decide
def fanned (f : Dev → Dev) : State := powrIn .none 0 (fun d => f { d with sysc := { d.sysc with manifest := { d.sysc.manifest with fans := 2 } } })
set_option maxRecDepth 100000 in
theorem test_fanUpdate :
    runs (.fanUpdate [3000, 900]) (fanned (fun d => d.setFan 0 (fun f => { f with duty := 50, failed := true }))) (fun d =>
      d.thrm.fans.get Fan.reset 0 == { duty := 40, rpm := 3000, failed := false } && d.thrm.fans.get Fan.reset 1 == { duty := 10, rpm := 900, failed := false }) = true
    ∧ runs (.fanUpdate [3000, 900]) (fanned (fun d => { d with thrm := { d.thrm with hot := 1 } })) (fun d => (d.thrm.fans.get Fan.reset 1).duty == 100) = true := by decide
set_option maxRecDepth 100000 in
theorem test_fanFailure :
    runs (.fanFailure 0 999) (fanned (fun d => d.setFan 0 (fun f => { f with duty := 30 }))) (fun d =>
      (d.thrm.fans.get Fan.reset 0).failed && (d.thrm.fans.get Fan.reset 1).duty == 100 && bitOf (d.hdr pTHRM).evtStat 5) = true
    ∧ runs (.fanFailure 0 999) (fanned (fun d => d.setFan 0 (fun f => { f with duty := 29 }))) (fun d => !(d.thrm.fans.get Fan.reset 0).failed) = true := by decide

/-! ## The event recorder -/

def evtIn (f : Dev → Dev) : State := stOf (fun d => f { d with powr := { d.powr with phase := .running }, sysc := { d.sysc with cur := .standalone, base := some .standalone } })
set_option maxRecDepth 100000 in
theorem test_eventOffer_folds :
    runs (.eventOffer pSCHD 1 [325, 7] .direct ⟨0, 0, 0⟩) (evtIn (fun d => { d with evnt := { d.evnt with ring := [{ code := 0x2101, sev := 0, folded := false, deferred := false, carried := false, held := false, rep := 199, stamp := d.stamp, params := [325, 1, 0, 0], written := false }] } })) (fun d =>
      d.evnt.ring.map (fun r => (r.rep, r.folded, r.params)) == [(200, true, [325, 7, 0, 0])] && d.cell pEVNT 0x10C == 1 && d.cell pEVNT 0x114 == 1 && d.cell pEVNT 0x110 == 0) = true := by decide
set_option maxRecDepth 100000 in
theorem test_eventOffer_flag :
    runs (.eventOffer pMEDI 3 [9] .flag ⟨0, 0, 0⟩) (evtIn (fun d => d.setHdr pMEDI (fun h => { h with evtEn := 4 }))) (fun d =>
      (d.hdr pMEDI).evtStat == 4 && d.evnt.ring.map (fun r => (r.code, r.sev, r.params)) == [(0x2203, 2, [9, 0, 0, 0])] && d.cell pEVNT 0x110 == 1) = true
    ∧ runs (.eventOffer pMEDI 3 [9] .flag ⟨0, 0, 0⟩) (evtIn id) (fun d => (d.hdr pMEDI).evtStat == 4 && (d.hdr pMEDI).evtCount == 1 && d.evnt.ring == [] && d.cell pEVNT 0x10C == 0) = true := by decide
def oneRec (c s : Nat) : Rec := { code := c, sev := s, folded := false, deferred := false, carried := false, held := true, rep := 1, stamp := ⟨0, 0, 0⟩, params := [0, 0, 0, 0], written := false }
set_option maxRecDepth 100000 in
theorem test_ringFreeze :
    runs (.ringFreeze 0x101 33) (evtIn id) (fun d => d.evnt.frozen && d.evnt.freezer == 33 && d.evnt.frozenAt == d.now && d.cell pEVNT 0x100 == 1) = true
    ∧ runs (.ringFreeze 1 33) (evtIn (fun d => { d with evnt := { d.evnt with frozen := true, ring := [oneRec 1 0], hold := [oneRec 0x2101 0, oneRec 0x2203 2] } })) (fun d =>
        !d.evnt.frozen && d.evnt.hold == [] && d.evnt.ring.map Rec.code == [1, 0x2101, 0x2203]) = true := by decide
set_option maxRecDepth 100000 in
theorem test_freezeTimeout :
    runs .freezeTimeout (evtIn (fun d => { d with evnt := { d.evnt with frozen := true, hold := [oneRec 0x2101 0] } })) (fun d =>
      !d.evnt.frozen && d.evnt.ring.map Rec.code == [0x2101] && (d.hdr pEVNT).evtStat == 2) = true := by decide
set_option maxRecDepth 100000 in
theorem test_recordsLostReport :
    runs .recordsLostReport (evtIn (fun d => (d.setCell pEVNT 0x124 5).setHdr pEVNT (fun h => { h with evtEn := 1 }))) (fun d =>
      d.evnt.reported == [0, 0, 5, 0] && d.evnt.ring.map (fun r => (r.code, r.params)) == [(0x0501, [0, 0, 5, 0])]) = true
    ∧ runs .recordsLostReport (evtIn id) (fun d => (d.hdr pEVNT).evtStat == 0) = true := by decide
def logging (f : Dev → Dev) : State := evtIn (fun d => f ([0, 1, 2].foldl (fun x n => x.setPort n (fun p => { p with st := .up })) { d with evnt := { d.evnt with logUp := true, pageNo := 63, triple := [100, 524388, 1048676], ring := [oneRec 0x2203 2] } }))
set_option maxRecDepth 100000 in
theorem test_logPageWrite :
    runs (.logPageWrite []) (logging id) (fun d =>
      d.evnt.pageNo == 64 && d.evnt.sealing == some 0 && d.evnt.ring.all (fun r => r.written) && d.cell pEVNT 0x130 == 1 && (d.blk 100).confirmed == 1 && d.dgst.queue.length == 1
      && d.evnt.pages.map (fun p => (p.page, p.used)) == [(63, 1)]) = true
    ∧ runs (.logPageWrite []) (logging (fun d => { d with evnt := { d.evnt with pageNo := 64 } })) (fun d => d.evnt.pageNo == 64 && d.evnt.pages == []) = true := by decide
set_option maxRecDepth 100000 in
theorem test_logPageWrite_stops :
    runs (.logPageWrite []) (logging (fun d => d.setPort 1 (fun p => { p with st := .off }))) (fun d => !d.evnt.logUp && (d.hdr pEVNT).evtStat == 16) = true := by decide

/-! ## The audit -/

set_option maxRecDepth 100000 in
theorem test_auditStrobe_skip :
    runs .auditStrobe (evtIn (fun d => { d with ledg := { d.ledg with pass := some { time := 0, fails := [], counts := [] } } })) (fun d => d.cell pLEDG 0x12C == 1 && (d.hdr pLEDG).evtStat == 2) = true
    ∧ runs .auditStrobe (evtIn (fun d => { d with valt := { d.valt with st := .parked } })) (fun d => d.ledg.pass == none) = true := by decide
set_option maxRecDepth 100000 in
theorem test_auditStrobe :
    runs .auditStrobe (evtIn (fun d => d.setCell pEVNT 0x10C 5)) (fun d => match d.ledg.pass with | some p => p.time == d.now && p.fails.contains (17, 0, 5) | none => false) = true := by decide
set_option maxRecDepth 100000 in
theorem test_auditNow :
    runs (.auditNow true 33) (evtIn (fun d => d.setCell pLEDG 0x800 0)) (fun d => d.ledg.pass.isSome) = true
    ∧ runs (.auditNow false 33) (evtIn id) (fun d => d.ledg.pass == none && d.cell pLEDG 0x100 == 0 && (d.hdr pLEDG).evtStat == 8) = true := by decide
def passed (f : List (Nat × Nat × Int)) (l : Ledg → Ledg) : State := evtIn (fun d => { d with ledg := l { d.ledg with pass := some { time := 3000, fails := f, counts := [(3, 9), (4, 0xFFFFFFFF)] } } })
set_option maxRecDepth 100000 in
theorem test_auditPassEnd :
    runs (.auditPassEnd 60 none) (passed [] id) (fun d => d.ledg.result == 1 && d.ledg.pass == none && d.cell pLEDG 0x108 == 1 && d.ledg.lastUs == 60) = true
    ∧ runs (.auditPassEnd 60 none) (passed [(1, 64, 5)] id) (fun d =>
        d.ledg.result == 2 && d.ledg.latched == some (1, 64, 5, 3000) && d.cell pLEDG 0x10C == 1 && d.ledg.violMask == 2 && bitOf (d.hdr pLEDG).evtStat 0 && d.host.telemetry == 1) = true
    ∧ runs (.auditPassEnd 60 none) (passed [] (fun l => { l with lastCounts := [(3, 10), (4, 0)] })) (fun d => d.ledg.result == 2 && d.ledg.violMask == 0x20000 && d.cell pLEDG 0x10C == 2) = true := by decide
set_option maxRecDepth 100000 in
theorem test_auditPassEnd_poisoned :
    runs (.auditPassEnd 60 (some (2, 64))) (passed [] id) (fun d => d.ledg.poisonedOnce && d.ledg.pass.isSome) = true
    ∧ runs (.auditPassEnd 60 (some (2, 64))) (passed [] (fun l => { l with poisonedOnce := true })) (fun d => d.ledg.result == 3 && d.ledg.pass == none && bitOf (d.hdr pLEDG).evtStat 2) = true := by decide
set_option maxRecDepth 100000 in
theorem test_ledgerAuditDisable :
    runs (.ledgerAuditDisable (some 0xFFFDFFFF) 33) (evtIn (fun d => d.setHdr pLEDG (fun h => { h with unlocked := true }))) (fun d => d.cell pLEDG 0x800 == 0x1FFFF && (d.hdr pLEDG).evtStat == 8) = true
    ∧ runs (.ledgerAuditDisable none 33) (evtIn id) (fun d => d.cell pLEDG 0x100 == 0 && (d.hdr pLEDG).evtStat == 8) = true := by decide
set_option maxRecDepth 100000 in
theorem test_violReads :
    runs (.violLedgerRead 33) (evtIn (fun d => { d with ledg := { d.ledg with latched := some (1, 64, 5, 0x100000003) } })) (fun d => d.out == [.word 0x81000040 false] && d.ledg.latched == none) = true
    ∧ runs (.violTimeLoRead 33) (evtIn (fun d => { d with ledg := { d.ledg with latched := some (1, 64, 5, 0x100000003) } })) (fun d => d.out == [.word 3 false] && d.ledg.hiLatch.get 0 33 == 1) = true := by decide


set_option maxRecDepth 100000 in
/-- The worked example of the ball map (R546). -/
theorem test_ball_worked_example :
    [ballAt 3 11, ballAt 35 40, ballAt 20 7, ballAt 17 42, ballAt 23 30, ballAt 20 15, ballAt 21 21] =
      [.dram 0 "DQS_T" 8, .dram 3 "CS_N" 1, .sig "SLK_RX_N" 5, .sig "SLK_TX_P" 12, .rail "VANA", .rail "VSS", .none] := by decide
set_option maxRecDepth 100000 in
/-- A group of check bits: CB[3:0] (R538, R546). -/
theorem test_strobe_wires : (List.range 4).map (strobeWire 8) = [("CB", 0), ("CB", 1), ("CB", 2), ("CB", 3)] ∧ strobeWire 19 3 = ("CB", 15) := by
  decide

end Sys2Proof.Tests
end

/-! # The canonical form of what is kept sparsely (O57, O58; log entry 4) -/

section
/-! SUPPORT. Every operation of the model keeps `Dev.canonical`.  The memories change only through the stores of `Laws/Memory`, the puts of `norCut`,
and the image that the vault holds; what any other operation changes, `Dev.canonical.frame` allows.  So each operation has one lemma, named after it,
and the lemma of a composition is the composition of the lemmas: where the model has `(d.f x).g y`, the proof has `h.f.g`, and where the model
branches, so does the proof.  The order is the model's own, and the headings are its files. -/

namespace Sys2Proof.Machine

/-- The image that the test of R287 lets recovery use is the vault's. -/
theorem Dev.imageTest_usable {d : Dev} {bad : List (Nat × Nat)} {im : Image} (h : d.imageTest bad = .usable im) : d.valt.image = some im := by
  unfold Dev.imageTest at h
  repeat' split at h
  all_goals cases h
  assumption

namespace Dev.canonical

-- These proofs are checked one after another: each cites earlier ones, and a waiting thread for each does not fit in the memory of the check.
set_option Elab.async false

variable {d e : Dev}

/-- The canonical form speaks of the memories and of the vault image alone: any other block may change. -/
theorem frame (h : d.canonical) {regs : Regs} {sysc : Sysc} {evnt : Evnt} {ledg : Ledg} {powr : Powr} {clkr : Clkr} {side : Side} {thrm : Thrm}
    {fsto : Fsto} {dgst : Dgst} {cryp : Cryp} {dram : Dram} {host : HostS} {ten : Ten} {zone : ZoneS} {sched : Sched} {media : Media} {prty : Prty}
    {valt : Valt} {peer : Peer} {ports : SMap Port} {out : List Out} {free : Nat} (him : valt.image = d.valt.image := by rfl) :
    Dev.canonical { d with
      regs := regs, sysc := sysc, evnt := evnt, ledg := ledg, powr := powr, clkr := clkr, side := side, thrm := thrm, fsto := fsto, dgst := dgst
      cryp := cryp, dram := dram, host := host, ten := ten, zone := zone, sched := sched, media := media, prty := prty, valt := valt, peer := peer
      ports := ports, out := out, free := free } := by
  obtain ⟨hmem, hnor, hotp, himage⟩ := h
  exact ⟨hmem, hnor, hotp, fun im hm => himage im (him ▸ hm)⟩

/-- What agrees in the memories and the vault image is canonical alike. -/
theorem of_eq (h : d.canonical) (hmem : e.mem = d.mem) (hnor : e.nor = d.nor) (hotp : e.otp = d.otp) (hvalt : e.valt = d.valt) : e.canonical := by
  unfold Dev.canonical
  rw [hmem, hnor, hotp, hvalt]
  exact h

theorem ite {p : Prop} [Decidable p] (hd : d.canonical) (he : e.canonical) : (if p then d else e).canonical := by
  split
  · exact hd
  · exact he

theorem foldl {α : Type} {l : List α} {f : Dev → α → Dev} (h : d.canonical) (hf : ∀ x a, x.canonical → (f x a).canonical) :
    (l.foldl f d).canonical := by
  induction l generalizing d with
  | nil => exact h
  | cons a l ih => exact ih (hf d a h)

theorem each {α : Type} {l : List α} {f : Dev → α → Dev} (h : d.canonical) (hf : ∀ x a, x.canonical → (f x a).canonical) :
    (d.each l f).canonical := h.foldl hf

theorem foldl_fst {α β : Type} {l : List α} {b : Dev × β} {f : Dev × β → α → Dev × β} (h : b.1.canonical)
    (hf : ∀ x a, x.1.canonical → (f x a).1.canonical) : (l.foldl f b).1.canonical := by
  induction l generalizing b with
  | nil => exact h
  | cons a l ih => exact ih (hf b a h)

theorem foldl_snd {α β : Type} {l : List α} {b : β × Dev} {f : β × Dev → α → β × Dev} (h : b.2.canonical)
    (hf : ∀ x a, x.2.canonical → (f x a).2.canonical) : (l.foldl f b).2.canonical := by
  induction l generalizing b with
  | nil => exact h
  | cons a l ih => exact ih (hf b a h)

theorem withMem (h : d.canonical) {m : Memory} (w : m.wf = true) : Dev.canonical { d with mem := m } := ⟨w, h.2⟩

/-- The vault image of a canonical part holds memory in canonical form. -/
theorem wf_of_image (h : d.canonical) {im : Image} (him : d.valt.image = some im) : Memory.wf im.mem = true := by
  obtain ⟨_, _, _, himage⟩ := h
  exact himage im him

theorem store {a : Nat} {bs : List Byte} (h : d.canonical) : (d.store a bs).canonical :=
  ⟨Memory.wf_store a bs h.1, h.2⟩

theorem norProg {a : Nat} {w : Word} (h : d.canonical) : (d.norProg a w).canonical :=
  ⟨h.1, Dev.norProg_wf a w h.2.1, h.2.2⟩

theorem norErase {a : Nat} (h : d.canonical) : (d.norErase a).canonical :=
  ⟨h.1, Dev.norErase_wf a h.2.1, h.2.2⟩

theorem otpSet {i : Nat} {v : Word} (h : d.canonical) : (d.otpSet i v).canonical :=
  ⟨h.1, h.2.1, Dev.otpSet_wf i v h.2.2.1, h.2.2.2⟩

theorem raise (h : d.canonical) {p n : Nat} {ps : List Nat} : (d.raise p n ps).canonical :=
  h.of_eq (Dev.raise_mem ..) (Dev.raise_nor ..) (Dev.raise_otp ..) (Dev.raise_valt ..)

theorem offer (h : d.canonical) {c v : Nat} {ps : List Word} {s : Option Stamp} : (d.offer c v ps s).canonical :=
  h.of_eq (Dev.offer_mem ..) (Dev.offer_nor ..) (Dev.offer_otp ..) (Dev.offer_valt ..)

/-! ## Machine/Ops.lean -/

theorem setHdr (h : d.canonical) {page : Nat} {f : PageHdr → PageHdr} : (d.setHdr page f).canonical := h.frame

theorem setCellI (h : d.canonical) {page off inst : Nat} {v : Word} : (d.setCellI page off inst v).canonical := h.frame

theorem setCell (h : d.canonical) {page off : Nat} {v : Word} : (d.setCell page off v).canonical := h.setCellI

theorem count (h : d.canonical) {page off n : Nat} : (d.count page off n).canonical := h.setCell

theorem emit (h : d.canonical) {o : Out} : (d.emit o).canonical := h.frame

theorem takeFree (h : d.canonical) : d.takeFree.canonical := h.frame

theorem setPort (h : d.canonical) {n : Nat} {f : Port → Port} : (d.setPort n f).canonical := h.frame

theorem setLane (h : d.canonical) {n : Nat} {f : Lane → Lane} : (d.setLane n f).canonical := h.frame

theorem setHport (h : d.canonical) {n : Nat} {f : HPort → HPort} : (d.setHport n f).canonical := h.frame

theorem setFn (h : d.canonical) {port fn : Nat} {f : Fn → Fn} : (d.setFn port fn f).canonical := h.setHport

theorem modCtx (h : d.canonical) {c : Nat} {f : Ctx → Ctx} : (d.modCtx c f).canonical := h.frame

theorem setSlice (h : d.canonical) {s : Nat} {f : Slice → Slice} : (d.setSlice s f).canonical := h.frame

theorem setPart (h : d.canonical) {p : Nat} {f : Partition → Partition} : (d.setPart p f).canonical := h.frame

theorem setZn (h : d.canonical) {z : Nat} {f : Zone → Zone} : (d.setZn z f).canonical := h.frame

theorem setArea (h : d.canonical) {a : Nat} {f : Area → Area} : (d.setArea a f).canonical := h.frame

theorem modNs (h : d.canonical) {n : Nat} {f : Ns → Ns} : (d.modNs n f).canonical := h.frame

theorem setDie (h : d.canonical) {k : Nat} {f : Die → Die} : (d.setDie k f).canonical := h.frame

theorem setBlk (h : d.canonical) {k : Nat} {f : Block → Block} : (d.setBlk k f).canonical := h.frame

theorem modOp (h : d.canonical) {k : Nat} {f : OpenOp → OpenOp} : (d.modOp k f).canonical := h.frame

theorem setPool (h : d.canonical) {p : Nat} {f : Pool → Pool} : (d.setPool p f).canonical := h.frame

theorem setChan (h : d.canonical) {c : Nat} {f : Chan → Chan} : (d.setChan c f).canonical := h.frame

theorem send (h : d.canonical) {l : LinkId} {p : Pkt} : (d.send l p).canonical := by
  unfold Dev.send
  split
  · exact h.setPort
  · exact h.setLane

theorem psn (h : d.canonical) {p : Pkt} : (d.psn p).canonical := by
  unfold Dev.psn
  dsimp only
  split
  · split
    · exact h.frame.send
    · exact h.frame
  · exact h

theorem journal (h : d.canonical) {b : JBody} : (d.journal b).canonical := h.frame.psn

theorem commitCtx (h : d.canonical) {c status : Nat} {dnr : Bool} {dw0 : Nat} : (d.commitCtx c status dnr dw0).canonical := h.modCtx

theorem done (h : d.canonical) {c : Nat} : (d.done c).canonical := h.commitCtx

theorem freeCtx (h : d.canonical) {c : Nat} : (d.freeCtx c).canonical := by
  unfold Dev.freeCtx
  split
  · exact h
  · split
    · exact h.frame.setSlice
    · exact h.frame.setSlice
    · exact h.frame

theorem silent (h : d.canonical) {c : Nat} : (d.silent c).canonical := by
  unfold Dev.silent
  split
  · exact h
  · exact h.count.freeCtx

theorem aenFn (h : d.canonical) {port fn : Nat} {a : Aen} : (d.aenFn port fn a).canonical := by
  unfold Dev.aenFn
  extract_lets f on
  split
  · exact h
  · split
    · exact .commitCtx (.ite h.setHport h)
    · exact h.setFn

theorem aen (h : d.canonical) {a : Aen} : (d.aen a).canonical := h.each (fun _ _ h1 => h1.aenFn)

/-! ## Machine/Clock.lean -/

theorem tick (h : d.canonical) : d.tick.canonical := .ite h (.ite h.frame h.frame)

/-! ## Machine/Flags.lean -/

theorem putRecs (h : d.canonical) {b : List Rec} : (d.putRecs b).canonical := h.frame

theorem countLost (h : d.canonical) {s : Option Nat} : (d.countLost s).canonical := by
  unfold Dev.countLost
  split
  · exact h.count
  · exact h

theorem alerted (h : d.canonical) {sev : Nat} : (d.alerted sev).canonical := .ite (.frame (.ite h.aen h)) (.ite h.aen h)

theorem newRec (h : d.canonical) {r : Rec} : (d.newRec r).canonical := .ite h.countLost.count.putRecs.alerted h.countLost.count

theorem setFlag (h : d.canonical) {page flag : Nat} : (d.setFlag page flag).canonical := h.setHdr

theorem deny (h : d.canonical) {page : Nat} : (d.deny page).canonical := h.setFlag

theorem unnamed (h : d.canonical) : d.unnamed.canonical := .ite h.takeFree.takeFree.takeFree.offer h.takeFree.takeFree.takeFree.frame

theorem present (h : d.canonical) {e : HeldEvent} : (d.present e).canonical := h.offer

theorem presentHeld (h : d.canonical) : d.presentHeld.canonical := .each (h.each (fun _ _ h1 => h1.present)) (fun _ _ h1 => h1.frame)

theorem fabricError (h : d.canonical) {addr cause master : Nat} {write : Bool} : (d.fabricError addr cause master write).canonical := h.frame.raise

theorem onWrite (h : d.canonical) {page off master : Nat} {k : Dev → Dev} (hk : ∀ x, x.canonical → (k x).canonical) :
    (d.onWrite page off master k).canonical := by
  unfold Dev.onWrite
  split
  · exact h.fabricError
  · exact .ite h.deny (hk _ h)

theorem onRead (h : d.canonical) {page off master : Nat} {k : Dev → Dev} (hk : ∀ x, x.canonical → (k x).canonical) :
    (d.onRead page off master k).canonical := by
  unfold Dev.onRead
  split
  · exact h.fabricError.emit
  · exact hk _ h

/-! ## Machine/CryptOps.lean -/

theorem draw (h : d.canonical) {n : Nat} : (d.draw n).2.canonical := h.frame

theorem crypStart (h : d.canonical) : d.crypStart.canonical := by
  unfold Dev.crypStart
  dsimp only
  exact .ite h.draw.frame.raise (.ite h.draw.frame.raise h.draw.frame)

theorem setKslot (h : d.canonical) {n : Nat} {f : KeySlot → KeySlot} : (d.setKslot n f).canonical := h.frame

theorem slotResult (h : d.canonical) {op r : Nat} : (d.slotResult op r).canonical := .ite h.frame.raise h.frame

theorem genKey (h : d.canonical) {slot nsid : Nat} : (d.genKey slot nsid).canonical := h.draw.setKslot

theorem endJob (h : d.canonical) {j : DJob} {status cmp : Nat} : (d.endJob j status cmp).canonical := by
  unfold Dev.endJob
  extract_lets d1
  have hd1 : d1.canonical := .ite h h.store.store
  exact .ite hd1.frame.setFlag.count hd1.frame.setFlag.count.raise

theorem lengthError (h : d.canonical) {j : DJob} {fed kind : Nat} : (d.lengthError j fed kind).canonical := h.raise.endJob

theorem exportJob (h : d.canonical) {j : DJob} : (d.exportJob j).canonical := .ite h h.store

theorem feed (h : d.canonical) {j : DJob} {n : Nat} : (d.feed j n).2.canonical := h.count

theorem dgstFreeze (h : d.canonical) : d.dgstFreeze.canonical := h.each (fun _ _ h1 => h1.endJob)

/-! ## Machine/EvntOps.lean -/

theorem sealDone (h : d.canonical) : d.sealDone.canonical := by
  unfold Dev.sealDone
  split
  · exact h
  · exact h.frame.raise

theorem submitSeal (h : d.canonical) : d.submitSeal.canonical := .ite h h.frame.count

theorem putRec (h : d.canonical) {r : Rec} : (d.putRec r).canonical := by
  unfold Dev.putRec
  refine .frame ?_
  split
  · exact h.count
  · exact h

theorem endFreeze (h : d.canonical) : d.endFreeze.canonical := h.frame.each (fun _ _ h1 => h1.putRec)

/-! ## Machine/FstoOps.lean -/

theorem norProgs (h : d.canonical) {a : Nat} {ws : List Word} : (d.norProgs a ws).canonical := by
  induction ws generalizing d a with
  | nil => exact h
  | cons w ws ih => exact ih h.norProg

/-- What a cut-off leaves is undefined, and kept in canonical form all the same (R437). -/
theorem norCut (h : d.canonical) {op : NorOp} : (d.norCut op).canonical := by
  unfold Dev.norCut
  split
  · exact h.foldl (fun _ _ ⟨hmem, hnor, hrest⟩ => ⟨hmem, SMap.wf_put norDefault _ _ hnor, hrest⟩)
  · exact h.foldl (fun _ _ h1 => h1.frame.norProg)

theorem tallyWrite (h : d.canonical) {wa wb : Word} : (d.tallyWrite wa wb).canonical := by
  unfold Dev.tallyWrite
  extract_lets d1
  have hd1 : d1.canonical := by
    unfold d1
    split
    · exact h
    · exact h.norProg.norProg
  exact .ite hd1.norProg.norProg hd1

theorem tallyAttempt (h : d.canonical) {bank : Nat} : (d.tallyAttempt bank).canonical := h.tallyWrite

theorem tallySelect (h : d.canonical) {bank : Nat} : (d.tallySelect bank).canonical := h.tallyWrite

theorem tallyMark (h : d.canonical) {w : Word} : (d.tallyMark w).canonical := by
  unfold Dev.tallyMark
  split
  · exact .ite h.norProg h
  · exact h

theorem tallyRotate (h : d.canonical) : d.tallyRotate.canonical := by
  unfold Dev.tallyRotate
  split
  · exact h
  · exact .ite (.norProg (.norProg (.ite h.norErase.norProg.norProg h.norErase))) h

theorem cfgOpen (h : d.canonical) {c rot : Nat} : (d.cfgOpen c rot).canonical := h.norErase.norProg.norProg

theorem cfgHeadFor (h : d.canonical) {n : Nat} : (d.cfgHeadFor n).2.canonical := by
  unfold Dev.cfgHeadFor
  split
  · exact h.cfgOpen
  · split
    · exact h
    · exact h.cfgOpen

theorem cfgProgram (h : d.canonical) {r : CfgRec} : (d.cfgProgram r).canonical := h.cfgHeadFor.norProgs.norProg.each (fun _ _ h1 => h1.norProg)

theorem cfgMake (h : d.canonical) {type key : Nat} {data : List Word} : (d.cfgMake type key data).canonical := .ite h.frame.cfgProgram h.frame

theorem cfgFlush (h : d.canonical) : d.cfgFlush.canonical := .each (h.each (fun _ _ h1 => h1.cfgProgram)) (fun _ _ h1 => h1.frame)

theorem cfgCompact (h : d.canonical) : d.cfgCompact.canonical := by
  unfold Dev.cfgCompact
  split
  · exact .norErase (.norProg (h.each (fun _ _ h1 => h1.cfgHeadFor.norProgs.norProg)))
  · exact h

theorem cfgErase (h : d.canonical) {type key : Nat} : (d.cfgErase type key).canonical :=
  .frame (h.each (fun _ _ h1 => .norProg (h1.each (fun _ _ h2 => h2.norProg))))

theorem cfgEraseKey (h : d.canonical) {nsid : Nat} : (d.cfgEraseKey nsid).canonical := h.cfgErase

theorem storeModes (h : d.canonical) : d.storeModes.canonical := h.cfgMake

/-! ## Machine/Crypto.lean -/

theorem slotOp (h : d.canonical) {master : Nat} {k : Dev → Dev} (hk : ∀ x, x.canonical → (k x).canonical) : (d.slotOp master k).canonical :=
  h.onWrite (fun _ h2 => .ite h2.deny (hk _ h2))

theorem slotGenerate (h : d.canonical) {master : Nat} : (d.slotGenerate master).canonical :=
  h.slotOp (fun _ h1 => .ite h1.slotResult (.ite h1.slotResult (.ite h1.slotResult h1.genKey.slotResult)))

theorem loadSel (h : d.canonical) : d.loadSel.canonical := by
  unfold Dev.loadSel
  split
  · exact h.slotResult
  · split
    · exact h.slotResult
    · split
      · exact h.setKslot.slotResult
      · exact h.slotResult

theorem slotLoad (h : d.canonical) {master : Nat} : (d.slotLoad master).canonical := h.slotOp (fun _ h1 => h1.loadSel)

theorem slotExport (h : d.canonical) {master : Nat} : (d.slotExport master).canonical :=
  h.slotOp (fun _ h1 => .ite h1.slotResult (.ite h1.slotResult h1.store.slotResult))

theorem slotZero (h : d.canonical) {master : Nat} : (d.slotZero master).canonical :=
  h.slotOp (fun _ h1 => .ite h1.slotResult (.ite h1.slotResult h1.setKslot.frame))

theorem slotDrained (h : d.canonical) {slot : Nat} : (d.slotDrained slot).canonical := .ite (.ite h.setKslot.frame h.setKslot) h

theorem sealCmd (h : d.canonical) {master : Nat} : (d.sealCmd master).canonical := h.slotOp (fun _ h1 => .ite h1.slotResult h1.store.slotResult)

theorem unsealAt (h : d.canonical) : d.unsealAt.canonical := by
  unfold Dev.unsealAt
  split
  · exact h.slotResult
  · split
    · exact h.store.slotResult
    · exact h.slotResult

theorem unsealCmd (h : d.canonical) {master : Nat} : (d.unsealCmd master).canonical := h.slotOp (fun _ h1 => h1.unsealAt)

theorem randomCmd (h : d.canonical) {master : Nat} : (d.randomCmd master).canonical :=
  h.slotOp (fun _ h1 => .ite h1.slotResult (.ite h1.slotResult h1.draw.store.slotResult))

theorem drbgReseed (h : d.canonical) {passes : Bool} : (d.drbgReseed passes).canonical := .ite h.frame h

theorem drbgFail (h : d.canonical) {test failures : Nat} : (d.drbgFail test failures).canonical := .ite h.frame.raise h.frame

theorem jobSubmit (h : d.canonical) {addr master : Nat} : (d.jobSubmit addr master).canonical :=
  h.onWrite (fun _ h1 => .ite h1.frame h1.frame.count)

theorem jobSelect (h : d.canonical) : d.jobSelect.canonical := by
  unfold Dev.jobSelect
  split
  · exact h
  · split
    · exact h
    · split
      · exact h.frame.endJob
      · split
        · exact h.frame.endJob
        · split
          · split
            · exact .ite h.frame.lengthError h.frame
            · exact .endJob (.ite h.frame.raise h.frame)
          · exact .ite h.frame.lengthError h.frame

theorem jobPreempt (h : d.canonical) {blocks : Nat} : (d.jobPreempt blocks).canonical := by
  unfold Dev.jobPreempt
  split
  · exact h
  · exact .ite h (.ite h.endJob (.ite h.feed.exportJob.count.frame h.feed.frame))

theorem jobEnd (h : d.canonical) : d.jobEnd.canonical := by
  unfold Dev.jobEnd
  split
  · exact h
  · extract_lets left b whole tail r
    split
    · exact h.endJob
    · have hr : r.2.canonical := h.feed
      split
      · exact .ite hr.lengthError hr.exportJob.endJob
      · exact .ite hr.lengthError (.ite hr.lengthError (.ite hr.sealDone.endJob (.ite hr.endJob (.ite hr.endJob hr.store.endJob))))

theorem cancelJob (h : d.canonical) {num : Nat} : (d.cancelJob num).canonical := by
  unfold Dev.cancelJob
  split
  · exact h.endJob
  · exact h

theorem jobCancel (h : d.canonical) {num master : Nat} : (d.jobCancel num master).canonical := h.onWrite (fun _ h1 => h1.cancelJob)

theorem compareCmd (h : d.canonical) {len master : Nat} : (d.compareCmd len master).canonical := h.onWrite (fun _ h1 => h1.setCell.frame)

theorem ctxRenew (h : d.canonical) {master : Nat} : (d.ctxRenew master).canonical := h.onWrite (fun _ h1 => h1.draw.frame.raise)

/-! ## Machine/DramOps.lean -/

theorem access (h : d.canonical) {ch a : Nat} : (d.access ch a).canonical := by
  unfold Dev.access
  dsimp only
  split
  · exact h.setChan
  · exact .ite h.setChan.count h.setChan.count

theorem noteDrain (h : d.canonical) {ch sub : Nat} : (d.noteDrain ch sub).canonical := h.setChan

theorem drainTo (h : d.canonical) {n ch sub : Nat} : (Dev.drainTo n d ch sub).1.canonical := by
  induction n generalizing d with
  | zero => exact h
  | succ n ih =>
    unfold Dev.drainTo
    split
    · exact h
    · split
      · exact ih h.access.setChan.noteDrain
      · exact h.access.setChan

theorem eccCapture (h : d.canonical) {ch a port dev rank : Nat} {ue : Bool} : (d.eccCapture ch a port dev rank ue).canonical :=
  .ite h.setCell.setCell.setCell.setChan h

theorem setRankRec (h : d.canonical) {ch rank st cause : Nat} : (d.setRankRec ch rank st cause).canonical := h.cfgMake

theorem retireCond (h : d.canonical) {ch rank cause : Nat} : (d.retireCond ch rank cause).canonical :=
  .ite h (.ite h.setRankRec.setChan h.setRankRec)

theorem corrected (h : d.canonical) {ch a port dev : Nat} : (d.corrected ch a port dev).canonical :=
  .ite h.setChan.count.eccCapture.raise.retireCond h.setChan.count.eccCapture.raise

theorem uncorrectable (h : d.canonical) {ch a port : Nat} : (d.uncorrectable ch a port).canonical := h.count.eccCapture.raise

theorem dport (h : d.canonical) {ch port : Nat} {f : DramPort → DramPort} : (d.dport ch port f).canonical := h.setChan

theorem request (h : d.canonical) {port a len : Nat} {data : Option (List Byte)} {mergeBad : Bool} {use : DramUse} :
    (d.request port a len data mergeBad use).canonical := by
  unfold Dev.request
  split
  · exact h.setChan.dport
  · exact .noteDrain (.ite h.setChan.store.dport.frame (.ite h.setChan.store.dport.frame.count h.setChan.store.dport))

theorem answer (h : d.canonical) {ch : Nat} {r : DramReq} : (d.answer ch r).canonical := h.dport

theorem paused (h : d.canonical) {ch ns : Nat} : (d.paused ch ns).canonical := h.count.setChan

theorem startRetire (h : d.canonical) {ch rank cause : Nat} : (d.startRetire ch rank cause).canonical :=
  .ite h.setChan.raise h.setChan.setRankRec.setChan.raise

theorem endRetire (h : d.canonical) {ch poisoned : Nat} {r : Retirement} : (d.endRetire ch poisoned r).canonical :=
  .raise (.setRankRec (h.setChan.each (fun _ _ h1 => h1.setChan)))

theorem dramFreeze (h : d.canonical) : d.dramFreeze.canonical := h.each (fun _ _ h1 => h1.setChan)

theorem dramSleep (h : d.canonical) : d.dramSleep.canonical := h.each (fun _ _ h1 => h1.setChan.setHdr)

theorem dramWake (h : d.canonical) : d.dramWake.canonical := h.each (fun _ _ h1 => h1.setChan.setHdr)

/-! ## Machine/MediaOps.lean -/

theorem warnCheck (h : d.canonical) : d.warnCheck.canonical := h.frame.each (fun _ _ h1 => h1.aen)

theorem redundancyOf (h : d.canonical) {nsid : Nat} : (d.redundancyOf nsid).canonical := by
  unfold Dev.redundancyOf
  split
  · exact h
  · exact .ite h h.modNs.raise.aen

theorem redundancy (h : d.canonical) : d.redundancy.canonical := .warnCheck (h.each (fun _ _ h1 => h1.redundancyOf))

theorem applyEpoch (h : d.canonical) {page : Nat} : (d.applyEpoch page).canonical := .ite h (.setHdr (.frame (h.each (fun _ _ h1 => h1.setCellI))))

theorem reserveCheck (h : d.canonical) {k : Nat} : (d.reserveCheck k).canonical :=
  .warnCheck (.ite (.raise (.setDie (.ite h.setDie.raise h))) (.ite h.setDie.raise h))

theorem retireBlk (h : d.canonical) {b reason : Nat} : (d.retireBlk b reason).canonical := h.setBlk.count.setDie.journal.raise.reserveCheck

theorem enqueue (h : d.canonical) {kind : ItemKind} {deadline : Nat} {epoch : Word} {urgent suspends : Bool} {x : Desc} :
    (d.enqueue kind deadline epoch urgent suspends x).canonical := h.frame.setDie

theorem enqueueBg (h : d.canonical) {kind : ItemKind} {x : Desc} : (d.enqueueBg kind x).canonical := h.enqueue

theorem enqueueErase (h : d.canonical) {b : Nat} {slc : Bool} : (d.enqueueErase b slc).canonical := .ite h h.enqueue

theorem urgeItem (h : d.canonical) {k : Nat} {i : QItem} : (d.urgeItem k i).canonical := .ite h h.setDie.raise

theorem makeRunningUrgent (h : d.canonical) {k : Nat} : (d.makeRunningUrgent k).canonical := .ite h.setDie.raise h

theorem makeUrgent (h : d.canonical) {k : Nat} : (d.makeUrgent k).canonical := by
  unfold Dev.makeUrgent
  dsimp only
  split
  · exact h
  · split
    · exact .ite h.urgeItem h.makeRunningUrgent
    · exact h.makeRunningUrgent
    · exact h.urgeItem
    · exact h

theorem floorCheck (h : d.canonical) {k : Nat} : (d.floorCheck k).canonical := .ite (h.makeRunningUrgent.foldl (fun _ _ h1 => h1.urgeItem)) h

theorem releaseBlk (h : d.canonical) {b : Nat} : (d.releaseBlk b).canonical := .ite h.setBlk.enqueueErase.floorCheck h

theorem uncertainBlk (h : d.canonical) {b zeros : Nat} : (d.uncertainBlk b zeros).canonical :=
  .ite h.setBlk.count.raise.retireBlk h.setBlk.count.raise.enqueueErase.floorCheck

theorem edone (h : d.canonical) {b result zeros : Nat} : (d.edone b result zeros).canonical := h.journal

theorem mediEpoch (h : d.canonical) : d.mediEpoch.canonical := .ite h (h.applyEpoch.each (fun _ _ h1 => h1.reserveCheck))

theorem sendDesc (h : d.canonical) {x : Desc} {deadline : Nat} : (d.sendDesc x deadline).canonical := h.mediEpoch.frame.count.send

theorem resendDesc (h : d.canonical) {key : Nat} {x : Desc} : (d.resendDesc key x).canonical := h.mediEpoch.modOp.count.send

theorem closeOp (h : d.canonical) {key : Nat} : (d.closeOp key).canonical := h.frame

theorem pin (h : d.canonical) {b : Nat} : (d.pin b).canonical := h.setBlk

theorem unpin (h : d.canonical) {b : Nat} : (d.unpin b).canonical := h.setBlk

theorem sensed (h : d.canonical) {b : Nat} : (d.sensed b).canonical := h.setBlk

theorem trackRecord (h : d.canonical) {run : Nat} : (d.trackRecord run).canonical := .ite h.frame.journal h

theorem trackSave (h : d.canonical) : d.trackSave.canonical := h.each (fun _ _ h1 => h1.trackRecord)

theorem dieFault (h : d.canonical) {k : Nat} : (d.dieFault k).canonical := h.setDie

theorem dieGood (h : d.canonical) {k : Nat} : (d.dieGood k).canonical := h.setDie

theorem slowEvent (h : d.canonical) {sled : Nat} : (d.slowEvent sled).canonical := h.frame

theorem addJob (h : d.canonical) {kind : PJobKind} {cls : Nat} : (d.addJob kind cls).canonical := h.frame

theorem endPJob (h : d.canonical) {n : Nat} : (d.endPJob n).canonical := h.frame

/-! ## Machine/SchedOps.lean -/

theorem payCredits (h : d.canonical) {p n : Nat} : (d.payCredits p n).canonical := h.setPool

theorem giveCredit (h : d.canonical) {p : Nat} : (d.giveCredit p).canonical := h.setPool

theorem refuseCredits (h : d.canonical) {p n slice : Nat} : (d.refuseCredits p n slice).canonical := h.setPool.raise

theorem suspendDie (h : d.canonical) {k : Nat} : (d.suspendDie k).canonical := by
  unfold Dev.suspendDie
  dsimp only
  split
  · exact h.setDie.sendDesc
  · exact h.setDie.sendDesc
  · exact h

theorem enqueueReads (h : d.canonical) {pages : List Nat} {sled pos block wl off count due gen : Nat} {e : Word} {susp : Bool} {use : DieUse} :
    (d.enqueueReads pages sled pos block wl off count due gen e susp use).canonical := h.each (fun _ _ h1 => h1.enqueue)

theorem modRecon (h : d.canonical) {i : Nat} {f : Recon → Recon} : (d.modRecon i f).canonical := h.frame

theorem modSub (h : d.canonical) {i : Nat} {f : Sub → Sub} : (d.modSub i f).canonical := h.frame

theorem reconReady (h : d.canonical) {i : Nat} : (d.reconReady i).canonical := by
  unfold Dev.reconReady
  split
  · exact h
  · exact h.addJob

theorem askMember (h : d.canonical) {i m : Nat} {pay : Option Nat} : (d.askMember i m pay).canonical := by
  unfold Dev.askMember
  dsimp only
  split
  · exact h
  · split
    · exact h
    · exact .ite h.modRecon.enqueueReads.suspendDie h.modRecon.enqueueReads

theorem beginRecon (h : d.canonical) {i : Nat} {set : List Nat} {src : RowSrc} {pay : Option Nat} : (d.beginRecon i set src pay).canonical := by
  unfold Dev.beginRecon
  split
  · exact h
  · exact .ite h.modRecon.count.reconReady (h.modRecon.count.each (fun _ _ h1 => h1.askMember))

theorem newRecon (h : d.canonical) {r : Recon} : (d.newRecon r).1.canonical := h.frame

theorem waitForced (h : d.canonical) {i : Nat} : (d.waitForced i).canonical := .ite h h.frame

theorem startForced (h : d.canonical) {r : Recon} : (d.startForced r).1.canonical := by
  unfold Dev.startForced
  dsimp only
  split
  · exact h
  · split
    · exact h.newRecon.beginRecon
    · split
      · exact h.newRecon.payCredits.beginRecon
      · exact h.newRecon.waitForced

theorem unqueued {x : Dev} (h : x.canonical) {u : DieUse} : (x.unqueued u).canonical := by
  unfold Dev.unqueued
  dsimp only
  split
  · split
    · exact h
    · split
      · split
        · exact h.modRecon.giveCredit
        · exact h.modRecon
      · exact h.modRecon
  · exact h

theorem unqueue (h : d.canonical) {p : DieUse → Bool} : (d.unqueue p).canonical := h.frame.each (fun _ _ h1 => h1.unqueued)

theorem reapRecon (h : d.canonical) {i : Nat} : (d.reapRecon i).canonical := by
  unfold Dev.reapRecon
  split
  · exact h
  · exact .ite h h.frame

theorem endRecon (h : d.canonical) {i : Nat} : (d.endRecon i).canonical := by
  unfold Dev.endRecon
  split
  · exact h
  · exact .reapRecon (.unqueue (.modRecon (.ite h.count h)))

theorem dropSub (h : d.canonical) {id : Nat} : (d.dropSub id).canonical := by
  unfold Dev.dropSub
  split
  · exact h
  · exact h.unqueue.frame.each (fun _ _ h1 => h1.endRecon)

theorem dropSubs (h : d.canonical) {c : Nat} : (d.dropSubs c).canonical := h.each (fun _ _ h1 => h1.dropSub)

theorem subFail (h : d.canonical) {id : Nat} : (d.subFail id).canonical := by
  unfold Dev.subFail
  split
  · exact h
  · split
    · exact h.raise.dropSub
    · exact h.raise.dropSubs.commitCtx

theorem putBlock (h : d.canonical) {c nsid lba i : Nat} {cipher : List Byte} : (d.putBlock c nsid lba i cipher).canonical := by
  unfold Dev.putBlock
  dsimp only
  split
  · exact h.count.modCtx
  · exact h.count.dropSubs.commitCtx

theorem readDone (h : d.canonical) {c : Nat} : (d.readDone c).canonical := h.modCtx

theorem bufferBlock (h : d.canonical) {k lba : Nat} {cipher : List Byte} : (d.bufferBlock k lba cipher).canonical := by
  unfold Dev.bufferBlock
  split
  · exact h
  · split
    · exact h
    · exact .ite h h.store.frame

theorem satisfy (h : d.canonical) {id : Nat} {p : Path} {data : SMap (List Byte)} : (d.satisfy id p data).canonical := by
  unfold Dev.satisfy
  split
  · exact h
  · apply dropSub
    split
    · split
      · exact h.count
      · exact .readDone (.modCtx (h.count.foldl fun _ _ h1 => h1.putBlock))
    · split
      · exact h.count
      · exact h.count.foldl fun _ _ h1 => h1.bufferBlock

theorem goDirect (h : d.canonical) {id : Nat} {susp : Bool} : (d.goDirect id susp).canonical := by
  unfold Dev.goDirect
  dsimp only
  split
  · exact h
  · split
    · exact h
    · exact .ite h.modSub.enqueueReads.suspendDie h.modSub.enqueueReads

theorem goForced (h : d.canonical) {id : Nat} : (d.goForced id).canonical := by
  unfold Dev.goForced
  split
  · exact h
  · exact .ite h.subFail h.startForced.modSub

theorem goAround (h : d.canonical) {id : Nat} {set : List Nat} {src : RowSrc} : (d.goAround id set src).canonical := by
  unfold Dev.goAround
  split
  · exact h
  · exact h.newRecon.modSub.beginRecon

theorem tryAround (h : d.canonical) {id : Nat} {s : Sub} {set : List Nat} {src : RowSrc} {next : Bool} :
    (d.tryAround id s set src next).canonical := .ite h.payCredits.goAround h.refuseCredits.goDirect

theorem decideLate (h : d.canonical) {id : Nat} {s : Sub} {td : Nat} {ts : Option Nat} {ta : Option (Nat × List Nat)} {src : RowSrc} :
    (d.decideLate id s td ts ta src).canonical := .ite h.tryAround (.ite h.goDirect (.ite h.goDirect h.tryAround))

theorem choosePath (h : d.canonical) {id : Nat} : (d.choosePath id).canonical := by
  unfold Dev.choosePath
  dsimp only
  split
  · exact h
  · split
    · exact h.subFail
    · split
      · exact h.subFail
      · exact .ite h.goForced (.ite h.goDirect (.ite h.goDirect h.decideLate))

theorem addSub (h : d.canonical) {s : Sub} : (d.addSub s).canonical := h.frame.choosePath

theorem redecideMember {x : Dev} (h : x.canonical) {k i : Nat} {mine : List QItem} : (x.redecideMember k i mine).canonical := by
  unfold Dev.redecideMember
  split
  · exact .ite h.setDie.suspendDie h.setDie
  · exact h.setDie

theorem redecideOne {x : Dev} (h : x.canonical) {items : List QItem} {k : Nat} {u : DieUse} : (Dev.redecideOne items k x u).canonical := by
  unfold Dev.redecideOne
  split
  · exact h.choosePath
  · exact h.redecideMember
  · exact h

theorem redecide (h : d.canonical) {k : Nat} : (d.redecide k).canonical := h.setDie.foldl (fun _ _ h1 => h1.redecideOne)

theorem memberCount (h : d.canonical) {i m : Nat} {data : Option (SMap (List Byte))} {r : Recon} : (d.memberCount i m data r).canonical := by
  unfold Dev.memberCount
  dsimp only
  split
  · exact .ite h.modRecon.giveCredit h.modRecon
  · exact h.modRecon

theorem askSpare (h : d.canonical) {i : Nat} {r : Recon} {short : Nat} : (d.askSpare i r short).1.canonical := by
  unfold Dev.askSpare
  dsimp only
  split
  · exact h
  · split
    · exact h.each (fun _ _ h1 => h1.askMember)
    · split
      · exact h.waitForced
      · exact h.payCredits.modRecon.each (fun _ _ h1 => h1.askMember)

theorem memberEnd (h : d.canonical) {i m : Nat} {data : Option (SMap (List Byte))} : (d.memberEnd i m data).1.canonical := by
  unfold Dev.memberEnd
  dsimp only
  split
  · exact h
  · split
    · exact h.memberCount.reapRecon
    · split
      · exact h.memberCount
      · split
        · exact h.memberCount.reconReady
        · split
          · exact h.memberCount
          · exact h.memberCount.askSpare

theorem subReconFailed (h : d.canonical) {i id : Nat} : (d.subReconFailed i id).canonical := by
  unfold Dev.subReconFailed
  split
  · split
    · exact h.subFail
    · exact .ite h.endRecon.modSub.goForced (.ite h.endRecon.modSub.choosePath h.endRecon.modSub)
  · exact h

theorem modStream (h : d.canonical) {k : Nat} {f : Stream → Stream} : (d.modStream k f).canonical := h.frame

theorem endStream (h : d.canonical) {k cause : Nat} : (d.endStream k cause).canonical := by
  unfold Dev.endStream
  split
  · exact h
  · exact .raise (.frame (h.each (fun _ _ h1 => h1.dropSub)))

theorem endStreams (h : d.canonical) {cause : Nat} {p : Stream → Bool} : (d.endStreams cause p).canonical := h.each (fun _ _ h1 => h1.endStream)

theorem startStream (h : d.canonical) {nsid zone hostPos : Nat} {req : Requester} {declared : Nat} :
    (d.startStream nsid zone hostPos req declared).canonical := .ite h h.frame

/-! ## Machine/ZoneOps.lean -/

theorem vaultRefresh (h : d.canonical) : d.vaultRefresh.canonical := h.frame

theorem budgetWait (h : d.canonical) : d.budgetWait.canonical := .ite h.count h.count.frame.raise

theorem tellZone (h : d.canonical) {z : Nat} : (d.tellZone z).canonical := h.each (fun _ _ h1 => h1.setFn.aenFn)

theorem setZst (h : d.canonical) {z : Nat} {st : ZoneState} {zfc : Bool} {cause : Nat} : (d.setZst z st zfc cause).canonical :=
  h.applyEpoch.setZn.journal

theorem rowevt (h : d.canonical) {a : Nat} {e : RowEvent} {unit rs : Nat} : (d.rowevt a e unit rs).canonical := h.psn

theorem areaSt (h : d.canonical) {a : Nat} {st : AreaState} : (d.areaSt a st).canonical := .ite h.setArea.setArea h.setArea

theorem freeArea (h : d.canonical) {a : Nat} : (d.freeArea a).canonical := by
  unfold Dev.freeArea
  dsimp only
  refine .setZn ?_
  split
  · exact .setSlice (.ite h.rowevt.setArea.setArea h.rowevt.setArea)
  · exact .ite h.rowevt.setArea.setArea h.rowevt.setArea

theorem tryFold (h : d.canonical) {a : Nat} : (d.tryFold a).canonical := by
  unfold Dev.tryFold
  dsimp only
  split
  · exact h
  · split
    · exact h
    · exact .ite h.budgetWait h.setArea.addJob

theorem padSlot (h : d.canonical) {a : Nat} : (d.padSlot a).canonical := h.store.setArea

theorem failCtxs (h : d.canonical) {l : List (Nat × Nat)} : (d.failCtxs l).canonical := h.each (fun _ _ h1 => h1.commitCtx)

theorem failWrites (h : d.canonical) {z status : Nat} : (d.failWrites z status).canonical := h.setZn.failCtxs

theorem becomeReadOnly (h : d.canonical) {z : Nat} : (d.becomeReadOnly z).canonical := by
  unfold Dev.becomeReadOnly
  split
  · exact h
  · exact h.setZn.setZst.setZn.count.failWrites.raise.tellZone

theorem drained (h : d.canonical) {a : Nat} : (d.drained a).canonical := .ite h.becomeReadOnly.freeArea h.becomeReadOnly

theorem advance (h : d.canonical) {a : Nat} : (d.advance a).canonical := by
  unfold Dev.advance
  dsimp only
  split
  · exact h
  · exact h.tryFold
  · exact h.tryFold
  · split
    · exact h
    · split
      · exact .ite h.freeArea h
      · split
        · exact .ite h.drained h.padSlot.tryFold
        · exact .ite h h.padSlot.tryFold

theorem rowRelease (h : d.canonical) {a : Nat} : (d.rowRelease a).canonical := by
  unfold Dev.rowRelease
  dsimp only
  split
  · exact h
  · exact .ite h.setArea.rowevt h

theorem emptySlot (h : d.canonical) {a : Nat} : (d.emptySlot a).canonical := .ite h.setArea.areaSt h.setArea

theorem settleSlot (h : d.canonical) {a j : Nat} : (d.settleSlot a j).canonical := .ite h.setArea.emptySlot h.setArea

theorem unitConfirmed (h : d.canonical) {z rs j : Nat} : (d.unitConfirmed z rs j).canonical := by
  unfold Dev.unitConfirmed
  split
  · exact h
  · exact h.settleSlot.rowevt.rowRelease.advance

theorem unitDiscarded (h : d.canonical) {z rs j : Nat} : (d.unitDiscarded z rs j).canonical := by
  unfold Dev.unitDiscarded
  split
  · exact h
  · exact h.settleSlot.rowevt.setArea.advance

theorem unitSkipped (h : d.canonical) {z rs j : Nat} : (d.unitSkipped z rs j).canonical := by
  unfold Dev.unitSkipped
  split
  · exact h.unitDiscarded
  · exact h.settleSlot.rowevt.setArea.rowRelease.advance

theorem foldBytes (h : d.canonical) {a u : Nat} : (d.foldBytes a u).canonical := .ite h.store.store h.store.store

theorem issueUnit (h : d.canonical) {a : Nat} {g : Group} {rs j : Nat} : (d.issueUnit a g rs j).canonical := h.setArea.rowevt.enqueueBg

theorem issueParity (h : d.canonical) {a : Nat} {g : Group} {rs : Nat} : (d.issueParity a g rs).canonical :=
  h.each (fun _ _ h1 => .ite h1.issueUnit h1.setArea.rowevt)

theorem noteDirty (h : d.canonical) {n : Ns} {z gi : Nat} : (d.noteDirty n z gi).canonical := h.each (fun _ _ h1 => h1.frame)

theorem foldDone (h : d.canonical) {a : Nat} : (d.foldDone a).canonical := by
  unfold Dev.foldDone
  extract_lets x n rs u d1 d2 e e1 e2
  split
  · exact h
  · split
    · exact h.setArea.advance
    · split
      · exact h
      · extract_lets d3 d4
        have he : e.canonical := h.foldBytes.count.noteDirty.setArea.rowevt.setZn.setZn
        have he2 : e2.canonical := .ite he.setArea.areaSt he.setArea
        have hd3 : d3.canonical := .ite he2.issueUnit he.setArea.rowevt.emptySlot
        exact .vaultRefresh (.advance (.rowRelease (.ite hd3.issueParity hd3)))

theorem drain (h : d.canonical) {z : Nat} : (d.drain z).canonical := by
  unfold Dev.drain
  split
  · exact h
  · exact h.areaSt.rowevt.advance

theorem ctrlFinish (h : d.canonical) {z cause : Nat} : (d.ctrlFinish z cause).canonical := by
  unfold Dev.ctrlFinish
  exact h.setZst.setZn.failWrites.count.raise.tellZone.drain

theorem unactivate (h : d.canonical) {z : Nat} : (d.unactivate z).canonical := by
  unfold Dev.unactivate
  dsimp only
  split
  · exact h
  · refine .setZn (.each ?_ (fun _ _ h1 => h1.releaseBlk))
    split
    · exact h.freeArea
    · exact h

theorem cancelFold (h : d.canonical) {a : Nat} : (d.cancelFold a).canonical := .ite h h.setArea.frame

theorem abandon (h : d.canonical) {z c cause : Nat} {status : Option Nat} : (d.abandon z c cause status).canonical := by
  unfold Dev.abandon
  extract_lets zn n finishCtx drop i before
  split
  · extract_lets p p' r d1 d2
    have hfinish {x : Dev} (hx : x.canonical) : (finishCtx x).canonical := by
      unfold finishCtx
      split
      · exact hx.commitCtx
      · exact hx
    have hd2 : d2.canonical := by
      unfold d2
      split
      · exact .ite h.setZn.cancelFold.setArea h.setZn
      · exact h.setZn
    exact .ite (hfinish h.setZn.ctrlFinish) (hfinish (.failCtxs (.ite hd2.unactivate hd2)))
  · exact h

theorem abandonCtx (h : d.canonical) {c cause : Nat} {status : Option Nat} : (d.abandonCtx c cause status).canonical := by
  unfold Dev.abandonCtx
  split
  · exact h.abandon
  · exact h

theorem makeReadOnly (h : d.canonical) {z sled rs : Nat} : (d.makeReadOnly z sled rs).canonical := by
  unfold Dev.makeReadOnly
  dsimp only
  split
  · exact h.setZn.areaSt.unitSkipped
  · exact h.setZn.becomeReadOnly

theorem takeBlk (h : d.canonical) {b : Nat} : (d.takeBlk b).canonical := h.setBlk.floorCheck

theorem placeOne_step {acc : Dev × SMap Nat} (h : acc.1.canonical) {z p : Nat} {e : Word} {s : Nat} : (placeOne z p e acc s).1.canonical := by
  unfold placeOne
  split
  · exact h.takeBlk
  · exact h

theorem placeGroup (h : d.canonical) {z p : Nat} {e : Word} : (d.placeGroup z p e).canonical :=
  .journal (.noteDirty (.modNs (.setZn (h.foldl_fst (fun _ _ h1 => h1.placeOne_step)))))

theorem allocate (h : d.canonical) {z : Nat} {e : Word} : (d.allocate z e).1.canonical := by
  unfold Dev.allocate
  dsimp only
  split
  · refine .placeGroup ?_
    split
    · exact .ite h.raise h
    · exact h
  · split
    · exact h.raise
    · split
      · exact h
      · exact h.setZn.raise.each (fun _ _ h1 => h1.makeUrgent)

theorem bindArea (h : d.canonical) {z : Nat} {charge pf slice : Option Nat} : (d.bindArea z charge pf slice).canonical := by
  unfold Dev.bindArea
  dsimp only
  refine .rowevt (.setZn ?_)
  split
  · exact .setSlice (.ite h.setArea.setArea h.setArea)
  · exact .ite h.setArea.setArea h.setArea

theorem tellPfLimit (h : d.canonical) {port : Nat} : (d.tellPfLimit port).canonical := .ite h h.frame.raise

theorem takeStaging (h : d.canonical) {z port : Nat} {slice : Option Nat} : (d.takeStaging z port slice).1.canonical := by
  unfold Dev.takeStaging
  dsimp only
  split
  · exact .ite h.bindArea h
  · split
    · exact .ite h.bindArea h
    · exact .ite (.bindArea (.ite h h.tellPfLimit)) (.ite h h.tellPfLimit)

/-! ## Machine/CopyOps.lean -/

theorem modCopy (h : d.canonical) {i : Nat} {f : CopyJob → CopyJob} : (d.modCopy i f).canonical := h.frame

theorem loseRow (h : d.canonical) {z rs sled : Nat} : (d.loseRow z rs sled).canonical := h.setZn.journal.raise

theorem copyNext (h : d.canonical) {i : Nat} : (d.copyNext i).canonical := by
  unfold Dev.copyNext
  split
  · exact h
  · exact .ite h (.ite (h.each (fun _ _ h1 => h1.enqueueBg)) h.enqueueBg)

theorem missGroup (h : d.canonical) {z gi sled : Nat} : (d.missGroup z gi sled).canonical := h.setZn

theorem mapBlock (h : d.canonical) {z gi sled blk : Nat} : (d.mapBlock z gi sled blk).canonical := by
  unfold Dev.mapBlock
  dsimp only
  split
  · exact h.setZn.journal
  · exact h.setZn

theorem retireOrRelease (h : d.canonical) {b : Nat} : (d.retireOrRelease b).canonical := .ite h.retireBlk h.releaseBlk

theorem copyDone (h : d.canonical) {i : Nat} : (d.copyDone i).canonical := by
  unfold Dev.copyDone
  dsimp only
  split
  · exact h
  · split
    · exact h.frame.mapBlock.retireOrRelease.count.raise
    · split
      · exact h.frame.mapBlock.retireOrRelease.raise.unitConfirmed
      · exact h.frame.mapBlock.retireOrRelease.raise

theorem beginCopy (h : d.canonical) {c : CopyJob} : (d.beginCopy c).canonical := .ite h.frame.copyDone h.frame.copyNext

theorem replaceMember (h : d.canonical) {z rs j : Nat} {failed : Bool} : (d.replaceMember z rs j failed).canonical := by
  unfold Dev.replaceMember
  dsimp only
  split
  · exact h
  · split
    · exact .beginCopy (.takeBlk (.ite h.setBlk h))
    · exact .ite (.beginCopy (.ite h.setBlk h)) (.makeReadOnly (.ite h.setBlk h))

theorem restartCopy (h : d.canonical) {i : Nat} : (d.restartCopy i).canonical := by
  unfold Dev.restartCopy
  dsimp only
  split
  · exact h
  · split
    · exact h.frame.replaceMember
    · split
      · exact h.frame.takeBlk.beginCopy
      · split
        · exact h.frame
        · exact .ite h.frame.beginCopy h.frame.missGroup

theorem serveCopies (h : d.canonical) {k : Nat} : (d.serveCopies k).canonical := by
  unfold Dev.serveCopies
  split
  · exact h
  · split
    · exact h.takeBlk.modCopy.copyNext
    · exact h

theorem giveUpCopies (h : d.canonical) {k : Nat} : (d.giveUpCopies k).canonical := by
  unfold Dev.giveUpCopies
  split
  · exact h
  · split
    · exact h
    · split
      · exact h.frame.makeReadOnly
      · exact h.frame.missGroup

theorem copyProgDone (h : d.canonical) {i : Nat} : (d.copyProgDone i).canonical := by
  unfold Dev.copyProgDone
  dsimp only
  split
  · exact h.modCopy
  · exact .ite h.modCopy.copyDone h.modCopy.copyNext

theorem dropCopy (h : d.canonical) {i : Nat} : (d.dropCopy i).canonical := by
  unfold Dev.dropCopy
  split
  · exact h
  · extract_lets mine recons d1
    have hd1 : d1.canonical := h.unqueue.each (fun _ _ h1 => h1.endRecon)
    exact .ite hd1.frame hd1.frame.releaseBlk

theorem dropCopies (h : d.canonical) {p : CopyJob → Bool} : (d.dropCopies p).canonical := h.each (fun _ _ h1 => h1.dropCopy)

theorem copyGot (h : d.canonical) {i wl : Nat} {data : SMap (List Byte)} : (d.copyGot i wl data).canonical := by
  unfold Dev.copyGot
  split
  · exact h
  · exact .ite h (.ite h.modCopy.enqueueBg h.modCopy)

theorem copyLost (h : d.canonical) {i wl : Nat} : (d.copyLost i wl).canonical := by
  unfold Dev.copyLost
  split
  · exact h
  · exact h.loseRow.modCopy.copyGot

theorem copyBad (h : d.canonical) {i wl : Nat} : (d.copyBad i wl).canonical := by
  unfold Dev.copyBad
  split
  · exact h
  · exact .ite h (.ite h.copyLost h.startForced)

theorem startReadBack (h : d.canonical) {b : Nat} {rb : ReadBack} : (d.startReadBack b rb).canonical :=
  h.frame.each (fun _ _ h1 => h1.each (fun _ _ h2 => h2.enqueueBg))

theorem progGood (h : d.canonical) {b wl : Nat} {u : DieUse} : (d.progGood b wl u).canonical := by
  unfold Dev.progGood
  split
  · exact .ite h.setBlk.unitConfirmed h.setBlk.unitDiscarded
  · exact h.setBlk.copyProgDone
  · exact h.setBlk

theorem rebuildNext (h : d.canonical) {z rs b : Nat} : (d.rebuildNext z rs b).canonical := .ite h h.frame

theorem rebuildSkip (h : d.canonical) : d.rebuildSkip.canonical := by
  unfold Dev.rebuildSkip
  split
  · exact h
  · split
    · exact h
    · exact h.missGroup.frame

theorem rebuildReplace (h : d.canonical) {z rs : Nat} {failed : Bool} : (d.rebuildReplace z rs failed).canonical := by
  unfold Dev.rebuildReplace
  split
  · exact h
  · split
    · exact h
    · extract_lets s k old d0
      have hd0 : d0.canonical := .ite h.setBlk h
      split
      · exact hd0.frame.mapBlock.retireOrRelease
      · split
        · exact hd0.frame.takeBlk.beginCopy
        · exact .ite hd0.frame.beginCopy hd0.frame.rebuildSkip

theorem rebuildLeave (h : d.canonical) {z : Nat} : (d.rebuildLeave z).canonical := by
  unfold Dev.rebuildLeave
  split
  · exact h
  · exact .ite (.frame (h.unqueue.each (fun _ _ h1 => h1.endRecon))) h

theorem progLost (h : d.canonical) {b : Nat} {u : DieUse} {failed : Bool} : (d.progLost b u failed).canonical := by
  unfold Dev.progLost
  split
  · exact .ite h.replaceMember h.unitDiscarded
  · exact .ite h (.restartCopy (.retireOrRelease (.ite h.setBlk h)))
  · exact .ite h.rebuildReplace (.ite h.setBlk.retireOrRelease h)
  · exact h

theorem readBackPage (h : d.canonical) {b : Nat} {good : Bool} : (d.readBackPage b good).canonical := by
  unfold Dev.readBackPage
  dsimp only
  split
  · exact h
  · split
    · exact h.frame
    · split
      · split
        · exact h.frame.count.progGood.rebuildNext
        · exact h.frame.count.progGood
      · exact h.frame.count.progLost

theorem settleSled (h : d.canonical) {s : Nat} : (d.settleSled s).canonical := h.unqueue.dropCopies.frame.each (fun _ _ h1 => h1.unitSkipped)

theorem retireDie (h : d.canonical) {k cause : Nat} : (d.retireDie k cause).canonical := by
  unfold Dev.retireDie
  exact .each (.raise (.each (h.dropCopies.setDie.each (fun _ _ h1 => h1.retireBlk)) (fun _ _ h1 => h1.missGroup))) (fun _ _ h1 => h1.makeReadOnly)

/-! ## Machine/OpEnd.lean -/

theorem resumeDie (h : d.canonical) {k : Nat} : (d.resumeDie k).canonical := .ite h.setDie.sendDesc h

theorem resumeCheck (h : d.canonical) {k : Nat} : (d.resumeCheck k).canonical := .ite h h.resumeDie

theorem dieIdle (h : d.canonical) {k : Nat} : (d.dieIdle k).canonical := .ite h h.setDie

theorem readIdle (h : d.canonical) {k : Nat} : (d.readIdle k).canonical := by
  unfold Dev.readIdle
  split
  · exact h.setDie
  · exact h.resumeCheck
  · exact h.resumeCheck
  · exact h

theorem subReturned (h : d.canonical) : d.subReturned.canonical := h.count

theorem reconFailed (h : d.canonical) {i : Nat} : (d.reconFailed i).canonical := by
  unfold Dev.reconFailed
  dsimp only
  split
  · exact h
  · split
    · exact h.subReconFailed
    · exact h.endRecon.copyLost
    · split
      · exact h.endRecon
      · split
        · exact h.endRecon.loseRow.frame
        · exact h.endRecon.loseRow.frame.enqueueBg

theorem memberDone (h : d.canonical) {i m : Nat} {data : Option (SMap (List Byte))} : (d.memberDone i m data).canonical := by
  unfold Dev.memberDone
  dsimp only
  split
  · exact h.memberEnd
  · exact h.memberEnd.reconFailed

theorem sampleEnd (h : d.canonical) {b group : Nat} {next : Bool} {corrected : Option Nat} : (d.sampleEnd b group next corrected).canonical := by
  unfold Dev.sampleEnd
  split
  · exact h.frame
  · exact h.frame.setBlk
  · exact h

theorem rawEnd (h : d.canonical) {result : Nat} {fail : Bool} {zeros : Nat} : (d.rawEnd result fail zeros).canonical := h.frame

theorem rawGood (h : d.canonical) {o : OpenOp} : (d.rawGood o).canonical := .ite h.rawEnd h.frame.rawEnd

theorem subGot (h : d.canonical) {s page : Nat} {data : SMap (List Byte)} : (d.subGot s page data).canonical := by
  unfold Dev.subGot
  split
  · exact h
  · exact .ite h.satisfy h.modSub

theorem subBad (h : d.canonical) {s : Nat} : (d.subBad s).canonical := by
  unfold Dev.subBad
  split
  · exact h
  · exact .ite h.modSub h.modSub.unqueue.goForced

theorem readGood (h : d.canonical) {key : Nat} {o : OpenOp} {worst : Nat} : (d.readGood key o worst).canonical := by
  unfold Dev.readGood
  extract_lets b k d1 e d2
  have hd1 : d1.canonical := h.closeOp.unpin.subReturned
  refine .readIdle (.ite hd1.count (.ite ?_ ?_))
  · split
    · exact hd1.count.memberDone
    · exact hd1.count
  · split
    · exact hd1.subGot
    · exact hd1.memberDone
    · exact hd1.sampleEnd
    · exact hd1.rawGood
    · exact hd1.readBackPage
    · exact hd1.copyGot
    · exact hd1

theorem readBadUse (h : d.canonical) {u : DieUse} {b result zeros : Nat} : (d.readBadUse u b result zeros).canonical := by
  unfold Dev.readBadUse
  split
  · exact h.subBad
  · exact h.memberDone
  · exact h.sampleEnd
  · exact h.rawEnd
  · exact h.readBackPage
  · exact h.copyBad
  · exact h

theorem readBad (h : d.canonical) {key : Nat} {o : OpenOp} {result : Nat} : (d.readBad key o result).canonical := by
  unfold Dev.readBad
  extract_lets b k d1 e d2
  have hd1 : d1.canonical := h.closeOp.unpin.subReturned
  refine .readIdle (.ite hd1.count (.ite ?_ hd1.readBadUse))
  split
  · exact hd1.count.memberDone
  · exact hd1.count

theorem sendStep (h : d.canonical) {key : Nat} {o : OpenOp} {step vec : Nat} : (d.sendStep key o step vec).canonical :=
  h.modOp.resendDesc.sensed.setDie

theorem readUncorrectable (h : d.canonical) {key : Nat} {o : OpenOp} : (d.readUncorrectable key o).canonical := h.count.raise.readBad

theorem climb (h : d.canonical) {key : Nat} {o : OpenOp} : (d.climb key o).canonical := by
  unfold Dev.climb
  split
  · exact h.readBad
  · split
    · exact h.readUncorrectable
    · exact .ite h.count.readBad (.ite h.count.count.readBad (.ite h.sendStep h.modOp))

theorem climbWaiting (h : d.canonical) {k : Nat} : (d.climbWaiting k).canonical := by
  unfold Dev.climbWaiting
  split
  · exact h.climb
  · exact h

theorem track (h : d.canonical) {o : OpenOp} {worst : Nat} : (d.track o worst).canonical := .ite h.setBlk (.ite h.setBlk h)

theorem decodeDone (h : d.canonical) {key : Nat} {o : OpenOp} {soft : Bool} {rs : List (Nat × CwRes)} : (d.decodeDone key o soft rs).canonical := by
  unfold Dev.decodeDone
  dsimp only
  split
  · exact h.count.modOp.count.raise.readBad
  · split
    · exact .readGood (.ite (.ite h.count.modOp.count.raise h.count.modOp.count) (.track (.ite h.count.modOp.count.raise h.count.modOp.count)))
    · exact h.count.modOp.count.climb

theorem checkEnd (h : d.canonical) {b zeros : Nat} : (d.checkEnd b zeros).canonical :=
  .dieIdle (.subReturned (.giveUpCopies (.ite h.frame.edone.uncertainBlk h.frame.edone.setBlk.serveCopies)))

theorem checkNext (h : d.canonical) {b : Nat} {c : EraseCheck} : (d.checkNext b c).canonical := by
  unfold Dev.checkNext
  split
  · exact h.checkEnd
  · exact .ite h.count.count.checkEnd (.ite h.frame h.frame.setDie.sensed.sendDesc)

theorem checkPage (h : d.canonical) {b zeros : Nat} : (d.checkPage b zeros).canonical := by
  unfold Dev.checkPage
  split
  · exact h
  · exact h.checkNext

theorem eraseEnd (h : d.canonical) {key : Nat} {o : OpenOp} {result : Nat} : (d.eraseEnd key o result).canonical := by
  unfold Dev.eraseEnd
  dsimp only
  split
  · split
    · exact h.closeOp.setBlk.edone.retireBlk.giveUpCopies.subReturned.dieIdle
    · exact h.closeOp.setBlk.checkNext
  · split
    · exact h.closeOp.edone.count.raise.retireBlk.giveUpCopies.subReturned.dieIdle
    · split
      · exact h.closeOp.setBlk.edone.uncertainBlk.giveUpCopies.subReturned.dieIdle
      · exact h.closeOp.edone.uncertainBlk.giveUpCopies.subReturned.dieIdle

theorem progEnd (h : d.canonical) {key : Nat} {o : OpenOp} {result : Nat} {loose : Bool} : (d.progEnd key o result loose).canonical := by
  unfold Dev.progEnd
  extract_lets b k d0
  have hd0 : d0.canonical := by
    unfold d0
    split
    · exact h.closeOp
    · exact h.closeOp.subReturned
  split
  · split
    · exact hd0.dieIdle.progGood.rebuildNext
    · exact hd0.dieIdle.progGood
  · split
    · exact hd0.dieIdle.count.raise.progLost
    · split
      · exact hd0.dieIdle
      · exact .ite hd0.dieIdle.frame hd0.dieIdle.startReadBack

theorem suspended (h : d.canonical) {k : Nat} : (d.suspended k).canonical := by
  unfold Dev.suspended
  split
  · exact h
  · refine .resumeCheck (.setDie ?_)
    split
    · exact h.modOp
    · exact h

theorem runDirect (h : d.canonical) {k : Nat} : (d.runDirect k).canonical := h.setDie.each (fun _ _ h1 => h1.modSub)

theorem unsuspend (h : d.canonical) {k : Nat} {running : Bool} : (d.unsuspend k running).canonical :=
  .ite h (.ite h.setDie.redecide h.setDie.runDirect)

theorem suspendEnd (h : d.canonical) {k result : Nat} : (d.suspendEnd k result).canonical := .ite h.suspended (.ite h.unsuspend h.unsuspend)

theorem resumeEnd (h : d.canonical) {k result : Nat} : (d.resumeEnd k result).canonical := by
  unfold Dev.resumeEnd
  split
  · exact h
  · split
    · exact h.setDie
    · split
      · exact h.dieIdle
      · refine .redecide (.setDie ?_)
        split
        · exact h.modOp
        · exact h

theorem opDone (h : d.canonical) : d.opDone.canonical := h.count

theorem endControls (h : d.canonical) {k : Nat} : (d.endControls k).canonical := h.each (fun _ _ h1 => h1.closeOp.opDone)

theorem statusEnd (h : d.canonical) {k dieState : Nat} : (d.statusEnd k dieState).canonical := by
  unfold Dev.statusEnd
  split
  · exact h.endControls.setDie.suspendEnd
  · exact h.endControls.setDie.resumeEnd
  · exact .ite h (h.setDie.each (fun _ _ h1 => h1.startReadBack))
  · exact h

theorem endWith (h : d.canonical) {key : Nat} {o : OpenOp} {result dieState : Nat} {loose : Bool} :
    (d.endWith key o result dieState loose).canonical := by
  unfold Dev.endWith
  split
  · exact h.progEnd
  · split
    · exact h.eraseEnd
    · split
      · exact h.closeOp.suspendEnd
      · split
        · exact h.closeOp.resumeEnd
        · split
          · exact h.closeOp.statusEnd
          · split
            · exact h.closeOp.checkPage
            · exact h.readBad

theorem dataComplete (h : d.canonical) {key : Nat} {o : OpenOp} : (d.dataComplete key o).canonical := by
  unfold Dev.dataComplete
  split
  · exact h.closeOp.checkPage
  · exact .ite h.readBad (.ite h.readGood (.ite h.modOp.resumeCheck h.modOp.resumeCheck))

theorem faultCheck (h : d.canonical) {k : Nat} : (d.faultCheck k).canonical := .ite h.retireDie h

theorem complete (h : d.canonical) {key : Nat} {o : OpenOp} {result dieState : Nat} : (d.complete key o result dieState).canonical := by
  unfold Dev.complete
  extract_lets k d1 d2
  have hd2 : d2.canonical := .ite h.opDone.dieFault h.opDone.dieGood
  exact .faultCheck (.ite hd2.dataComplete hd2.endWith)

theorem abortPort (h : d.canonical) {port : Nat} : (d.abortPort port).canonical := by
  unfold Dev.abortPort
  refine .frame (h.frame.each (fun _ _ h1 => ?_))
  split
  · exact h1
  · exact .ite h1.climb (.ite h1.closeOp.opDone h1.opDone.endWith)

theorem portDiesUp (h : d.canonical) {port : Nat} : (d.portDiesUp port).canonical := h.frame

theorem quiesceCheck (h : d.canonical) {n : Nat} : (d.quiesceCheck n).canonical := .ite h.setPort.send h

theorem endAddr (h : d.canonical) {k : Nat} {i : QItem} : (d.endAddr k i).canonical := by
  unfold Dev.endAddr
  split
  · exact h.readBadUse
  · exact h.progLost
  · exact h

theorem eraseIntent (h : d.canonical) {b : Nat} {slc : Bool} : (d.eraseIntent b slc).canonical := h.setBlk.journal

theorem noteAccess (h : d.canonical) {u : DieUse} : (d.noteAccess u).canonical := by
  unfold Dev.noteAccess
  split
  · exact h.modSub
  · split
    · split
      · exact h.modSub
      · exact h
    · exact h
  · exact h

theorem rawIssue (h : d.canonical) {k : Nat} {x : Desc} : (d.rawIssue k x).canonical := .ite h.frame.raise h

theorem issueItem (h : d.canonical) {k : Nat} {i : QItem} : (d.issueItem k i).canonical := by
  unfold Dev.issueItem
  extract_lets b d1 idx vec raw _ x d2
  have hd1 : d1.canonical := h.count.noteAccess
  split
  · have hd2 : d2.canonical := .sendDesc (.sensed (.pin (.ite hd1.rawIssue hd1)))
    exact .ite hd2.setDie hd2
  · exact .setDie (hd1.sendDesc.each fun _ _ h1 => h1.send)
  · exact hd1.eraseIntent.sendDesc.modOp.setDie

theorem dispatchDie (h : d.canonical) {k : Nat} : (d.dispatchDie k).canonical := by
  unfold Dev.dispatchDie
  dsimp only
  split
  · exact h.climbWaiting
  · split
    · exact h
    · split
      · exact h.applyEpoch.setDie.endAddr
      · exact .ite h.applyEpoch.setDie.retireBlk.giveUpCopies h.applyEpoch.setDie.issueItem

/-! ## Machine/PrtyOps.lean -/

theorem startRebuild (h : d.canonical) {t : Target} : (d.startRebuild t).canonical := h.frame.raise

theorem nextRebuild (h : d.canonical) : d.nextRebuild.canonical := by
  unfold Dev.nextRebuild
  split
  · exact h
  · split
    · exact h
    · exact h.frame.startRebuild

theorem addTarget (h : d.canonical) {sled : Nat} {k : RebuildKind} : (d.addTarget sled k).canonical :=
  .ite h (.nextRebuild (.frame (h.each (fun _ _ h1 => h1.modNs))))

theorem nsRebuilt (h : d.canonical) {nsid sled : Nat} : (d.nsRebuilt nsid sled).canonical := .ite h.modNs.redundancyOf h

theorem rebuildCheck (h : d.canonical) : d.rebuildCheck.canonical := by
  unfold Dev.rebuildCheck
  dsimp only
  split
  · exact h
  · exact .ite (.nextRebuild (.redundancy (.raise (.frame (h.frame.each (fun _ _ h1 => h1.nsRebuilt)))))) (h.frame.each (fun _ _ h1 => h1.nsRebuilt))

theorem endTarget (h : d.canonical) {sled : Nat} : (d.endTarget sled).canonical := by
  unfold Dev.endTarget
  dsimp only
  split
  · exact .nextRebuild (.redundancy (.each (.frame (.ite (h.unqueue.each (fun _ _ h1 => h1.endRecon)) h)) (fun _ _ h1 => h1.modNs)))
  · exact h

theorem depart (h : d.canonical) {sled : Nat} : (d.depart sled).canonical := .ite h h.frame

theorem sledGone (h : d.canonical) {sled : Nat} : (d.sledGone sled).canonical := h.settleSled.endTarget

theorem newSled (h : d.canonical) {sled : Nat} : (d.newSled sled).canonical :=
  h.settleSled.count.dropCopies.frame.foldl (fun _ _ h1 => h1.readBadUse)

theorem eraseAll (h : d.canonical) {k : Nat} : (d.eraseAll k).canonical := .floorCheck (h.each (fun _ _ h1 => h1.enqueueErase))

theorem sledReturns (h : d.canonical) {sled : Nat} : (d.sledReturns sled).canonical := by
  unfold Dev.sledReturns
  split
  · exact h
  · split
    · exact h
    · exact .ite (.ite h.frame h.addTarget) (.addTarget (h.newSled.each (fun _ _ h1 => h1.eraseAll)))

theorem rebuildLoose (h : d.canonical) {sled z gi row : Nat} : (d.rebuildLoose sled z gi row).canonical := h.frame.setBlk.rebuildReplace

theorem rebuildAt {e : Dev} (h : e.canonical) {r : Rebuild} {z gi row last : Nat} {busy : Bool} : (e.rebuildAt r z gi row last busy).canonical :=
  h.frame

theorem rebuildRowOf (h : d.canonical) {r : Rebuild} {z gi : Nat} : (d.rebuildRowOf r z gi).canonical := by
  unfold Dev.rebuildRowOf
  dsimp only
  split
  · exact h
  · split
    · split
      · exact h.takeBlk.mapBlock.rebuildAt
      · exact .ite h.rebuildAt.makeUrgent h.rebuildAt.rebuildSkip
    · exact .ite h.rebuildAt.startForced h.rebuildAt.newRecon.reconFailed

theorem rebuildStep (h : d.canonical) : d.rebuildStep.canonical := by
  unfold Dev.rebuildStep
  dsimp only
  split
  · exact h.rebuildCheck
  · split
    · exact h.rebuildCheck
    · split
      · exact h.rebuildCheck
      · split
        · exact h.rebuildCheck.rebuildLoose
        · exact h.rebuildCheck.rebuildRowOf

/-! ## Machine/Dram.lean -/

theorem dramRequest (h : d.canonical) {port addr len : Nat} {data : Option (List Byte)} {mergeBad : Bool} {use : DramUse} :
    (d.dramRequest port addr len data mergeBad use).canonical := .ite h.request h

theorem unpoison (h : d.canonical) {a : Nat} : (d.unpoison a).canonical := h.frame

theorem slotLost (h : d.canonical) {a : Nat} : (d.slotLost a).canonical := h.loseRow

theorem accumAgain (h : d.canonical) {a : Nat} {q : Bool} {addr : Nat} : (d.accumAgain a q addr).canonical := by
  unfold Dev.accumAgain
  dsimp only
  split
  · exact h.unpoison
  · exact .ite h.unpoison (.unpoison (h.each (fun _ _ h1 => h1.loseRow)))

theorem jobAgain (h : d.canonical) {n : Nat} : (d.jobAgain n).canonical := by
  unfold Dev.jobAgain
  dsimp only
  split
  · exact h
  · split
    · exact h
    · split
      · exact h
      · split
        · exact h.endPJob.modRecon.modRecon.reconReady
        · exact h.endPJob.modRecon.modRecon.each (fun _ _ h1 => h1.askMember)

theorem poisonHit (h : d.canonical) {a : Nat} {use : DramUse} : (d.poisonHit a use).canonical := by
  unfold Dev.poisonHit
  split
  · exact h
  · exact h.dropSubs.commitCtx
  · exact h.abandonCtx
  · exact .ite h.unpoison (.ite h.unpoison h.slotLost.unpoison)
  · exact h.accumAgain
  · split
    · exact h.readBad
    · exact h
  · exact h.jobAgain
  · exact h.unpoison
  · exact h.takeFree.takeFree.offer
  · exact h
  · exact h

theorem burstRead (h : d.canonical) {ch : Nat} {r : DramReq} {errs : List Nat} : (d.burstRead ch r errs).canonical := by
  unfold Dev.burstRead
  split
  · exact h.answer.emit
  · exact h.corrected.answer.emit
  · exact h.uncorrectable.answer.emit.poisonHit
  · exact h.answer.emit.poisonHit

theorem dramBurstRead (h : d.canonical) {ch sub : Nat} {errs : List Nat} : (d.dramBurstRead ch sub errs).canonical := by
  unfold Dev.dramBurstRead
  dsimp only
  split
  · exact h
  · split
    · exact h.drainTo
    · exact h.drainTo.burstRead

theorem refreshBank (h : d.canonical) {ch : Nat} {post : Bool} {k : Nat} : (d.refreshBank ch post k).canonical := h.setChan

theorem refreshDue (h : d.canonical) {ch : Nat} {banks : List Nat} : (d.refreshDue ch banks).canonical :=
  .ite h (h.each (fun _ _ h1 => h1.refreshBank))

theorem rankPoll (h : d.canonical) {ch rank : Nat} {a b : Mr4} : (d.rankPoll ch rank a b).canonical :=
  .ite (.ite h.setChan h.setChan.setChan.raise) (.ite h.setChan.setChan.raise h.setChan)

theorem hotInput (h : d.canonical) {ch : Nat} {hot : Bool} : (d.hotInput ch hot).canonical := .ite h.frame.raise h.frame

theorem mr4Poll (h : d.canonical) {ch : Nat} {rs : List Mr4} : (d.mr4Poll ch rs).canonical := by
  unfold Dev.mr4Poll
  split
  · exact h
  · exact .hotInput (.each (h.setChan.each (fun _ _ h1 => h1.rankPoll)) (fun _ _ h1 => h1.raise))

theorem dqsMeasure (h : d.canonical) {ch sub drift ns : Nat} : (d.dqsMeasure ch sub drift ns).canonical := .ite h.paused.setChan h

theorem retrainStep (h : d.canonical) {ch sub step ns : Nat} {failed : Option Nat} : (d.retrainStep ch sub step ns failed).canonical := by
  unfold Dev.retrainStep
  split
  · split
    · exact h.paused.setChan
    · exact .ite h.paused.setChan.count.raise.retireCond h.paused.setChan.count
  · exact h

theorem pageClose (h : d.canonical) {ch bank : Nat} : (d.pageClose ch bank).canonical := h.setChan

theorem scrubNext (h : d.canonical) {ch : Nat} : (d.scrubNext ch).canonical := h.setChan

theorem scrubBad (h : d.canonical) {ch a : Nat} : (d.scrubBad ch a).canonical := by
  unfold Dev.scrubBad
  extract_lets d1
  have hd1 : d1.canonical := .ite h.count.eccCapture h.uncorrectable
  exact .ite hd1.setChan.retireCond hd1.setChan

theorem patrolScrub (h : d.canonical) {ch : Nat} {errs : List Nat} : (d.patrolScrub ch errs).canonical := by
  unfold Dev.patrolScrub
  split
  · exact h
  · refine .scrubNext ?_
    split
    · exact h
    · exact h
    · exact h.corrected
    · exact h.scrubBad

theorem rankRetirement (h : d.canonical) {ch : Nat} : (d.rankRetirement ch).canonical := by
  unfold Dev.rankRetirement
  split
  · exact .ite h.startRetire h
  · exact h

theorem rankRetireWrite (h : d.canonical) {ch : Nat} {v : Word} {master : Nat} : (d.rankRetireWrite ch v master).canonical :=
  h.onWrite (fun _ h1 => .ite h1.deny (.ite h1.startRetire h1))

theorem rankCopyStart (h : d.canonical) {ch : Nat} : (d.rankCopyStart ch).canonical := by
  unfold Dev.rankCopyStart
  split
  · exact .ite (.ite h.setChan h.endRetire) h
  · exact h

theorem rankCopyDone (h : d.canonical) {ch : Nat} {bad : List Nat} : (d.rankCopyDone ch bad).canonical := by
  unfold Dev.rankCopyDone
  split
  · exact .ite h.frame.count.endRetire h
  · exact h

theorem errInfoRead (h : d.canonical) {ch master : Nat} : (d.errInfoRead ch master).canonical := h.onRead (fun _ h1 => h1.setCell.setChan.emit)

theorem latMaxRead (h : d.canonical) {ch master : Nat} : (d.latMaxRead ch master).canonical := h.onRead (fun _ h1 => h1.dport.emit)

theorem pauseMaxRead (h : d.canonical) {ch master : Nat} : (d.pauseMaxRead ch master).canonical := h.onRead (fun _ h1 => h1.setChan.emit)

/-! ## Machine/PowerOps.lean -/

theorem idleCheck (h : d.canonical) : d.idleCheck.canonical := .ite (.ite h.frame h.frame) (.ite h.frame h.frame)

theorem prepRefuse (h : d.canonical) {block reason : Nat} : (d.prepRefuse block reason).canonical := .ite h h.frame.count.raise.frame.idleCheck

theorem wakeIn (h : d.canonical) {bit block : Nat} : (d.wakeIn bit block).canonical := by
  unfold Dev.wakeIn
  split
  · exact h.prepRefuse
  · exact h.frame
  · exact .ite h.frame h

theorem setMode (h : d.canonical) {m : Mode} : (d.setMode m).canonical := h.frame.idleCheck

theorem modeBusy (h : d.canonical) : d.modeBusy.canonical := h.frame

theorem enterService (h : d.canonical) {s : Service} : (d.enterService s).canonical := h.frame.storeModes.setMode

theorem leaveService (h : d.canonical) : d.leaveService.canonical := h.frame.storeModes.setMode

theorem refuseChange (h : d.canonical) {code master : Nat} : (d.refuseChange code master).canonical := h.frame.raise

theorem padHold (h : d.canonical) {gs : List Nat} : (d.padHold gs).canonical := h.frame

theorem padFree (h : d.canonical) {g : Nat} : (d.padFree g).canonical := h.frame

theorem powerPort (h : d.canonical) {n : Nat} : (d.powerPort n).canonical := .ite h.setPort h

theorem takeSlot (h : d.canonical) {n : Nat} : (d.takeSlot n).canonical := by
  unfold Dev.takeSlot
  extract_lets r d1 d2 d3
  have hd3 : d3.canonical := .ite h.setPort.raise.raise h.setPort.raise
  exact .ite hd3.setPort (.ite hd3.setPort hd3.powerPort)

theorem portsStart (h : d.canonical) : d.portsStart.canonical := h.each (fun _ _ h1 => h1.takeSlot)

/-- A cold reset empties SRAM and DRAM, and cuts off what runs on NOR. -/
theorem coldReset (h : d.canonical) : d.coldReset.canonical := by
  obtain ⟨_, hnor, hotp, him⟩ : (d.each (d.fsto.op0.toList ++ d.fsto.op1.toList) Dev.norCut).canonical := h.each fun _ _ h1 => h1.norCut
  exact ⟨rfl, hnor, hotp, him⟩

/-- A warm reset empties SRAM and DRAM, and cuts off what runs on NOR. -/
theorem resetNow (h : d.canonical) {cause : Nat} {vaulted : Bool} : (d.resetNow cause vaulted).canonical := by
  obtain ⟨_, hnor, hotp, him⟩ : ((d.each (d.fsto.op0.toList ++ d.fsto.op1.toList) Dev.norCut).padHold [0, 1]).canonical :=
    padHold (h.each fun _ _ h1 => h1.norCut)
  exact ⟨rfl, hnor, hotp, him⟩

theorem savePair (h : d.canonical) {paired : Bool} : (d.savePair paired).canonical := h.cfgMake

theorem loadPair (h : d.canonical) : d.loadPair.canonical := by
  unfold Dev.loadPair
  split
  · exact h.frame
  · exact h.draw.draw.frame.savePair

theorem loadModes (h : d.canonical) : d.loadModes.canonical := by
  unfold Dev.loadModes
  split <;> exact h.frame

theorem loadSeq (h : d.canonical) : d.loadSeq.canonical := h.frame

theorem dramStart (h : d.canonical) : d.dramStart.canonical := h.each (fun _ _ h1 => h1.setChan)

theorem enableEvents (h : d.canonical) : d.enableEvents.canonical := h.each (fun _ _ h1 => h1.setHdr)

theorem tellTrip (h : d.canonical) : d.tellTrip.canonical := by
  unfold Dev.tellTrip
  split
  · exact h.frame.raise
  · exact h

theorem tellReset (h : d.canonical) : d.tellReset.canonical := .ite h.frame.raise h

theorem sideStart (h : d.canonical) : d.sideStart.canonical := h.frame

theorem firmwareStart (h : d.canonical) : d.firmwareStart.canonical :=
  h.frame.enableEvents.presentHeld.loadSeq.loadModes.loadPair.tellTrip.tellReset.sideStart

theorem enterRecovery (h : d.canonical) {cause : Nat} : (d.enterRecovery cause).canonical := .raise (h.frame.each (fun _ _ h1 => h1.setPort))

theorem bankStep_step {acc : Option (Nat × Nat) × Dev} (h : acc.2.canonical) {e : Nat × Nat} : (bankStep acc e).2.canonical := by
  unfold bankStep
  split
  · exact h
  · split
    · exact h
    · exact h.raise

theorem tryBanks (h : d.canonical) {l : List (Nat × Nat)} : (d.tryBanks l).2.canonical := h.foldl_snd (fun _ _ h1 => h1.bankStep_step)

theorem bootManifest (h : d.canonical) : d.bootManifest.canonical := by
  unfold Dev.bootManifest
  extract_lets bad d1
  have hd1 : d1.canonical := h.each (fun _ _ h1 => h1.raise)
  split
  · exact hd1.frame.raise
  · exact hd1

theorem tellFailedBoot (h : d.canonical) : d.tellFailedBoot.canonical := .ite h.raise h

theorem handOver (h : d.canonical) {b path : Nat} : (d.handOver b path).canonical := h.store.tallyAttempt.frame.firmwareStart

theorem bootBanks (h : d.canonical) : d.bootBanks.canonical := by
  unfold Dev.bootBanks
  dsimp only
  split
  · exact h.tryBanks.enterRecovery
  · exact h.tryBanks.handOver

theorem romBoot (h : d.canonical) : d.romBoot.canonical := by
  unfold Dev.romBoot
  dsimp only
  split
  · exact h.frame.tellFailedBoot.crypStart.enterRecovery
  · split
    · exact h.frame.tellFailedBoot.crypStart.enterRecovery
    · split
      · exact h.frame.tellFailedBoot.crypStart.bootManifest.enterRecovery
      · exact h.frame.tellFailedBoot.crypStart.bootManifest.bootBanks

theorem boot (h : d.canonical) {n : Nat} {trains : Bool} : (Dev.boot n d trains).canonical := by
  induction n generalizing d with
  | zero => exact h
  | succ n ih =>
    unfold Dev.boot
    extract_lets d1
    split
    · exact h.romBoot
    · split
      · exact ih h.romBoot.raise.tallyMark.resetNow
      · exact .ite h.romBoot.dramStart.portsStart (ih h.romBoot.raise.tallyMark.resetNow)

theorem warmNow (h : d.canonical) {cause : Nat} {vaulted : Bool} {hold : ResetHold} : (d.warmNow cause vaulted hold).canonical :=
  .ite h.resetNow.boot h.resetNow.frame

theorem saveBootcnt (h : d.canonical) : d.saveBootcnt.canonical := h.cfgMake

theorem countCycle (h : d.canonical) : d.countCycle.canonical := h.frame.loadSeq.saveBootcnt

/-! ## Machine/VaultOps.lean -/

theorem vaultFreeze (h : d.canonical) {cause : Nat} {thenReset : Option Nat} {byPfail : Bool} : (d.vaultFreeze cause thenReset byPfail).canonical :=
  h.frame.dgstFreeze.dramFreeze

theorem sendAhead (h : d.canonical) {s : Nat} {p : Pkt} : (d.sendAhead s p).canonical := h.setPort

theorem firstVault (h : d.canonical) {s : Nat} : (d.firstVault s).canonical := .ite h h.setPort

theorem sendVault (h : d.canonical) {b wl : Nat} {use : DieUse} {bytes stamp0 : List Byte} : (d.sendVault b wl use bytes stamp0).canonical :=
  h.frame.count.firstVault.sendAhead.each (fun _ _ h1 => h1.sendAhead)

theorem linksDown (h : d.canonical) : d.linksDown.canonical := by
  unfold Dev.linksDown
  dsimp only
  exact .frame (h.each (fun _ _ h1 => .ite h1 h1.setPort))

theorem dormantTail (h : d.canonical) : d.dormantTail.canonical := by
  unfold Dev.dormantTail
  exact .raise (h.linksDown.dramSleep.padHold.frame.storeModes.setMode.each (fun _ _ h1 => h1.setHdr))

theorem stopTail (h : d.canonical) : d.stopTail.canonical := h.linksDown.dramSleep

theorem vaultHalt (h : d.canonical) : d.vaultHalt.canonical := by
  unfold Dev.vaultHalt
  split
  · exact h.frame.dramSleep
  · split
    · exact h.frame.dramSleep.raise.warmNow
    · split
      · exact h.frame.dramSleep.warmNow
      · exact h.frame.dramSleep

theorem vaultUnsealed (h : d.canonical) {cause : Nat} : (d.vaultUnsealed cause).canonical := h.frame.vaultHalt

theorem vaultSealed (h : d.canonical) : d.vaultSealed.canonical := by
  unfold Dev.vaultSealed
  extract_lets us im v d1
  have hd1 : d1.canonical := by
    obtain ⟨hmem, hnor, hotp, himage⟩ := h
    refine ⟨hmem, hnor, hotp, fun i hi => ?_⟩
    obtain ⟨j, hj, rfl⟩ := Option.map_eq_some_iff.mp hi
    exact himage j hj
  exact .ite (.ite hd1.frame.dormantTail hd1.frame.stopTail) hd1.vaultHalt

theorem vaultSendOne (h : d.canonical) {e : Nat} : (d.vaultSendOne e).canonical := by
  unfold Dev.vaultSendOne
  split
  · exact .ite h.frame.sendVault h.frame.sendVault
  · exact h

theorem vaultPump (h : d.canonical) : d.vaultPump.canonical := h.each (fun _ _ h1 => .ite h1.vaultSendOne h1)

theorem vaultSeal (h : d.canonical) : d.vaultSeal.canonical := by
  unfold Dev.vaultSeal
  split
  · exact h
  · rename_i im him
    obtain ⟨hmem, hnor, hotp, himage⟩ := h
    refine vaultPump ⟨hmem, hnor, hotp, fun i hi => ?_⟩
    cases hi
    exact himage im him

theorem vaultProgress (h : d.canonical) : d.vaultProgress.canonical := .ite h (.ite h.vaultUnsealed (.ite h.vaultUnsealed (.ite h.vaultSeal h)))

theorem vaultUnit (h : d.canonical) {row m : Nat} {ok : Bool} : (d.vaultUnit row m ok).canonical := by
  unfold Dev.vaultUnit
  dsimp only
  split
  · exact .ite h.frame.vaultPump.vaultProgress h.frame.vaultProgress
  · exact .ite (.ite h.frame.vaultSealed h.frame) h

theorem vaultLeft (h : d.canonical) {sled : Nat} : (d.vaultLeft sled).canonical := .ite h.frame.vaultProgress h

theorem saveOff (h : d.canonical) : d.saveOff.canonical := .ite (.setHdr (h.each (fun _ _ h1 => h1.setLane))) h

theorem vaultResume (h : d.canonical) : d.vaultResume.canonical := h.each (fun _ _ h1 => h1.resumeDie)

/-- The image takes the memory as it stands (R273). -/
theorem vaultSave (h : d.canonical) : d.vaultSave.canonical := by
  unfold Dev.vaultSave
  extract_lets set w extents segs rows num im v d1 d2
  have hd2 : d2.canonical := by
    obtain ⟨hmem, hnor, hotp, _⟩ := h
    refine saveOff ⟨hmem, hnor, hotp, fun i hi => ?_⟩
    cases hi
    exact hmem
  exact .ite hd2.vaultUnsealed hd2.frame.vaultResume.vaultPump.vaultProgress

theorem takeVault (h : d.canonical) {k : Nat} : (d.takeVault k).2.canonical := by
  unfold Dev.takeVault
  dsimp only
  split
  · exact h.setBlk
  · split
    · exact h
    · split
      · exact h
      · exact h.setDie

theorem poolStep_step {acc : List Nat × Dev} (h : acc.2.canonical) {sled want p : Nat} : (poolStep sled want acc p).2.canonical := by
  unfold poolStep
  split
  · exact h
  · extract_lets r
    have hr : r.2.canonical := h.takeVault
    clear_value r
    exact hr

theorem poolFill (h : d.canonical) {sled : Nat} : (d.poolFill sled).canonical := .ite h (.frame (h.foldl_snd (fun _ _ h1 => h1.poolStep_step)))

theorem tripleStep_step {acc : List Nat × Dev} (h : acc.2.canonical) {s : Nat} : (tripleStep acc s).2.canonical := by
  unfold tripleStep
  split
  · exact h
  · split
    · dsimp only
      exact h.takeVault
    · split
      · dsimp only
        exact h.takeVault
      · exact h

theorem tripleFill (h : d.canonical) {avoid have_ : List Nat} : (d.tripleFill avoid have_).2.canonical :=
  h.foldl_snd (fun _ _ h1 => h1.tripleStep_step)

theorem saveAnchor (h : d.canonical) : d.saveAnchor.canonical := h.cfgMake

theorem poolService (h : d.canonical) : d.poolService.canonical := by
  unfold Dev.poolService
  split
  · exact h
  · extract_lets d1 r x v a d2 j y w b d3
    have hd1 : d1.canonical := h.each fun _ _ h1 => h1.poolFill
    have hr : r.2.canonical := hd1.tripleFill
    have hd2 : d2.canonical := hr.frame
    have hj : j.2.canonical := hd2.tripleFill
    have hd3 : d3.canonical := hj.frame
    exact .ite hd3 hd3.saveAnchor.vaultRefresh

theorem poolRenew (h : d.canonical) : d.poolRenew.canonical :=
  .vaultRefresh (.poolService (h.frame.each (fun _ _ h1 => .ite h1.setBlk.enqueueErase.floorCheck h1)))

/-! ## Machine/RecoverOps.lean -/

theorem freeBlocks (h : d.canonical) {bs : List Nat} : (d.freeBlocks bs).canonical := h.each (fun _ _ h1 => .ite h1.setBlk h1)

theorem eraseRec (h : d.canonical) {b count attempts : Nat} {slc : Bool} {st : BlockState} {at_ : Nat} :
    (d.eraseRec b count attempts slc st at_).canonical := h.setBlk

theorem replayRec (h : d.canonical) {r : JRec} : (d.replayRec r).canonical := by
  unfold Dev.replayRec
  split
  · exact h
  · exact h
  · exact h
  · exact h
  · exact h
  · exact .ite h.setZn h
  · exact .ite h.freeBlocks.setZn (.ite h.freeBlocks.setZn h.setZn)
  · exact .setZn (h.freeBlocks.each (fun _ _ h1 => h1.setBlk))
  · exact h.eraseRec
  · exact .ite h.eraseRec h.eraseRec
  · exact .ite h.setBlk.setDie h.setBlk
  · exact .ite h.setZn h
  · exact .ite h.frame h.freeBlocks.frame
  · exact h.each (fun _ _ h1 => .ite h1 h1.setBlk)
  · exact h.setZn

theorem loadTables (h : d.canonical) {c : Ckpt} : (d.loadTables c).canonical := h.frame.each (fun _ _ h1 => h1.setDie)

theorem replayFrom (h : d.canonical) {ck : Option Ckpt} {recs : List JRec} : (d.replayFrom ck recs).canonical := by
  unfold Dev.replayFrom
  refine .each ?_ (fun _ _ h1 => h1.replayRec)
  split
  · exact h.loadTables
  · exact h.frame

theorem markUncertain (h : d.canonical) : d.markUncertain.canonical := h.each (fun _ _ h1 => h1.setBlk.count.raise)

theorem openTriple (h : d.canonical) : d.openTriple.canonical := .ite h.tripleFill.frame h

theorem metaProgram (h : d.canonical) {page stamp : List Byte} {b : Nat} {good : Bool} : (d.metaProgram page stamp b good).canonical := by
  unfold Dev.metaProgram
  extract_lets s wl t _ x _ _ d1 d2
  have hd2 : d2.canonical := h.mediEpoch.frame.count.count.send.each fun _ _ h1 => h1.send
  exact .ite hd2.setBlk hd2.count.raise

theorem copyFailed (h : d.canonical) {p : JPage} {i : Nat} : (Dev.copyFailed p d i).canonical := by
  unfold Dev.copyFailed
  split
  · exact h
  · exact h.metaProgram.retireBlk.tripleFill.frame.raise

theorem writePage (h : d.canonical) {failed : List Nat} : (d.writePage failed).canonical :=
  .trackSave (.each (h.openTriple.frame.each (fun _ _ h1 => h1.copyFailed)) (fun _ _ h1 => h1.metaProgram))

theorem flushRing (h : d.canonical) {n : Nat} : (Dev.flushRing n d).canonical := by
  induction n generalizing d with
  | zero => exact h
  | succ n ih => exact .ite h (ih h.writePage)

/-- What comes back of an image is a part of the memory that it holds (R288 step 3). -/
theorem restoreImage (h : d.canonical) {im : Image} (him : Memory.wf im.mem = true) : (d.restoreImage im).canonical := by
  have hmem : Memory.wf (im.mem.keep (fun a _ => inImage a) ++ []) = true := by
    rw [List.append_nil]
    exact SMap.wf_keep memDefault _ him
  exact (h.withMem hmem).frame

theorem mergeZones (h : d.canonical) {im : Image} : (d.mergeZones im).canonical := h.each (fun _ _ h1 => .ite h1.setZn h1)

theorem mergeBlocks (h : d.canonical) {im : Image} : (d.mergeBlocks im).canonical :=
  h.each (fun _ _ h1 => .ite h1.setBlk (.ite h1.setBlk (.ite h1.setBlk h1)))

theorem takeWritten (h : d.canonical) {z : Nat} : (d.takeWritten z).canonical := h.setZn.each (fun _ _ h1 => h1.each (fun _ _ h2 => h2.setBlk))

theorem closeActive (h : d.canonical) : d.closeActive.1.canonical := .each (h.each (fun _ _ h1 => h1.setZst.setZn)) (fun _ _ h1 => h1.takeWritten)

theorem vaultBlocks (h : d.canonical) : d.vaultBlocks.canonical := h.each (fun _ _ h1 => .ite h1 h1.setBlk)

theorem freeUnit (h : d.canonical) {r : Area} {n : Ns} {a rs j : Nat} : (Dev.freeUnit r n a rs d j).canonical := h.takeFree.store.store.loseRow

theorem recomputeArea (h : d.canonical) {unread : List (Nat × Nat × Nat)} {a : Nat} : (Dev.recomputeArea unread d a).canonical := by
  unfold Dev.recomputeArea
  dsimp only
  split
  · exact h
  · exact .ite h (h.each (fun _ _ h1 => h1.freeUnit))

theorem recomputeAcc (h : d.canonical) {unread : List (Nat × Nat × Nat)} : (d.recomputeAcc unread).canonical :=
  h.each (fun _ _ h1 => h1.recomputeArea)

theorem resolveUnits (h : d.canonical) {bad : List (Nat × Nat × Nat)} : (d.resolveUnits bad).1.canonical := by
  unfold Dev.resolveUnits
  refine h.each fun _ _ h1 => ?_
  dsimp only
  split
  · exact h1
  · exact .ite h1.unitSkipped (.ite h1.count.progLost h1.count.progGood)

theorem settleZone (h : d.canonical) {z : Nat} : (d.settleZone z).canonical := by
  unfold Dev.settleZone
  dsimp only
  split
  · exact h.setZn
  · split
    · exact h.setZn.ctrlFinish
    · split
      · exact h.setZn.setArea
      · exact h.setZn

theorem settleCommands (h : d.canonical) : d.settleCommands.canonical := h.each (fun _ _ h1 => h1.settleZone)

theorem resetCursors (h : d.canonical) : d.resetCursors.canonical := h.frame

theorem resumeAreas (h : d.canonical) : d.resumeAreas.canonical := h.each (fun _ _ h1 => h1.advance)

theorem settleMembers (h : d.canonical) {targets : List Target} : (d.settleMembers targets).canonical := by
  unfold Dev.settleMembers
  refine .redundancy (.each (h.frame.each (fun _ _ h1 => .ite h1 h1.frame)) (fun _ _ h1 => ?_))
  split
  · exact h1.addTarget
  · exact h1.sledReturns

theorem eraseWaiting (h : d.canonical) : d.eraseWaiting.canonical := h.each (fun _ _ h1 => h1.each (fun _ _ h2 => h2.eraseAll))

theorem loadKey (h : d.canonical) {e : Nat × Ns} : (d.loadKey e).canonical := by
  unfold Dev.loadKey
  split
  · exact h
  · split
    · exact .ite h.setKslot h
    · exact h.raise

theorem loadKeys (h : d.canonical) : d.loadKeys.canonical := h.each (fun _ _ h1 => h1.loadKey)

theorem applyCfg (h : d.canonical) {ring : List CfgRec} : (d.applyCfg ring).canonical := by
  unfold Dev.applyCfg
  extract_lets new d1
  have hd1 : d1.canonical := h.each (fun _ _ h1 => h1.cfgProgram)
  split
  · exact .ite hd1.frame hd1.frame
  · exact hd1.frame

theorem unstaged (h : d.canonical) : d.unstaged.canonical := h.frame

theorem loadEpoch (h : d.canonical) : d.loadEpoch.canonical := by
  unfold Dev.loadEpoch
  split
  · exact h
  · exact h.unstaged.each (fun _ _ h1 => h1.setCellI.frame)

/-! ## Machine/Evnt.lean -/

theorem eventOffer (h : d.canonical) {page num : Nat} {params : List Nat} {kind : OfferKind} {stamp : Stamp} :
    (d.eventOffer page num params kind stamp).canonical := by
  unfold Dev.eventOffer
  split
  · exact h
  · split
    · exact h.raise
    · exact .ite h.offer h
    · exact .ite h.present h

theorem ringFreeze (h : d.canonical) {v : Word} {master : Nat} : (d.ringFreeze v master).canonical :=
  h.onWrite (fun _ h1 => .ite h1.setCell.frame (.ite h1.setCell.endFreeze h1.setCell))

theorem freezeTimeout (h : d.canonical) : d.freezeTimeout.canonical := .ite h h.endFreeze.raise

theorem logState (h : d.canonical) : d.logState.canonical := .ite h h.frame.raise

theorem freeLogBlocks (h : d.canonical) {bs : List Nat} : (d.freeLogBlocks bs).canonical :=
  h.each (fun _ _ h1 => .ite h1.setBlk.enqueueErase.floorCheck h1)

theorem releaseExtent (h : d.canonical) : d.releaseExtent.canonical := by
  unfold Dev.releaseExtent
  split
  · exact h
  · exact .raise (.freeLogBlocks (h.frame.each (fun _ _ h1 => h1.putRec.count)))

theorem logTriple (h : d.canonical) : d.logTriple.canonical := .ite h.tripleFill.frame h

theorem logCopyFailed (h : d.canonical) {p : LogPage} {i : Nat} : (Dev.logCopyFailed p d i).canonical :=
  h.metaProgram.retireBlk.tripleFill.frame.raise

theorem logPage (h : d.canonical) {failed : List Nat} : (d.logPage failed).canonical :=
  .submitSeal (.count (.each (.frame (h.each (fun _ _ h1 => h1.logCopyFailed))) (fun _ _ h1 => h1.metaProgram)))

theorem logPageWrite (h : d.canonical) {failed : List Nat} : (d.logPageWrite failed).canonical := by
  unfold Dev.logPageWrite
  dsimp only
  split
  · exact h.logState
  · split
    · exact h.logState.submitSeal
    · exact .ite (.logTriple (.ite h.logState.releaseExtent h.logState)) (.logPage (.logTriple (.ite h.logState.releaseExtent h.logState)))

theorem recordsLost (h : d.canonical) : d.recordsLost.canonical := .ite h h.frame.raise

/-! ## Machine/Fsto.lean -/

theorem setNorOp (h : d.canonical) {b : Nat} {o : Option NorOp} : (d.setNorOp b o).canonical := h.frame

theorem setNorResult (h : d.canonical) {b r : Nat} : (d.setNorResult b r).canonical := h.frame

theorem norFail (h : d.canonical) {b addr r op : Nat} : (d.norFail b addr r op).canonical := h.setNorResult.raise

theorem progGo (h : d.canonical) {b op master : Nat} {start : Dev → Nat → Dev} (hstart : ∀ x x1, x.canonical → (start x x1).canonical) :
    (d.progGo b op master start).canonical := by
  unfold Dev.progGo
  exact h.onWrite (fun _ h2 => .ite h2.deny (.ite h2.setCell.norFail (.ite h2.setCell.norFail (hstart _ _ h2.setCell))))

theorem norProgram (h : d.canonical) {b master : Nat} : (d.norProgram b master).canonical :=
  .ite h (h.progGo (fun _ _ h1 => .ite h1.setNorResult.raise h1.setNorOp))

theorem norEraseCmd (h : d.canonical) {b master : Nat} : (d.norEraseCmd b master).canonical := .ite h (h.progGo (fun _ _ h1 => h1.setNorOp))

theorem norComplete (h : d.canonical) {b : Nat} {e : NorEnd} : (d.norComplete b e).canonical := by
  unfold Dev.norComplete
  split
  · exact h
  · split
    · exact .setNorResult (.ite h.setNorOp.norErase h.setNorOp.norProgs)
    · exact h.setNorOp.norCut.norFail
    · exact h.setNorOp.norCut.norFail

theorem windowRead (h : d.canonical) {addr master : Nat} : (d.windowRead addr master).canonical := by
  unfold Dev.windowRead
  split
  · exact h.emit
  · exact .raise (.ite h.count.emit.frame h.count.emit)

theorem bankFault (h : d.canonical) {addr master : Nat} : (d.bankFault addr master).canonical := h.onRead (fun _ h1 => h1.windowRead)

theorem busyFaultRead (h : d.canonical) {master : Nat} : (d.busyFaultRead master).canonical := h.onRead (fun _ h1 => h1.frame.emit)

theorem otpProgram (h : d.canonical) {master : Nat} {dieError : Bool} : (d.otpProgram master dieError).canonical :=
  h.onWrite (fun _ h1 => .ite h1.frame (.ite h1.otpSet.frame h1.otpSet.frame))

theorem keyRevoke (h : d.canonical) {k master : Nat} : (d.keyRevoke k master).canonical :=
  h.onWrite (fun _ h1 => .ite h1.setCell.frame.raise h1.setCell.otpSet.frame.raise)

theorem rollbackCommit (h : d.canonical) {force : Bool} {master : Nat} : (d.rollbackCommit force master).canonical := by
  unfold Dev.rollbackCommit
  exact h.onWrite (fun _ h1 => .ite h1.setCell (.ite h1.setCell.raise (.raise (h1.setCell.each (fun _ _ h2 => h2.otpSet)))))

theorem cfgFlushCmd (h : d.canonical) : d.cfgFlushCmd.canonical := .ite h h.cfgFlush

theorem cfgCompactCmd (h : d.canonical) : d.cfgCompactCmd.canonical := .ite h.cfgCompact h

theorem bootOkCmd (h : d.canonical) {master : Nat} : (d.bootOkCmd master).canonical :=
  h.onWrite (fun _ h1 => .ite h1 h1.tallyMark.frame.raise.tallyRotate)

/-! ## Machine/PacketOps.lean -/

theorem setLnk (h : d.canonical) {l : LinkId} {f : Link → Link} : (d.setLnk l f).canonical := by
  unfold Dev.setLnk
  split
  · exact h.setPort
  · exact h.setLane

theorem setLst (h : d.canonical) {l : LinkId} {s : PortState} : (d.setLst l s).canonical := by
  unfold Dev.setLst
  split
  · exact h.setPort
  · exact h.setLane

theorem control (h : d.canonical) {l : LinkId} {op : Nat} {args : List Nat} : (d.control l op args).canonical := h.setLnk

theorem mgmtSend (h : d.canonical) {l : LinkId} {op : Nat} {args : List Nat} {data : List Byte} : (d.mgmtSend l op args data).canonical := by
  unfold Dev.mgmtSend
  split
  · exact h.setPort
  · exact h.setLane

theorem setMgmt (h : d.canonical) {l : LinkId} {f : List MgmtReq → List MgmtReq} : (d.setMgmt l f).canonical := by
  unfold Dev.setMgmt
  split
  · exact h.setPort
  · exact h.setLane

theorem mgmtFree (h : d.canonical) {l : LinkId} {op : Nat} : (d.mgmtFree l op).canonical := h.setLnk

theorem mgmtTake (h : d.canonical) {l : LinkId} {op xid : Nat} : (d.mgmtTake l op xid).canonical := h.setMgmt.mgmtFree

theorem probe (h : d.canonical) {l : LinkId} : (d.probe l).canonical := h.control.setLnk

theorem finishOp (h : d.canonical) {key : Nat} {o : OpenOp} {result dieState arrayUs : Nat} :
    (d.finishOp key o result dieState arrayUs).canonical := by
  unfold Dev.finishOp
  extract_lets k d1 d2 d3 d4
  have hd2 : d2.canonical := .complete (.setDie (.ite h.slowEvent h))
  have hd4 : d4.canonical := .quiesceCheck (.ite hd2.mgmtSend hd2)
  split
  · exact hd4.vaultUnit
  · exact hd4.poolService.vaultPump

theorem strayOn (h : d.canonical) {port : Nat} : (d.strayOn port).canonical := h.setPort

theorem completionReceive (h : d.canonical) {port tag gen result dieState arrayUs last bursts : Nat} :
    (d.completionReceive port tag gen result dieState arrayUs last bursts).canonical := by
  unfold Dev.completionReceive
  dsimp only
  split
  · exact h.setLnk
  · split
    · exact h.setLnk.strayOn
    · exact .ite h.setLnk.strayOn (.ite h.setLnk.setDie.modOp h.setLnk.setDie.finishOp)

theorem releaseHeld (h : d.canonical) {key : Nat} : (d.releaseHeld key).canonical := by
  unfold Dev.releaseHeld
  split
  · exact .ite h.finishOp h
  · exact h

theorem burstBad (h : d.canonical) {port tag seq units : Nat} {o : OpenOp} : (d.burstBad port tag seq units o).canonical :=
  .ite h.setPort.setPort.modOp.control h.setPort.setPort.modOp.raise.releaseHeld

theorem dataBurstReceive (h : d.canonical) {port tag seq mask fmt len got : Nat} {data : List Byte} :
    (d.dataBurstReceive port tag seq mask fmt len got data).canonical := by
  unfold Dev.dataBurstReceive
  dsimp only
  split
  · exact h.setLnk
  · split
    · exact h.setLnk.strayOn
    · split
      · exact h.setLnk.strayOn
      · split
        · exact h.setLnk.burstBad.resumeCheck
        · refine .releaseHeld (.resumeCheck ?_)
          split
          · exact h.setLnk.modOp.setPort.frame
          · exact h.setLnk.modOp.setPort

theorem drainPkt (h : d.canonical) {port : Nat} {p : RxPkt} : (Dev.drainPkt port d p).canonical :=
  .ite h.completionReceive (.ite h.dataBurstReceive h)

theorem drainRx (h : d.canonical) {port : Nat} : (d.drainRx port).canonical := h.each (fun _ _ h1 => h1.drainPkt)

theorem burstNakReceive (h : d.canonical) {port tag seq attempt : Nat} : (d.burstNakReceive port tag seq attempt).canonical := by
  unfold Dev.burstNakReceive
  split
  · exact h.setLnk
  · split
    · split
      · exact h.setLnk.setPort.send
      · exact h.setLnk.setPort
    · exact h.setLnk.setPort.setPort.control.raise

/-! ## Machine/LinkPortOps.lean -/

theorem reconcile (h : d.canonical) {n cause : Nat} {st : PortState} : (d.reconcile n cause st).canonical :=
  h.drainRx.setPort.depart.abortPort.redundancy.vaultRefresh

theorem resetPort (h : d.canonical) {n cause : Nat} {st : PortState} : (d.resetPort n cause st).canonical := by
  unfold Dev.resetPort
  extract_lets d l aborted d0 d1 d2 new d3
  have hd2 : d2.canonical := .raise (.reconcile (.ite h.drainRx h.drainRx.emit))
  have hd3 : d3.canonical := .ite hd2.raise hd2
  exact .ite hd3.slowEvent hd3

theorem resetLane (h : d.canonical) {n cause : Nat} {st : PortState} : (d.resetLane n cause st).canonical := .raise (.setLane (.ite h h.emit))

theorem resetLink (h : d.canonical) {l : LinkId} {cause : Nat} : (d.resetLink l cause).canonical := by
  unfold Dev.resetLink
  split
  · exact .ite h.resetPort.vaultLeft (.ite h.resetPort.vaultLeft h)
  · exact .ite h.resetLane h

theorem takeResult (h : d.canonical) {l : LinkId} {r : RxResult} : (d.takeResult l r).canonical := by
  unfold Dev.takeResult
  extract_lets d1 d2
  have hd2 : d2.canonical := by
    unfold d2
    split
    · exact h.setLnk.raise
    · exact h.setLnk
  split
  · exact hd2.resetLink
  · exact hd2

theorem trialFailed (h : d.canonical) {l : LinkId} {t : Trial} : (d.trialFailed l t).canonical := by
  unfold Dev.trialFailed
  split
  · exact h.setLnk.setLnk
  · split
    · exact h.setLnk.setLst.raise
    · exact h.setLnk.setLst

theorem trialVerdict (h : d.canonical) {l : LinkId} : (d.trialVerdict l).canonical := by
  unfold Dev.trialVerdict
  split
  · exact h
  · split
    · exact h
    · exact .ite h.emit.setLnk.setLst h.emit.trialFailed

theorem authStart (h : d.canonical) {l : LinkId} : (d.authStart l).canonical := by
  unfold Dev.authStart
  split
  · exact h.setPort.mgmtSend
  · exact h.setLane.mgmtSend

theorem authFail (h : d.canonical) {l : LinkId} {side : Nat} : (d.authFail l side).canonical := by
  unfold Dev.authFail
  split
  · exact .ite h.setPort.raise.sledGone h.setPort.raise
  · exact .ite h.setLane.frame h.setLane

theorem firstReads (h : d.canonical) {n : Nat} : (d.firstReads n).canonical := by
  unfold Dev.firstReads
  extract_lets x d1 d2 d3
  have hd1 : d1.canonical := h.each fun _ _ h1 => h1.mgmtSend
  have hd2 : d2.canonical := .ite (hd1.each fun _ _ h1 => h1.mgmtSend) hd1
  exact .ite h (.setPort (.ite hd2.mgmtSend hd2))

theorem sledFenced (h : d.canonical) {n token : Nat} : (d.sledFenced n token).canonical :=
  .ite h h.frame.raise.depart.abortPort.sledGone.redundancy.vaultRefresh.vaultLeft

theorem portUp (h : d.canonical) {n : Nat} : (d.portUp n).canonical :=
  h.setPort.raise.probe.frame.firstReads.portDiesUp.sledReturns.redundancy.vaultRefresh

theorem laneUp (h : d.canonical) {n : Nat} : (d.laneUp n).canonical := h.setLane

theorem adopted (h : d.canonical) {n : Nat} : (d.adopted n).canonical := by
  unfold Dev.adopted
  exact h.newSled.setPort.frame.raise

theorem sendAdopt (h : d.canonical) {n : Nat} {force : Bool} : (d.sendAdopt n force).canonical := h.frame.setPort.mgmtSend

theorem blankAdopt (h : d.canonical) : d.blankAdopt.canonical := h.frame.each (fun _ _ h1 => h1.sendAdopt)

theorem tooFew (h : d.canonical) : d.tooFew.canonical := h.unnamed

theorem adoptNow (h : d.canonical) {n : Nat} {foreign : Bool} : (d.adoptNow n foreign).canonical := .ite (.ite h.sendAdopt h.blankAdopt) h

/-! ## Machine/Vault.lean -/

theorem standbyHalt (h : d.canonical) : d.standbyHalt.canonical := .frame (h.each (fun _ _ h1 => h1.setLane))

theorem serviceCut (h : d.canonical) : d.serviceCut.canonical := by
  unfold Dev.serviceCut
  split
  · split
    · exact h.takeFree.raise
    · exact h
  · exact h.takeFree.raise
  · exact h

theorem pfailAccept (h : d.canonical) : d.pfailAccept.canonical := by
  unfold Dev.pfailAccept
  split
  · exact .ite h.frame h.frame
  · exact .ite h.frame h.frame.unnamed
  · exact .ite h.frame.standbyHalt h.frame
  all_goals -- the three modes that share one arm
    split
    · exact .ite h.frame.serviceCut.vaultFreeze h.frame.serviceCut.frame
    · exact h.frame.serviceCut.frame
    · exact h.frame.serviceCut.frame
    · exact h.frame.serviceCut.frame
    · exact .ite h.frame h.frame
    · exact h.frame
    · exact h.frame

theorem snapshotDone (h : d.canonical) : d.snapshotDone.canonical := .ite h.vaultSave h

theorem pfailRise (h : d.canonical) : d.pfailRise.canonical := .ite (.ite h.frame h.frame) (.ite h.frame h.frame)

theorem haltRelease (h : d.canonical) : d.haltRelease.canonical := .ite h.warmNow h

theorem holdupChange (h : d.canonical) {high : Bool} : (d.holdupChange high).canonical := .ite h.frame.warnCheck (.ite h.frame.raise.warnCheck h)

theorem journalPageWrite (h : d.canonical) {failed : List Nat} : (d.journalPageWrite failed).canonical := .ite h.writePage h

theorem ckptBegin (h : d.canonical) : d.ckptBegin.canonical := .ite h.frame.journal h

theorem checkpointStart (h : d.canonical) {byWrite : Option Nat} : (d.checkpointStart byWrite).canonical := by
  unfold Dev.checkpointStart
  split
  · exact h.onWrite (fun _ h1 => h1.ckptBegin)
  · exact .ite h.ckptBegin h

theorem checkpointEnd (h : d.canonical) : d.checkpointEnd.canonical := by
  unfold Dev.checkpointEnd
  split
  · exact .ite (.raise (.saveAnchor (h.journal.frame.each (fun _ _ h1 => h1.releaseBlk)))) h
  · exact h

theorem jseqLoRead (h : d.canonical) {master : Nat} : (d.jseqLoRead master).canonical := h.onRead (fun _ h1 => h1.frame.emit)

theorem loadPeakRead (h : d.canonical) {master : Nat} : (d.loadPeakRead master).canonical := h.onRead (fun _ h1 => h1.frame.emit)

/-! ## Machine/Media.lean -/

theorem sampleGroup (h : d.canonical) {b g : Nat} : (d.sampleGroup b g).canonical := h.enqueueBg.enqueueBg

theorem trackerSampling (h : d.canonical) : d.trackerSampling.canonical := h.each (fun _ _ h1 => h1.each (fun _ _ h2 => h2.sampleGroup))

theorem trackerCheckpoint (h : d.canonical) : d.trackerCheckpoint.canonical := h.frame.trackSave

theorem migrate (h : d.canonical) {sled pos block target z g : Nat} {disturb : Bool} : (d.migrate sled pos block target z g disturb).canonical :=
  h.takeBlk.beginCopy

theorem wearMigrationStart (h : d.canonical) {sled pos block : Nat} : (d.wearMigrationStart sled pos block).canonical := by
  unfold Dev.wearMigrationStart
  dsimp only
  split
  · exact .ite h.migrate h
  · exact h

theorem readDisturbMigration (h : d.canonical) {sled pos block : Nat} : (d.readDisturbMigration sled pos block).canonical := by
  unfold Dev.readDisturbMigration
  dsimp only
  split
  · exact h
  · split
    · exact h
    · exact .ite h.migrate h

theorem dieRetireWrite (h : d.canonical) {master : Nat} {v : Word} : (d.dieRetireWrite master v).canonical :=
  h.onWrite (fun _ h1 => .ite h1.deny (.ite h1.setDie h1))

theorem dieRetirement (h : d.canonical) {sled pos : Nat} : (d.dieRetirement sled pos).canonical := .ite h.setDie.retireDie h

theorem rawRead (h : d.canonical) {master : Nat} : (d.rawRead master).canonical :=
  h.onWrite (fun _ h1 => .ite h1.deny (.ite h1.frame.rawEnd (.ite h1.frame.rawEnd h1.frame.enqueue)))

/-! ## Machine/Sched.lean -/

theorem dieDispatch (h : d.canonical) {sled pos : Nat} : (d.dieDispatch sled pos).canonical :=
  .ite h (.ite h.dispatchDie (.ite h.climbWaiting.quiesceCheck h))

theorem suspendResult (h : d.canonical) {port tag result : Nat} : (d.suspendResult port tag result).canonical := by
  unfold Dev.suspendResult
  split
  · exact h
  · exact .ite h.complete.quiesceCheck h

theorem suspendHoldExpiry (h : d.canonical) {sled pos : Nat} : (d.suspendHoldExpiry sled pos).canonical := .ite h.setDie.resumeCheck h

theorem resumeResult (h : d.canonical) {port tag result : Nat} : (d.resumeResult port tag result).canonical := by
  unfold Dev.resumeResult
  split
  · exact h
  · exact .ite h.complete.quiesceCheck h

theorem suspendTimeout (h : d.canonical) {sled pos : Nat} : (d.suspendTimeout sled pos).canonical := .ite h h.setDie.sendDesc

theorem statusTimeout (h : d.canonical) {sled pos : Nat} : (d.statusTimeout sled pos).canonical := by
  unfold Dev.statusTimeout
  extract_lets k open_ ran blk d1 poll d2 d3
  have hd2 : d2.canonical := h.dieFault.raise.each fun _ _ h1 => .ite h1.closeOp.opDone h1.opDone.endWith
  exact .ite h (.quiesceCheck (.ite hd2 hd2.setDie.dieIdle.faultCheck))

theorem opTimeout (h : d.canonical) {key : Nat} {o : OpenOp} {result : Nat} : (d.opTimeout key o result).canonical :=
  h.raise.slowEvent.dieFault.opDone.endWith.faultCheck.quiesceCheck

theorem programTimeout (h : d.canonical) {port tag : Nat} : (d.programTimeout port tag).canonical := by
  unfold Dev.programTimeout
  split
  · exact h
  · exact .ite h.opTimeout h

theorem eraseTimeout (h : d.canonical) {port tag : Nat} : (d.eraseTimeout port tag).canonical := by
  unfold Dev.eraseTimeout
  split
  · exact h
  · exact .ite h.opTimeout h

theorem memberTimeout (h : d.canonical) {port tag : Nat} : (d.memberTimeout port tag).canonical := by
  unfold Dev.memberTimeout
  extract_lets key
  split
  · exact h
  · extract_lets d1 d2 d3
    have hd2 : d2.canonical := h.raise.slowEvent.dieFault.modOp
    have hd3 : d3.canonical := by
      unfold d3
      split
      · exact hd2.memberDone
      · exact .ite hd2 hd2.readBadUse
      · exact hd2.readBadUse
    exact .ite h hd3.faultCheck.quiesceCheck

theorem hedgeStart (h : d.canonical) {id : Nat} : (d.hedgeStart id).canonical := by
  unfold Dev.hedgeStart
  split
  · exact h
  · extract_lets z n bit on
    split
    · exact h
    · split
      · exact h
      · split
        · exact h
        · exact .ite h.payCredits.count.newRecon.modSub.beginRecon h.refuseCredits

theorem forcedCreditGrant (h : d.canonical) : d.forcedCreditGrant.canonical := by
  unfold Dev.forcedCreditGrant
  dsimp only
  split
  · exact h
  · split
    · exact .ite h.reconFailed (.ite h.payCredits.beginRecon h)
    · split
      · exact h.modRecon
      · split
        · exact h.askSpare
        · exact h.askSpare.reconFailed

theorem decodeEnd (h : d.canonical) {port tag : Nat} {rs : List (Nat × CwRes)} : (d.decodeEnd port tag rs).canonical := by
  unfold Dev.decodeEnd
  dsimp only
  split
  · exact h
  · exact .ite h.decodeDone.quiesceCheck (.ite h.decodeDone.quiesceCheck h)

theorem softDecodeStart (h : d.canonical) {port tag : Nat} : (d.softDecodeStart port tag).canonical := by
  unfold Dev.softDecodeStart
  dsimp only
  split
  · exact h
  · exact .ite h.modOp h

theorem prtyJobStart (h : d.canonical) : d.prtyJobStart.canonical := by
  unfold Dev.prtyJobStart
  split
  · exact h
  · split
    · exact h.frame
    · exact .ite h.frame h

theorem rebuildUnit (h : d.canonical) {z row : Nat} {data : SMap (List Byte)} : (d.rebuildUnit z row data).canonical := by
  unfold Dev.rebuildUnit
  split
  · exact h
  · split
    · exact h.frame
    · exact h.frame.enqueueBg

theorem reconFor (h : d.canonical) {r : Recon} {data : SMap (List Byte)} : (d.reconFor r data).canonical := by
  unfold Dev.reconFor
  split
  · exact h.satisfy
  · exact h.copyGot
  · exact h.rebuildUnit

theorem reconDeliver (h : d.canonical) {i : Nat} : (d.reconDeliver i).canonical := by
  unfold Dev.reconDeliver
  split
  · exact h
  · exact .ite h.count.reapRecon h.count.count.frame.modRecon.reconFor.reapRecon

theorem prtyJobEnd (h : d.canonical) : d.prtyJobEnd.canonical := by
  unfold Dev.prtyJobEnd
  split
  · exact h
  · split
    · exact h.frame
    · split
      · exact h.endPJob.foldDone
      · exact h.endPJob.reconDeliver

theorem takeUnits (h : d.canonical) {k : Nat} {runs : List Nat} : (d.takeUnits k runs).canonical := h.modStream.frame

theorem readAheadIssue (h : d.canonical) {k : Nat} : (d.readAheadIssue k).canonical := by
  unfold Dev.readAheadIssue
  split
  · exact h
  · exact .ite h (.ite (.ite h h.modStream.raise) h.modStream.takeUnits.addSub)

theorem streamRateUpdate (h : d.canonical) {k : Nat} : (d.streamRateUpdate k).canonical := by
  unfold Dev.streamRateUpdate
  split
  · exact h
  · exact h.modStream

theorem streamIdleExpiry (h : d.canonical) {k : Nat} : (d.streamIdleExpiry k).canonical := h.endStream

theorem creditPoolSplit (h : d.canonical) : d.creditPoolSplit.canonical := by
  unfold Dev.creditPoolSplit
  split
  · exact h
  · exact .ite h (h.frame.setPool.each (fun _ _ h1 => h1.setPool))
  · exact .ite h (.setPool (h.frame.each (fun _ _ h1 => h1.setPool)))

/-! ## Machine/Zone.lean -/

theorem begin_ (h : d.canonical) {c : Nat} : (d.begin_ c).canonical := h.modCtx

theorem arrive (h : d.canonical) {c z off len : Nat} {append : Bool} : (d.arrive c z off len append).canonical := by
  unfold Dev.arrive
  dsimp only
  split
  · exact h.commitCtx
  · exact .ite h.commitCtx (.ite h.commitCtx (.ite h.commitCtx (.ite h.setZn.setZst h.setZn)))

theorem writeRow (h : d.canonical) {c slba len : Nat} {append : Bool} {x : Ctx} : (d.writeRow c slba len append x).canonical :=
  .ite h (.ite h.begin_.commitCtx h.begin_.arrive)

theorem write (h : d.canonical) {c : Nat} : (d.write c).canonical := by
  unfold Dev.write
  split
  · split
    · exact h.writeRow
    · exact h
  · exact h

theorem zoneAppend (h : d.canonical) {c : Nat} : (d.zoneAppend c).canonical := by
  unfold Dev.zoneAppend
  split
  · split
    · exact h.writeRow
    · exact h
  · exact h

theorem writeZeroes (h : d.canonical) {c : Nat} : (d.writeZeroes c).canonical := by
  unfold Dev.writeZeroes
  split
  · split
    · exact h.modCtx.writeRow
    · exact h
  · exact h

theorem stageBlock (h : d.canonical) {a z : Nat} {n : Ns} {append : Bool} {lba : Nat} {b : List Byte} :
    (d.stageBlock a z n append lba b).canonical := h.store.setArea.count

theorem mirrorBlocks (h : d.canonical) {a off k : Nat} : (d.mirrorBlocks a off k).canonical := h.each (fun _ _ h1 => h1.psn)

theorem stageRun (h : d.canonical) {z a : Nat} {append : Bool} {data : List Byte} {done k : Nat} : (d.stageRun z a append data done k).canonical :=
  .mirrorBlocks (h.frame.each (fun _ _ h1 => h1.stageBlock))

theorem stageCommand (h : d.canonical) {nsid zone : Nat} : (d.stageCommand nsid zone).canonical := by
  unfold Dev.stageCommand
  dsimp only
  split
  · split
    · exact h
    · split
      · exact h
      · exact .ite h.count.abandon (.ite h.advance (.ite h.budgetWait h.stageRun.setZn.advance.vaultRefresh))
  · exact h

theorem failHead (h : d.canonical) {z c status : Nat} : (d.failHead z c status).canonical := by
  unfold Dev.failHead
  split
  · exact h.unactivate.setZn.commitCtx
  · exact h.abandon

theorem zoneActivation (h : d.canonical) {nsid zone : Nat} : (d.zoneActivation nsid zone).canonical := by
  unfold Dev.zoneActivation
  dsimp only
  split
  · exact h
  · split
    · exact h
    · split
      · exact h
      · split
        · exact h.takeStaging.setZn
        · exact h.takeStaging
        · exact h.takeStaging.failHead

theorem stripeGroupAllocate (h : d.canonical) {nsid zone : Nat} : (d.stripeGroupAllocate nsid zone).canonical := by
  unfold Dev.stripeGroupAllocate
  dsimp only
  split
  · exact h
  · split
    · exact h
    · split
      · split
        · exact h.allocate.setZst
        · exact h.allocate
      · exact h.allocate
      · exact .ite h.allocate.failHead h.allocate.abandon

theorem commitRecord (h : d.canonical) {nsid zone : Nat} : (d.commitRecord nsid zone).canonical := by
  unfold Dev.commitRecord
  dsimp only
  split
  · split
    · exact h
    · split
      · exact .advance (.ite h.journal.setZn.modCtx.commitCtx.setZst.drain h.journal.setZn.modCtx.commitCtx)
      · exact .ite h.journal.setZn.modCtx.commitCtx.setZst.drain h.journal.setZn.modCtx.commitCtx
  · exact h

theorem zoneSendRow (h : d.canonical) {c : Nat} {want : ZAction} : (d.zoneSendRow c want).canonical := by
  unfold Dev.zoneSendRow
  dsimp only
  split
  · exact h
  · split
    · split
      · exact h
      · split
        · exact h.begin_.commitCtx
        · split
          · split
            · exact h.begin_.done
            · exact h.begin_.each (fun _ _ h1 => h1.setZn)
          · exact .ite h.begin_.commitCtx (.ite h.begin_.commitCtx h.begin_.setZn)
    · exact h

theorem zoneOpen (h : d.canonical) {c : Nat} : (d.zoneOpen c).canonical := h.zoneSendRow

theorem zoneClose (h : d.canonical) {c : Nat} : (d.zoneClose c).canonical := h.zoneSendRow

theorem zoneFinish (h : d.canonical) {c : Nat} : (d.zoneFinish c).canonical := h.zoneSendRow

theorem zoneReset (h : d.canonical) {c : Nat} : (d.zoneReset c).canonical := h.zoneSendRow

theorem zoneOffline (h : d.canonical) {c : Nat} : (d.zoneOffline c).canonical := h.zoneSendRow

theorem setZoneDescriptorExtension (h : d.canonical) {c : Nat} : (d.setZoneDescriptorExtension c).canonical := h.zoneSendRow

theorem keepOld (h : d.canonical) {z : Nat} : (d.keepOld z).canonical := h.frame

theorem releaseGroups (h : d.canonical) {z : Nat} : (d.releaseGroups z).canonical :=
  .setZn (.each (h.keepOld.rebuildLeave.each (fun _ _ h1 => h1.noteDirty)) (fun _ _ h1 => h1.retireOrRelease))

theorem deallocRead (h : d.canonical) {z c : Nat} : (d.deallocRead z c).canonical := by
  unfold Dev.deallocRead
  split
  · exact h
  · exact .ite h (.readDone (.modCtx (h.each (fun _ _ h1 => h1.dropSub))))

theorem discardStaging (h : d.canonical) {z : Nat} : (d.discardStaging z).canonical := by
  unfold Dev.discardStaging
  split
  · exact h
  · exact h.areaSt.rowevt.setArea.setZn

theorem resetZone (h : d.canonical) {z : Nat} : (d.resetZone z).canonical := by
  unfold Dev.resetZone
  extract_lets zn units readers d1 d2 d3 d4 d5
  have hd1 : d1.canonical := h.each fun _ _ h1 => h1.deallocRead
  have hd5 : d5.canonical :=
    hd1.endStreams.dropCopies.discardStaging.unqueue.setZn.setZst.releaseGroups.each fun _ _ h1 => h1.unitDiscarded
  split
  · exact hd5.advance.vaultRefresh
  · exact hd5

theorem offlineZone (h : d.canonical) {z : Nat} : (d.offlineZone z).canonical := h.dropCopies.setZst.releaseGroups

theorem finishZone (h : d.canonical) {z : Nat} : (d.finishZone z).canonical := h.setZst.drain

theorem act (h : d.canonical) {z : Nat} {a : ZAction} {ext : List Byte} : (d.act z a ext).1.canonical := by
  unfold Dev.act
  dsimp only
  split
  · split
    · exact h
    · split
      · exact h.setZst
      · exact h
  · split
    · exact h
    · split
      · exact h.setZst
      · exact h
  · split
    · exact h
    · split
      · exact h.setZst
      · split
        · exact h.finishZone
        · exact h
  · split
    · exact h
    · split
      · exact h.resetZone
      · exact h
  · split
    · exact h.offlineZone
    · exact h
  · split
    · exact h.setZn.journal.setZst
    · exact h

theorem zoneActionTakeEffect (h : d.canonical) {nsid zone : Nat} : (d.zoneActionTakeEffect nsid zone).canonical := by
  unfold Dev.zoneActionTakeEffect
  dsimp only
  split
  · refine .ite h (.ite (.ite (.ite h.setZn.act h.setZn) (.done (.ite h.setZn.act h.setZn))) ?_)
    split
    · exact h.setZn.act.done
    · exact h.setZn.commitCtx
  · exact h

theorem zoneReport (h : d.canonical) {c : Nat} {want : Bool} : (d.zoneReport c want).canonical := by
  unfold Dev.zoneReport
  split
  · exact h
  · split
    · exact .ite h h.begin_.emit.done
    · exact h

theorem reportZones (h : d.canonical) {c : Nat} : (d.reportZones c).canonical := h.zoneReport

theorem extendedReportZones (h : d.canonical) {c : Nat} : (d.extendedReportZones c).canonical := h.zoneReport

theorem streamServe (h : d.canonical) {k served hostEnd : Nat} : (d.streamServe k served hostEnd).canonical := by
  unfold Dev.streamServe
  split
  · exact h
  · exact .ite h.modStream.frame.endStream h.modStream.frame

theorem detect (h : d.canonical) {req : Requester} {z first last : Nat} : (d.detect req z first last).canonical :=
  .ite h.startStream (.ite h.frame.startStream h.frame)

theorem readSrc {y : Dev} (h : y.canonical) {c : Nat} {n : Ns} {z slba : Nat} {e : Nat × BlockSrc} : (y.readSrc c n z slba e).canonical := by
  unfold Dev.readSrc
  split
  · exact h.modCtx
  · exact h.putBlock
  · exact h

theorem readZone (h : d.canonical) {c : Nat} {x : Ctx} {n : Ns} {z : Nat} : (d.readZone c x n z).1.canonical := by
  unfold Dev.readZone
  dsimp only
  split
  · refine .streamServe (.each ?_ (fun _ _ h1 => h1.readSrc))
    split
    · exact .ite h.endStream h
    · exact h
  · refine .detect (.each ?_ (fun _ _ h1 => h1.readSrc))
    split
    · exact .ite h.endStream h
    · exact h

theorem readZones_step {acc : Dev × List (Nat × Nat × Nat)} (h : acc.1.canonical) {c : Nat} {x : Ctx} {n : Ns} {z : Nat} :
    (readZones c x n acc z).1.canonical := h.readZone

theorem read (h : d.canonical) {c : Nat} : (d.read c).canonical := by
  unfold Dev.read
  dsimp only
  split
  · exact h
  · split
    · split
      · exact h.begin_.modCtx.commitCtx
      · exact .readDone (.each (.modCtx (h.begin_.modCtx.foldl_fst (fun _ _ h1 => h1.readZones_step))) (fun _ _ h1 => .ite h1.addSub h1))
    · exact h

theorem flush (h : d.canonical) {c : Nat} : (d.flush c).canonical := by
  unfold Dev.flush
  split
  · split
    · exact h.begin_.done
    · exact h
  · exact h

/-! ## Machine/HostOps.lean -/

theorem fail (h : d.canonical) {c status : Nat} : (d.fail c status).canonical := h.commitCtx

theorem refuseCmd (h : d.canonical) {c code : Nat} : (d.refuseCmd c code).canonical := h.refuseChange.fail

theorem dropActions (h : d.canonical) {c : Nat} : (d.dropActions c).canonical := h.frame

theorem stopWork (h : d.canonical) {c cause : Nat} {status : Option Nat} : (d.stopWork c cause status).canonical :=
  h.dropSubs.dropActions.abandonCtx

theorem sqGone (h : d.canonical) {port fn q : Nat} : (d.sqGone port fn q).canonical := by
  unfold Dev.sqGone
  split
  · split
    · exact .ite h h.setFn.raise.done
    · exact h
  · exact h

theorem shutDone (h : d.canonical) {port fn : Nat} : (d.shutDone port fn).canonical := .ite h.setFn h

theorem endSilent (h : d.canonical) {c cause : Nat} : (d.endSilent c cause).canonical := by
  unfold Dev.endSilent
  split
  · exact h
  · exact h.stopWork.silent.sqGone.shutDone

theorem endFailed (h : d.canonical) {c cause status : Nat} : (d.endFailed c cause status).canonical := h.stopWork.fail

theorem epochRetire (h : d.canonical) : d.epochRetire.canonical := .ite h.frame.raise h

theorem applyPending (h : d.canonical) : d.applyPending.canonical := h.each (fun _ _ h1 => h1.applyEpoch)

theorem newEpoch (h : d.canonical) {ch : List (Nat × Word)} : (d.newEpoch ch).canonical := .epochRetire (.frame (h.each (fun _ _ h1 => h1.setHdr)))

theorem ctrlEnd (h : d.canonical) {port fn : Nat} : (d.ctrlEnd port fn).canonical := .setFn (h.each (fun _ _ h1 => h1.endSilent))

theorem ctrlReset (h : d.canonical) {port fn kind : Nat} : (d.ctrlReset port fn kind).canonical := h.ctrlEnd.raise.epochRetire.idleCheck

theorem signal (h : d.canonical) {port fn vec : Nat} : (d.signal port fn vec).canonical := .ite h.setFn h.emit

theorem cqSignal (h : d.canonical) {port fn q : Nat} : (d.cqSignal port fn q).canonical := by
  unfold Dev.cqSignal
  dsimp only
  split
  · exact h
  · split
    · exact h
    · split
      · exact .ite h.signal (.ite h.setFn.signal h.setFn)
      · exact h.signal

theorem sendKeys (h : d.canonical) {full : Bool} {gone nsids : List Nat} : (d.sendKeys full gone nsids).canonical := h.psn

theorem storeKey (h : d.canonical) {nsid slot : Nat} : (d.storeKey nsid slot).canonical := h.cfgMake

theorem newKey (h : d.canonical) {nsid : Nat} : (d.newKey nsid).canonical := h.genKey.frame.storeKey

theorem eraseKey (h : d.canonical) {nsid : Nat} : (d.eraseKey nsid).canonical := h.setKslot.cfgEraseKey

theorem makeNs (h : d.canonical) {nsid : Nat} {n : Ns} : (d.makeNs nsid n).canonical := h.frame.newKey.journal.redundancyOf

theorem tellNs (h : d.canonical) {nsid : Nat} {ctrls : List Nat} : (d.tellNs nsid ctrls).canonical := h.each (fun _ _ h1 => h1.setFn.aenFn)

theorem deleteNs (h : d.canonical) {nsid : Nat} : (d.deleteNs nsid).canonical := by
  unfold Dev.deleteNs
  extract_lets zs d1 d2
  have hd1 : d1.canonical := by
    refine h.each fun _ _ h1 => ?_
    dsimp only
    split
    · exact h1.discardStaging.setZn.releaseGroups.advance
    · exact h1.discardStaging.setZn.releaseGroups
  exact hd1.endStreams.dropCopies.journal.frame

theorem sanAll (h : d.canonical) : d.sanAll.canonical := .each (h.each (fun _ _ h1 => h1.eraseKey.newKey.journal)) (fun _ _ h1 => h1.resetZone)

theorem sanEnd (h : d.canonical) {s : Sanitize} : (d.sanEnd s).canonical := h.frame.cfgMake.raise

theorem sanStep (h : d.canonical) : d.sanStep.canonical := by
  unfold Dev.sanStep
  dsimp only
  split
  · exact h
  · split
    · split
      · exact h
      · split
        · exact h.sanAll.sendKeys.frame
        · exact h.sanAll.sendKeys.sanEnd
    · exact .ite h.sanEnd h

theorem keysSettle (h : d.canonical) : d.keysSettle.canonical := h.sanStep

/-! ## Machine/TenOps.lean -/

theorem chargeCtx (h : d.canonical) {c : Nat} : (d.chargeCtx c).canonical := by
  unfold Dev.chargeCtx
  split
  · exact h.modCtx.setSlice
  · exact h

theorem chargeArea (h : d.canonical) {a : Nat} : (d.chargeArea a).canonical := by
  unfold Dev.chargeArea
  dsimp only
  split
  · exact h.setArea.setSlice
  · exact h

theorem makePartition (h : d.canonical) {p : Nat} : (d.makePartition p).canonical := h.setPart.setSlice

theorem makePartitions (h : d.canonical) : d.makePartitions.canonical := by
  unfold Dev.makePartitions
  exact .each (.each (h.frame.each (fun _ _ h1 => h1.makePartition)) (fun _ _ h1 => h1.chargeCtx)) (fun _ _ h1 => h1.chargeArea)

theorem dropPartitions (h : d.canonical) : d.dropPartitions.canonical := h.frame

theorem lend_step {a : Dev × Nat} (h : a.1.canonical) {l : Nat × Nat} : (lend a l).1.canonical := by
  unfold lend
  dsimp only
  split
  · exact h
  · exact h.setPart

theorem payTokens (h : d.canonical) {p cost : Nat} : (d.payTokens p cost).1.canonical := .setPart (h.setPart.foldl_fst (fun _ _ h1 => h1.lend_step))

theorem freeBytes (h : d.canonical) {n : Nat} : (d.freeBytes n).2.canonical := by
  induction n generalizing d with
  | zero => exact h
  | succ n ih => exact ih h.takeFree

theorem postDown (h : d.canonical) {s type tid flags len status : Nat} {payload : List Byte} :
    (d.postDown s type tid flags len status payload).canonical := h.freeBytes.setSlice

theorem notice (h : d.canonical) {s code : Nat} : (d.notice s code).canonical := h.takeFree.takeFree.postDown

theorem holdQueues (h : d.canonical) {s : Nat} : (d.holdQueues s).canonical := h.setFn

theorem dropPost (h : d.canonical) {s : Nat} {m : DownMsg} : (Dev.dropPost s d m).canonical := h.setSlice.raise

theorem dropPosts (h : d.canonical) {s old : Nat} : (d.dropPosts s old).canonical := h.setSlice.each (fun _ _ h1 => h1.dropPost)

theorem sliceReset (h : d.canonical) {s : Nat} : (d.sliceReset s).canonical :=
  .epochRetire (.dropPosts (.endStreams (.setSlice (h.setSlice.holdQueues.each (fun _ _ h1 => h1.endSilent)))))

theorem sliceRemove (h : d.canonical) {s : Nat} : (d.sliceRemove s).canonical := h.setSlice.notice.sliceReset

theorem sliceGone (h : d.canonical) {s : Nat} : (d.sliceGone s).canonical := h.setFn.frame.setSlice.setSlice.raise

theorem resizeSettle (h : d.canonical) {s : Nat} : (d.resizeSettle s).canonical := by
  unfold Dev.resizeSettle
  dsimp only
  split
  · exact h
  · exact .ite h.setSlice.setSlice.notice h.setSlice.setSlice

theorem sliceResult (h : d.canonical) {s code operation master : Nat} : (d.sliceResult s code operation master).canonical :=
  .raise (.ite h.setSlice.refuseChange h.setSlice)

theorem strictEvent (h : d.canonical) {s off : Nat} {pasid : Option Nat} {kind : Nat} : (d.strictEvent s off pasid kind).canonical := h.raise

theorem onSlice (h : d.canonical) {port fn i off : Nat} {pasid : Option Nat} {k : Dev → Nat → Dev}
    (hk : ∀ x x1, x.canonical → (k x x1).canonical) : (d.onSlice port fn i off pasid k).canonical := .ite (.ite h (.ite h.strictEvent (hk _ _ h))) h

/-! ## Machine/PeerOps.lean -/

theorem setPair (h : d.canonical) {s : PairState} {cause : Nat} : (d.setPair s cause).canonical := .ite h h.frame.raise

theorem newSeries (h : d.canonical) : d.newSeries.canonical := h.frame

theorem leaveMirror (h : d.canonical) : d.leaveMirror.canonical := .keysSettle (.newSeries (h.each (fun _ _ h1 => h1.abandon)))

theorem toSolo (h : d.canonical) {cause : Nat} : (d.toSolo cause).canonical := .ite h.leaveMirror.setPair h

theorem pairOff (h : d.canonical) : d.pairOff.canonical := .each (.frame (.setPair (.ite h.leaveMirror h))) (fun _ _ h1 => .ite h1 h1.resetLane)

theorem sendBlocks (h : d.canonical) {x : Area} {a off k : Nat} : (d.sendBlocks x a off k).canonical := h.each (fun _ _ h1 => h1.psn)

theorem tellUnit (h : d.canonical) {x : Area} {a rs u : Nat} : (Dev.tellUnit x a rs d u).canonical :=
  .ite h.rowevt.rowevt (.ite h.rowevt.rowevt h.rowevt.rowevt)

theorem tellParity (h : d.canonical) {x : Area} {n : Ns} {a rs j : Nat} : (Dev.tellParity x n a rs d j).canonical := .ite h.rowevt (.ite h.rowevt h)

theorem sendRow (h : d.canonical) {x : Area} {n : Ns} {a : Nat} : (d.sendRow x n a).canonical := by
  unfold Dev.sendRow
  split
  · exact .ite h h.rowevt
  · exact .each (h.each (fun _ _ h1 => h1.tellUnit)) (fun _ _ h1 => h1.tellParity)

theorem sendArea (h : d.canonical) {a : Nat} : (d.sendArea a).canonical := by
  unfold Dev.sendArea
  extract_lets x n d2 d3
  have hd3 : d3.canonical := .ite h.rowevt.sendRow.rowevt h.rowevt.sendRow
  exact .sendBlocks (.ite hd3.sendBlocks.sendBlocks hd3)

theorem startResync (h : d.canonical) : d.startResync.canonical :=
  .frame (.sendKeys (.each (h.setPair.each (fun _ _ h1 => h1.psn)) (fun _ _ h1 => h1.sendArea)))

theorem dropKey (h : d.canonical) {nsid : Nat} : (d.dropKey nsid).canonical := .cfgEraseKey (h.each (fun _ _ h1 => h1.setKslot))

theorem takeKey (h : d.canonical) {k : Nat × Nat × List Byte} : (d.takeKey k).canonical := by
  unfold Dev.takeKey
  dsimp only
  split
  · exact h.dropKey.cfgMake.setKslot
  · exact h.dropKey.cfgMake.raise

theorem takeKeys (h : d.canonical) {full : Bool} {gone : List Nat} {ks : List (Nat × Nat × List Byte)} : (d.takeKeys full gone ks).canonical :=
  .each (h.each (fun _ _ h1 => h1.dropKey)) (fun _ _ h1 => h1.takeKey)

theorem applyRow (h : d.canonical) {a event unit rs zgen zone nsid : Nat} : (d.applyRow a event unit rs zgen zone nsid).canonical := by
  unfold Dev.applyRow
  dsimp only
  split
  · exact .setZn (.ite h.setArea.setArea h.setArea)
  · exact .setZn (.areaSt (.setArea (.foldBytes (.ite h.padSlot h))))
  · exact h.setArea
  · split
    · exact .ite h.settleSlot h.settleSlot.setBlk
    · exact h.settleSlot
  · exact h.settleSlot.setArea
  · exact h.setArea
  · exact h.areaSt
  · exact .setZn (.ite h.setArea.setArea h.setArea)

theorem applyItem (h : d.canonical) {i : PeerItem} : (d.applyItem i).canonical := by
  unfold Dev.applyItem
  split
  · exact .ite h.store.setArea h.store
  · exact h.applyRow
  · refine .frame (.each ?_ (fun _ _ h1 => h1.replayRec))
    split
    · exact h.loadTables
    · exact h
  · exact h.takeKeys

theorem applyEarly (h : d.canonical) {n : Nat} : (Dev.applyEarly n d).canonical := by
  induction n generalizing d with
  | zero => exact h
  | succ n ih =>
    unfold Dev.applyEarly
    split
    · exact h
    · exact ih h.frame.applyItem

theorem acceptPsn (h : d.canonical) {lane psn : Nat} {i : PeerItem} : (d.acceptPsn lane psn i).canonical :=
  .ite h (.send (.applyEarly (.ite h.frame h)))

theorem fence (h : d.canonical) {n sub exp new : Nat} : (d.fence n sub exp new).canonical := h.mgmtSend

theorem readLeases (h : d.canonical) : d.readLeases.canonical := h.each (fun _ _ h1 => h1.fence)

theorem confirmZone (h : d.canonical) {z : Nat} : (d.confirmZone z).canonical := h.each (fun _ _ h1 => h1.each (fun _ _ h2 => h2.setBlk))

theorem confirmRows (h : d.canonical) : d.confirmRows.canonical := h.each (fun _ _ h1 => h1.confirmZone)

theorem settleMirrorZone (h : d.canonical) {z : Nat} : (d.settleMirrorZone z).canonical := by
  unfold Dev.settleMirrorZone
  dsimp only
  split
  · exact h.setZn
  · exact .ite h.setZn.drain (.ite h.setZn.ctrlFinish h.setZn.setArea)

theorem settleMirror (h : d.canonical) : d.settleMirror.canonical := h.each (fun _ _ h1 => h1.settleMirrorZone)

theorem mirrorUnits (h : d.canonical) : d.mirrorUnits.canonical := by
  unfold Dev.mirrorUnits
  refine h.each fun _ _ h1 => ?_
  dsimp only
  split
  · exact h1
  · exact .ite h1.unitSkipped h1.setDie.frame

/-- The other controller's image is given up. -/
theorem newVault (h : d.canonical) : d.newVault.canonical := by
  unfold Dev.newVault
  extract_lets vs d1 ck
  obtain ⟨hmem, hnor, hotp, _⟩ : d1.canonical := h.each fun _ _ h1 => h1.releaseBlk
  exact ⟨hmem, hnor, hotp, fun _ hi => nomatch hi⟩

theorem readyFns (h : d.canonical) : d.readyFns.canonical := h.each (fun _ _ h1 => h1.setFn)

theorem attachAll (h : d.canonical) : d.attachAll.canonical := h.each (fun _ _ h1 => h1.modNs.tellNs)

theorem takeoverFinish (h : d.canonical) : d.takeoverFinish.canonical := by
  unfold Dev.takeoverFinish
  split
  · exact h
  · extract_lets lost base _ p d1 _ d2 d3 d4 _ d5 d6 won
    have hd2 : d2.canonical := h.frame.newSeries.setPair.frame.storeModes
    have hd3 : d3.canonical := hd2.markUncertain.confirmRows.mirrorUnits.settleMirror.newVault.resumeAreas
    have hd5 : d5.canonical := hd3.resetCursors.settleMembers.eraseWaiting.poolService.vaultRefresh.frame.setMode
    have hd6 : d6.canonical := .attachAll (.readyFns (.ite hd5.makePartitions hd5))
    split
    · exact hd6.raise
    · exact hd6.raise
    · exact hd6.raise

theorem takeoverStart (h : d.canonical) {k : TakeoverKind} : (d.takeoverStart k).canonical := by
  unfold Dev.takeoverStart
  dsimp only
  exact .ite (.takeoverFinish (h.frame.modeBusy.each (fun _ _ h1 => h1.fence))) (h.frame.modeBusy.each (fun _ _ h1 => h1.fence))

theorem fenced (h : d.canonical) {s : Nat} {won : Bool} : (d.fenced s won).canonical := .ite (.ite h.frame.takeoverFinish h.frame) h

theorem becomeStandby (h : d.canonical) : d.becomeStandby.canonical := by
  unfold Dev.becomeStandby
  extract_lets d1
  have hd1 : d1.canonical := h.each (fun _ _ h1 => h1.modNs.tellNs)
  exact .setMode (.storeModes (.setPair (.newSeries (.ite hd1.endStreams.dropCopies.frame.dropPartitions hd1.endStreams.dropCopies.frame))))

theorem abandonHandover (h : d.canonical) : d.abandonHandover.canonical := h.frame.raise.leaveService

/-! ## Machine/HostQueue.lean -/

theorem doorbell (h : d.canonical) {port fn : Nat} : (d.doorbell port fn).canonical := h.setFn.wakeIn.idleCheck

theorem sqTailDoorbell (h : d.canonical) {port fn q tail : Nat} {pasid : Option Nat} : (d.sqTailDoorbell port fn q tail pasid).canonical := by
  unfold Dev.sqTailDoorbell
  dsimp only
  split
  · exact h
  · split
    · exact h
    · split
      · exact h.strictEvent
      · exact h.setFn.doorbell

theorem cqHeadDoorbell (h : d.canonical) {port fn q head : Nat} : (d.cqHeadDoorbell port fn q head).canonical := by
  unfold Dev.cqHeadDoorbell
  split
  · exact h
  · exact .ite h h.setFn.doorbell

theorem admitCmd (h : d.canonical) {port fn q : Nat} {e : Sqe} {slice lender : Option Nat} : (d.admitCmd port fn q e slice lender).canonical := by
  unfold Dev.admitCmd
  extract_lets c st gen x _ d1 d2 d3 d4
  have hd2 : d2.canonical := h.frame.setFn
  have hd3 : d3.canonical := by
    unfold d3
    split
    · exact hd2.setSlice
    · exact hd2.setSlice
    · exact hd2
  exact .ite hd3.count.count hd3.count

theorem commandFetch (h : d.canonical) {port fn q : Nat} {e : Sqe} : (d.commandFetch port fn q e).canonical := by
  unfold Dev.commandFetch
  dsimp only
  split
  · exact h
  · split
    · exact h
    · split
      · exact h
      · exact h.setPart
      · exact .ite h h.frame.raise
      · split
        · exact .admitCmd (.ite h.applyEpoch.frame h.applyEpoch)
        · exact .ite (.admitCmd (.payTokens (.ite h.applyEpoch.frame h.applyEpoch))) h.setPart.raise

theorem hostDmaComplete (h : d.canonical) {c : Nat} {data : List Byte} {pages : List Nat} : (d.hostDmaComplete c data pages).canonical := by
  unfold Dev.hostDmaComplete
  split
  · exact h
  · extract_lets port n pasid seen d0
    have hd0 : d0.canonical := .ite h.setFn h
    split
    · exact h
    · split
      · split
        · exact h
        · split
          · exact hd0.endFailed
          · exact hd0.modCtx
      · split
        · exact h
        · split
          · exact hd0.endFailed
          · exact hd0.modCtx
      · split
        · exact h
        · split
          · exact hd0.modCtx.emit.commitCtx
          · exact hd0.modCtx.emit.done
      · exact h

theorem dmaError (h : d.canonical) {c kind addr : Nat} : (d.dmaError c kind addr).canonical := by
  unfold Dev.dmaError
  split
  · exact h
  · exact .ite h (.endFailed (.ite h.count.raise.setCell.setCell.setCell.setHport h.count.raise))

theorem dmaErrInfoRead (h : d.canonical) {port master : Nat} : (d.dmaErrInfoRead port master).canonical :=
  h.onRead (fun _ h1 => h1.emit.setCell.setHport)

theorem noteMiss (h : d.canonical) {x : Ctx} : (d.noteMiss x).canonical := by
  unfold Dev.noteMiss
  split
  · exact h
  · split
    · exact h.count.raise
    · exact h.count.raise
    · exact h

theorem logError (h : d.canonical) {port : Nat} {x : Ctx} : (d.logError port x).canonical := .ite h h.setFn

theorem cqEntryPost (h : d.canonical) {c : Nat} : (d.cqEntryPost c).canonical := by
  unfold Dev.cqEntryPost
  dsimp only
  split
  · exact h
  · split
    · exact h
    · split
      · exact h
      · split
        · exact .ite h h.count.modCtx
        · exact h.noteMiss.logError.emit.setFn.count.freeCtx.cqSignal.sqGone.shutDone.epochRetire.sanStep

theorem msixUnmask (h : d.canonical) {port fn : Nat} {vec : Option Nat} : (d.msixUnmask port fn vec).canonical :=
  .ite h.setFn (h.setFn.setFn.each (fun _ _ h1 => h1.emit))

theorem coalescingTimeout (h : d.canonical) {port fn q : Nat} : (d.coalescingTimeout port fn q).canonical := by
  unfold Dev.coalescingTimeout
  split
  · exact .ite h h.setFn.signal
  · exact h

theorem atsInvalidate (h : d.canonical) {port fn pasid : Nat} {pages : List Nat} : (d.atsInvalidate port fn pasid pages).canonical := h.setFn.emit

/-! ## Machine/HostAdmin.lean -/

theorem createIoSq (h : d.canonical) {c : Nat} : (d.createIoSq c).canonical := by
  unfold Dev.createIoSq
  dsimp only
  split
  · exact h
  · split
    · split
      · exact h.begin_.fail
      · split
        · exact h.begin_.fail
        · exact .ite h.begin_.fail h.begin_.setFn.done
    · exact h

theorem createIoCq (h : d.canonical) {c : Nat} : (d.createIoCq c).canonical := by
  unfold Dev.createIoCq
  dsimp only
  split
  · exact h
  · split
    · split
      · exact h.begin_.fail
      · split
        · exact h.begin_.fail
        · exact .ite h.begin_.fail h.begin_.setFn.done
    · exact h

theorem deleteIoSq (h : d.canonical) {c : Nat} : (d.deleteIoSq c).canonical := by
  unfold Dev.deleteIoSq
  dsimp only
  split
  · exact h
  · split
    · split
      · exact h.begin_.fail
      · split
        · exact h.begin_.fail
        · exact .sqGone (.count (.count (.each (h.begin_.setFn.each (fun _ _ h1 => h1.modCtx)) (fun _ _ h1 => h1.endFailed))))
    · exact h

theorem deleteIoCq (h : d.canonical) {c : Nat} : (d.deleteIoCq c).canonical := by
  unfold Dev.deleteIoCq
  split
  · exact h
  · split
    · exact .ite h.begin_.fail (.ite h.begin_.fail h.begin_.setFn.done)
    · exact h

theorem identify (h : d.canonical) {c : Nat} : (d.identify c).canonical := by
  unfold Dev.identify
  split
  · exact h
  · split
    · exact .ite h.begin_.fail (.ite h.begin_.fail h.begin_.emit.done)
    · exact h

theorem getLogPage (h : d.canonical) {c : Nat} : (d.getLogPage c).canonical := by
  unfold Dev.getLogPage
  dsimp only
  split
  · exact h
  · split
    · split
      · exact h.begin_.fail
      · exact .done (.emit (.ite h.begin_ h.begin_.setFn))
    · exact h

theorem setPs (h : d.canonical) {port fn ps : Nat} : (d.setPs port fn ps).canonical := h.setFn.idleCheck

theorem setFeaturesCmd (h : d.canonical) {c : Nat} : (d.setFeaturesCmd c).canonical := by
  unfold Dev.setFeaturesCmd
  split
  · exact h
  · split
    · split
      · exact h.begin_.fail
      · split
        · exact h.begin_.setPs.done
        · exact h.begin_.commitCtx
        · exact h.begin_.setFn.done
    · exact h

theorem getFeaturesCmd (h : d.canonical) {c : Nat} : (d.getFeaturesCmd c).canonical := by
  unfold Dev.getFeaturesCmd
  split
  · exact h
  · split
    · split
      · exact h.begin_.fail
      · exact .ite h.begin_.commitCtx (.ite h.begin_.commitCtx (.commitCtx (.ite h.begin_.emit h.begin_)))
    · exact h

theorem asyncEventRequest (h : d.canonical) {c : Nat} : (d.asyncEventRequest c).canonical := by
  unfold Dev.asyncEventRequest
  dsimp only
  split
  · exact h
  · split
    · split
      · exact h.begin_.fail
      · split
        · exact h.begin_
        · exact h.begin_.setFn.commitCtx
    · exact h

theorem abortCmd (h : d.canonical) {c : Nat} : (d.abortCmd c).canonical := by
  unfold Dev.abortCmd
  split
  · exact h
  · split
    · exact .ite h.begin_.count.fail h.begin_.count.commitCtx
    · exact h

theorem namespaceCreate (h : d.canonical) {c : Nat} : (d.namespaceCreate c).canonical := by
  unfold Dev.namespaceCreate
  split
  · exact h
  · split
    · split
      · exact h.begin_.refuseCmd
      · split
        · exact h.begin_.fail
        · split
          · exact h.begin_.fail
          · split
            · exact h.begin_.fail
            · exact .commitCtx (.modCtx (.sendKeys (.makeNs (.ite h.begin_.frame.storeModes h.begin_))))
    · exact h

theorem dropNs (h : d.canonical) {nsid : Nat} : (d.dropNs nsid).canonical :=
  .deleteNs (.eraseKey (.takeFree (h.modNs.tellNs.each (fun _ _ h1 => h1.endFailed))))

theorem namespaceDelete (h : d.canonical) {c : Nat} : (d.namespaceDelete c).canonical := by
  unfold Dev.namespaceDelete
  split
  · exact h
  · split
    · extract_lets a gone a1
      have ha : a.canonical := h.begin_
      have ha1 : a1.canonical := .sendKeys (ha.each (fun _ _ h1 => h1.dropNs))
      split
      · exact ha.refuseCmd
      · exact .ite ha.fail (.ite ha.refuseCmd ha1.modCtx.done)
    · exact h

theorem namespaceAttachment (h : d.canonical) {c : Nat} : (d.namespaceAttachment c).canonical := by
  unfold Dev.namespaceAttachment
  split
  · exact h
  · split
    · split
      · exact h.begin_.fail
      · split
        · exact h.begin_.refuseCmd
        · split
          · exact h.begin_.refuseCmd
          · exact .ite h.begin_.fail (.ite h.begin_.fail (.ite h.begin_.fail h.begin_.modNs.journal.tellNs.done))
    · exact h

theorem virtualizationManagement (h : d.canonical) {c : Nat} : (d.virtualizationManagement c).canonical := by
  unfold Dev.virtualizationManagement
  split
  · exact h
  · split
    · exact .ite h.begin_.done h.begin_.fail
    · exact h

theorem sanitizeCmd (h : d.canonical) {c : Nat} : (d.sanitizeCmd c).canonical := by
  unfold Dev.sanitizeCmd
  split
  · exact h
  · split
    · split
      · exact h.begin_.refuseCmd
      · split
        · exact h.begin_.fail
        · split
          · exact h.begin_.fail
          · split
            · exact h.begin_.fail
            · exact .ite h.begin_.refuseCmd (.ite h.begin_.refuseCmd h.begin_.cfgMake.frame.done.sanStep)
    · exact h

/-! ## Machine/HostCtrl.lean -/

theorem dlErase (h : d.canonical) {b s : Nat} : (d.dlErase b s).canonical := .ite h h.norErase.frame

theorem slotsSeen (h : d.canonical) : d.slotsSeen.canonical := h.frame

theorem firmwareImageDownload (h : d.canonical) {c : Nat} : (d.firmwareImageDownload c).canonical := by
  unfold Dev.firmwareImageDownload
  dsimp only
  split
  · exact h
  · split
    · split
      · exact h
      · split
        · exact h.begin_.refuseCmd
        · split
          · exact h.begin_.fail
          · exact .done (.frame (.slotsSeen (.norProgs (h.begin_.each (fun _ _ h1 => h1.dlErase)))))
    · exact h

theorem placeAt (h : d.canonical) {ws : List Word} {b : Nat} : (Dev.placeAt ws d b).canonical := h.norErase.norProgs

theorem placeManifest (h : d.canonical) : d.placeManifest.canonical := h.each (fun _ _ h1 => h1.placeAt)

theorem selectBank (h : d.canonical) {b : Nat} : (d.selectBank b).canonical := h.tallySelect.tallyRotate.frame

theorem dlDone (h : d.canonical) : d.dlDone.canonical := h.frame

theorem firmwareCommit (h : d.canonical) {c : Nat} : (d.firmwareCommit c).canonical := by
  unfold Dev.firmwareCommit
  split
  · exact h
  · split
    · split
      · exact h
      · split
        · exact h.begin_.fail
        · split
          · exact .ite h.begin_.done (.ite h.begin_.fail h.begin_.selectBank.done)
          · split
            · exact .ite h.begin_.fail h.begin_.placeManifest.slotsSeen.dlDone.done
            · split
              · exact h.begin_.fail
              · exact .ite h.begin_.slotsSeen.dlDone.done h.begin_.slotsSeen.dlDone.selectBank.done
    · exact h

theorem setPp (h : d.canonical) {on : Bool} : (d.setPp on).canonical := h.each (fun _ _ h1 => h1.setFn)

theorem sendHoldoff (h : d.canonical) : d.sendHoldoff.canonical := .ite (h.each (fun _ _ h1 => h1.control)) h

theorem activationStart (h : d.canonical) {c : Nat} : (d.activationStart c).canonical := by
  unfold Dev.activationStart
  split
  · exact h
  · split
    · split
      · exact h
      · split
        · exact h.begin_.refuseCmd
        · split
          · exact h.begin_.refuseCmd
          · split
            · exact h.begin_.fail
            · split
              · exact h.begin_.fail
              · exact .frame (.setPp (.aen (.ite h.begin_.sendHoldoff.toSolo h.begin_.sendHoldoff.enterService)))
    · exact h

theorem activationSwap (h : d.canonical) : d.activationSwap.canonical := .ite h h.store.slotsSeen.dlDone.selectBank.tallyAttempt.frame

theorem flrSlices (h : d.canonical) {port fn : Nat} : (d.flrSlices port fn).canonical := .ite h (h.each (fun _ _ h1 => h1.sliceReset))

theorem flr (h : d.canonical) {port fn : Nat} : (d.flr port fn).canonical := h.ctrlReset.setFn.flrSlices

theorem portReset (h : d.canonical) {port cause : Nat} : (d.portReset port cause).canonical :=
  .idleCheck (.sanStep (.epochRetire (.raise (h.each (fun _ _ h1 => h1.ctrlEnd.setFn)))))

theorem activationResume (h : d.canonical) : d.activationResume.canonical := by
  unfold Dev.activationResume
  extract_lets ms old d1 _ d2 d3 d4 flrs perst d5
  have hd4 : d4.canonical := .raise (.done (.ite h.setPp.frame.leaveService h.setPp.frame))
  have hd5 : d5.canonical := hd4.each fun _ _ h1 => h1.ctrlReset
  exact .ite h ((hd5.each fun _ _ h1 => h1.flr).each fun _ _ h1 => h1.portReset)

theorem activationDrainTimeout (h : d.canonical) : d.activationDrainTimeout.canonical :=
  .ite h (.raise (.fail (.ite h.setPp.frame.leaveService h.setPp.frame)))

theorem controllerDisable (h : d.canonical) {port fn : Nat} : (d.controllerDisable port fn).canonical := .ite h (.ite h.setFn h.ctrlReset)

theorem controllerEnable (h : d.canonical) {port fn iosqes iocqes asq acq : Nat} : (d.controllerEnable port fn iosqes iocqes asq acq).canonical :=
  .ite h (.ite h.setFn.idleCheck h.setFn.idleCheck)

theorem vfReady (h : d.canonical) {port fn : Nat} : (d.vfReady port fn).canonical := .ite h h.setFn

theorem shutdownRequest (h : d.canonical) {port fn : Nat} : (d.shutdownRequest port fn).canonical :=
  .ite h (.shutDone (h.setFn.each (fun _ _ h1 => h1.endSilent)))

theorem functionLevelReset (h : d.canonical) {port fn : Nat} : (d.functionLevelReset port fn).canonical := .ite h (.ite h.setFn h.flr)

theorem hostReset (h : d.canonical) {port cause : Nat} : (d.hostReset port cause).canonical := .ite (h.each (fun _ _ h1 => h1.setFn)) h.portReset

theorem perstAssert (h : d.canonical) {port : Nat} : (d.perstAssert port).canonical := .ite h h.setHport.hostReset

theorem perstRelease (h : d.canonical) {port : Nat} : (d.perstRelease port).canonical := .ite h h.setHport.wakeIn

theorem pcieLinkUp (h : d.canonical) {port gen width : Nat} : (d.pcieLinkUp port gen width).canonical := .ite h h.setHport.raise

theorem pcieLinkDown (h : d.canonical) {port : Nat} : (d.pcieLinkDown port).canonical := .ite h h.setHport.hostReset

theorem pcieLinkRetrain (h : d.canonical) {port maxGen master : Nat} : (d.pcieLinkRetrain port maxGen master).canonical :=
  h.onWrite (fun _ h1 => .ite h1.deny (.ite h1.setCell h1.setCell.setHport))

theorem apstTransition (h : d.canonical) {port fn : Nat} : (d.apstTransition port fn).canonical := by
  unfold Dev.apstTransition
  dsimp only
  split
  · exact h
  · exact .ite h h.setPs

theorem vfEnable (h : d.canonical) {port n : Nat} : (d.vfEnable port n).canonical :=
  .each (h.each (fun _ _ h1 => .setFn (.ite h1.ctrlReset h1))) (fun _ _ h1 => h1.setFn)

theorem configurationWrite (h : d.canonical) {port : Nat} {op : ConfigOp} : (d.configurationWrite port op).canonical := by
  unfold Dev.configurationWrite
  split
  · exact h
  · extract_lets d1
    have hd1 : d1.canonical := by
      unfold d1
      split
      · exact h.vfEnable
      · exact h.setFn.idleCheck
      · exact h.setFn
      · exact h.setFn
      · exact h.setFn
      · exact .ite h.setHport h
    split
    · exact .ite hd1.wakeIn hd1
    · exact hd1.wakeIn

/-! ## Machine/Link.lean -/

theorem setLed (h : d.canonical) {n v : Nat} : (d.setLed n v).canonical := h.setCell

theorem slotInsertion (h : d.canonical) {n : Nat} {record : List Byte} : (d.slotInsertion n record).canonical :=
  .ite h (.ite h.setPort.wakeIn h.setPort.wakeIn.takeSlot)

theorem removeSled (h : d.canonical) {n : Nat} : (d.removeSled n).canonical :=
  .vaultLeft (.frame (.redundancy (.sledGone (.raise (.setPort (.ite h.drainRx.resetPort h.drainRx))))))

theorem sledRemoval (h : d.canonical) {n : Nat} : (d.sledRemoval n).canonical :=
  .ite h (.ite h.setPort.wakeIn.setPort (.ite h.setPort.wakeIn h.setPort.wakeIn.removeSled))

theorem slotsWake (h : d.canonical) : d.slotsWake.canonical := .portsStart (h.each (fun _ _ h1 => h1.removeSled))

theorem slotAttnSample (h : d.canonical) {n : Nat} {low : Bool} : (d.slotAttnSample n low).canonical :=
  .ite h.setPort (.ite h.setPort.raise h.setPort)

theorem powerWaitExpiry (h : d.canonical) {n : Nat} : (d.powerWaitExpiry n).canonical := .ite h.setPort h

theorem trainTrialStart (h : d.canonical) {l : LinkId} : (d.trainTrialStart l).canonical := .ite h.setLnk h

theorem prbsPhaseEnd (h : d.canonical) {l : LinkId} : (d.prbsPhaseEnd l).canonical := .ite h.setLnk h

theorem alignmentMarker (h : d.canonical) {l : LinkId} {found : Option Nat} : (d.alignmentMarker l found).canonical :=
  .ite h.setLnk.resetLink (.ite h.setLnk.setLnk h.setLnk)

theorem lossOfSignal (h : d.canonical) {l : LinkId} : (d.lossOfSignal l).canonical := .ite h.setLnk.resetLink h.setLnk

theorem trainingWindowEnd (h : d.canonical) {l : LinkId} {corrected : Nat} {uncorr : Bool} : (d.trainingWindowEnd l corrected uncorr).canonical :=
  .ite h.setLnk.trialVerdict h

theorem trainReceive (h : d.canonical) {l : LinkId} {ok : Bool} {count : Nat} : (d.trainReceive l ok count).canonical :=
  .ite h.setLnk.setLnk.trialVerdict h.setLnk

theorem trialTimeout (h : d.canonical) {l : LinkId} : (d.trialTimeout l).canonical := by
  unfold Dev.trialTimeout
  split
  · exact .ite h.trialFailed h
  · exact h

theorem holdExpiry (h : d.canonical) {l : LinkId} : (d.holdExpiry l).canonical := .ite h.setLst.setLnk h

theorem frameReceive (h : d.canonical) {l : LinkId} {f : RxFrame} : (d.frameReceive l f).canonical := .ite h.takeResult h

theorem noteSent (h : d.canonical) {l : LinkId} {p : Pkt} : (Dev.noteSent l d p).canonical := by
  unfold Dev.noteSent
  split
  · exact .ite h.modOp h
  · exact h

theorem frameTransmit (h : d.canonical) {l : LinkId} : (d.frameTransmit l).canonical := .ite (.emit (h.setLnk.each (fun _ _ h1 => h1.noteSent))) h

theorem replayTimeout (h : d.canonical) {l : LinkId} : (d.replayTimeout l).canonical := by
  unfold Dev.replayTimeout
  split
  · split
    · exact h.setLnk
    · exact h.resetLink
  · exact h

theorem creditReceive (h : d.canonical) {l : LinkId} {limits : List Nat} : (d.creditReceive l limits).canonical :=
  .ite h (.ite h.takeResult (.ite h.setLnk.mgmtSend h.setLnk))

theorem linkResetReceive (h : d.canonical) {l : LinkId} : (d.linkResetReceive l).canonical := h.resetLink

theorem linkReset (h : d.canonical) {l : LinkId} {cause : Nat} : (d.linkReset l cause).canonical := h.resetLink

theorem echoReceive (h : d.canonical) {l : LinkId} {t : Nat} : (d.echoReceive l t).canonical :=
  .ite h.setLnk (.ite h.setLnk.setLnk h.setLnk.setLnk.control)

theorem linkTimeSync (h : d.canonical) : d.linkTimeSync.canonical := h.each (fun _ _ h1 => h1.probe.control)

theorem managementTimeout (h : d.canonical) {l : LinkId} {op xid : Nat} : (d.managementTimeout l op xid).canonical := by
  unfold Dev.managementTimeout
  split
  · exact h
  · exact .ite h.resetLink h.setMgmt.setLnk

theorem capPort (h : d.canonical) {n : Nat} {c : Cap} : (d.capPort n c).canonical := by
  unfold Dev.capPort
  split
  · exact h.setPort.setPort.raise.sledGone
  · split
    · exact .ite h.setPort.adopted.authStart h.setPort.authStart
    · exact h.setPort.setPort.frame.raise.adoptNow

theorem capLane (h : d.canonical) {n : Nat} {c : Cap} : (d.capLane n c).canonical := .ite h.setLane.setLane h.setLane.authStart

theorem capResponse (h : d.canonical) {l : LinkId} {xid : Nat} {c : Cap} : (d.capResponse l xid c).canonical := by
  unfold Dev.capResponse
  split
  · exact h.mgmtFree
  · split
    · exact h.mgmtTake.capPort
    · exact h.mgmtTake.capLane

theorem adoptResponse (h : d.canonical) {n xid status : Nat} : (d.adoptResponse n xid status).canonical :=
  .ite h.mgmtFree (.ite h.mgmtTake.adopted.authStart h.mgmtTake.frame.setPort)

theorem authAnswer (h : d.canonical) {l : LinkId} {xid status : Nat} {mac nb : List Byte} : (d.authAnswer l xid status mac nb).1.canonical := by
  unfold Dev.authAnswer
  split
  · exact h.mgmtFree
  · split
    · exact h.mgmtFree
    · split
      · split
        · exact h.mgmtTake.mgmtSend
        · exact h.mgmtTake.authFail
      · split
        · split
          · exact h.mgmtTake.portUp
          · exact h.mgmtTake.laneUp
        · exact h.mgmtTake.authFail

theorem replaceEnd (h : d.canonical) {n : Nat} : (d.replaceEnd n).canonical :=
  .ite (.ite h.frame.raise.leaveService h.frame.addTarget.redundancy.leaveService) h

theorem geomResponse (h : d.canonical) {n xid status : Nat} {g : Geom} {bad : List Nat} : (d.geomResponse n xid status g bad).canonical := by
  unfold Dev.geomResponse
  split
  · exact h.mgmtFree
  · extract_lets d1 k s fits d2 _ d3
    have hd2 : d2.canonical := h.mgmtTake.setDie
    have hd3 : d3.canonical := .ite hd2 (.ite hd2.frame.raise hd2)
    exact .ite h.mgmtTake (.ite hd3.eraseAll.poolService hd3)

theorem vtableResponse (h : d.canonical) {n xid status : Nat} {vectors : List (List Int)} : (d.vtableResponse n xid status vectors).canonical := by
  unfold Dev.vtableResponse
  split
  · exact h.mgmtFree
  · exact h.mgmtTake.setDie

theorem dieStatusPoll (h : d.canonical) {sled pos : Nat} : (d.dieStatusPoll sled pos).canonical := .ite h.sendDesc h

theorem quiesceStart (h : d.canonical) {n : Nat} : (d.quiesceStart n).canonical := by
  unfold Dev.quiesceStart
  split
  · exact h
  · split
    · exact h.raise
    · exact h.setPort.depart.redundancy.vaultRefresh.quiesceCheck

theorem portQuiesce (h : d.canonical) {n master : Nat} : (d.portQuiesce n master).canonical := h.onWrite (fun _ h1 => h1.quiesceStart)

theorem portRetrain (h : d.canonical) {n master : Nat} {quiesce : Bool} : (d.portRetrain n master quiesce).canonical := by
  unfold Dev.portRetrain
  exact h.onWrite (fun _ h1 => .ite h1.quiesceStart (.ite h1.setLnk.setPort.powerPort (.ite h1.setLnk.holdExpiry h1.setLnk.resetLink.setLnk)))

theorem portOff (h : d.canonical) {n : Nat} : (d.portOff n).canonical := h.reconcile.setPort.sledGone.redundancy

theorem removalEnd (h : d.canonical) {n : Nat} {timedOut : Bool} : (d.removalEnd n timedOut).canonical := by
  unfold Dev.removalEnd
  dsimp only
  split
  · exact h.portOff.setLed
  · split
    · exact h.portOff.mgmtSend.setPort
    · exact .ite h.portOff.setLed.raise h.portOff.setPort

theorem quiescedReceive (h : d.canonical) {n : Nat} : (d.quiescedReceive n).canonical :=
  .ite h.setLnk.removalEnd.vaultLeft (.ite h.setLnk.portOff h.setLnk)

theorem quiesceTimeout (h : d.canonical) {n : Nat} : (d.quiesceTimeout n).canonical := .ite h.removalEnd.vaultLeft h

theorem quiescedWaitExpiry (h : d.canonical) {n : Nat} : (d.quiescedWaitExpiry n).canonical := .ite h.setPort.setLed h

theorem slotoffReceive (h : d.canonical) {lane xid slot : Nat} : (d.slotoffReceive lane xid slot).canonical :=
  .setLnk (.ite h.setLnk h.setLnk.portOff)

theorem slotoffResponse (h : d.canonical) {lane xid status : Nat} : (d.slotoffResponse lane xid status).canonical := by
  unfold Dev.slotoffResponse
  split
  · exact h.mgmtFree
  · exact .ite h.mgmtTake.setPort.setLed h.mgmtTake.setPort.setLed.raise

theorem portRestore (h : d.canonical) {n master : Nat} : (d.portRestore n master).canonical := h.onWrite (fun _ h1 => .ite h1.setPort.powerPort h1)

theorem portEnableWrite (h : d.canonical) {n master : Nat} {en : Bool} : (d.portEnableWrite n master en).canonical := by
  refine h.onWrite fun _ h1 => ?_
  extract_lets y s z
  have hy : y.canonical := h1.setCell
  have hz : z.canonical := .ite hy.resetPort hy.setPort
  exact .ite (.ite hy.powerPort hy) (.ite hy hz.setPort.sledGone.redundancy.vaultLeft)

theorem sledReleaseWrite (h : d.canonical) {n master : Nat} : (d.sledReleaseWrite n master).canonical := by
  unfold Dev.sledReleaseWrite
  refine h.onWrite fun _ h1 => ?_
  split
  · exact h1.raise
  · exact .ite h1.setCell.mgmtSend h1.raise

theorem releaseResponse (h : d.canonical) {n xid status : Nat} : (d.releaseResponse n xid status).canonical := by
  unfold Dev.releaseResponse
  split
  · exact h.mgmtFree
  · extract_lets d1 d2 m v a d3
    have hd1 : d1.canonical := h.mgmtTake.setCell
    have hd2 : d2.canonical := hd1.newSled.setPort
    clear_value d2
    have hd3 : d3.canonical := hd2.frame
    exact .ite hd1 hd3.saveAnchor.redundancy.vaultRefresh.vaultLeft

theorem programSettleTimeout (h : d.canonical) {n : Nat} : (d.programSettleTimeout n).canonical := .ite h h.sledGone

/-! ## Machine/Prty.lean -/

theorem mgmtVote (h : d.canonical) {block : Nat} : (d.mgmtVote block).canonical := h.prepRefuse

theorem slowTick (h : d.canonical) {s : Nat} : (d.slowTick s).canonical := .ite (.ite h.frame.raise h.frame) (.ite h.frame.raise h.frame)

theorem slowWindowTick (h : d.canonical) : d.slowWindowTick.canonical := h.each (fun _ _ h1 => h1.slowTick)

theorem replaceStart (h : d.canonical) {slot master : Nat} : (d.replaceStart slot master).canonical := by
  refine h.onWrite fun _ h1 => ?_
  extract_lets x _ y s
  have hx : x.canonical := h1.mgmtVote.setCell
  have hy : y.canonical := hx.frame.enterService
  exact .ite (.ite hy.sendAdopt (.ite hy.sendAdopt hy)) hx.refuseChange

theorem replaceWaitExpiry (h : d.canonical) : d.replaceWaitExpiry.canonical := by
  unfold Dev.replaceWaitExpiry
  split
  · exact .ite h.frame.raise.leaveService h
  · exact h

theorem rebuildRow (h : d.canonical) : d.rebuildRow.canonical := by
  unfold Dev.rebuildRow
  split
  · exact .ite h.rebuildStep h
  · exact h

/-! ## Machine/PeerLink.lean -/

theorem heartbeatSend (h : d.canonical) : d.heartbeatSend.canonical := h.frame.each (fun _ _ h1 => h1.control)

theorem heartbeatReceive (h : d.canonical) {lane mode pair role : Nat} {hold : Bool} {_count : Nat} :
    (d.heartbeatReceive lane mode pair role hold _count).canonical := by
  unfold Dev.heartbeatReceive
  extract_lets d0 base _ d1 s d2
  have hd1 : d1.canonical := h.setLnk.frame
  have hd2 : d2.canonical :=
    .ite (.ite hd1 (.ite hd1 (.ite hd1.newSeries.setPair hd1.setPair))) (.ite hd1 (.ite hd1.toSolo (.ite hd1.startResync hd1)))
  exact .ite h.setLnk hd2.frame

theorem heartbeatTimeout (h : d.canonical) : d.heartbeatTimeout.canonical := by
  unfold Dev.heartbeatTimeout
  dsimp only
  split
  · exact h
  · split
    · exact h.frame
    · split
      · exact .ite h.frame.raise.newSeries.frame.readLeases h.frame.raise.newSeries.frame
      · split
        · exact h.frame.raise.becomeStandby
        · exact h.frame.raise.abandonHandover.leaveMirror.frame
        · exact h.frame.raise.leaveMirror.frame

theorem holdoffReceive (h : d.canonical) {lane ms : Nat} : (d.holdoffReceive lane ms).canonical := .ite h.setLnk.frame h.setLnk

theorem peerTimeSync (h : d.canonical) : d.peerTimeSync.canonical := by
  unfold Dev.peerTimeSync
  split
  · exact .ite h h.probe.control
  · exact h

theorem peerProbeReceive (h : d.canonical) {lane t : Nat} : (d.peerProbeReceive lane t).canonical := .ite h.setLnk.control h.setLnk

theorem peerTimeReceive (h : d.canonical) {lane t : Nat} : (d.peerTimeReceive lane t).canonical :=
  .ite (.ite h.setLnk.takeFree.setCell.frame.raise h.setLnk.takeFree.setCell.frame) h.setLnk

theorem freeSeries (h : d.canonical) {lane typ : Nat} : (d.freeSeries lane typ).canonical := h.setLnk

theorem mirrorReceive (h : d.canonical) {lane psn area off blocks zgen : Nat} {data : List Byte} :
    (d.mirrorReceive lane psn area off blocks zgen data).canonical := h.freeSeries.acceptPsn

theorem rowevtReceive (h : d.canonical) {lane psn area event unit rs zgen zone nsid : Nat} :
    (d.rowevtReceive lane psn area event unit rs zgen zone nsid).canonical := h.freeSeries.acceptPsn

theorem journalReceive (h : d.canonical) {lane psn : Nat} {recs : List JRec} {tables : Option Ckpt} :
    (d.journalReceive lane psn recs tables).canonical := h.freeSeries.acceptPsn

theorem keysReceive (h : d.canonical) {lane : Nat} {psn : Option Nat} {full : Bool} {gone : List Nat} {ks : List (Nat × Nat × List Byte)} :
    (d.keysReceive lane psn full gone ks).canonical := by
  unfold Dev.keysReceive
  split
  · exact h.setLnk.acceptPsn
  · exact .ite h.setLnk.takeKeys.cfgFlush.warmNow h.setLnk

theorem peerAckReceive (h : d.canonical) {lane psn : Nat} : (d.peerAckReceive lane psn).canonical :=
  .ite h.freeSeries (.keysSettle (.ite h.freeSeries.frame.setPair h.freeSeries.frame))

theorem psnResend (h : d.canonical) {psn : Nat} : (d.psnResend psn).canonical := by
  unfold Dev.psnResend
  split
  · exact h
  · split
    · exact h
    · exact h.frame.send

theorem leaseRenew (h : d.canonical) : d.leaseRenew.canonical := .ite h (h.each (fun _ _ h1 => h1.fence))

theorem fenceResponse (h : d.canonical) {n xid status token leaseAge : Nat} {heldHere : Bool} :
    (d.fenceResponse n xid status token leaseAge heldHere).canonical := by
  unfold Dev.fenceResponse
  dsimp only
  split
  · exact h.mgmtFree
  · split
    · exact .ite h.mgmtTake (.ite h.mgmtTake.setPort.frame.sledFenced h.mgmtTake.setPort.frame)
    · exact .ite (.fenced (.ite h.mgmtTake.setPort h.mgmtTake)) (.ite h.mgmtTake.fence h.mgmtTake)

theorem takeoverLeaseCheck (h : d.canonical) : d.takeoverLeaseCheck.canonical := by
  unfold Dev.takeoverLeaseCheck
  split
  · exact h.each (fun _ _ h1 => h1.fenced)
  · exact .ite h (.ite h.takeoverStart (.ite h.frame.raise h.readLeases))

theorem forceTakeover (h : d.canonical) {master : Nat} : (d.forceTakeover master).canonical :=
  h.onWrite (fun _ h1 => .ite h1.refuseChange (.ite h1.takeoverStart h1))

theorem handoverStart (h : d.canonical) {membersUp : Bool} {master : Nat} : (d.handoverStart membersUp master).canonical := by
  refine h.onWrite fun _ h1 => ?_
  extract_lets x
  have hx : x.canonical := h1.prepRefuse
  have hrefuse {code : Nat} : (x.refuseChange code master).canonical := hx.refuseChange
  exact .ite hrefuse (.ite hrefuse (.ite hrefuse.raise (.ite hrefuse.raise hx.frame.enterService)))

theorem handoverSend (h : d.canonical) : d.handoverSend.canonical := by
  unfold Dev.handoverSend
  split
  · exact .ite h.mgmtSend.frame.modeBusy h
  · exact h

theorem answerPeer (h : d.canonical) {lane op xid status : Nat} : (d.answerPeer lane op xid status).canonical := h.setLnk

theorem handoverReceive (h : d.canonical) {lane xid : Nat} : (d.handoverReceive lane xid).canonical := by
  unfold Dev.handoverReceive
  split
  · exact .ite h.setLnk.answerPeer.takeoverStart h.setLnk
  · split
    · exact h.mgmtFree
    · exact .ite h.mgmtTake.becomeStandby h.mgmtTake

theorem pairStart (h : d.canonical) {give : Bool} {master : Nat} : (d.pairStart give master).canonical := by
  refine h.onWrite fun _ h1 => ?_
  extract_lets x _ y
  have hx : x.canonical := h1.prepRefuse
  have hy : y.canonical := hx.frame
  exact .ite hx.refuseChange (.ite hx (.ite hy (hy.each fun _ _ h2 => .ite h2.resetLane h2)))

theorem pairGive (h : d.canonical) {master : Nat} : (d.pairGive master).canonical := h.pairStart

theorem pairTake (h : d.canonical) {master : Nat} : (d.pairTake master).canonical := h.pairStart

theorem laneServe (h : d.canonical) {lane : Nat} : (d.laneServe lane).canonical := .ite h.mgmtSend (.ite h.frame.mgmtSend h)

theorem pairEnd (h : d.canonical) {result : Nat} : (d.pairEnd result).canonical := h.frame

theorem retrainLanes (h : d.canonical) : d.retrainLanes.canonical := h.each (fun _ _ h1 => .ite h1.resetLane h1)

theorem pairReceive (h : d.canonical) {lane xid pairId giver : Nat} {wrappedKey : List Byte} :
    (d.pairReceive lane xid pairId giver wrappedKey).canonical := by
  unfold Dev.pairReceive
  dsimp only
  split
  · exact h.setLnk
  · split
    · exact h.setLnk.answerPeer
    · split
      · exact h.setLnk.answerPeer
      · exact h.setLnk.frame.savePair.frame.storeModes.emit.pairEnd.setPair.retrainLanes

theorem pairResponse (h : d.canonical) {lane xid status : Nat} : (d.pairResponse lane xid status).canonical := by
  unfold Dev.pairResponse
  split
  · exact h.mgmtFree
  · exact .ite h.mgmtTake.pairEnd.savePair.setPair.frame.retrainLanes h.mgmtTake.pairEnd.raise

theorem unpair (h : d.canonical) {master : Nat} : (d.unpair master).canonical := by
  unfold Dev.unpair
  exact h.onWrite (fun _ h1 => .ite h1.prepRefuse.pairOff.takeKeys.frame.cfgErase.storeModes h1.prepRefuse.pairOff.savePair)

theorem pairCodeExpiry (h : d.canonical) : d.pairCodeExpiry.canonical := .ite h (.ite h.pairEnd.raise h.pairEnd)

theorem peerEnableWrite (h : d.canonical) {en : Bool} {master : Nat} : (d.peerEnableWrite en master).canonical := by
  unfold Dev.peerEnableWrite
  exact h.onWrite (fun _ h1 => .ite h1.setCell (.ite (.each (.ite h1.setCell.setPair h1.setCell) (fun _ _ h2 => h2.setLane)) h1.setCell.pairOff))

/-! ## Machine/Tenancy.lean -/

theorem tenancyEnable (h : d.canonical) {baseCls master : Nat} : (d.tenancyEnable baseCls master).canonical := by
  refine h.onWrite fun _ h1 => ?_
  extract_lets x _ y
  have hx : x.canonical := h1.prepRefuse.setCell
  have hy : y.canonical := hx.frame.storeModes.makePartitions.applyPending.newEpoch
  exact .ite h1.deny (.ite hx.refuseChange (.ite hy.raise.setMode hx.refuseChange))

theorem tenancyDisable (h : d.canonical) {master : Nat} : (d.tenancyDisable master).canonical := by
  refine h.onWrite fun _ h1 => ?_
  extract_lets x may _ y
  have hx : x.canonical := h1.prepRefuse
  have hy : y.canonical := hx.frame.storeModes.dropPartitions.applyPending.newEpoch
  exact .ite hx.refuseChange (.ite hy.raise.setMode hx.refuseChange)

theorem sliceCreate (h : d.canonical) {s master : Nat} : (d.sliceCreate s master).canonical :=
  h.onWrite (fun _ h1 => .ite h1.prepRefuse.sliceResult h1.prepRefuse.setSlice.setSlice.raise)

theorem sliceResetWrite (h : d.canonical) {s master : Nat} : (d.sliceResetWrite s master).canonical :=
  h.onWrite (fun _ h1 => .ite h1.prepRefuse.sliceResult h1.prepRefuse.setSlice.sliceReset)

theorem sliceRemoveWrite (h : d.canonical) {s master : Nat} : (d.sliceRemoveWrite s master).canonical := by
  unfold Dev.sliceRemoveWrite
  exact h.onWrite (fun _ h1 => .ite h1.prepRefuse.sliceResult (.ite h1.prepRefuse.setSlice.setSlice h1.prepRefuse.setSlice.sliceRemove))

theorem sliceResize (h : d.canonical) {s master : Nat} : (d.sliceResize s master).canonical :=
  h.onWrite (fun _ h1 => .ite h1.prepRefuse.sliceResult h1.prepRefuse.setSlice.setSlice.resizeSettle)

theorem sliceDrainComplete (h : d.canonical) {s : Nat} : (d.sliceDrainComplete s).canonical := by
  unfold Dev.sliceDrainComplete
  dsimp only
  split
  · split
    · exact h.setSlice.raise.notice.sliceGone
    · exact .ite h.setSlice.raise.notice.sliceRemove h.setSlice.raise.notice
  · exact h

theorem resizeShrinkComplete (h : d.canonical) {s : Nat} : (d.resizeShrinkComplete s).canonical := h.resizeSettle

theorem sqBindWrite (h : d.canonical) {port fn q index : Nat} : (d.sqBindWrite port fn q index).canonical := .ite (.ite h h.setFn) h

theorem tokenRefill (h : d.canonical) : d.tokenRefill.canonical := .ite h.frame h

theorem upPost (h : d.canonical) {port fn i : Nat} {pasid : Option Nat} {type : Nat} {words : List Word} {k : Dev → Nat → Dev}
    (hk : ∀ x x1, x.canonical → (k x x1).canonical) : (d.upPost port fn i pasid type words k).canonical :=
  h.onSlice fun _ _ h2 => .ite h2.setSlice (hk _ _ h2.setSlice)

theorem fwReply (h : d.canonical) {s status : Nat} {payload : List Byte} : (d.fwReply s status payload).canonical := h.setSlice.postDown

theorem negonHello (h : d.canonical) {port fn i : Nat} {pasid : Option Nat} {words : List Word} : (d.negonHello port fn i pasid words).canonical :=
  h.upPost (fun _ _ h1 => .ite h1.setSlice.fwReply h1.setSlice.fwReply)

theorem negonInfo (h : d.canonical) {port fn i : Nat} {pasid : Option Nat} {words : List Word} : (d.negonInfo port fn i pasid words).canonical := by
  unfold Dev.negonInfo
  refine h.upPost fun _ _ h1 => ?_
  split <;> exact h1.fwReply

theorem negonStats (h : d.canonical) {port fn i : Nat} {pasid : Option Nat} {words : List Word} : (d.negonStats port fn i pasid words).canonical := by
  unfold Dev.negonStats
  refine h.upPost fun _ _ h1 => ?_
  split <;> exact h1.fwReply

theorem forManager (h : d.canonical) {s since least : Nat} : (d.forManager s since least).canonical := by
  unfold Dev.forManager
  split
  · exact h.fwReply
  · exact h.setFlag

theorem negonUser (h : d.canonical) {port fn i : Nat} {pasid : Option Nat} {words : List Word} : (d.negonUser port fn i pasid words).canonical :=
  h.upPost (fun _ _ h1 => h1.forManager)

theorem negonResize (h : d.canonical) {port fn i : Nat} {pasid : Option Nat} {words : List Word} :
    (d.negonResize port fn i pasid words).canonical := h.upPost (fun _ _ h1 => h1.forManager)

theorem mailboxDownAck (h : d.canonical) {port fn i : Nat} {pasid : Option Nat} : (d.mailboxDownAck port fn i pasid).canonical :=
  h.onSlice (fun _ _ h1 => h1.setSlice)

theorem mailboxUpAck (h : d.canonical) {s master : Nat} : (d.mailboxUpAck s master).canonical := h.onWrite (fun _ h1 => h1.setSlice)

theorem mailboxPost (h : d.canonical) {s master : Nat} : (d.mailboxPost s master).canonical := h.onWrite (fun _ h1 => .ite h1.setSlice h1)

theorem mailboxDownDeliver (h : d.canonical) {s : Nat} : (d.mailboxDownDeliver s).canonical := by
  unfold Dev.mailboxDownDeliver
  dsimp only
  split
  · exact h
  · exact .ite h (.ite h.setSlice.setSlice.raise (.ite h.setSlice.setSlice.signal h.setSlice.setSlice))

/-! ## Machine/Ledg.lean -/

theorem setLedg (h : d.canonical) {f : Ledg → Ledg} : (d.setLedg f).canonical := h.frame

theorem strobe (h : d.canonical) : d.strobe.canonical := by
  unfold Dev.strobe
  split
  · exact h
  · split
    · exact h.count.raise
    · exact h.setLedg

theorem auditStrobe (h : d.canonical) : d.auditStrobe.canonical := h.strobe

theorem auditNow (h : d.canonical) {en : Bool} {master : Nat} : (d.auditNow en master).canonical :=
  h.onWrite (fun _ h1 => .strobe (.ite h1.setCell.raise h1.setCell))

theorem violation (h : d.canonical) {time : Nat} {v : Nat × Nat × Int} : (d.violation time v).canonical := h.setLedg.count.raise

theorem judge (h : d.canonical) {s : Snapshot} {us : Nat} : (d.judge s us).canonical := by
  unfold Dev.judge
  extract_lets fails d1
  have hd1 : d1.canonical := h.each (fun _ _ h1 => h1.violation)
  exact .ite hd1.count.setLedg hd1.count.setLedg.frame.aen

theorem auditPassEnd (h : d.canonical) {us : Nat} {poisoned : Option (Nat × Nat)} : (d.auditPassEnd us poisoned).canonical := by
  unfold Dev.auditPassEnd
  split
  · exact h
  · split
    · exact h.judge
    · exact .ite h.setLedg h.count.setLedg.raise

theorem ledgerAuditDisable (h : d.canonical) {v : Option Word} {master : Nat} : (d.ledgerAuditDisable v master).canonical := by
  unfold Dev.ledgerAuditDisable
  split
  · exact h.onWrite (fun _ h1 => .ite h1.setCell.raise h1.setCell)
  · exact h.onWrite (fun _ h1 => .ite h1.setCell.raise h1)

theorem violLedgerRead (h : d.canonical) {master : Nat} : (d.violLedgerRead master).canonical := h.onRead (fun _ h1 => h1.setLedg.emit)

theorem violTimeLoRead (h : d.canonical) {master : Nat} : (d.violTimeLoRead master).canonical := h.onRead (fun _ h1 => h1.setLedg.emit)

/-! ## Machine/Startup.lean -/

theorem blankFormat (h : d.canonical) {members : List Nat} {dn : Nat} : (d.blankFormat members dn).canonical := h.makeNs.tellNs.frame.storeModes

theorem blankTry (h : d.canonical) : d.blankTry.canonical := by
  unfold Dev.blankTry
  dsimp only
  split
  · exact h
  · split
    · exact .ite h.frame.tooFew h
    · exact .ite h h.frame.poolService.blankFormat

theorem blankStart (h : d.canonical) : d.blankStart.canonical := by
  unfold Dev.blankStart
  exact .blankTry (.ite h.blankAdopt.frame.tooFew h.blankAdopt)

theorem startIn (h : d.canonical) {m : Mode} {ph : RunPhase} : (d.startIn m ph).canonical := h.setMode.frame

theorem startStandby (h : d.canonical) : d.startStandby.canonical := h.frame.startIn.readyFns

theorem startupModeSelect (h : d.canonical) : d.startupModeSelect.canonical := by
  unfold Dev.startupModeSelect
  dsimp only
  split
  · exact h
  · split
    · exact h.loadEpoch.frame.startIn.readyFns.blankStart
    · exact h.loadEpoch.startStandby
    · split
      · exact h.loadEpoch.frame.storeModes.saveAnchor.raise.startStandby
      · exact .startIn (h.loadEpoch.each (fun _ _ h1 => h1.sledFenced))

/-- An image that is used holds memory in canonical form, or none is used. -/
theorem replayAll (h : d.canonical) {im : Option Image} {pages : Nat} (him : ∀ i, im = some i → Memory.wf i.mem = true) :
    (d.replayAll im pages).canonical := by
  unfold Dev.replayAll
  extract_lets d1 flash recs last ring first rest d2 v d3
  have hd1 : d1.canonical := by
    unfold d1
    split
    · exact h.restoreImage (him _ rfl)
    · exact h
  have hd2 : d2.canonical := hd1.replayFrom.each fun _ _ h1 => h1.replayRec
  exact .ite hd2.frame.raise hd2.frame

theorem tellImage (h : d.canonical) {t : ImageTest} {closed : Nat} : (d.tellImage t closed).canonical := by
  unfold Dev.tellImage
  split
  · exact h
  · exact h.raise
  · exact h.raise

theorem tellSeal (h : d.canonical) {im : Image} : (d.tellSeal im).canonical := .ite h.present.present h.present

theorem resumeSanitize (h : d.canonical) : d.resumeSanitize.canonical := .ite h.frame.sanStep h

theorem admitHost (h : d.canonical) : d.admitHost.canonical := by
  unfold Dev.admitHost
  exact .idleCheck (.readyFns (.resumeSanitize (.each (.ite h.frame.makePartitions h.frame) (fun _ _ h1 => h1.tellNs))))

theorem settleAll (h : d.canonical) {im : Option Image} {r : Readout} : (d.settleAll im r).1.canonical := by
  unfold Dev.settleAll
  split
  · exact h.mergeZones.mergeBlocks.vaultBlocks.settleMembers.recomputeAcc.resolveUnits.settleCommands
  · exact h.closeActive.vaultBlocks.settleMembers

theorem clearImage (h : d.canonical) : d.clearImage.canonical := h.flushRing.frame.saveAnchor.poolRenew

theorem recoverEnd (h : d.canonical) {im : Option Image} {segs ms lost : Nat} : (d.recoverEnd im segs ms lost).canonical := by
  unfold Dev.recoverEnd
  dsimp only
  split
  · exact h.frame.resetCursors.admitHost.raise.tellSeal
  · exact h.frame.resetCursors.admitHost.raise

/-- The image that the test finds usable is the vault's own, so what recovery restores is canonical (R287, R288). -/
theorem startupRecovery (h : d.canonical) {r : Readout} : (d.startupRecovery r).canonical := by
  unfold Dev.startupRecovery
  split
  · exact h
  · extract_lets t im d1 s d2 d3 d4
    have him : ∀ i, im = some i → Memory.wf i.mem = true := by
      intro i hi
      have ht : d.imageTest r.segs = t := rfl
      unfold im at hi
      clear_value t
      split at hi
      · cases hi
        exact h.wf_of_image (Dev.imageTest_usable ht)
      · cases hi
    have hd1 : d1.canonical := .markUncertain (h.replayAll him)
    have hd2 : d2.canonical := hd1.settleAll.tellImage.loadKeys
    have hd3 : d3.canonical := by
      unfold d3
      clear_value im
      split
      · exact hd2.applyCfg.loadEpoch
      · exact hd2
    exact hd3.clearImage.eraseWaiting.resumeAreas.recoverEnd

theorem layoutChange (h : d.canonical) {sleds master : Nat} : (d.layoutChange sleds master).canonical := by
  unfold Dev.layoutChange
  dsimp only
  split
  · exact h.mgmtVote.refuseChange
  · exact .ite h.mgmtVote.refuseChange h.mgmtVote.enterService.frame.leaveService

/-! ## Machine/Power.lean -/

theorem idleTimerExpiry (h : d.canonical) : d.idleTimerExpiry.canonical := .ite h.frame.modeBusy.count h

theorem prepareStepAnswer (h : d.canonical) : d.prepareStepAnswer.canonical := by
  unfold Dev.prepareStepAnswer
  split
  · exact h
  · split
    · exact h.prepRefuse
    · exact h.frame

theorem prepareStepTimeout (h : d.canonical) : d.prepareStepTimeout.canonical := .ite h h.prepRefuse

theorem voteWithdraw (h : d.canonical) {step : Nat} : (d.voteWithdraw step).canonical := by
  unfold Dev.voteWithdraw
  split
  · exact h
  · split
    · exact h.frame.prepRefuse
    · exact h

theorem dormantCommit (h : d.canonical) : d.dormantCommit.canonical := .ite h (.ite h.prepRefuse h.frame.count.vaultFreeze)

theorem wakeStart (h : d.canonical) : d.wakeStart.canonical := .frame (.padFree (.dramWake (h.each (fun _ _ h1 => h1.setHdr))))

theorem dormantWake (h : d.canonical) : d.dormantWake.canonical := .ite h.frame.wakeStart h

theorem unpark (h : d.canonical) : d.unpark.canonical := by
  unfold Dev.unpark
  split
  · exact h
  · split
    · exact h.frame
    · exact h.frame.saveAnchor.poolRenew.tellSeal

theorem wakeComplete (h : d.canonical) : d.wakeComplete.canonical := by
  unfold Dev.wakeComplete
  extract_lets up took d1 _ _ d2 m _ _ _ d3
  have hd1 : d1.canonical := h.each fun _ _ h1 => h1.setHdr
  have hd2 : d2.canonical := hd1.frame
  have hstored : d3.storeModes.canonical := hd2.frame.storeModes
  exact .ite h (.ite hstored.setMode.slotsWake.presentHeld.unpark.raise.redundancy.vaultRefresh hd2.idleCheck.presentHeld.unpark.redundancy.vaultRefresh)

theorem powrWakeWrite (h : d.canonical) {v : Word} {master : Nat} : (d.powrWakeWrite v master).canonical :=
  h.onWrite (fun _ h1 => .ite h1.wakeIn h1)

theorem smbusAddressMatch (h : d.canonical) {addr : Nat} : (d.smbusAddressMatch addr).canonical :=
  .ite h (.ite h.frame.raise.wakeIn (.ite h.wakeIn h.frame))

theorem padHoldRelease (h : d.canonical) {g : Nat} : (d.padHoldRelease g).canonical := .ite h.padFree h

theorem padLoad (h : d.canonical) {g : Nat} : (d.padLoad g).canonical :=
  .ite (h.each (fun _ _ h1 => h1.setPort.setCell)) (.ite h.frame (.ite h.frame h))

theorem padHoldTimeout (h : d.canonical) {g : Nat} : (d.padHoldTimeout g).canonical := .ite h h.padLoad.padFree.frame.raise

theorem railOne (h : d.canonical) {e : Nat × Nat} : (d.railOne e).canonical := .ite (.ite h.frame.raise h.frame) h.frame

theorem railSample (h : d.canonical) {mvs : List Nat} : (d.railSample mvs).canonical := h.each (fun _ _ h1 => h1.railOne)

theorem linksLost (h : d.canonical) : d.linksLost.canonical := .each (h.each (fun _ _ h1 => h1.resetLink)) (fun _ _ h1 => h1.resetLink)

theorem referenceLoss (h : d.canonical) {input : Nat} : (d.referenceLoss input).canonical :=
  .ite h (.ite h.frame.raise.warmNow (.ite h.frame.raise.linksLost h.frame.raise.pcieLinkDown))

theorem pllLockLoss (h : d.canonical) {pll : Nat} : (d.pllLockLoss pll).canonical := by
  unfold Dev.pllLockLoss
  split
  · exact h
  · split
    · exact h.frame.raise.warmNow
    · exact .ite h.frame.raise.pcieLinkDown (.ite h.frame.raise.resetLink h.frame.raise.resetLink)

theorem referenceAppears (h : d.canonical) {input : Nat} {trains : Bool} : (d.referenceAppears input trains).canonical :=
  .ite h (.ite h.frame.boot h.frame)

theorem aonCalibration (h : d.canonical) {ppm : Int} : (d.aonCalibration ppm).canonical := .ite h (.ite h.frame.raise h.frame)

theorem hourTick (h : d.canonical) : d.hourTick.canonical := .ite h.frame.saveBootcnt h.frame

theorem smbusPacketReceive (h : d.canonical) {src : Nat} {pecOk : Bool} {eid : Option Nat} {replies : List (List Byte)} :
    (d.smbusPacketReceive src pecOk eid replies).canonical := by
  unfold Dev.smbusPacketReceive
  split
  · exact h
  · split
    · refine .each ?_ (fun _ _ h1 => h1.emit)
      split
      · exact h.count.count.frame
      · exact h.count.count
    · exact h.count.raise

theorem smbusTimeout (h : d.canonical) : d.smbusTimeout.canonical := .ite h h.frame.count.raise

theorem alertAck (h : d.canonical) {v : Word} {master : Nat} : (d.alertAck v master).canonical :=
  h.onWrite (fun _ h1 => .ite h1.setCell.frame h1.setCell)

/-! ## Machine/Therm.lean -/

theorem setSensor (h : d.canonical) {i : Nat} {f : Sensor → Sensor} : (d.setSensor i f).canonical := h.frame

theorem senseOne (h : d.canonical) {i n : Nat} : (d.senseOne i n).canonical := .setSensor (.ite h.takeFree h)

theorem markBroken (h : d.canonical) {i cause : Nat} : (d.markBroken i cause).canonical := h.setSensor.raise

theorem markOwn (h : d.canonical) {i : Nat} : (d.markOwn i).canonical := .ite h (.ite h.markBroken (.ite h.markBroken h))

theorem markOff (h : d.canonical) {i : Nat} {off : Bool} : (d.markOff i off).canonical := .ite h.setSensor.markBroken h.setSensor

theorem senseAll (h : d.canonical) {rs : List (Nat × Nat)} : (d.senseAll rs).canonical :=
  .each (.each (h.each (fun _ _ h1 => h1.senseOne)) (fun _ _ h1 => h1.markOwn)) (fun _ _ h1 => h1.markOff)

theorem blindCheck (h : d.canonical) : d.blindCheck.canonical := h.frame.each (fun _ _ h1 => h1.raise)

theorem setTj (h : d.canonical) : d.setTj.canonical := by
  unfold Dev.setTj
  dsimp only
  split
  · exact h
  · exact h.frame

theorem setStep (h : d.canonical) {k : Nat} : (d.setStep k).canonical := .ite h h.frame.count.raise.warnCheck

theorem abandonService (h : d.canonical) : d.abandonService.canonical := by
  unfold Dev.abandonService
  split
  · exact h.activationDrainTimeout
  · exact h.frame.leaveService
  · exact h.abandonHandover
  · exact h.leaveService
  · exact h

theorem stopStart (h : d.canonical) : d.stopStart.canonical :=
  .ite h.prepRefuse (.raise (.count (.frame (.ite h.prepRefuse.abandonService h.prepRefuse))))

theorem stopGoOn (h : d.canonical) : d.stopGoOn.canonical := .ite h (.ite h (.ite h.vaultFreeze (.ite h h.stopTail)))

theorem ladder (h : d.canonical) : d.ladder.canonical := .stopGoOn (.ite (.stopStart (.ite h.setStep h)) (.ite h.setStep h))

theorem trip (h : d.canonical) {i : Nat} : (d.trip i).canonical := h.frame.warmNow.frame

theorem sensorResult (h : d.canonical) {counts : List Nat} : (d.sensorResult counts).canonical := by
  unfold Dev.sensorResult
  dsimp only
  split
  · exact h
  · split
    · exact .ite (.ite h.senseAll.boot h.senseAll) h
    · split
      · exact h.senseAll.blindCheck.trip
      · exact h.senseAll.blindCheck.setTj.ladder

theorem dormantSensorResult (h : d.canonical) {c22 c23 : Nat} : (d.dormantSensorResult c22 c23).canonical := by
  unfold Dev.dormantSensorResult
  dsimp only
  split
  · exact h
  · split
    · exact h.senseAll.trip
    · exact .ite h.senseAll.wakeIn h.senseAll

theorem ladderStepLeave (h : d.canonical) : d.ladderStepLeave.canonical := .ite h h.setStep

theorem stopResume (h : d.canonical) : d.stopResume.canonical := by
  unfold Dev.stopResume
  split
  · exact h
  · exact .ite h h.frame.raise.setStep.wakeStart.frame

theorem sledSensorPoll (h : d.canonical) : d.sledSensorPoll.canonical := h.each (fun _ _ h1 => h1.mgmtSend)

theorem sensorResponse (h : d.canonical) {n xid status b0 b1 b2 : Nat} : (d.sensorResponse n xid status b0 b1 b2).canonical := by
  unfold Dev.sensorResponse
  split
  · exact h.mgmtFree
  · exact .ite h.mgmtTake (.ite h.mgmtTake.frame.raise h.mgmtTake.frame)

theorem setFan (h : d.canonical) {n : Nat} {f : Fan → Fan} : (d.setFan n f).canonical := h.frame

theorem fanUpdate (h : d.canonical) {rpms : List Nat} : (d.fanUpdate rpms).canonical :=
  .ite h (.each (h.each (fun _ _ h1 => h1.setFan)) (fun _ _ h1 => h1.setFan))

theorem fanFailure (h : d.canonical) {n rpm : Nat} : (d.fanFailure n rpm).canonical := .ite h (h.setFan.raise.each (fun _ _ h1 => h1.setFan))

theorem brokenClrWrite (h : d.canonical) {v : Word} {master : Nat} : (d.brokenClrWrite v master).canonical :=
  h.onWrite (fun _ h1 => .blindCheck (h1.each (fun _ _ h2 => h2.setSensor)))

/-! ## Machine/Sys.lean -/

theorem porAssert (h : d.canonical) : d.porAssert.canonical := h.coldReset

theorem porRelease (h : d.canonical) {straps : Word} {trains : Bool} : (d.porRelease straps trains).canonical := .ite h.frame.countCycle.boot h

theorem warmReset (h : d.canonical) {cause : Nat} : (d.warmReset cause).canonical := by
  unfold Dev.warmReset
  dsimp only
  split
  · split
    · exact h.vaultFreeze
    · exact h.frame
    · exact h.frame
    · exact h.frame
    · exact h.warmNow
    · exact h.warmNow
    · exact h.warmNow
  · exact h.warmNow

theorem warmResetCause (h : d.canonical) {cause : Nat} : (d.warmResetCause cause).canonical := .ite h h.warmReset

theorem managerWarmReset (h : d.canonical) {v : Word} {master : Nat} : (d.managerWarmReset v master).canonical :=
  h.onWrite (fun _ h1 => .ite h1.setCell (.ite h1.deny h1.setCell.warmReset))

theorem watchdogExpiry (h : d.canonical) : d.watchdogExpiry.canonical := .ite h.warmReset h

theorem recoveryCommitReset (h : d.canonical) : d.recoveryCommitReset.canonical := .ite h.warmReset h

theorem fabricAccessError (h : d.canonical) {addr : Nat} {write : Bool} {master : Nat} : (d.fabricAccessError addr write master).canonical := by
  unfold Dev.fabricAccessError
  split
  · exact h
  · exact .ite h.fabricError h.fabricError.emit

theorem unservedPageAccess (h : d.canonical) {page off : Nat} {write : Bool} {master : Nat} :
    (d.unservedPageAccess page off write master).canonical := .ite h (.ite (.ite h h.emit) (.ite h.emit (.ite h.fabricError h.fabricError.emit)))

theorem afterWrite (h : d.canonical) {page off : Nat} : (d.afterWrite page off).canonical :=
  .ite h.frame (.ite h.idleCheck (.ite h.poolService.vaultRefresh (.ite h.adoptNow h)))

theorem slicWrite (h : d.canonical) {page off : Nat} {v mask : Word} : (d.slicWrite page off v mask).canonical :=
  .ite h.deny (.ite (.ite h.setCell h.setCell.deny) (.ite h.deny h.setCell))

theorem storeReg (h : d.canonical) {page off : Nat} {r : RegDesc} {v : Word} : (d.storeReg page off r v).canonical := by
  unfold Dev.storeReg
  dsimp only
  split
  · exact h.slicWrite
  · split
    · exact h.frame
    · exact .ite h.frame (.ite (.ite h.setPort h) (.ite (.ite h.setCell h) h.setCellI.afterWrite))

theorem storeShadow (h : d.canonical) {page live : Nat} {r : RegDesc} {v : Word} : (d.storeShadow page live r v).canonical := .ite h.frame h.deny

theorem storeHdr (h : d.canonical) {page off : Nat} {v : Word} : (d.storeHdr page off v).canonical := .ite h.setHdr (.ite h.setHdr h)

theorem regWrite (h : d.canonical) {page off : Nat} {v : Word} : (d.regWrite page off v).canonical := by
  unfold Dev.regWrite
  split
  · exact h.storeHdr
  · split
    · exact .ite h (.ite h.deny (.ite h.deny (.ite h.deny h.storeReg)))
    · split
      · exact h
      · split
        · exact .ite h (.ite h.deny h.storeShadow)
        · exact h

theorem writeWord (h : d.canonical) {page off : Nat} {v : Word} {bytes master : Nat} : (d.writeWord page off v bytes master).canonical := by
  unfold Dev.writeWord
  split
  · exact h.fabricError
  · exact .ite h.deny h.regWrite

theorem registerWrite (h : d.canonical) {page off : Nat} {v hi : Word} {bytes master : Nat} :
    (d.registerWrite page off v hi bytes master).canonical := .ite h.writeWord.writeWord h.writeWord

theorem expertKeyWrite (h : d.canonical) {page : Nat} {v : Word} {master : Nat} : (d.expertKeyWrite page v master).canonical :=
  h.onWrite (fun _ h1 => .ite h1.setHdr h1.setHdr.deny.raise)

theorem forceFlag (h : d.canonical) {page i : Nat} : (Dev.forceFlag page d i).canonical := by
  unfold Dev.forceFlag
  split
  · exact h.raise
  · exact .ite h.setFlag h

theorem evtForceWrite (h : d.canonical) {page : Nat} {v : Word} {master : Nat} : (d.evtForceWrite page v master).canonical :=
  h.onWrite (fun _ h1 => h1.each (fun _ _ h2 => h2.forceFlag))

theorem evtStatClear (h : d.canonical) {page : Nat} {v same : Word} {master : Nat} : (d.evtStatClear page v same master).canonical :=
  h.onWrite (fun _ h1 => h1.setHdr)

theorem fabErrCountRead (h : d.canonical) {master : Nat} : (d.fabErrCountRead master).canonical := h.onRead (fun _ h1 => h1.frame.emit)

theorem timeLoRead (h : d.canonical) {master : Nat} : (d.timeLoRead master).canonical := h.onRead (fun _ h1 => h1.frame.emit)

theorem timeLoad (h : d.canonical) {v : Word} {master : Nat} : (d.timeLoad v master).canonical :=
  h.onWrite (fun _ h1 => .ite h1.setCell.frame h1.setCell)

theorem epochCommit (h : d.canonical) {master : Nat} : (d.epochCommit master).canonical := by
  unfold Dev.epochCommit
  exact h.onWrite (fun _ h1 => .ite h1.prepRefuse.refuseChange (.ite h1.prepRefuse.refuseChange h1.prepRefuse.applyPending.cfgMake.newEpoch))

theorem epochApplyOnDrain (h : d.canonical) {page : Nat} : (d.epochApplyOnDrain page).canonical := .ite h.applyEpoch h

/-! ## Machine/Meanings.lean -/

theorem authResponse (h : d.canonical) {l : LinkId} {xid status : Nat} {mac nonce : List Byte} :
    (d.authResponse l xid status mac nonce).canonical := by
  unfold Dev.authResponse
  dsimp only
  split
  · exact h.authAnswer.replaceEnd.blankTry.poolService
  · exact h.authAnswer.laneServe
  · exact h.authAnswer.blankTry
  · exact h.authAnswer

end Dev.canonical

/-! ## The commands -/

/-- A command that runs a meaning which keeps the canonical form leaves the queue alone and the part in canonical form. -/
theorem run_canonical {s : State} {ok : Bool} {f : Dev → Dev} (h : s.dev.canonical) (hf : ∀ {d : Dev}, d.canonical → (f d).canonical) :
    ∃ t, s.run ok f = .next t ∧ t.pending = s.pending ∧ t.dev.canonical := by
  have hclean : s.clean.canonical := h.frame
  exact ⟨_, rfl, rfl, .ite (hf hclean) hclean⟩

/-- Every command completes in canonical form, as its meaning keeps it. -/
theorem exec_canonical (c : Instr) {s : State} (h : s.dev.canonical) : Completes c s Dev.canonical := by
  delta Completes exec
  cases c with
  | porNAssert => delta execPorNAssert; exact run_canonical h fun h0 => h0.porAssert
  | porNRelease => delta execPorNRelease; exact run_canonical h fun h0 => h0.porRelease
  | bootWatchdogExpiry => delta execBootWatchdogExpiry; exact run_canonical h fun h0 => h0.watchdogExpiry
  | bootOk => delta execBootOk; exact run_canonical h fun h0 => h0.bootOkCmd
  | startupModeSelect => delta execStartupModeSelect; exact run_canonical h fun h0 => h0.startupModeSelect
  | startupRecovery => delta execStartupRecovery; exact run_canonical h fun h0 => h0.startupRecovery
  | recoveryCommitReset => delta execRecoveryCommitReset; exact run_canonical h fun h0 => h0.recoveryCommitReset
  | warmReset => delta execWarmReset; exact run_canonical h fun h0 => h0.warmResetCause
  | managerWarmReset => delta execManagerWarmReset; exact run_canonical h fun h0 => h0.managerWarmReset
  | fabricAccessError => delta execFabricAccessError; exact run_canonical h fun h0 => h0.fabricAccessError
  | unservedPageAccess => delta execUnservedPageAccess; exact run_canonical h fun h0 => h0.unservedPageAccess
  | registerWrite => delta execRegisterWrite; exact run_canonical h fun h0 => h0.registerWrite
  | expertKeyWrite => delta execExpertKeyWrite; exact run_canonical h fun h0 => h0.expertKeyWrite
  | evtForceWrite => delta execEvtForceWrite; exact run_canonical h fun h0 => h0.evtForceWrite
  | evtStatClear => delta execEvtStatClear; exact run_canonical h fun h0 => h0.evtStatClear
  | fabErrCountRead => delta execFabErrCountRead; exact run_canonical h fun h0 => h0.fabErrCountRead
  | timeLoRead => delta execTimeLoRead; exact run_canonical h fun h0 => h0.timeLoRead
  | timeLoad => delta execTimeLoad; exact run_canonical h fun h0 => h0.timeLoad
  | epochCommit => delta execEpochCommit; exact run_canonical h fun h0 => h0.epochCommit
  | epochApplyOnDrain => delta execEpochApplyOnDrain; exact run_canonical h fun h0 => h0.epochApplyOnDrain
  | tenancyEnable => delta execTenancyEnable; exact run_canonical h fun h0 => h0.tenancyEnable
  | tenancyDisable => delta execTenancyDisable; exact run_canonical h fun h0 => h0.tenancyDisable
  | creditPoolSplit => delta execCreditPoolSplit; exact run_canonical h fun h0 => h0.creditPoolSplit
  | layoutChange => delta execLayoutChange; exact run_canonical h fun h0 => h0.layoutChange
  | sqTailDoorbell => delta execSqTailDoorbell; exact run_canonical h fun h0 => h0.sqTailDoorbell
  | cqHeadDoorbell => delta execCqHeadDoorbell; exact run_canonical h fun h0 => h0.cqHeadDoorbell
  | commandFetch => delta execCommandFetch; exact run_canonical h fun h0 => h0.commandFetch
  | cqEntryPost => delta execCqEntryPost; exact run_canonical h fun h0 => h0.cqEntryPost
  | msixUnmask => delta execMsixUnmask; exact run_canonical h fun h0 => h0.msixUnmask
  | hostDmaComplete => delta execHostDmaComplete; exact run_canonical h fun h0 => h0.hostDmaComplete
  | dmaError => delta execDmaError; exact run_canonical h fun h0 => h0.dmaError
  | write => delta execWrite; exact run_canonical h fun h0 => h0.write
  | zoneAppend => delta execZoneAppend; exact run_canonical h fun h0 => h0.zoneAppend
  | writeZeroes => delta execWriteZeroes; exact run_canonical h fun h0 => h0.writeZeroes
  | read => delta execRead; exact run_canonical h fun h0 => h0.read
  | flush => delta execFlush; exact run_canonical h fun h0 => h0.flush
  | stageCommand => delta execStageCommand; exact run_canonical h fun h0 => h0.stageCommand
  | stripeGroupAllocate => delta execStripeGroupAllocate; exact run_canonical h fun h0 => h0.stripeGroupAllocate
  | zoneActivation => delta execZoneActivation; exact run_canonical h fun h0 => h0.zoneActivation
  | commitRecord => delta execCommitRecord; exact run_canonical h fun h0 => h0.commitRecord
  | zoneOpen => delta execZoneOpen; exact run_canonical h fun h0 => h0.zoneOpen
  | zoneClose => delta execZoneClose; exact run_canonical h fun h0 => h0.zoneClose
  | zoneFinish => delta execZoneFinish; exact run_canonical h fun h0 => h0.zoneFinish
  | zoneReset => delta execZoneReset; exact run_canonical h fun h0 => h0.zoneReset
  | zoneOffline => delta execZoneOffline; exact run_canonical h fun h0 => h0.zoneOffline
  | setZoneDescriptorExtension => delta execSetZoneDescriptorExtension; exact run_canonical h fun h0 => h0.setZoneDescriptorExtension
  | zoneActionTakeEffect => delta execZoneActionTakeEffect; exact run_canonical h fun h0 => h0.zoneActionTakeEffect
  | reportZones => delta execReportZones; exact run_canonical h fun h0 => h0.reportZones
  | extendedReportZones => delta execExtendedReportZones; exact run_canonical h fun h0 => h0.extendedReportZones
  | createIoSq => delta execCreateIoSq; exact run_canonical h fun h0 => h0.createIoSq
  | createIoCq => delta execCreateIoCq; exact run_canonical h fun h0 => h0.createIoCq
  | deleteIoSq => delta execDeleteIoSq; exact run_canonical h fun h0 => h0.deleteIoSq
  | deleteIoCq => delta execDeleteIoCq; exact run_canonical h fun h0 => h0.deleteIoCq
  | identify => delta execIdentify; exact run_canonical h fun h0 => h0.identify
  | getLogPage => delta execGetLogPage; exact run_canonical h fun h0 => h0.getLogPage
  | setFeatures => delta execSetFeatures; exact run_canonical h fun h0 => h0.setFeaturesCmd
  | getFeatures => delta execGetFeatures; exact run_canonical h fun h0 => h0.getFeaturesCmd
  | asyncEventRequest => delta execAsyncEventRequest; exact run_canonical h fun h0 => h0.asyncEventRequest
  | abort => delta execAbort; exact run_canonical h fun h0 => h0.abortCmd
  | namespaceCreate => delta execNamespaceCreate; exact run_canonical h fun h0 => h0.namespaceCreate
  | namespaceDelete => delta execNamespaceDelete; exact run_canonical h fun h0 => h0.namespaceDelete
  | namespaceAttachment => delta execNamespaceAttachment; exact run_canonical h fun h0 => h0.namespaceAttachment
  | virtualizationManagement => delta execVirtualizationManagement; exact run_canonical h fun h0 => h0.virtualizationManagement
  | firmwareImageDownload => delta execFirmwareImageDownload; exact run_canonical h fun h0 => h0.firmwareImageDownload
  | firmwareCommit => delta execFirmwareCommit; exact run_canonical h fun h0 => h0.firmwareCommit
  | activationWithoutReset => delta execActivationWithoutReset; exact run_canonical h fun h0 => h0.activationStart
  | activationSwap => delta execActivationSwap; exact run_canonical h fun h0 => h0.activationSwap
  | activationResume => delta execActivationResume; exact run_canonical h fun h0 => h0.activationResume
  | activationDrainTimeout => delta execActivationDrainTimeout; exact run_canonical h fun h0 => h0.activationDrainTimeout
  | sanitize => delta execSanitize; exact run_canonical h fun h0 => h0.sanitizeCmd
  | controllerDisable => delta execControllerDisable; exact run_canonical h fun h0 => h0.controllerDisable
  | controllerEnable => delta execControllerEnable; exact run_canonical h fun h0 => h0.controllerEnable
  | vfReady => delta execVfReady; exact run_canonical h fun h0 => h0.vfReady
  | shutdownRequest => delta execShutdownRequest; exact run_canonical h fun h0 => h0.shutdownRequest
  | functionLevelReset => delta execFunctionLevelReset; exact run_canonical h fun h0 => h0.functionLevelReset
  | perstNAssert => delta execPerstNAssert; exact run_canonical h fun h0 => h0.perstAssert
  | perstNRelease => delta execPerstNRelease; exact run_canonical h fun h0 => h0.perstRelease
  | pcieLinkUp => delta execPcieLinkUp; exact run_canonical h fun h0 => h0.pcieLinkUp
  | pcieLinkDown => delta execPcieLinkDown; exact run_canonical h fun h0 => h0.pcieLinkDown
  | pcieLinkRetrain => delta execPcieLinkRetrain; exact run_canonical h fun h0 => h0.pcieLinkRetrain
  | apstTransition => delta execApstTransition; exact run_canonical h fun h0 => h0.apstTransition
  | dmaErrInfoRead => delta execDmaErrInfoRead; exact run_canonical h fun h0 => h0.dmaErrInfoRead
  | dieDispatch => delta execDieDispatch; exact run_canonical h fun h0 => h0.dieDispatch
  | suspendResult => delta execSuspendResult; exact run_canonical h fun h0 => h0.suspendResult
  | suspendHoldExpiry => delta execSuspendHoldExpiry; exact run_canonical h fun h0 => h0.suspendHoldExpiry
  | resumeResult => delta execResumeResult; exact run_canonical h fun h0 => h0.resumeResult
  | suspendTimeout => delta execSuspendTimeout; exact run_canonical h fun h0 => h0.suspendTimeout
  | statusTimeout => delta execStatusTimeout; exact run_canonical h fun h0 => h0.statusTimeout
  | programTimeout => delta execProgramTimeout; exact run_canonical h fun h0 => h0.programTimeout
  | eraseTimeout => delta execEraseTimeout; exact run_canonical h fun h0 => h0.eraseTimeout
  | memberTimeout => delta execMemberTimeout; exact run_canonical h fun h0 => h0.memberTimeout
  | hedgeStart => delta execHedgeStart; exact run_canonical h fun h0 => h0.hedgeStart
  | forcedCreditGrant => delta execForcedCreditGrant; exact run_canonical h fun h0 => h0.forcedCreditGrant
  | decodeEnd => delta execDecodeEnd; exact run_canonical h fun h0 => h0.decodeEnd
  | softDecodeStart => delta execSoftDecodeStart; exact run_canonical h fun h0 => h0.softDecodeStart
  | prtyJobStart => delta execPrtyJobStart; exact run_canonical h fun h0 => h0.prtyJobStart
  | prtyJobEnd => delta execPrtyJobEnd; exact run_canonical h fun h0 => h0.prtyJobEnd
  | completionReceive => delta execCompletionReceive; exact run_canonical h fun h0 => h0.completionReceive
  | dataBurstReceive => delta execDataBurstReceive; exact run_canonical h fun h0 => h0.dataBurstReceive
  | readAheadIssue => delta execReadAheadIssue; exact run_canonical h fun h0 => h0.readAheadIssue
  | streamRateUpdate => delta execStreamRateUpdate; exact run_canonical h fun h0 => h0.streamRateUpdate
  | streamIdleExpiry => delta execStreamIdleExpiry; exact run_canonical h fun h0 => h0.streamIdleExpiry
  | trackerSampling => delta execTrackerSampling; exact run_canonical h fun h0 => h0.trackerSampling
  | trackerCheckpoint => delta execTrackerCheckpoint; exact run_canonical h fun h0 => h0.trackerCheckpoint
  | wearMigrationStart => delta execWearMigrationStart; exact run_canonical h fun h0 => h0.wearMigrationStart
  | readDisturbMigration => delta execReadDisturbMigration; exact run_canonical h fun h0 => h0.readDisturbMigration
  | dieRetireWrite => delta execDieRetireWrite; exact run_canonical h fun h0 => h0.dieRetireWrite
  | dieRetirement => delta execDieRetirement; exact run_canonical h fun h0 => h0.dieRetirement
  | rawRead => delta execRawRead; exact run_canonical h fun h0 => h0.rawRead
  | slotInsertion => delta execSlotInsertion; exact run_canonical h fun h0 => h0.slotInsertion
  | sledRemoval => delta execSledRemoval; exact run_canonical h fun h0 => h0.sledRemoval.blankTry
  | powerWaitExpiry => delta execPowerWaitExpiry; exact run_canonical h fun h0 => h0.powerWaitExpiry
  | trainTrialStart => delta execTrainTrialStart; exact run_canonical h fun h0 => h0.trainTrialStart
  | prbsPhaseEnd => delta execPrbsPhaseEnd; exact run_canonical h fun h0 => h0.prbsPhaseEnd
  | alignmentMarker => delta execAlignmentMarker; exact run_canonical h fun h0 => h0.alignmentMarker
  | lossOfSignal => delta execLossOfSignal; exact run_canonical h fun h0 => h0.lossOfSignal
  | trainingWindowEnd => delta execTrainingWindowEnd; exact run_canonical h fun h0 => h0.trainingWindowEnd
  | trainReceive => delta execTrainReceive; exact run_canonical h fun h0 => h0.trainReceive
  | trialTimeout => delta execTrialTimeout; exact run_canonical h fun h0 => h0.trialTimeout
  | holdExpiry => delta execHoldExpiry; exact run_canonical h fun h0 => h0.holdExpiry
  | frameReceive => delta execFrameReceive; exact run_canonical h fun h0 => h0.frameReceive
  | frameTransmit => delta execFrameTransmit; exact run_canonical h fun h0 => h0.frameTransmit
  | replayTimeout => delta execReplayTimeout; exact run_canonical h fun h0 => h0.replayTimeout
  | creditReceive => delta execCreditReceive; exact run_canonical h fun h0 => h0.creditReceive
  | burstNakReceive => delta execBurstNakReceive; exact run_canonical h fun h0 => h0.burstNakReceive
  | echoReceive => delta execEchoReceive; exact run_canonical h fun h0 => h0.echoReceive
  | linkTimeSync => delta execLinkTimeSync; exact run_canonical h fun h0 => h0.linkTimeSync
  | quiescedReceive => delta execQuiescedReceive; exact run_canonical h fun h0 => h0.quiescedReceive
  | quiesceTimeout => delta execQuiesceTimeout; exact run_canonical h fun h0 => h0.quiesceTimeout
  | linkResetReceive => delta execLinkResetReceive; exact run_canonical h fun h0 => h0.linkResetReceive
  | linkReset => delta execLinkReset; exact run_canonical h fun h0 => h0.linkReset
  | dieStatusPoll => delta execDieStatusPoll; exact run_canonical h fun h0 => h0.dieStatusPoll
  | managementTimeout => delta execManagementTimeout; exact run_canonical h fun h0 => h0.managementTimeout
  | capResponse => delta execCapResponse; exact run_canonical h fun h0 => h0.capResponse.blankTry
  | adoptResponse => delta execAdoptResponse; exact run_canonical h fun h0 => h0.adoptResponse.blankTry
  | authResponse => delta execAuthResponse; exact run_canonical h fun h0 => h0.authResponse
  | geomResponse => delta execGeomResponse; exact run_canonical h fun h0 => h0.geomResponse.blankTry
  | vtableResponse => delta execVtableResponse; exact run_canonical h fun h0 => h0.vtableResponse
  | releaseResponse => delta execReleaseResponse; exact run_canonical h fun h0 => h0.releaseResponse
  | fenceResponse => delta execFenceResponse; exact run_canonical h fun h0 => h0.fenceResponse
  | portRetrain => delta execPortRetrain; exact run_canonical h fun h0 => h0.portRetrain
  | portQuiesce => delta execPortQuiesce; exact run_canonical h fun h0 => h0.portQuiesce
  | portRestore => delta execPortRestore; exact run_canonical h fun h0 => h0.portRestore
  | portEnableWrite => delta execPortEnableWrite; exact run_canonical h fun h0 => h0.portEnableWrite
  | sledReleaseWrite => delta execSledReleaseWrite; exact run_canonical h fun h0 => h0.sledReleaseWrite
  | slotAttnSample => delta execSlotAttnSample; exact run_canonical h fun h0 => h0.slotAttnSample
  | slotoffReceive => delta execSlotoffReceive; exact run_canonical h fun h0 => h0.slotoffReceive
  | programSettleTimeout => delta execProgramSettleTimeout; exact run_canonical h fun h0 => h0.programSettleTimeout
  | slowWindowTick => delta execSlowWindowTick; exact run_canonical h fun h0 => h0.slowWindowTick
  | replaceStart => delta execReplaceStart; exact run_canonical h fun h0 => h0.replaceStart
  | replaceWaitExpiry => delta execReplaceWaitExpiry; exact run_canonical h fun h0 => h0.replaceWaitExpiry
  | rebuildRow => delta execRebuildRow; exact run_canonical h fun h0 => h0.rebuildRow
  | heartbeatSend => delta execHeartbeatSend; exact run_canonical h fun h0 => h0.heartbeatSend
  | heartbeatReceive => delta execHeartbeatReceive; exact run_canonical h fun h0 => h0.heartbeatReceive
  | heartbeatTimeout => delta execHeartbeatTimeout; exact run_canonical h fun h0 => h0.heartbeatTimeout
  | holdoffReceive => delta execHoldoffReceive; exact run_canonical h fun h0 => h0.holdoffReceive
  | peerTimeReceive => delta execPeerTimeReceive; exact run_canonical h fun h0 => h0.peerTimeReceive
  | peerTimeSync => delta execPeerTimeSync; exact run_canonical h fun h0 => h0.peerTimeSync
  | mirrorReceive => delta execMirrorReceive; exact run_canonical h fun h0 => h0.mirrorReceive
  | rowevtReceive => delta execRowevtReceive; exact run_canonical h fun h0 => h0.rowevtReceive
  | journalReceive => delta execJournalReceive; exact run_canonical h fun h0 => h0.journalReceive
  | peerAckReceive => delta execPeerAckReceive; exact run_canonical h fun h0 => h0.peerAckReceive
  | psnResend => delta execPsnResend; exact run_canonical h fun h0 => h0.psnResend
  | leaseRenew => delta execLeaseRenew; exact run_canonical h fun h0 => h0.leaseRenew
  | takeoverLeaseCheck => delta execTakeoverLeaseCheck; exact run_canonical h fun h0 => h0.takeoverLeaseCheck
  | forceTakeover => delta execForceTakeover; exact run_canonical h fun h0 => h0.forceTakeover
  | handoverStart => delta execHandoverStart; exact run_canonical h fun h0 => h0.handoverStart
  | handoverSend => delta execHandoverSend; exact run_canonical h fun h0 => h0.handoverSend
  | handoverReceive => delta execHandoverReceive; exact run_canonical h fun h0 => h0.handoverReceive
  | pairReceive => delta execPairReceive; exact run_canonical h fun h0 => h0.pairReceive
  | keysReceive => delta execKeysReceive; exact run_canonical h fun h0 => h0.keysReceive
  | pairGive => delta execPairGive; exact run_canonical h fun h0 => h0.pairGive
  | pairTake => delta execPairTake; exact run_canonical h fun h0 => h0.pairTake
  | unpair => delta execUnpair; exact run_canonical h fun h0 => h0.unpair
  | pairCodeExpiry => delta execPairCodeExpiry; exact run_canonical h fun h0 => h0.pairCodeExpiry
  | pfailAccept => delta execPfailAccept; exact run_canonical h fun h0 => h0.pfailAccept
  | vaultSnapshotDone => delta execVaultSnapshotDone; exact run_canonical h fun h0 => h0.snapshotDone
  | pfailNRise => delta execPfailNRise; exact run_canonical h fun h0 => h0.pfailRise
  | haltRelease => delta execHaltRelease; exact run_canonical h fun h0 => h0.haltRelease
  | holdupOkChange => delta execHoldupOkChange; exact run_canonical h fun h0 => h0.holdupChange
  | journalPageWrite => delta execJournalPageWrite; exact run_canonical h fun h0 => h0.journalPageWrite
  | checkpointStart => delta execCheckpointStart; exact run_canonical h fun h0 => h0.checkpointStart
  | checkpointEnd => delta execCheckpointEnd; exact run_canonical h fun h0 => h0.checkpointEnd
  | jseqLoRead => delta execJseqLoRead; exact run_canonical h fun h0 => h0.jseqLoRead
  | loadPeakRead => delta execLoadPeakRead; exact run_canonical h fun h0 => h0.loadPeakRead
  | sliceCreate => delta execSliceCreate; exact run_canonical h fun h0 => h0.sliceCreate
  | sliceReset => delta execSliceReset; exact run_canonical h fun h0 => h0.sliceResetWrite
  | sliceRemove => delta execSliceRemove; exact run_canonical h fun h0 => h0.sliceRemoveWrite
  | sliceResize => delta execSliceResize; exact run_canonical h fun h0 => h0.sliceResize
  | sliceDrainComplete => delta execSliceDrainComplete; exact run_canonical h fun h0 => h0.sliceDrainComplete
  | resizeShrinkComplete => delta execResizeShrinkComplete; exact run_canonical h fun h0 => h0.resizeShrinkComplete
  | sqBindWrite => delta execSqBindWrite; exact run_canonical h fun h0 => h0.sqBindWrite
  | tokenRefill => delta execTokenRefill; exact run_canonical h fun h0 => h0.tokenRefill
  | negonHello => delta execNegonHello; exact run_canonical h fun h0 => h0.negonHello
  | negonInfo => delta execNegonInfo; exact run_canonical h fun h0 => h0.negonInfo
  | negonUser => delta execNegonUser; exact run_canonical h fun h0 => h0.negonUser
  | negonResize => delta execNegonResize; exact run_canonical h fun h0 => h0.negonResize
  | negonStats => delta execNegonStats; exact run_canonical h fun h0 => h0.negonStats
  | mailboxDownAck => delta execMailboxDownAck; exact run_canonical h fun h0 => h0.mailboxDownAck
  | mailboxUpAck => delta execMailboxUpAck; exact run_canonical h fun h0 => h0.mailboxUpAck
  | mailboxPost => delta execMailboxPost; exact run_canonical h fun h0 => h0.mailboxPost
  | mailboxDownDeliver => delta execMailboxDownDeliver; exact run_canonical h fun h0 => h0.mailboxDownDeliver
  | dramRequest => delta execDramRequest; exact run_canonical h fun h0 => h0.dramRequest
  | dramBurstRead => delta execDramBurstRead; exact run_canonical h fun h0 => h0.dramBurstRead
  | refreshDue => delta execRefreshDue; exact run_canonical h fun h0 => h0.refreshDue
  | mr4Poll => delta execMr4Poll; exact run_canonical h fun h0 => h0.mr4Poll
  | dqsOscMeasure => delta execDqsOscMeasure; exact run_canonical h fun h0 => h0.dqsMeasure
  | retrainStep => delta execRetrainStep; exact run_canonical h fun h0 => h0.retrainStep
  | pageCloseTimeout => delta execPageCloseTimeout; exact run_canonical h fun h0 => h0.pageClose
  | patrolScrub => delta execPatrolScrub; exact run_canonical h fun h0 => h0.patrolScrub
  | rankRetirement => delta execRankRetirement; exact run_canonical h fun h0 => h0.rankRetirement
  | rankRetireWrite => delta execRankRetireWrite; exact run_canonical h fun h0 => h0.rankRetireWrite
  | rankCopyStart => delta execRankCopyStart; exact run_canonical h fun h0 => h0.rankCopyStart
  | rankCopyDone => delta execRankCopyDone; exact run_canonical h fun h0 => h0.rankCopyDone
  | dramErrInfoRead => delta execDramErrInfoRead; exact run_canonical h fun h0 => h0.errInfoRead
  | latMaxRead => delta execLatMaxRead; exact run_canonical h fun h0 => h0.latMaxRead
  | pauseMaxRead => delta execPauseMaxRead; exact run_canonical h fun h0 => h0.pauseMaxRead
  | slotGenerate => delta execSlotGenerate; exact run_canonical h fun h0 => h0.slotGenerate
  | slotLoad => delta execSlotLoad; exact run_canonical h fun h0 => h0.slotLoad
  | slotExport => delta execSlotExport; exact run_canonical h fun h0 => h0.slotExport
  | slotZero => delta execSlotZero; exact run_canonical h fun h0 => h0.slotZero
  | slotDrainComplete => delta execSlotDrainComplete; exact run_canonical h fun h0 => h0.slotDrained
  | sealKey => delta execSealKey; exact run_canonical h fun h0 => h0.sealCmd
  | unsealKey => delta execUnsealKey; exact run_canonical h fun h0 => h0.unsealCmd
  | random => delta execRandom; exact run_canonical h fun h0 => h0.randomCmd
  | drbgReseed => delta execDrbgReseed; exact run_canonical h fun h0 => h0.drbgReseed
  | drbgHealthFail => delta execDrbgHealthFail; exact run_canonical h fun h0 => h0.drbgFail
  | dgstJobSubmit => delta execDgstJobSubmit; exact run_canonical h fun h0 => h0.jobSubmit
  | dgstJobSelect => delta execDgstJobSelect; exact run_canonical h fun h0 => h0.jobSelect
  | dgstPreempt => delta execDgstPreempt; exact run_canonical h fun h0 => h0.jobPreempt
  | dgstJobEnd => delta execDgstJobEnd; exact run_canonical h fun h0 => h0.jobEnd
  | dgstJobCancel => delta execDgstJobCancel; exact run_canonical h fun h0 => h0.jobCancel
  | standaloneCompare => delta execStandaloneCompare; exact run_canonical h fun h0 => h0.compareCmd
  | ctxKeyRenew => delta execCtxKeyRenew; exact run_canonical h fun h0 => h0.ctxRenew
  | norProgram => delta execNorProgram; exact run_canonical h fun h0 => h0.norProgram
  | norErase => delta execNorErase; exact run_canonical h fun h0 => h0.norEraseCmd
  | norOpComplete => delta execNorOpComplete; exact run_canonical h fun h0 => h0.norComplete
  | bankFault => delta execBankFault; exact run_canonical h fun h0 => h0.bankFault
  | busyFaultAddrRead => delta execBusyFaultAddrRead; exact run_canonical h fun h0 => h0.busyFaultRead
  | otpProgram => delta execOtpProgram; exact run_canonical h fun h0 => h0.otpProgram
  | keyRevoke => delta execKeyRevoke; exact run_canonical h fun h0 => h0.keyRevoke
  | rollbackCommit => delta execRollbackCommit; exact run_canonical h fun h0 => h0.rollbackCommit
  | configRecordFlush => delta execConfigRecordFlush; exact run_canonical h fun h0 => h0.cfgFlushCmd
  | configCompaction => delta execConfigCompaction; exact run_canonical h fun h0 => h0.cfgCompactCmd
  | idleTimerExpiry => delta execIdleTimerExpiry; exact run_canonical h fun h0 => h0.idleTimerExpiry
  | prepareStepAnswer => delta execPrepareStepAnswer; exact run_canonical h fun h0 => h0.prepareStepAnswer
  | prepareStepTimeout => delta execPrepareStepTimeout; exact run_canonical h fun h0 => h0.prepareStepTimeout
  | voteWithdraw => delta execVoteWithdraw; exact run_canonical h fun h0 => h0.voteWithdraw
  | dormantCommit => delta execDormantCommit; exact run_canonical h fun h0 => h0.dormantCommit
  | dormantWake => delta execDormantWake; exact run_canonical h fun h0 => h0.dormantWake
  | wakeComplete => delta execWakeComplete; exact run_canonical h fun h0 => h0.wakeComplete
  | powrWakeWrite => delta execPowrWakeWrite; exact run_canonical h fun h0 => h0.powrWakeWrite
  | smbusAddressMatch => delta execSmbusAddressMatch; exact run_canonical h fun h0 => h0.smbusAddressMatch
  | padHoldRelease => delta execPadHoldRelease; exact run_canonical h fun h0 => h0.padHoldRelease
  | padHoldTimeout => delta execPadHoldTimeout; exact run_canonical h fun h0 => h0.padHoldTimeout
  | railSample => delta execRailSample; exact run_canonical h fun h0 => h0.railSample
  | referenceLoss => delta execReferenceLoss; exact run_canonical h fun h0 => h0.referenceLoss
  | pllLockLoss => delta execPllLockLoss; exact run_canonical h fun h0 => h0.pllLockLoss
  | aonCalibration => delta execAonCalibration; exact run_canonical h fun h0 => h0.aonCalibration
  | hourTick => delta execHourTick; exact run_canonical h fun h0 => h0.hourTick
  | smbusPacketReceive => delta execSmbusPacketReceive; exact run_canonical h fun h0 => h0.smbusPacketReceive
  | smbusTimeout => delta execSmbusTimeout; exact run_canonical h fun h0 => h0.smbusTimeout
  | alertAck => delta execAlertAck; exact run_canonical h fun h0 => h0.alertAck
  | sensorResult => delta execSensorResult; exact run_canonical h fun h0 => h0.sensorResult
  | dormantSensorResult => delta execDormantSensorResult; exact run_canonical h fun h0 => h0.dormantSensorResult
  | ladderStepLeave => delta execLadderStepLeave; exact run_canonical h fun h0 => h0.ladderStepLeave
  | stopResume => delta execStopResume; exact run_canonical h fun h0 => h0.stopResume
  | sledSensorPoll => delta execSledSensorPoll; exact run_canonical h fun h0 => h0.sledSensorPoll
  | sensorResponse => delta execSensorResponse; exact run_canonical h fun h0 => h0.sensorResponse
  | fanUpdate => delta execFanUpdate; exact run_canonical h fun h0 => h0.fanUpdate
  | fanFailure => delta execFanFailure; exact run_canonical h fun h0 => h0.fanFailure
  | brokenClrWrite => delta execBrokenClrWrite; exact run_canonical h fun h0 => h0.brokenClrWrite
  | eventOffer => delta execEventOffer; exact run_canonical h fun h0 => h0.eventOffer
  | ringFreeze => delta execRingFreeze; exact run_canonical h fun h0 => h0.ringFreeze
  | freezeTimeout => delta execFreezeTimeout; exact run_canonical h fun h0 => h0.freezeTimeout
  | logPageWrite => delta execLogPageWrite; exact run_canonical h fun h0 => h0.logPageWrite
  | recordsLostReport => delta execRecordsLostReport; exact run_canonical h fun h0 => h0.recordsLost
  | auditStrobe => delta execAuditStrobe; exact run_canonical h fun h0 => h0.auditStrobe
  | auditNow => delta execAuditNow; exact run_canonical h fun h0 => h0.auditNow
  | auditPassEnd => delta execAuditPassEnd; exact run_canonical h fun h0 => h0.auditPassEnd
  | ledgerAuditDisable => delta execLedgerAuditDisable; exact run_canonical h fun h0 => h0.ledgerAuditDisable
  | violLedgerRead => delta execViolLedgerRead; exact run_canonical h fun h0 => h0.violLedgerRead
  | violTimeLoRead => delta execViolTimeLoRead; exact run_canonical h fun h0 => h0.violTimeLoRead
  | peerEnableWrite => delta execPeerEnableWrite; exact run_canonical h fun h0 => h0.peerEnableWrite
  | referenceAppears => delta execReferenceAppears; exact run_canonical h fun h0 => h0.referenceAppears
  | slotoffResponse => delta execSlotoffResponse; exact run_canonical h fun h0 => h0.slotoffResponse
  | quiescedWaitExpiry => delta execQuiescedWaitExpiry; exact run_canonical h fun h0 => h0.quiescedWaitExpiry
  | pairResponse => delta execPairResponse; exact run_canonical h fun h0 => h0.pairResponse
  | peerProbeReceive => delta execPeerProbeReceive; exact run_canonical h fun h0 => h0.peerProbeReceive
  | configurationWrite => delta execConfigurationWrite; exact run_canonical h fun h0 => h0.configurationWrite
  | interruptCoalescingTimeout => delta execInterruptCoalescingTimeout; exact run_canonical h fun h0 => h0.coalescingTimeout
  | atsInvalidateRequest => delta execAtsInvalidateRequest; exact run_canonical h fun h0 => h0.atsInvalidate

/-- Every command of a well-formed queue behind its first is well-formed. -/
theorem State.queueWf_tail {s : State} {c : Instr} {rest : List Instr} (hpending : s.pending = c :: rest) (h : s.queueWf) :
    rest.all Instr.wf = true := by
  unfold State.queueWf at h
  rw [hpending, List.all_cons, Bool.and_eq_true] at h
  exact h.2

/-- Settles O57: nothing is listed, so nothing is out of place. -/
theorem canonicalFormAtReset : Obligations.CanonicalFormAtReset :=
  ⟨⟨rfl, rfl, rfl, nofun⟩, rfl⟩

/-- Settles O58: with a command at the front, `exec_canonical`; with none, time goes on and the memories stay. -/
theorem everyStepKeepsCanonicalForm : Obligations.EveryStepKeepsCanonicalForm := by
  intro s t h hqueue hstep
  unfold step at hstep
  split at hstep
  case _ hpending =>
    cases hstep
    exact ⟨h.tick, hqueue⟩
  case _ c rest hpending =>
    obtain ⟨u, hexec, hrest, hcanonical⟩ := exec_canonical c (s := { s with pending := rest }) h
    cases hexec.symm.trans hstep
    refine ⟨hcanonical, ?_⟩
    unfold State.queueWf
    rw [hrest]
    exact State.queueWf_tail hpending hqueue

end Sys2Proof.Machine
end

/-! # Fabric errors (O1; R15, R46, R47) -/

section
/-! SUPPORT. What recording an event does to the recorder where there is room (R512, R513), and what a fabric error leaves behind. -/

namespace Sys2Proof.Machine

/-! ## The record of an event -/

@[simp] theorem Dev.aenFn_evnt (d : Dev) (port fn : Nat) (a : Aen) : (d.aenFn port fn a).evnt = d.evnt := by
  unfold Dev.aenFn
  extract_lets f on isReq d1 d2
  have hd1 : d1.evnt = d.evnt := by unfold d1; split <;> rfl
  split
  · rfl
  · split
    · exact hd1
    · rfl

@[simp] theorem Dev.aen_evnt (d : Dev) (a : Aen) : (d.aen a).evnt = d.evnt :=
  d.each_keeps _ _ Dev.evnt fun x e => x.aenFn_evnt e.1 e.2 a

@[simp] theorem Dev.alerted_evnt (d : Dev) (sev : Nat) : (d.alerted sev).evnt = d.evnt := by
  unfold Dev.alerted
  dsimp only
  split <;> split <;> simp

theorem Dev.recs_of_evnt {d e : Dev} (h : d.evnt = e.evnt) : d.recs = e.recs := by
  unfold Dev.recs
  rw [h]

@[simp] theorem Dev.putRecs_recs (d : Dev) (b : List Rec) : (d.putRecs b).recs = b := by
  unfold Dev.putRecs Dev.recs
  by_cases h : d.evnt.frozen = true <;> simp [h]

theorem addRec_of_room {buf : List Rec} {cap : Nat} (r : Rec) (h : buf.length < cap) : addRec buf cap r = (buf ++ [r], none, true) := if_pos h

/-- With room in the ring and in the holding buffer, a new record is the last one. -/
theorem Dev.newRec_recs (d : Dev) (r : Rec) (h : d.recs.length < 256) : (d.newRec r).recs = d.recs ++ [r] := by
  have hroom : d.recs.length < if d.evnt.frozen then 256 else 32768 := by split <;> omega
  unfold Dev.newRec
  dsimp only
  rw [addRec_of_room r hroom, if_pos rfl, Dev.recs_of_evnt (Dev.alerted_evnt ..), Dev.putRecs_recs]

theorem Dev.folded_of_not_folding {code : Nat} (d : Dev) (ps : List Word) (now : Stamp) (h : folding code = false) : d.folded code ps now = none :=
  if_neg fun hfold => Bool.false_ne_true (h.symm.trans hfold.1)

/-- An event whose code does not fold makes one record where there is room. -/
theorem Dev.offer_recs (d : Dev) {code : Nat} (sev : Nat) (ps : List Word) (now : Option Stamp) (hcode : folding code = false)
    (hroom : d.recs.length < 256) : ∃ r, (d.offer code sev ps now).recs = d.recs ++ [r] ∧ r.code = code := by
  unfold Dev.offer
  dsimp only
  rw [Dev.folded_of_not_folding _ _ _ hcode]
  exact ⟨_, Dev.newRec_recs _ _ hroom, rfl⟩

/-- An enabled event whose code does not fold makes one record while EVNT is up and has room. -/
theorem Dev.raise_recs (d : Dev) {page num : Nat} (ps : List Nat) (hcode : folding (evtCode page num) = false) (hup : d.evntUp = true)
    (hen : bitOf (d.hdr page).evtEn (evtFlag page num) = true) (hroom : d.recs.length < 256) :
    ∃ r, (d.raise page num ps).recs = d.recs ++ [r] ∧ r.code = evtCode page num := by
  unfold Dev.raise
  dsimp only
  rw [if_neg (not_not_intro hup), if_pos hen]
  exact Dev.offer_recs _ _ _ _ hcode hroom

/-! ## A fabric error -/

/-- The fabric error register after one more error: counted, and captured where it is armed (R47). -/
def FabErr.next (f : FabErr) (addr cause master : Nat) (write : Bool) : FabErr :=
  if f.armed then { addr := addr, write := write, cause := cause, master := master, count := f.count + 1, armed := false }
  else { f with count := f.count + 1 }

@[simp] theorem FabErr.next_count (f : FabErr) (addr cause master : Nat) (write : Bool) : (f.next addr cause master write).count = f.count + 1 := by
  unfold FabErr.next
  split <;> rfl

theorem FabErr.next_addr {f : FabErr} (h : f.armed = true) (addr cause master : Nat) (write : Bool) :
    (f.next addr cause master write).addr = addr := by
  unfold FabErr.next
  rw [if_pos h]

@[simp] theorem Dev.fabricError_sysc (d : Dev) (addr cause master : Nat) (write : Bool) :
    (d.fabricError addr cause master write).sysc = { d.sysc with fabErr := d.sysc.fabErr.next addr cause master write } := Dev.raise_sysc ..

@[simp] theorem Dev.fabricError_hdr (d : Dev) (addr cause master : Nat) (write : Bool) :
    (d.fabricError addr cause master write).hdr pSYSC = (d.hdr pSYSC).flagged 0 := Dev.raise_hdr ..

@[simp] theorem Dev.fabricError_out (d : Dev) (addr cause master : Nat) (write : Bool) : (d.fabricError addr cause master write).out = d.out :=
  Dev.raise_out ..

theorem Dev.fabricError_recordsOnly (d : Dev) (addr cause master : Nat) (write : Bool) :
    Dev.RecordsOnly { d with sysc := { d.sysc with fabErr := d.sysc.fabErr.next addr cause master write } }
      (d.fabricError addr cause master write) := Dev.raise_recordsOnly ..

theorem Dev.fabricError_recs (d : Dev) (addr cause master : Nat) (write : Bool) (hup : d.evntUp = true)
    (hen : bitOf (d.hdr pSYSC).evtEn 0 = true) (hroom : d.recs.length < 256) :
    ∃ r, (d.fabricError addr cause master write).recs = d.recs ++ [r] ∧ r.code = 1 :=
  Dev.raise_recs _ _ rfl hup hen hroom

/-- An access that meets an error: a read is answered with 0xFFFF_FFFF, with the error response unless the master is BAR2; a write is dropped. -/
def Dev.fabricAnswer (d : Dev) (addr cause master : Nat) (write : Bool) : Dev :=
  let e := d.fabricError addr cause master write
  { e with out := e.out ++ if write then [] else [.word 0xFFFFFFFF (master != 33)] }

theorem Dev.fabricAnswer_eq (d : Dev) (addr cause master : Nat) (write : Bool) :
    d.fabricAnswer addr cause master write =
      if write then d.fabricError addr cause master write
      else (d.fabricError addr cause master write).emit (.word 0xFFFFFFFF (master != 33)) := by
  unfold Dev.fabricAnswer
  cases write with
  | false => rfl
  | true => simp only [if_true, List.append_nil]

section
variable (d : Dev) (addr cause master : Nat) (write : Bool)

theorem Dev.fabricAnswer_fabErr :
    (d.fabricAnswer addr cause master write).sysc.fabErr = d.sysc.fabErr.next addr cause master write :=
  congrArg Sysc.fabErr (d.fabricError_sysc addr cause master write)

theorem Dev.fabricAnswer_hdr : (d.fabricAnswer addr cause master write).hdr pSYSC = (d.hdr pSYSC).flagged 0 :=
  d.fabricError_hdr addr cause master write

theorem Dev.fabricAnswer_out :
    (d.fabricAnswer addr cause master write).out = d.out ++ if write then [] else [.word 0xFFFFFFFF (master != 33)] :=
  congrArg (· ++ _) (d.fabricError_out addr cause master write)

theorem Dev.fabricAnswer_recordsOnly :
    Dev.RecordsOnly
      { d with sysc := { d.sysc with fabErr := d.sysc.fabErr.next addr cause master write }, out := (d.fabricAnswer addr cause master write).out }
      (d.fabricAnswer addr cause master write) :=
  (d.fabricError_recordsOnly addr cause master write).emit _

theorem Dev.fabricAnswer_recs (hup : d.evntUp = true) (hen : bitOf (d.hdr pSYSC).evtEn 0 = true) (hroom : d.recs.length < 256) :
    ∃ r, (d.fabricAnswer addr cause master write).recs = d.recs ++ [r] ∧ r.code = 1 :=
  d.fabricError_recs addr cause master write hup hen hroom

end

theorem Dev.fabricAccessError_of_unmapped {d : Dev} {addr c : Nat} (h : d.unmapped (addr % 2 ^ 40) = some c) (write : Bool) (master : Nat) :
    d.fabricAccessError addr write master = d.fabricAnswer (addr % 2 ^ 40) c master write := by
  unfold Dev.fabricAccessError
  rw [h, Dev.fabricAnswer_eq]

theorem Dev.unservedPageAccess_of_off {d : Dev} {page off : Nat} {write : Bool} (master : Nat) (hpage : pageExists page = true)
    (hpwr : (d.hdr page).pwr ≠ 0) (hheader : write = true ∨ 0x10 ≤ off) :
    d.unservedPageAccess page off write master = d.fabricAnswer (pageAddr page off) ((d.pageError page).getD 0) master write := by
  have hnot : ¬(write = false ∧ off < 0x10) := by
    rintro ⟨rfl, hoff⟩
    simp only [Bool.false_eq_true, false_or] at hheader
    omega
  unfold Dev.unservedPageAccess
  rw [if_neg (by simp [hpage]), if_neg hpwr, if_neg hnot, Dev.fabricAnswer_eq]

theorem bitOf_setBit_zero (w : Word) : bitOf (setBit w 0) 0 = true := by
  simp [bitOf, setBit]

/-- Settles O1: both commands answer as `Dev.fabricAnswer` does, whose parts the rules above give. -/
theorem fabricAccessErrorIsAnswered : Obligations.FabricAccessErrorIsAnswered := by
  refine ⟨fun s addr c write master hmaster hun => ?_, fun s page off master write hpage hoff hmaster hex hpwr hheader => ?_⟩
  · refine completes_of (·.fabricAccessError addr write master) rfl (decide_eq_true hmaster) ?_
    have hclean : s.clean.unmapped (addr % 2 ^ 40) = some c := hun
    rw [Dev.fabricAccessError_of_unmapped hclean, Dev.fabricAnswer_fabErr, Dev.fabricAnswer_hdr]
    refine ⟨rfl, rfl, rfl, ?_, ?_, ?_⟩
    · exact Dev.fabricAnswer_out ..
    · exact s.clean.fabricAnswer_recordsOnly _ _ _ _
    · exact s.clean.fabricAnswer_recs _ _ _ _
  · have hwf : Instr.wf (.unservedPageAccess page off write master) = true := by
      simp [Instr.wf, inPages, inPage, isMaster, hpage, hoff, hmaster]
    refine completes_of (·.unservedPageAccess page off write master) rfl hwf ?_
    rw [Dev.unservedPageAccess_of_off (d := s.clean) master hex hpwr hheader, Dev.fabricAnswer_fabErr, Dev.fabricAnswer_hdr, FabErr.next_count]
    refine ⟨rfl, fun harmed => ?_, bitOf_setBit_zero _, ?_⟩
    · exact FabErr.next_addr harmed ..
    · exact Dev.fabricAnswer_out ..

end Sys2Proof.Machine
end

/-! # Register pages (O2 to O8, O55, O56; R30 to R51) -/

section
/-! SUPPORT. What an access to a register page does, case by case, with the settled statements after the laws they rest on. -/

namespace Sys2Proof.Machine

/-! ## Every command (log entry 3) -/

/-- Every command answers a next state: the part that its meaning makes, where it names only what the part has, and else the part as it was. -/
theorem exec_answers (c : Instr) (s : State) : ∃ d, exec c s = .next { s with dev := if Instr.wf c then d else s.clean } := by
  cases c <;> exact ⟨_, rfl⟩

/-- Settles O56: whatever part a command answers with, the queue is the one it was given. -/
theorem everyCommandAnswersANextState : Obligations.EveryCommandAnswersANextState := by
  refine ⟨fun c s => ?_, fun c s hwf => ?_⟩
  · obtain ⟨d, hexec⟩ := exec_answers c s
    exact ⟨_, hexec, rfl⟩
  · obtain ⟨d, hexec⟩ := exec_answers c s
    rw [hexec, hwf, if_neg Bool.false_ne_true]

/-! ## The state at reset (log entries 6 and 7) -/

/-- Settles O55: nothing is stored at reset, so every register reads as its table says. -/
theorem resetLeavesTableValues : Obligations.ResetLeavesTableValues := by
  have htargets : ∀ c : Fin 4, ∀ i : Fin 8,
      (State.reset.dev.cellI (pDRAM c) 0x114 i).toNat = [400, 600, 300, 300, 500, 200, 1000, 5000].getD i 0 := by decide
  have hports : ∀ p : Fin 2, State.reset.dev.cell (pHOST p) 0x800 = 0x96 := by decide
  refine ⟨rfl, rfl, rfl, rfl, rfl, rfl, fun p => ⟨rfl, rfl, rfl, rfl, rfl, rfl, rfl, rfl, rfl⟩, ?_⟩
  refine ⟨rfl, rfl, rfl, rfl, rfl, rfl, rfl, rfl, rfl, fun p hp => hports ⟨p, hp⟩, rfl, fun c i hc hi => htargets ⟨c, hc⟩ ⟨i, hi⟩, ?_⟩
  exact ⟨rfl, rfl, rfl, rfl, rfl⟩

/-! ## Bits of a word -/

theorem bitOf_setBit (w : Word) {i j : Nat} (hj : j < 32) : bitOf (setBit w i) j = (bitOf w j || decide (i = j)) := by
  have htwo : (BitVec.ofNat 32 (2 ^ i)).getLsbD j = decide (i = j) := by
    rw [BitVec.getLsbD_ofNat, Nat.testBit_two_pow, decide_eq_true hj, Bool.true_and]
  unfold bitOf setBit
  rw [BitVec.getLsbD_or, htwo]

theorem bitOf_setBit_same (w : Word) {i : Nat} (hi : i < 32) : bitOf (setBit w i) i = true := by
  simp [bitOf_setBit w hi]

/-! ## A page that is not served (R46) -/

/-- The cause that a page which exists and is not running gives a fabric error. -/
theorem Dev.pageError_of_stopped {d : Dev} {page : Nat} (hpage : pageExists page = true) (hpwr : (d.hdr page).pwr ≠ 0) :
    d.pageError page = some (if (d.hdr page).pwr = 1 then 3 else if (d.hdr page).pwr = 2 then 2 else (d.hdr page).wakingFrom) := by
  unfold Dev.pageError
  rw [if_neg (not_not_intro hpage)]
  split
  case _ h => exact absurd h hpwr
  case _ h => simp [h]
  case _ h => simp [h]
  case _ h1 h2 => rw [if_neg h1, if_neg h2]

theorem FabErr.next_armed {f : FabErr} (h : f.armed = true) (addr cause master : Nat) (write : Bool) :
    f.next addr cause master write = { addr := addr, write := write, cause := cause, master := master, count := f.count + 1, armed := false } :=
  if_pos h

theorem Dev.fabricAnswer_pwr (d : Dev) (addr cause master : Nat) (write : Bool) (page : Nat) :
    ((d.fabricAnswer addr cause master write).hdr page).pwr = (d.hdr page).pwr := by
  have hraise : (d.fabricAnswer addr cause master write).hdr page = if pSYSC = page then (d.hdr pSYSC).flagged 0 else d.hdr page := Dev.raise_hdr ..
  rw [hraise]
  split
  case _ h => rw [← h, PageHdr.flagged_pwr]
  case _ => rfl

theorem unservedPageAccess_wf {page off master : Nat} (write : Bool) (hpage : page < 512) (hoff : off < 0x10000) (hmaster : master < 45) :
    Instr.wf (.unservedPageAccess page off write master) = true := by
  simp [Instr.wf, inPages, inPage, isMaster, hpage, hoff, hmaster]

theorem Dev.unservedPageAccess_header {d : Dev} {page off : Nat} (master : Nat) (hpage : pageExists page = true) (hpwr : (d.hdr page).pwr ≠ 0)
    (hoff : off < 0x10) : d.unservedPageAccess page off false master = d.emit (.word (d.headerWord page off) false) := by
  unfold Dev.unservedPageAccess
  rw [if_neg (by simp [hpage]), if_neg hpwr, if_pos ⟨rfl, hoff⟩]

/-- Settles O2: a header word is read from the copy; any other access is a fabric error, as `Dev.fabricAnswer` has it. -/
theorem unservedPageAnswersOnlyItsHeader : Obligations.UnservedPageAnswersOnlyItsHeader := by
  refine ⟨fun s page off master hpage hoff hmaster hex hpwr => ?_, fun s page off master write hpage hoff hmaster hex hpwr hheader => ?_⟩
  · refine completes_of (·.unservedPageAccess page off false master) rfl (unservedPageAccess_wf _ hpage (by omega) hmaster) ?_
    exact Dev.unservedPageAccess_header (d := s.clean) master hex hpwr hoff
  · refine completes_of (·.unservedPageAccess page off write master) rfl (unservedPageAccess_wf _ hpage hoff hmaster) ?_
    rw [Dev.unservedPageAccess_of_off (d := s.clean) master hex hpwr hheader, Dev.pageError_of_stopped (d := s.clean) hex hpwr,
      Dev.fabricAnswer_fabErr, Dev.fabricAnswer_hdr, FabErr.next_count]
    refine ⟨rfl, fun harmed => ?_, bitOf_setBit_zero _, ?_, ?_, ?_, ?_⟩
    · rw [FabErr.next_armed (f := s.clean.sysc.fabErr) harmed]
      exact ⟨rfl, rfl, rfl, rfl⟩
    · exact s.clean.fabricAnswer_recs _ _ _ _
    · exact Dev.fabricAnswer_out ..
    · exact Dev.fabricAnswer_pwr ..
    · exact s.clean.fabricAnswer_recordsOnly _ _ _ _

/-! ## Register writes (R35, R36, R38) -/

/-- A write of one word, on a page that is served. -/
theorem Dev.writeWord_of_served {d : Dev} {page off bytes : Nat} (v : Word) (master : Nat) (herr : d.pageError page = none) (hbytes : 4 ≤ bytes)
    (hoff : off % 4 = 0) : d.writeWord page off v bytes master = d.regWrite page off v := by
  unfold Dev.writeWord
  simp only [herr]
  rw [if_neg (by omega), show off / 4 * 4 = off by omega]

theorem Dev.writeWord_narrow {d : Dev} {page bytes : Nat} (off : Nat) (v : Word) (master : Nat) (herr : d.pageError page = none)
    (hbytes : bytes < 4) : d.writeWord page off v bytes master = d.deny page := by
  unfold Dev.writeWord
  simp only [herr]
  rw [if_pos hbytes]

theorem Dev.registerWrite_single (d : Dev) (page off : Nat) (v hi : Word) {bytes : Nat} (master : Nat) (h : bytes ≠ 8) :
    d.registerWrite page off v hi bytes master = d.writeWord page off v bytes master := if_neg h

theorem Dev.registerWrite_pair (d : Dev) (page off : Nat) (v hi : Word) (master : Nat) :
    d.registerWrite page off v hi 8 master = (d.writeWord page off v 4 master).writeWord page (off + 4) hi 4 master := if_pos rfl

/-- A write that the lock of the expert level stops (R35). -/
def Dev.expertLocked (d : Dev) (page off : Nat) : Prop := 0x800 ≤ off ∧ (d.hdr page).unlocked = false

section
variable {d : Dev} {page off live : Nat} {r : RegDesc} (v : Word) (hoff : 0x100 ≤ off)
include hoff

theorem Dev.regWrite_readOnly (hr : regDesc page off = some r) (hw : r.writable = false) : d.regWrite page off v = d := by
  unfold Dev.regWrite
  simp only [hr, hw, if_neg (Nat.not_lt.mpr hoff), if_true]

theorem Dev.regWrite_denied (hr : regDesc page off = some r) (hw : r.writable = true) (hstop : d.expertLocked page off ∨ r.staged = true) :
    d.regWrite page off v = d.deny page := by
  unfold Dev.regWrite
  simp only [hr, hw, if_neg (Nat.not_lt.mpr hoff)]
  rcases hstop with ⟨hexpert, hlocked⟩ | hstaged
  · simp [hexpert, hlocked]
  · simp [hstaged]

theorem Dev.regWrite_stored (hr : regDesc page off = some r) (hw : r.writable = true) (hopen : ¬d.expertLocked page off) (hstaged : r.staged = false)
    (hfitsA : fitsA page off v = true) (hfitsB : d.fitsB page off v = true) : d.regWrite page off v = d.storeReg page off r v := by
  unfold Dev.expertLocked at hopen
  unfold Dev.regWrite
  simp only [hr, if_neg (Nat.not_lt.mpr hoff)]
  simp [hw, hopen, hstaged, hfitsA, hfitsB]

theorem Dev.regWrite_shadowLocked (hnone : regDesc page off = none) (hlive : liveOff off = some live) (hr : regDesc page live = some r)
    (hstaged : r.staged = true) (hlocked : d.expertLocked page off) : d.regWrite page off v = d.deny page := by
  obtain ⟨hexpert, hunlocked⟩ := hlocked
  unfold Dev.regWrite
  simp [hnone, hlive, hr, hstaged, hexpert, hunlocked, if_neg (Nat.not_lt.mpr hoff)]

theorem Dev.regWrite_shadow (hnone : regDesc page off = none) (hlive : liveOff off = some live) (hr : regDesc page live = some r)
    (hstaged : r.staged = true) (hopen : ¬d.expertLocked page off) : d.regWrite page off v = d.storeShadow page live r v := by
  unfold Dev.expertLocked at hopen
  unfold Dev.regWrite
  simp only [hnone, hlive, hr, if_neg (Nat.not_lt.mpr hoff)]
  simp [hstaged, hopen]

end

/-- Which copy of a register its selector shows. -/
def Dev.instOf (d : Dev) (page : Nat) (r : RegDesc) : Nat := if r.sel = 0 then 0 else (d.cell page r.sel).toNat

/-- The registers of a page below 256 that store what is written take the bits under their mask. -/
theorem Dev.storeReg_plain (d : Dev) {page off : Nat} (r : RegDesc) (v : Word) (hpage : page < 256)
    (hcryp : ¬(page = pCRYP ∧ 0x800 ≤ off ∧ off < 0x830)) (hslot : ¬(48 ≤ page ∧ page ≤ 63 ∧ off = 0x108)) (haudit : ¬(page = pLEDG ∧ off = 0x100)) :
    d.storeReg page off r v
      = (d.setCellI page off (d.instOf page r) (mixed (d.cellI page off (d.instOf page r)) v (u32 r.wmask &&& ~~~ (ownBits page off)))).afterWrite
          page off := by
  have hpw : ¬(page = pCRYP ∧ 0x800 ≤ off ∧ off < 0x820) := by omega
  have hcode : ¬(page = pCRYP ∧ 0x820 ≤ off ∧ off < 0x830) := by omega
  unfold Dev.storeReg
  dsimp only
  rw [if_neg (by omega), if_neg hpw, if_neg hcode, if_neg hslot, if_neg haudit]
  rfl

/-- A REGISTER_WRITE completes with its two words, the low one at the lower address. -/
theorem completes_registerWrite {s : State} {P : Dev → Prop} {page off bytes master : Nat} {v hi : Word} (hpage : page < 512)
    (hoff : off < 0x10000) (hmaster : master < 45) (h : P (s.clean.registerWrite page off v hi bytes master)) :
    Completes (.registerWrite page off (hi ++ v) bytes master) s P := by
  have hlow : (hi ++ v).setWidth 32 = v := BitVec.setWidth_append_eq_right
  have hhigh : (hi ++ v).extractLsb' 32 32 = hi := BitVec.extractLsb'_append_eq_left
  have hwf : Instr.wf (.registerWrite page off (hi ++ v) bytes master) = true := by
    simp [Instr.wf, inPages, inPage, isMaster, hpage, hoff, hmaster]
  refine completes_of (fun d => d.registerWrite page off ((hi ++ v).setWidth 32) ((hi ++ v).extractLsb' 32 32) bytes master) rfl hwf ?_
  rw [hlow, hhigh]
  exact h

/-- A REGISTER_WRITE of a whole word on a page that is served. -/
theorem completes_registerWrite_word {s : State} {P : Dev → Prop} {page off bytes master : Nat} {v hi : Word} (hpage : page < 512)
    (hoff : off < 0x10000) (hmaster : master < 45) (herr : s.dev.pageError page = none) (hword : off % 4 = 0) (hbytes : 4 ≤ bytes) (hone : bytes ≠ 8)
    (h : P (s.clean.regWrite page off v)) : Completes (.registerWrite page off (hi ++ v) bytes master) s P := by
  refine completes_registerWrite hpage hoff hmaster ?_
  rw [Dev.registerWrite_single _ _ _ _ _ _ hone, Dev.writeWord_of_served (d := s.clean) _ _ herr hbytes hword]
  exact h

/-- Settles O3: each clause is one case of `Dev.regWrite`, or of `Dev.registerWrite` for the narrow write and the one of eight bytes. -/
theorem registerWriteFollowsItsAccessCode : Obligations.RegisterWriteFollowsItsAccessCode := by
  refine ⟨?narrow, ?live, ?shadow, ?readOnly, ?stored, ?pair⟩
  case narrow =>
    intro s page off bytes master v hi hpage hoff hmaster herr hbytes
    refine completes_registerWrite hpage hoff hmaster ?_
    rw [Dev.registerWrite_single _ _ _ _ _ _ (by omega), Dev.writeWord_narrow (d := s.clean) _ _ _ herr hbytes]
  case live =>
    intro s page off bytes master v hi r hpage hlo hoff hword hmaster herr hbytes hone hr hw hstop
    exact completes_registerWrite_word hpage hoff hmaster herr hword hbytes hone (Dev.regWrite_denied (d := s.clean) v hlo hr hw hstop)
  case shadow =>
    intro s page off live bytes master v hi r hpage hlo hoff hword hmaster herr hbytes hone hnone hlive hr hstaged hlocked
    exact completes_registerWrite_word hpage hoff hmaster herr hword hbytes hone
      (Dev.regWrite_shadowLocked (d := s.clean) v (by omega) hnone hlive hr hstaged ⟨hlo, hlocked⟩)
  case readOnly =>
    intro s page off bytes master v hi r hpage hlo hoff hword hmaster herr hbytes hone hr hw
    exact completes_registerWrite_word hpage hoff hmaster herr hword hbytes hone (Dev.regWrite_readOnly v hlo hr hw)
  case stored =>
    intro s page off bytes master v hi r hpage hlo hoff hword hmaster herr hbytes hone hr hw hstaged hunlocked hfitsA hfitsB hcryp hslot haudit
    have hopen : ¬s.clean.expertLocked page off := fun ⟨hexpert, hlocked⟩ => Bool.false_ne_true (hlocked.symm.trans (hunlocked hexpert))
    refine completes_registerWrite_word (by omega) hoff hmaster herr hword hbytes hone ?_
    rw [Dev.regWrite_stored (d := s.clean) v hlo hr hw hopen hstaged hfitsA hfitsB, Dev.storeReg_plain _ r v hpage hcryp hslot haudit]
    rfl
  case pair =>
    intro s page off master v hi hpage hoff _ hmaster
    refine completes_registerWrite hpage hoff hmaster ⟨_, completes_registerWrite hpage hoff hmaster rfl, ?_⟩
    rw [Dev.registerWrite_pair, Dev.registerWrite_single _ _ _ _ _ _ (by decide), Dev.registerWrite_single _ _ _ _ _ _ (by decide)]

/-- A shadow changed to a value. -/
def Dev.setShadowI (d : Dev) (page off inst : Nat) (v : Word) : Dev :=
  { d with regs := { d.regs with shadow := d.regs.shadow.put (cellReset page off inst) (cellKey page off inst) v } }

theorem Dev.shadowI_setShadowI (d : Dev) (page off inst : Nat) (v : Word) : (d.setShadowI page off inst v).shadowI page off inst = v :=
  (SMap.get_put ..).trans (if_pos rfl)

/-- A value that the table admits is put into the shadow under the write mask. -/
theorem Dev.storeShadow_of_fits {d : Dev} {page live : Nat} {v : Word} (r : RegDesc) (h : d.fitsB page live v = true) :
    d.storeShadow page live r v
      = d.setShadowI page live (d.instOf page r) (mixed (d.shadowI page live (d.instOf page r)) v (u32 r.wmask)) := if_pos h

/-- Settles O4: the store is a put at the shadow's key, and the live copy's own write is denied. -/
theorem shadowWriteLeavesLiveCopies : Obligations.ShadowWriteLeavesLiveCopies := by
  refine ⟨?shadow, ?live⟩
  case shadow =>
    intro s page off live bytes master v hi r hpage hlo hoff hword hmaster herr hbytes hone hnone hlive hr hstaged hunlocked hfits
    have hopen : ¬s.clean.expertLocked page off := fun ⟨hexpert, hlocked⟩ => Bool.false_ne_true (hlocked.symm.trans (hunlocked hexpert))
    refine completes_registerWrite_word hpage hoff hmaster herr hword hbytes hone ?_
    rw [Dev.regWrite_shadow (d := s.clean) v hlo hnone hlive hr hstaged hopen, Dev.storeShadow_of_fits (d := s.clean) r hfits]
    exact ⟨Dev.shadowI_setShadowI .., fun _ _ _ => rfl, rfl⟩
  case live =>
    intro s page off bytes master v hi r hpage hlo hhi hword hmaster herr hbytes hone hr hstaged hw
    refine completes_registerWrite_word hpage (by omega) hmaster herr hword hbytes hone ?_
    rw [Dev.regWrite_denied (d := s.clean) v hlo hr hw (.inr hstaged)]
    refine ⟨?_, rfl, rfl⟩
    rw [show (s.clean.deny page).hdr page = (s.clean.hdr page).flagged 31 from (Dev.setHdr_hdr ..).trans (if_pos rfl)]
    exact bitOf_setBit_same _ (by decide)

/-! ## Unlocking (R33) -/

@[simp] theorem PageHdr.flagged_unlocked (h : PageHdr) (n : Nat) : (h.flagged n).unlocked = h.unlocked := rfl

@[simp] theorem Dev.setFlag_hdr (d : Dev) (page flag q : Nat) :
    (d.setFlag page flag).hdr q = if page = q then (d.hdr page).flagged flag else d.hdr q := Dev.setHdr_hdr ..

/-- A write is taken below the expert level where the page is served. -/
theorem Dev.takesWrite_of_served {d : Dev} {page off : Nat} (h : d.pageError page = none) (hoff : off < 0x800) : d.takesWrite page off :=
  ⟨h, fun hexpert => absurd hoff (Nat.not_lt.mpr hexpert)⟩

/-- A page after a word other than the key, before event 0x0002 of SYSC. -/
def Dev.keyRefused (d : Dev) (page : Nat) : Dev := (d.setHdr page (fun h => { h with unlocked := false })).deny page

theorem Dev.expertKeyWrite_key {d : Dev} {page : Nat} (master : Nat) (h : d.pageError page = none) :
    d.expertKeyWrite page 0x45585054 master = d.setHdr page (fun h => { h with unlocked := true }) := by
  unfold Dev.expertKeyWrite
  rw [Dev.onWrite_of (Dev.takesWrite_of_served h (by decide)), if_pos rfl]

theorem Dev.expertKeyWrite_other {d : Dev} {page : Nat} {v : Word} (master : Nat) (h : d.pageError page = none) (hv : v ≠ 0x45585054) :
    d.expertKeyWrite page v master = (d.keyRefused page).raise pSYSC 2 [page, v.toNat, master] := by
  unfold Dev.expertKeyWrite
  rw [Dev.onWrite_of (Dev.takesWrite_of_served h (by decide)), if_neg hv]
  rfl

/-- The header of such a page: not unlocked, with DENIED. -/
def PageHdr.keyRefused (h : PageHdr) : PageHdr := PageHdr.flagged { h with unlocked := false } 31

theorem Dev.keyRefused_hdr (d : Dev) (page q : Nat) :
    (d.keyRefused page).hdr q = if page = q then (d.hdr page).keyRefused else d.hdr q := by
  unfold Dev.keyRefused Dev.deny
  rw [Dev.setFlag_hdr, Dev.setHdr_hdr, Dev.setHdr_hdr, if_pos rfl]
  split
  · rfl
  · rfl

/-- What of a header neither UNLOCKED nor DENIED touches is kept on every page. -/
theorem Dev.keyRefused_keeps {α : Type} (d : Dev) (page q : Nat) (g : PageHdr → α) (hg : ∀ h : PageHdr, g h.keyRefused = g h) :
    g ((d.keyRefused page).hdr q) = g (d.hdr q) := by
  rw [Dev.keyRefused_hdr]
  split
  case _ h => rw [← h, hg]
  case _ => rfl

theorem Dev.keyRefused_evntUp (d : Dev) (page : Nat) : (d.keyRefused page).evntUp = d.evntUp := by
  unfold Dev.evntUp
  rw [d.keyRefused_keeps page pEVNT PageHdr.pwr fun _ => rfl]
  rfl

/-- Settles O5: of any word but the key, page and SYSC show their flags, and the event is recorded as any other is. -/
theorem expertKeyUnlocksOnlyWithTheKeyWord : Obligations.ExpertKeyUnlocksOnlyWithTheKeyWord := by
  have hwf : ∀ {page master : Nat} (v : Word), page < 512 → master < 45 → Instr.wf (.expertKeyWrite page v master) = true := by
    intro page master v hpage hmaster
    simp [Instr.wf, inPages, isMaster, hpage, hmaster]
  refine ⟨?key, ?other, ?reset⟩
  case key =>
    intro s page master hpage hmaster herr
    exact completes_of (·.expertKeyWrite page 0x45585054 master) rfl (hwf _ hpage hmaster) (Dev.expertKeyWrite_key (d := s.clean) master herr)
  case other =>
    intro s page master v hpage hmaster herr hv
    refine completes_of (·.expertKeyWrite page v master) rfl (hwf _ hpage hmaster) ?_
    rw [Dev.expertKeyWrite_other (d := s.clean) master herr hv]
    have hkey : Dev.RecordsOnly s.clean (s.clean.keyRefused page) := rfl
    have hrecords := hkey.trans (Dev.raise_recordsOnly _ pSYSC 2 [page, v.toNat, master])
    have hrecord : s.dev.evntUp = true → bitOf (s.dev.hdr pSYSC).evtEn 1 = true → s.dev.recs.length < 256 →
        ∃ r, ((s.clean.keyRefused page).raise pSYSC 2 [page, v.toNat, master]).recs = s.dev.recs ++ [r] ∧ r.code = 2 := by
      intro hup hen hroom
      refine Dev.raise_recs _ _ rfl ((s.clean.keyRefused_evntUp page).trans hup) ?_ hroom
      rw [Dev.keyRefused_keeps _ _ _ PageHdr.evtEn fun _ => rfl]
      exact hen
    have hflag : evtFlag pSYSC 2 = 1 := rfl
    by_cases h : page = pSYSC
    · subst h
      simp only [Dev.raise_hdr, Dev.keyRefused_hdr, PageHdr.keyRefused, if_true, hflag, PageHdr.flagged_unlocked, PageHdr.flagged_evtStat,
        PageHdr.flagged_evtCount]
      refine ⟨trivial, ?_, bitOf_setBit_same _ (by decide), BitVec.add_assoc .., hrecords, hrecord⟩
      rw [bitOf_setBit _ (by decide), bitOf_setBit_same _ (by decide), Bool.true_or]
    · simp only [Dev.raise_hdr, Dev.keyRefused_hdr, PageHdr.keyRefused, if_true, if_neg h, if_neg (Ne.symm h), hflag, PageHdr.flagged_unlocked,
        PageHdr.flagged_evtStat, PageHdr.flagged_evtCount]
      exact ⟨trivial, bitOf_setBit_same _ (by decide), bitOf_setBit_same _ (by decide), rfl, hrecords, hrecord⟩
  case reset => exact fun d cause page v => ⟨rfl, rfl⟩

/-! ## Forced flags (R43, R45) -/

/-- A page defines a flag: with an event, or without one. -/
def definesFlag (page flag : Nat) : Bool := (numOfFlag page flag).isSome || plainFlag page flag

theorem evtFlag_of_numOfFlag {page flag n : Nat} (h : numOfFlag page flag = some n) : evtFlag page n = flag := by
  simp only [numOfFlag, Option.ite_none_right_eq_some] at h
  obtain ⟨⟨_, _, hflag⟩, hn⟩ := h
  rwa [Option.some.inj hn] at hflag

/-- A forced flag is set and counted where the page defines it. -/
theorem Dev.forceFlag_hdr (d : Dev) (page flag : Nat) :
    (Dev.forceFlag page d flag).hdr page = if definesFlag page flag then (d.hdr page).flagged flag else d.hdr page := by
  unfold Dev.forceFlag definesFlag
  split
  case _ n hn =>
    rw [Dev.raise_hdr, if_pos rfl, evtFlag_of_numOfFlag hn, hn]
    rfl
  case _ hn =>
    rw [hn, Option.isSome_none, Bool.false_or]
    split
    · exact (Dev.setFlag_hdr ..).trans (if_pos rfl)
    · rfl

theorem Dev.forceFlag_recordsOnly (d : Dev) (page flag : Nat) : Dev.RecordsOnly d (Dev.forceFlag page d flag) := by
  unfold Dev.forceFlag
  split
  · exact d.raise_recordsOnly _ _ _
  · exact Dev.ite_recordsOnly _ (d.setFlag_recordsOnly _ _) (Dev.RecordsOnly.refl d)

/-- Flags forced one after another: each that is defined is set, on top of those already set. -/
theorem Dev.forceFlags_evtStat (page : Nat) (flags : List Nat) {i : Nat} (hi : i < 32) (d : Dev) :
    bitOf ((d.each flags (Dev.forceFlag page)).hdr page).evtStat i
      = (bitOf (d.hdr page).evtStat i || (decide (i ∈ flags) && definesFlag page i)) := by
  induction flags generalizing d with
  | nil => simp [Dev.each]
  | cons flag flags ih =>
    have hstat : bitOf ((Dev.forceFlag page d flag).hdr page).evtStat i
        = (bitOf (d.hdr page).evtStat i || (decide (flag = i) && definesFlag page flag)) := by
      rw [Dev.forceFlag_hdr]
      cases definesFlag page flag
      · simp
      · simp [bitOf_setBit _ hi]
    refine (ih _).trans ?_
    rw [hstat, Bool.or_assoc]
    by_cases h : flag = i
    · subst h; cases definesFlag page flag <;> simp
    · simp [h, Ne.symm h]

/-- Each forced flag that is defined counts, one that is already set too. -/
theorem Dev.forceFlags_evtCount (page : Nat) (flags : List Nat) (d : Dev) :
    ((d.each flags (Dev.forceFlag page)).hdr page).evtCount = (d.hdr page).evtCount + u32 (flags.filter (definesFlag page)).length := by
  induction flags generalizing d with
  | nil => exact (BitVec.add_zero _).symm
  | cons flag flags ih =>
    refine (ih _).trans ?_
    rw [Dev.forceFlag_hdr]
    cases h : definesFlag page flag with
    | false => simp [h]
    | true =>
      have hsucc (n : Nat) : u32 (n + 1) = 1 + u32 n := by rw [Nat.add_comm]; exact BitVec.ofNat_add ..
      simp [h, hsucc, BitVec.add_assoc]

/-- Settles O6: forcing goes through the flags one by one; a clear changes one header. -/
theorem flagsAreForcedAndCleared : Obligations.FlagsAreForcedAndCleared := by
  refine ⟨fun s page master v hpage hmaster herr => ?_, fun s page master v same hpage hmaster herr => ?_⟩
  · have hwf : Instr.wf (.evtForceWrite page v master) = true := by simp [Instr.wf, inPages, isMaster, hpage, hmaster]
    refine completes_of (·.evtForceWrite page v master) rfl hwf ?_
    unfold Dev.evtForceWrite
    rw [Dev.onWrite_of (d := s.clean) (Dev.takesWrite_of_served herr (by decide))]
    refine ⟨fun i hi => ?_, ?_, s.clean.each_recordsOnly _ _ fun x i => x.forceFlag_recordsOnly page i⟩
    · rw [Dev.forceFlags_evtStat page _ hi]
      simp [hi, definesFlag]
    · rw [Dev.forceFlags_evtCount, List.filter_filter]
      simp only [Bool.and_comm, definesFlag]
      rfl
  · have hwf : Instr.wf (.evtStatClear page v same master) = true := by simp [Instr.wf, inPages, isMaster, hpage, hmaster]
    exact completes_of (·.evtStatClear page v same master) rfl hwf
      (Dev.onWrite_of (d := s.clean) (Dev.takesWrite_of_served herr (by decide)))

/-! ## SYSC (R47 to R50) -/

theorem Dev.setCell_other (d : Dev) {page off other : Nat} (v : Word) (hoff : off < 65536) (hother : other < 65536) (h : off ≠ other) :
    (d.setCell page off v).cell page other = d.cell page other := Dev.setCellI_ne d v (cellKey_ne hoff hother 0 0 (.inr h))

/-- SYSC after a write of TIME_CTRL while TIME_SET holds `time` (R49). -/
def Sysc.timeLoaded (x : Sysc) (v : Word) (time : Nat) : Sysc := if bitOf v 0 then { x with time := time, timeFrac := 0 } else x

theorem Sysc.timeLoaded_time (x : Sysc) (v : Word) (time : Nat) : (x.timeLoaded v time).time = if bitOf v 0 then time else x.time :=
  apply_ite Sysc.time ..

theorem Sysc.timeLoaded_timeFrac {x : Sysc} {v : Word} {time : Nat} (h : bitOf v 0 = true) : (x.timeLoaded v time).timeFrac = 0 := by
  unfold Sysc.timeLoaded
  rw [if_pos h]

theorem Sysc.timeLoaded_eq (x : Sysc) (v : Word) (time : Nat) :
    x.timeLoaded v time = { x with time := (x.timeLoaded v time).time, timeFrac := (x.timeLoaded v time).timeFrac } := by
  unfold Sysc.timeLoaded
  split
  · rfl
  · rfl

/-- TIME_LOAD that is taken: the slew is stored, and with LOAD device time is TIME_SET. -/
theorem Dev.timeLoad_of {d : Dev} (v : Word) (master : Nat) (h : d.takesWrite pSYSC 0x808) :
    d.timeLoad v master =
      { d.setCell pSYSC 0x808 (v &&& 0xFFFF0000) with
        sysc := d.sysc.timeLoaded v ((d.cell pSYSC 0x800).toNat + 4294967296 * (d.cell pSYSC 0x804).toNat) } := by
  have hslew : mixed 0 v 0xFFFF0000 = v &&& 0xFFFF0000 := by unfold mixed; simp
  unfold Dev.timeLoad
  rw [Dev.onWrite_of h, hslew]
  dsimp only
  rw [Dev.setCell_other d _ (by decide) (by decide) (by decide), Dev.setCell_other d _ (by decide) (by decide) (by decide)]
  unfold Sysc.timeLoaded
  split
  · rfl
  · rfl

/-- Settles O7: each read answers from SYSC and changes a field of it, and the load is `Sysc.timeLoaded`. -/
theorem syscReadsLatchAndTimeLoads : Obligations.SyscReadsLatchAndTimeLoads := by
  refine ⟨?count, ?low, ?high, ?load⟩
  case count =>
    intro s master hmaster hserved
    exact completes_of (·.fabErrCountRead master) rfl (decide_eq_true hmaster) (Dev.onRead_of (State.clean_takesRead hserved))
  case low =>
    intro s master hmaster hserved
    refine completes_of (·.timeLoRead master) rfl (decide_eq_true hmaster) ?_
    unfold Dev.timeLoRead
    rw [Dev.onRead_of (State.clean_takesRead hserved)]
    exact ⟨rfl, fun m => SMap.get_put .., rfl⟩
  case high =>
    intro s master hmaster hpwr
    refine completes_of (·.unservedPageAccess pSYSC 0x124 false master) rfl (unservedPageAccess_wf _ (by decide) (by decide) hmaster) ?_
    unfold Dev.unservedPageAccess
    rw [if_neg (by decide), if_pos (show (s.clean.hdr pSYSC).pwr = 0 from hpwr)]
    rfl
  case load =>
    intro s v master hmaster htakes
    refine completes_of (·.timeLoad v master) rfl (decide_eq_true hmaster) ?_
    rw [Dev.timeLoad_of v master (State.clean_takesWrite htakes)]
    refine ⟨Dev.setCell_self .., Sysc.timeLoaded_time .., Sysc.timeLoaded_timeFrac, ?_, rfl⟩
    exact congrArg (fun x => { s.clean.setCell pSYSC 0x808 (v &&& 0xFFFF0000) with sysc := x }) (Sysc.timeLoaded_eq ..)

/-! ## Epochs (R39 to R42) -/

/-- A fold of operations that change registers alone, changes registers alone. -/
theorem Dev.each_regs {α : Type} {f : Dev → α → Dev} (h : ∀ x a, f x a = { x with regs := (f x a).regs }) (l : List α) (d : Dev) :
    d.each l f = { d with regs := (d.each l f).regs } := by
  induction l generalizing d with
  | nil => rfl
  | cons a l ih =>
    have hstep : d.each (a :: l) f = { f d a with regs := ((f d a).each l f).regs } := ih (f d a)
    rw [hstep, h d a]

/-- A page that applies an epoch changes registers alone. -/
theorem Dev.applyEpoch_eq (d : Dev) (page : Nat) : d.applyEpoch page = { d with regs := (d.applyEpoch page).regs } := by
  unfold Dev.applyEpoch
  split
  · rfl
  · dsimp only
    rw [Dev.each_regs (fun _ _ => rfl)]
    rfl

theorem Dev.applyEpoch_applied {d : Dev} {page : Nat} (h : (d.hdr page).epochApplied ≠ d.sysc.epoch) :
    ((d.applyEpoch page).hdr page).epochApplied = d.sysc.epoch := by
  unfold Dev.applyEpoch
  rw [if_neg h, Dev.setHdr_hdr, if_pos rfl]

theorem Dev.applyEpoch_snap {d : Dev} {page : Nat} (h : (d.hdr page).epochApplied ≠ d.sysc.epoch) :
    (d.applyEpoch page).regs.snap = d.regs.snap.keep (fun k _ => keyPage k != page) := by
  unfold Dev.applyEpoch
  rw [if_neg h]
  rfl

theorem Dev.applyPending_eq (d : Dev) : d.applyPending = { d with regs := d.applyPending.regs } := Dev.each_regs Dev.applyEpoch_eq _ d

/-- The end of the older epoch is told in SYSC; the newer one goes on. -/
theorem Dev.epochRetire_sysc (d : Dev) : d.epochRetire.sysc = { d.sysc with epochRetired := d.epochRetire.sysc.epochRetired } := by
  unfold Dev.epochRetire
  split
  · simp only [Dev.raise_sysc]
  · rfl

theorem Dev.epochRetire_recordsOnly (d : Dev) : Dev.RecordsOnly { d with sysc := d.epochRetire.sysc } d.epochRetire := by
  unfold Dev.epochRetire
  split
  · rw [Dev.raise_sysc]
    exact Dev.raise_recordsOnly ..
  · rfl

/-- A new epoch, before the older one is tried for its end, changes registers and SYSC's epoch and result. -/
theorem Dev.newEpoch_eq (d : Dev) (ch : List (Nat × Word)) : ∃ regs,
    d.newEpoch ch = Dev.epochRetire { d with regs := regs, sysc := { d.sysc with epoch := d.sysc.epoch + 1, epochResult := 0 } } := by
  unfold Dev.newEpoch
  dsimp only
  rw [Dev.each_regs (fun _ _ => rfl)]
  exact ⟨_, rfl⟩

/-- A record whose type waits for the flush enters the ring (R455). -/
theorem Dev.cfgMake_waits (d : Dev) {type : Nat} (key : Nat) (data : List Word) (h : cfgThrough type = false) :
    d.cfgMake type key data = { d with fsto := (d.cfgMake type key data).fsto } := by
  unfold Dev.cfgMake
  dsimp only
  rw [if_neg (fun hthrough => Bool.false_ne_true (h.symm.trans hthrough.1))]

theorem Dev.idleCheck_eq (d : Dev) : d.idleCheck = { d with powr := d.idleCheck.powr } := by
  unfold Dev.idleCheck
  dsimp only
  repeat' split
  all_goals rfl

theorem Dev.prepRefuse_idle {d : Dev} (block reason : Nat) (h : d.powr.entry ≠ .prepare) : d.prepRefuse block reason = d := if_pos h

/-- A refusal in the prepare phase ends the transition; of SYSC nothing else changes. -/
theorem Dev.prepRefuse_sysc (d : Dev) (block reason : Nat) :
    (d.prepRefuse block reason).sysc = { d.sysc with busy := (d.prepRefuse block reason).sysc.busy } := by
  unfold Dev.prepRefuse
  split
  · rfl
  · rw [Dev.idleCheck_eq]
    simp only [Dev.raise_sysc]
    rfl

theorem Dev.prepRefuse_recordsOnly (d : Dev) (block reason : Nat) :
    Dev.RecordsOnly { d with sysc := (d.prepRefuse block reason).sysc, powr := (d.prepRefuse block reason).powr } (d.prepRefuse block reason) := by
  unfold Dev.prepRefuse
  split
  · rfl
  · dsimp only
    rw [Dev.idleCheck_eq]
    generalize hrefusal : Dev.raise _ pPOWR 1 _ = e
    have hrecords := hrefusal ▸ Dev.raise_recordsOnly ..
    unfold Dev.RecordsOnly at hrecords ⊢
    rw [hrecords]
    rfl

theorem Dev.prepRefuse_epochBusy (d : Dev) (block reason : Nat) : (d.prepRefuse block reason).epochBusy = d.epochBusy := by
  unfold Dev.epochBusy
  rw [Dev.prepRefuse_sysc]

theorem Dev.prepRefuse_cur (d : Dev) (block reason : Nat) : (d.prepRefuse block reason).sysc.cur = d.sysc.cur := by
  rw [Dev.prepRefuse_sysc]

/-- A commit that is refused, outside a prepare phase (R41). -/
theorem Dev.epochCommit_refused {d : Dev} (master : Nat) (htakes : d.takesWrite pSYSC 0x118) (hentry : d.powr.entry ≠ .prepare)
    (h : d.epochBusy = true ∨ d.sysc.cur = .recovery) : d.epochCommit master = d.refuseChange (if d.epochBusy then 1 else 7) master := by
  unfold Dev.epochCommit
  rw [Dev.onWrite_of htakes]
  simp only [Dev.prepRefuse_idle _ _ hentry]
  cases hbusy : d.epochBusy with
  | true => simp
  | false => simp [h.resolve_left (by simp [hbusy])]

/-- A commit that goes through: SYSC has the next epoch, and the memories and the row stay. -/
theorem Dev.epochCommit_advances {d : Dev} (master : Nat) (htakes : d.takesWrite pSYSC 0x118) (hbusy : d.epochBusy = false)
    (hcur : d.sysc.cur ≠ .recovery) :
    (d.epochCommit master).sysc.epoch = d.sysc.epoch + 1 ∧ (d.epochCommit master).sysc.epochResult = 0
      ∧ (d.epochCommit master).sysc.cur = d.sysc.cur ∧ (d.epochCommit master).mem = d.mem ∧ (d.epochCommit master).otp = d.otp := by
  have hbusy' : (d.prepRefuse pSYSC 7).epochBusy = false := (d.prepRefuse_epochBusy pSYSC 7).trans hbusy
  have hcur' : (d.prepRefuse pSYSC 7).sysc.cur ≠ .recovery := by rwa [Dev.prepRefuse_cur]
  unfold Dev.epochCommit
  rw [Dev.onWrite_of htakes]
  simp only [hbusy', hcur', Bool.false_eq_true, if_false]
  rw [Dev.cfgMake_waits _ _ _ (by rfl), Dev.applyPending_eq]
  generalize Dev.changed _ = ch
  obtain ⟨regs, hnew⟩ := Dev.newEpoch_eq (d := _) (ch := ch)
  rw [hnew, Dev.epochRetire_sysc, Dev.prepRefuse_sysc, (Dev.epochRetire_recordsOnly _).field Dev.mem rfl,
    (Dev.epochRetire_recordsOnly _).field Dev.otp rfl]
  exact ⟨rfl, rfl, rfl, (d.prepRefuse_recordsOnly _ _).field Dev.mem rfl, (d.prepRefuse_recordsOnly _ _).field Dev.otp rfl⟩

/-- Settles O8: the refusals are one change of SYSC and an event; the drain is `Dev.applyEpoch`. -/
theorem epochCommitAdvancesOrIsRefused : Obligations.EpochCommitAdvancesOrIsRefused := by
  refine ⟨?refused, ?advances, ?drained⟩
  case refused =>
    intro s master hmaster htakes hentry hrefused
    refine completes_of (·.epochCommit master) rfl (decide_eq_true hmaster) ?_
    rw [Dev.epochCommit_refused (d := s.clean) master (State.clean_takesWrite htakes) hentry hrefused]
    unfold Dev.refuseChange
    refine ⟨Dev.raise_sysc .., ?_, ?_⟩
    · rw [Dev.raise_hdr, if_pos rfl]
      exact bitOf_setBit_same _ (by decide)
    · rw [Dev.raise_sysc]
      exact Dev.raise_recordsOnly ..
  case advances =>
    intro s master hmaster htakes hbusy hcur
    exact completes_of (·.epochCommit master) rfl (decide_eq_true hmaster)
      (Dev.epochCommit_advances (d := s.clean) master (State.clean_takesWrite htakes) hbusy hcur)
  case drained =>
    intro s page hpage hex hidle hbehind
    refine completes_of (·.epochApplyOnDrain page) rfl (decide_eq_true hpage) ?_
    rw [show s.clean.epochApplyOnDrain page = s.clean.applyEpoch page from if_pos ⟨hex, hidle⟩]
    exact ⟨Dev.applyEpoch_applied (d := s.clean) hbehind, Dev.applyEpoch_snap (d := s.clean) hbehind, s.clean.applyEpoch_eq page⟩

end Sys2Proof.Machine
end

/-! # Dies and their operations (O16; R99, R103, R105, R137, R144, R173) -/

section
/-! SUPPORT. What a descriptor changes as it is sent, how SUSPEND and RESUME end, and what a die has become where it issues an item, with the settled
statement after the laws it rests on. -/

namespace Sys2Proof.Machine

/-! ## Epochs and descriptors (R39, R137, R173) -/

theorem Dev.warnCheck_recordsOnly (d : Dev) : Dev.RecordsOnly d d.warnCheck := by
  unfold Dev.warnCheck
  exact Dev.RecordsOnly.trans (b := { d with host := { d.host with warn := d.warnBits } }) rfl
    (Dev.each_recordsOnly _ _ _ fun x _ => x.aen_recordsOnly _)

/-- `e` differs from `d` in the media and in what recording events may change, and in nothing else. -/
def Dev.MediaOnly (d e : Dev) : Prop := Dev.RecordsOnly { d with media := e.media } e

theorem Dev.MediaOnly.refl (d : Dev) : Dev.MediaOnly d d := rfl

theorem Dev.MediaOnly.of_recordsOnly {d e : Dev} (h : Dev.RecordsOnly d e) : Dev.MediaOnly d e := by
  unfold Dev.MediaOnly
  rw [h.field Dev.media rfl]
  exact h

theorem Dev.MediaOnly.trans {a b c : Dev} (h : Dev.MediaOnly a b) (g : Dev.MediaOnly b c) : Dev.MediaOnly a c := by
  unfold Dev.MediaOnly Dev.RecordsOnly at h g ⊢
  rw [h] at g
  exact g

theorem Dev.MediaOnly.each {α : Type} {f : Dev → α → Dev} (h : ∀ x a, Dev.MediaOnly x (f x a)) (l : List α) (d : Dev) :
    Dev.MediaOnly d (d.each l f) := by
  induction l generalizing d with
  | nil => exact .refl d
  | cons a l ih => exact (h d a).trans (ih (f d a))

theorem Dev.MediaOnly.ite {d a b : Dev} {P : Prop} [Decidable P] (ha : Dev.MediaOnly d a) (hb : Dev.MediaOnly d b) :
    Dev.MediaOnly d (if P then a else b) := by
  split
  · exact ha
  · exact hb

theorem Dev.MediaOnly.field {α : Type} {d e : Dev} (h : Dev.MediaOnly d e) (f : Dev → α)
    (hf : f (Dev.recorded { d with media := e.media } e) = f d) : f e = f d := by
  rw [h]
  exact hf

theorem Dev.setDie_mediaOnly (d : Dev) (k : Nat) (f : Die → Die) : Dev.MediaOnly d (d.setDie k f) := rfl

theorem Dev.raise_mediaOnly (d : Dev) (page num : Nat) (ps : List Nat) : Dev.MediaOnly d (d.raise page num ps) :=
  .of_recordsOnly (d.raise_recordsOnly ..)

theorem Dev.reserveCheck_mediaOnly (d : Dev) (k : Nat) : Dev.MediaOnly d (d.reserveCheck k) := by
  unfold Dev.reserveCheck
  extract_lets left d1 d2
  have h1 : Dev.MediaOnly d d1 := .ite ((d.setDie_mediaOnly ..).trans (Dev.raise_mediaOnly ..)) (.refl d)
  have h2 : Dev.MediaOnly d d2 := .ite (h1.trans ((Dev.setDie_mediaOnly ..).trans (Dev.raise_mediaOnly ..))) h1
  exact h2.trans (.of_recordsOnly d2.warnCheck_recordsOnly)

theorem Dev.applyEpoch_recordsOnly (d : Dev) (page : Nat) : Dev.RecordsOnly d (d.applyEpoch page) := by
  rw [Dev.applyEpoch_eq]
  rfl

theorem Dev.mediEpoch_mediaOnly (d : Dev) : Dev.MediaOnly d d.mediEpoch :=
  .ite (.refl d) (.trans (.of_recordsOnly (d.applyEpoch_recordsOnly _)) (.each (fun x k => x.reserveCheck_mediaOnly k) _ _))

theorem Dev.mediEpoch_of_applied {d : Dev} (h : (d.hdr pMEDI).epochApplied = d.sysc.epoch) : d.mediEpoch = d := if_pos h

section
variable {α : Type} {g : Die → α}

theorem Dev.die_toldOnly (d : Dev) {j : Nat} {f : Die → Die} (hf : ∀ x, g (f x) = g x) (page num : Nat) (ps : List Nat) (k : Nat) :
    g (((d.setDie j f).raise page num ps).die k) = g (d.die k) := by
  rw [(Dev.raise_recordsOnly ..).field (fun x => x.die k) rfl, Dev.die_setDie]
  split
  case isTrue h => rw [hf, h]
  case isFalse => rfl

variable (hg : ∀ (x : Die) (low out : Bool), g { x with lowTold := low, outTold := out } = g x)
include hg

/-- Of a die, the check of its reserve may only note that a low or a spent one has been told (R169). -/
theorem Dev.reserveCheck_die (d : Dev) (j k : Nat) : g ((d.reserveCheck j).die k) = g (d.die k) := by
  unfold Dev.reserveCheck
  extract_lets left d1 d2
  have h1 : g (d1.die k) = g (d.die k) := by
    unfold d1
    split
    · exact d.die_toldOnly (fun x => hg x true x.outTold) ..
    · rfl
  have h2 : g (d2.die k) = g (d1.die k) := by
    unfold d2
    split
    · exact d1.die_toldOnly (fun x => hg x x.lowTold true) ..
    · rfl
  rw [d2.warnCheck_recordsOnly.field (fun x => x.die k) rfl, h2, h1]

theorem Dev.mediEpoch_die (d : Dev) (k : Nat) : g (d.mediEpoch.die k) = g (d.die k) := by
  unfold Dev.mediEpoch
  split
  · rfl
  · rw [Dev.each_keeps _ _ _ (fun x => g (x.die k)) fun x j => x.reserveCheck_die hg j k,
      (d.applyEpoch_recordsOnly _).field (fun x => x.die k) rfl]

/-- A descriptor that is sent leaves the dies as they are, but for what a pending epoch of MEDI tells of their reserves. -/
theorem Dev.sendDesc_die (d : Dev) (x : Desc) (deadline k : Nat) : g ((d.sendDesc x deadline).die k) = g (d.die k) := d.mediEpoch_die hg k

end

/-! ## The end of a SUSPEND or a RESUME (R99, R103) -/

@[simp] theorem dieKey_div (sled : Nat) {pos : Nat} (h : pos < 256) : dieKey sled pos / 256 = sled := by unfold dieKey; omega
@[simp] theorem dieKey_mod (sled : Nat) {pos : Nat} (h : pos < 256) : dieKey sled pos % 256 = pos := by unfold dieKey; omega

@[simp] theorem Dev.die_modOp (d : Dev) (key : Nat) (f : OpenOp → OpenOp) (k : Nat) : (d.modOp key f).die k = d.die k := rfl
@[simp] theorem Dev.op_setDie (d : Dev) (k : Nat) (f : Die → Die) (key : Nat) : (d.setDie k f).op key = d.op key := rfl

/-- The part once the answer to an open SUSPEND or RESUME of a die is counted and its descriptor closed (R173). -/
def Dev.controlClosed (d : Dev) (k key : Nat) : Dev := (d.opDone.dieGood k).closeOp key

@[simp] theorem Dev.controlClosed_die (d : Dev) (k key : Nat) : (d.controlClosed k key).die k = { d.die k with faultRun := 0 } :=
  (Dev.die_setDie d.opDone k (fun x => { x with faultRun := 0 }) k).trans (if_pos rfl)
@[simp] theorem Dev.controlClosed_op (d : Dev) (k key r : Nat) : (d.controlClosed k key).op r = if key = r then none else d.op r :=
  SMap.find_del ..
@[simp] theorem Dev.controlClosed_now (d : Dev) (k key : Nat) : (d.controlClosed k key).now = d.now := rfl

theorem Dev.runningOp_of {d : Dev} {k r : Nat} {p : OpenOp} (hrun : (d.die k).running = some r) (hop : d.op r = some p) : d.runningOp k = some p := by
  unfold Dev.runningOp
  rw [hrun]
  exact hop

/-- A die whose faults do not reach eight is not retired for them (R171). -/
theorem Dev.faultCheck_of_ne {d : Dev} {k : Nat} (h : (d.die k).faultRun ≠ 8) : d.faultCheck k = d := if_neg fun hfault => h hfault.1

@[simp] theorem Dev.quiesceCheck_media (d : Dev) (n : Nat) : (d.quiesceCheck n).media = d.media := by
  unfold Dev.quiesceCheck
  split
  · rfl
  · rfl

@[simp] theorem Dev.quiesceCheck_die (d : Dev) (n k : Nat) : (d.quiesceCheck n).die k = d.die k := congrArg (fun m => m.dies.get Die.reset k) (d.quiesceCheck_media n)
@[simp] theorem Dev.quiesceCheck_op (d : Dev) (n k : Nat) : (d.quiesceCheck n).op k = d.op k := congrArg (fun m => m.ops.find k) (d.quiesceCheck_media n)

section
variable {d : Dev} {key result : Nat} {o : OpenOp}

/-- A COMPLETION that is neither GOOD nor a fault ends its operation and ends the die's run of faults (R171, R192). -/
theorem Dev.complete_answered (dieState : Nat) (hresult : result ≠ 0 ∧ result ≠ 7 ∧ result ≠ 8) :
    d.complete key o result dieState
      = ((d.opDone.dieGood (dieKey o.d.sled o.d.pos)).endWith key o result dieState false).faultCheck (dieKey o.d.sled o.d.pos) := by
  unfold Dev.complete
  simp [hresult]

theorem Dev.complete_suspend (hop : o.d.op = 0x30) (hresult : result ≠ 0 ∧ result ≠ 7 ∧ result ≠ 8) :
    d.complete key o result 0
      = ((d.controlClosed (dieKey o.d.sled o.d.pos) key).suspendEnd (dieKey o.d.sled o.d.pos) result).faultCheck (dieKey o.d.sled o.d.pos) := by
  rw [Dev.complete_answered 0 hresult]
  unfold Dev.endWith
  simp [hop, Dev.controlClosed]

theorem Dev.complete_resume (hop : o.d.op = 0x31) (hresult : result ≠ 0 ∧ result ≠ 7 ∧ result ≠ 8) :
    d.complete key o result 0
      = ((d.controlClosed (dieKey o.d.sled o.d.pos) key).resumeEnd (dieKey o.d.sled o.d.pos) result).faultCheck (dieKey o.d.sled o.d.pos) := by
  rw [Dev.complete_answered 0 hresult]
  unfold Dev.endWith
  simp [hop, Dev.controlClosed]

theorem Dev.suspendResult_of {port tag : Nat} (hopen : d.op (port * 65536 + tag) = some o) (hop : o.d.op = 0x30) (hphase : o.phase = .sent) :
    d.suspendResult port tag result = (d.complete (port * 65536 + tag) o result 0).quiesceCheck port := by
  unfold Dev.suspendResult
  simp [hopen, hop, hphase]

theorem Dev.resumeResult_of {port tag : Nat} (hopen : d.op (port * 65536 + tag) = some o) (hop : o.d.op = 0x31) (hphase : o.phase = .sent) :
    d.resumeResult port tag result = (d.complete (port * 65536 + tag) o result 0).quiesceCheck port := by
  unfold Dev.resumeResult
  simp [hopen, hop, hphase]

end

/-- A suspended die that may still take a read stays suspended while one is queued (R99). -/
theorem Dev.resumeCheck_of_read {d : Dev} {k : Nat} (hhold : (d.die k).holdUp = false) (hread : (d.die k).queue.any (fun i => i.kind == .read) = true) :
    d.resumeCheck k = d := if_pos (.inr ⟨hhold, .inl hread⟩)

/-- The reads that run as direct leave the dies' own entries but for the mark on them (R103). -/
theorem Dev.runDirect_media (d : Dev) (k : Nat) :
    (d.runDirect k).media = (d.setDie k (fun x => { x with queue := x.queue.map (fun i => { i with suspends := false }) })).media := by
  unfold Dev.runDirect
  exact Dev.each_keeps _ _ _ Dev.media fun _ _ => rfl

theorem Dev.runDirect_die (d : Dev) (k : Nat) :
    (d.runDirect k).die k = { d.die k with queue := (d.die k).queue.map (fun i => { i with suspends := false }) } := by
  unfold Dev.die
  rw [Dev.runDirect_media]
  exact (Dev.die_setDie ..).trans (if_pos rfl)

@[simp] theorem Dev.runDirect_op (d : Dev) (k key : Nat) : (d.runDirect k).op key = d.op key := by
  unfold Dev.op
  rw [Dev.runDirect_media]
  rfl

/-- With no read queued there is nothing to decide again. -/
theorem Dev.redecide_of_noRead {d : Dev} {k : Nat} (h : (d.die k).queue.any (fun i => i.kind == .read) = false) :
    d.redecide k = d.setDie k (fun x => { x with queue := x.queue.filter (fun i => !(i.kind == .read && i.d.use.decided)) }) := by
  have hnone : (d.die k).queue.filter (fun i => i.kind == .read && i.d.use.decided) = [] := by
    rw [List.filter_eq_nil_iff]
    intro i hi hread
    rw [Bool.and_eq_true] at hread
    exact absurd hread.1 (by simpa using (List.any_eq_false.mp h) i hi)
  unfold Dev.redecide
  dsimp only
  rw [hnone]
  rfl

section
variable {d : Dev} {k r : Nat} {p : OpenOp} (hrun : (d.die k).running = some r) (hop : d.op r = some p)
include hrun hop

theorem Dev.suspended_of_read (hst : (d.die k).st = .suspending) (hread : (d.die k).queue.any (fun i => i.kind == .read) = true) :
    d.suspended k = (d.modOp r (fun o => { o with ran := o.ranNs d.now })).setDie k
      (fun x => { x with st := if p.d.op = 0x20 then .eraseSuspended else .progSuspended, suspendedAt := d.now, holdUp := false, wait := .none }) := by
  unfold Dev.suspended
  rw [if_neg (not_not_intro hst), Dev.runningOp_of hrun hop, hrun]
  dsimp only
  rw [Dev.resumeCheck_of_read]
  · simp
  · simp
  · simpa using hread

theorem Dev.unsuspend_idle (hst : (d.die k).st = .suspending) :
    d.unsuspend k false = (d.setDie k (fun x =>
      { x with psusp := if p.d.op = 0x20 then x.psusp else x.psusp - 1, esusp := if p.d.op = 0x20 then x.esusp - 1 else x.esusp
               wait := .none, st := .idle })).runDirect k := by
  unfold Dev.unsuspend
  rw [if_neg (not_not_intro hst), Dev.runningOp_of hrun hop]
  simp

theorem Dev.resumeEnd_running (hst : (d.die k).st = .resuming) :
    d.resumeEnd k 5 = ((d.modOp r (fun o => { o with startedAt := d.now })).setDie k
      (fun x => { x with st := if p.d.op = 0x20 then .erasing else .programming, lastResume := d.now, wait := .none })).redecide k := by
  unfold Dev.resumeEnd
  rw [if_neg (not_not_intro hst), Dev.runningOp_of hrun hop, hrun]
  simp

end

section
variable {d : Dev} {port tag k r : Nat} {o p : OpenOp} (hopen : d.op (port * 65536 + tag) = some o) (hphase : o.phase = .sent)
  (hk : k = dieKey o.d.sled o.d.pos) (hrun : (d.die k).running = some r) (hne : r ≠ port * 65536 + tag) (hop : d.op r = some p)
include hopen hphase hk hrun hne hop

theorem Dev.suspendResult_suspended (hcode : o.d.op = 0x30) (hst : (d.die k).st = .suspending)
    (hread : (d.die k).queue.any (fun i => i.kind == .read) = true) :
    (d.suspendResult port tag 3).die k = { d.die k with
        st := if p.d.op = 0x20 then .eraseSuspended else .progSuspended, suspendedAt := d.now, holdUp := false, wait := .none, faultRun := 0 }
      ∧ (d.suspendResult port tag 3).op (port * 65536 + tag) = none := by
  have hend := Dev.suspended_of_read (d := d.controlClosed k (port * 65536 + tag)) (k := k) (r := r) (p := p) (by simpa using hrun)
    (by simp [hne.symm, hop]) (by simpa using hst) (by simpa using hread)
  rw [Dev.suspendResult_of hopen hcode hphase, Dev.complete_suspend hcode (by decide), ← hk]
  rw [show Dev.suspendEnd _ k 3 = _ from hend, Dev.faultCheck_of_ne (by simp)]
  simp [hne]

theorem Dev.suspendResult_notRunning (hcode : o.d.op = 0x30) (hst : (d.die k).st = .suspending) :
    (∃ queue, (d.suspendResult port tag 4).die k = { d.die k with
        st := .idle, queue := queue, psusp := if p.d.op = 0x20 then (d.die k).psusp else (d.die k).psusp - 1
        esusp := if p.d.op = 0x20 then (d.die k).esusp - 1 else (d.die k).esusp, wait := .none, faultRun := 0 })
      ∧ (d.suspendResult port tag 4).op (port * 65536 + tag) = none := by
  have hend := Dev.unsuspend_idle (d := d.controlClosed k (port * 65536 + tag)) (k := k) (r := r) (p := p) (by simpa using hrun)
    (by simp [hne.symm, hop]) (by simpa using hst)
  rw [Dev.suspendResult_of hopen hcode hphase, Dev.complete_suspend hcode (by decide), ← hk,
    show Dev.suspendEnd _ k 4 = _ from hend,
    Dev.faultCheck_of_ne (by simp [Dev.runDirect_die])]
  simp [Dev.runDirect_die]

theorem Dev.resumeResult_running (hcode : o.d.op = 0x31) (hst : (d.die k).st = .resuming)
    (hread : (d.die k).queue.any (fun i => i.kind == .read) = false) :
    (∃ queue, (d.resumeResult port tag 5).die k = { d.die k with
        st := if p.d.op = 0x20 then .erasing else .programming, queue := queue, lastResume := d.now, wait := .none, faultRun := 0 })
      ∧ (d.resumeResult port tag 5).op (port * 65536 + tag) = none
      ∧ (d.resumeResult port tag 5).op r = some { p with startedAt := d.now } := by
  have hend := Dev.resumeEnd_running (d := d.controlClosed k (port * 65536 + tag)) (k := k) (r := r) (p := p) (by simpa using hrun)
    (by simp [hne.symm, hop]) (by simpa using hst)
  rw [Dev.resumeResult_of hopen hcode hphase, Dev.complete_resume hcode (by decide), ← hk,
    show Dev.resumeEnd _ k 5 = _ from hend, Dev.redecide_of_noRead (by simpa using hread),
    Dev.faultCheck_of_ne (by simp)]
  simp [hne, hne.symm, hop]

end

/-! ## The hold of a suspension, and a SUSPEND or RESUME that stays unanswered (R99, R105, R144) -/

section
variable {d : Dev} {sled pos : Nat}

theorem Dev.resumeCheck_sensing {k : Nat} (h : d.sensing k ≠ 0) : d.resumeCheck k = d := if_pos (.inl h)

/-- With its hold time over, and no read that senses, a suspended die resumes whatever is queued. -/
theorem Dev.resumeCheck_held {k : Nat} (hsense : d.sensing k = 0) (hhold : (d.die k).holdUp = true) : d.resumeCheck k = d.resumeDie k :=
  if_neg (by simp [hsense, hhold])

theorem Dev.resumeDie_vaulted {k : Nat} (h : (d.port (k / 256)).vaulted = true) : d.resumeDie k = d := if_neg (by simp [h])

theorem Dev.resumeDie_suspended (hpos : pos < 256)
    (hst : (d.die (dieKey sled pos)).st = .progSuspended ∨ (d.die (dieKey sled pos)).st = .eraseSuspended) (hport : (d.port sled).vaulted = false) :
    d.resumeDie (dieKey sled pos) = (d.setDie (dieKey sled pos) (fun y => { y with st := .resuming, holdUp := false })).sendDesc
      { Desc.at_ sled pos 0 .resume with op := 0x31 } d.now := by
  unfold Dev.resumeDie
  simp only [dieKey_div sled hpos, dieKey_mod sled hpos]
  exact if_pos ⟨hst, hport⟩

/-- A die whose suspension has lasted its hold time (R99). -/
def Dev.holdOver (d : Dev) (k : Nat) : Dev := d.setDie k (fun x => { x with holdUp := true })

@[simp] theorem Dev.holdOver_die (d : Dev) (k : Nat) : (d.holdOver k).die k = { d.die k with holdUp := true } :=
  (Dev.die_setDie d k (fun x => { x with holdUp := true }) k).trans (if_pos rfl)

section
variable (hst : (d.die (dieKey sled pos)).st = .progSuspended ∨ (d.die (dieKey sled pos)).st = .eraseSuspended)
include hst

/-- The hold time of a suspended die is over: it resumes as soon as it may. -/
theorem Dev.suspendHoldExpiry_suspended : d.suspendHoldExpiry sled pos = (d.holdOver (dieKey sled pos)).resumeCheck (dieKey sled pos) := if_pos hst

theorem Dev.suspendHoldExpiry_sensing (hsense : d.sensing (dieKey sled pos) ≠ 0) : d.suspendHoldExpiry sled pos = d.holdOver (dieKey sled pos) :=
  (Dev.suspendHoldExpiry_suspended hst).trans (Dev.resumeCheck_sensing hsense)

theorem Dev.suspendHoldExpiry_still (hsense : d.sensing (dieKey sled pos) = 0) :
    d.suspendHoldExpiry sled pos = (d.holdOver (dieKey sled pos)).resumeDie (dieKey sled pos) :=
  (Dev.suspendHoldExpiry_suspended hst).trans (Dev.resumeCheck_held (d := d.holdOver (dieKey sled pos)) hsense (by simp))

theorem Dev.suspendHoldExpiry_vaulted (hpos : pos < 256) (hport : (d.port sled).vaulted = true) :
    d.suspendHoldExpiry sled pos = d.holdOver (dieKey sled pos) := by
  by_cases hsense : d.sensing (dieKey sled pos) = 0
  · rw [Dev.suspendHoldExpiry_still hst hsense]
    exact Dev.resumeDie_vaulted (by rw [dieKey_div sled hpos]; exact hport)
  · exact Dev.suspendHoldExpiry_sensing hst hsense

theorem Dev.suspendHoldExpiry_resumes (hpos : pos < 256) (hsense : d.sensing (dieKey sled pos) = 0) (hport : (d.port sled).vaulted = false) :
    d.suspendHoldExpiry sled pos = ((d.holdOver (dieKey sled pos)).setDie (dieKey sled pos)
      (fun y => { y with st := .resuming, holdUp := false })).sendDesc { Desc.at_ sled pos 0 .resume with op := 0x31 } d.now :=
  (Dev.suspendHoldExpiry_still hst hsense).trans (Dev.resumeDie_suspended hpos (by simpa using hst) hport)

end

theorem Dev.suspendTimeout_of {w : StatusWait} (hwait : (d.die (dieKey sled pos)).wait = .none) (hport : (d.port sled).vaulted = false)
    (h : (d.die (dieKey sled pos)).st = .suspending ∧ w = .suspend ∨ (d.die (dieKey sled pos)).st = .resuming ∧ w = .resume) :
    d.suspendTimeout sled pos = (d.setDie (dieKey sled pos) (fun x => { x with wait := w })).sendDesc { Desc.at_ sled pos 0 .status with op := 0x40 } d.now := by
  unfold Dev.suspendTimeout
  rcases h with ⟨hst, rfl⟩ | ⟨hst, rfl⟩
  · simp [hst, hwait, hport]
  · simp [hst, hwait, hport]

end

/-! ## Dispatch (R96, R99) -/

theorem Dev.newRec_host_of_sev (d : Dev) {r : Rec} (h : r.sev ≠ 3) : (d.newRec r).host = d.host := by
  have hlost : ∀ (x : Dev) (lost : Option Nat), (x.countLost lost).host = x.host := by
    intro x lost
    cases lost <;> rfl
  have halert : ∀ x : Dev, (x.alerted r.sev).host = x.host := by
    intro x
    unfold Dev.alerted
    rw [if_neg h]
    dsimp only
    split <;> rfl
  unfold Dev.newRec
  extract_lets a
  split
  · exact (halert _).trans (hlost ..)
  · exact hlost ..

/-- Of the host's side, only a critical event tells anything (R308). -/
theorem Dev.raise_host_of_sev (d : Dev) {page num : Nat} (ps : List Nat) (h : sevOf page num ≠ 3) : (d.raise page num ps).host = d.host := by
  unfold Dev.raise
  dsimp only
  split
  · rfl
  · split
    · unfold Dev.offer
      dsimp only
      split
      · rfl
      · exact Dev.newRec_host_of_sev _ h
    · rfl


/-- The state of a die that runs an item of a kind (R99). -/
def ItemKind.dieState : ItemKind → DieState
  | .read => .reading | .program => .programming | .erase => .erasing

/-- `e` has the dies, the open operations and the next TAGs of `d`, and of SYSC, the host and the zones nothing else: what precedes an item's
descriptor as it is issued. -/
structure Dev.Prepares (d e : Dev) : Prop where
  dies : e.media.dies = d.media.dies
  ops : e.media.ops = d.media.ops
  tags : e.media.tags = d.media.tags
  sysc : e.sysc = d.sysc
  epoch : (e.hdr pMEDI).epochApplied = (d.hdr pMEDI).epochApplied
  zone : e.zone = d.zone
  host : e.host = d.host
  mem : e.mem = d.mem

namespace Dev.Prepares

variable {d e : Dev} (h : d.Prepares e)

theorem refl (d : Dev) : d.Prepares d := ⟨rfl, rfl, rfl, rfl, rfl, rfl, rfl, rfl⟩

include h

theorem now : e.now = d.now := congrArg Sysc.time h.sysc
theorem die (k : Nat) : e.die k = d.die k := congrArg (SMap.get Die.reset · k) h.dies
theorem op (key : Nat) : e.op key = d.op key := congrArg (SMap.find · key) h.ops
theorem applied (hepoch : (d.hdr pMEDI).epochApplied = d.sysc.epoch) : (e.hdr pMEDI).epochApplied = e.sysc.epoch := by rw [h.epoch, h.sysc, hepoch]
theorem nextTag (port : Nat) : e.nextTag port = d.nextTag port := by unfold Dev.nextTag; rw [h.ops, h.tags]

theorem count (page off n : Nat) : d.Prepares (e.count page off n) := { h with }
theorem setBlk (b : Nat) (f : Block → Block) : d.Prepares (e.setBlk b f) := { h with }

theorem modSub (i : Nat) (f : Sub → Sub) : d.Prepares (e.modSub i f) := { h with }

theorem noteAccess (u : DieUse) : d.Prepares (e.noteAccess u) := by
  unfold Dev.noteAccess
  split
  · exact h.modSub ..
  · split
    · split
      · exact h.modSub ..
      · exact h
    · exact h
  · exact h

theorem psn (p : Pkt) : d.Prepares (e.psn p) := by
  unfold Dev.psn
  split
  · dsimp only
    split
    · exact { h with }
    · exact { h with }
  · exact h

theorem journal (b : JBody) : d.Prepares (e.journal b) := by
  unfold Dev.journal
  refine psn ?_ _
  exact { h with }

theorem raise {page num : Nat} (ps : List Nat) (hsev : sevOf page num ≠ 3) : d.Prepares (e.raise page num ps) where
  dies := by rw [Dev.raise_media, h.dies]
  ops := by rw [Dev.raise_media, h.ops]
  tags := by rw [Dev.raise_media, h.tags]
  sysc := by rw [Dev.raise_sysc, h.sysc]
  epoch := by
    rw [Dev.raise_hdr, ← h.epoch]
    split
    case isTrue hpage => rw [hpage]; rfl
    case isFalse => rfl
  zone := by rw [Dev.raise_zone, h.zone]
  host := by rw [Dev.raise_host_of_sev _ _ hsev, h.host]
  mem := by rw [Dev.raise_mem, h.mem]

theorem rawIssue (k : Nat) (x : Desc) : d.Prepares (e.rawIssue k x) := by
  unfold Dev.rawIssue
  split
  · refine raise ?_ _ (by decide)
    exact { h with }
  · exact h

theorem eraseIntent (b : Nat) (slc : Bool) : d.Prepares (e.eraseIntent b slc) := (h.setBlk ..).journal _

end Dev.Prepares

theorem Dev.noteAccess_blk (d : Dev) (u : DieUse) (b : Nat) : (d.noteAccess u).blk b = d.blk b := by
  unfold Dev.noteAccess
  split
  · rfl
  · split
    · split
      · rfl
      · rfl
    · rfl
  · rfl

theorem Dev.journal_media (d : Dev) (b : JBody) : (d.journal b).media = d.media := by
  unfold Dev.journal Dev.psn
  dsimp only
  split
  · split
    · rfl
    · rfl
  · rfl

theorem Dev.eraseIntent_blk (d : Dev) (b : Nat) (slc : Bool) : ∃ x, (d.eraseIntent b slc).media.blocks.find b = some x
    ∧ x.st = .erasing ∧ x.erases = (d.blk b).erases + 1 := by
  unfold Dev.eraseIntent
  simp only [Dev.journal_media, Dev.setBlk_media, SMap.find_set, if_true]
  exact ⟨_, rfl, rfl, rfl⟩

/-- A block that is listed reads as listed. -/
theorem Dev.blk_of_find {d : Dev} {b : Nat} {x : Block} (h : d.media.blocks.find b = some x) : d.blk b = x := by
  unfold Dev.blk
  rw [h]
  rfl

/-- A descriptor with the TAG and the DEADLINE that it is sent with. -/
def Desc.stamped (x : Desc) (tag deadline : Nat) : Desc := { x with tag := tag, deadline := deadline }

@[simp] theorem Desc.stamped_op (x : Desc) (tag deadline : Nat) : (x.stamped tag deadline).op = x.op := rfl
@[simp] theorem Desc.stamped_block (x : Desc) (tag deadline : Nat) : (x.stamped tag deadline).block = x.block := rfl

/-- What a descriptor changes as it is sent, with no epoch of MEDI pending (R137, R173). -/
theorem Dev.sendDesc_eq {d : Dev} (x : Desc) (deadline : Nat) (h : (d.hdr pMEDI).epochApplied = d.sysc.epoch) :
    ∃ regs ports tags o tag sent, d.sendDesc x deadline = { d with
        regs := regs, ports := ports, media := { d.media with ops := d.media.ops.set (x.sled * 65536 + d.nextTag x.sled) o, tags := tags } }
      ∧ o.d = x.stamped tag sent ∧ o.phase = .sent ∧ o.issued = d.now := by
  unfold Dev.sendDesc
  rw [Dev.mediEpoch_of_applied h]
  exact ⟨_, _, _, _, d.nextTag x.sled, sentDeadline d.now deadline, rfl, rfl, rfl, rfl⟩

theorem Dev.sendDesc_blocks {d : Dev} (x : Desc) (deadline : Nat) (h : (d.hdr pMEDI).epochApplied = d.sysc.epoch) :
    (d.sendDesc x deadline).media.blocks = d.media.blocks := by
  obtain ⟨_, _, _, _, _, _, hsent, _⟩ := Dev.sendDesc_eq x deadline h
  rw [hsent]

/-- The descriptor of item `i`, issued in `d`, is open in `e`. -/
def Dev.Opens (d e : Dev) (i : QItem) : Prop :=
  ∃ o, e.op (i.d.sled * 65536 + d.nextTag i.d.sled) = some o ∧ o.d.op = i.d.op ∧ o.d.block = i.d.block ∧ o.phase = .sent ∧ o.issued = d.now

/-- `e` is `d` with the descriptor of item `i` sent, as far as dies, the host and the zones go. -/
structure Dev.Sends (d e : Dev) (i : QItem) : Prop where
  dies : e.media.dies = d.media.dies
  opens : d.Opens e i
  zone : e.zone = d.zone
  host : e.host = d.host
  mem : e.mem = d.mem

theorem Dev.Prepares.sendDesc {d e : Dev} (h : d.Prepares e) {i : QItem} {x : Desc} (deadline : Nat)
    (hepoch : (d.hdr pMEDI).epochApplied = d.sysc.epoch) (hsled : x.sled = i.d.sled) (hop : x.op = i.d.op) (hblock : x.block = i.d.block) :
    d.Sends (e.sendDesc x deadline) i := by
  obtain ⟨regs, ports, tags, o, tag, sent, hsent, hdesc, hphase, hissued⟩ := Dev.sendDesc_eq (d := e) x deadline (h.applied hepoch)
  rw [hsent]
  refine { dies := h.dies, zone := h.zone, host := h.host, mem := h.mem
           opens := ⟨o, ?_, by rw [hdesc, Desc.stamped_op, hop], by rw [hdesc, Desc.stamped_block, hblock], hphase, hissued.trans h.now⟩ }
  unfold Dev.op
  rw [← hsled, ← h.nextTag]
  exact (SMap.find_set ..).trans (if_pos rfl)

theorem Dev.Sends.each_send {d e : Dev} {i : QItem} (h : d.Sends e i) (n : Nat) (l : List Pkt) :
    d.Sends (e.each l (fun x p => x.send (.port n) p)) i := by
  induction l generalizing e with
  | nil => exact h
  | cons p l ih => exact ih { h with }

theorem Dev.Sends.modOp {d e : Dev} {i : QItem} (h : d.Sends e i) (key : Nat) {f : OpenOp → OpenOp}
    (hf : ∀ o, (f o).d = o.d ∧ (f o).phase = o.phase ∧ (f o).issued = o.issued) : d.Sends (e.modOp key f) i where
  dies := h.dies
  zone := h.zone
  host := h.host
  mem := h.mem
  opens := by
    obtain ⟨o, hopen, hop, hblock, hphase, hissued⟩ := h.opens
    obtain ⟨hd, hp, hi⟩ := hf o
    unfold Dev.Opens
    rw [Dev.op_modOp, hopen]
    split
    · exact ⟨f o, rfl, by rw [hd, hop], by rw [hd, hblock], by rw [hp, hphase], by rw [hi, hissued]⟩
    · exact ⟨o, rfl, hop, hblock, hphase, hissued⟩

/-- `e` is `d` with item `i` issued on die `k`, which runs it from now on (R99). -/
structure Dev.Issued (d e : Dev) (k : Nat) (i : QItem) : Prop where
  st : (e.die k).st = i.kind.dieState
  startAt : (e.die k).startAt = d.now
  queue : (e.die k).queue = (d.die k).queue
  erasing : i.kind = .erase → (e.blk (k * 2048 + i.d.block)).st = .erasing
    ∧ (e.blk (k * 2048 + i.d.block)).erases = (d.blk (k * 2048 + i.d.block)).erases + 1
  opens : d.Opens e i
  zone : e.zone = d.zone
  host : e.host = d.host
  mem : e.mem = d.mem

/-- With its descriptor sent, the item is issued where the die's entry says so, and for an erase the block's. -/
theorem Dev.Issued.of_sends {d e : Dev} {k : Nat} {i : QItem} {f : Die → Die} (h : d.Sends e i) (hst : ∀ x, (f x).st = i.kind.dieState)
    (hstart : ∀ x, (f x).startAt = d.now) (hqueue : ∀ x, (f x).queue = x.queue)
    (herase : i.kind = .erase → ∃ x, e.media.blocks.find (k * 2048 + i.d.block) = some x ∧ x.st = .erasing
      ∧ x.erases = (d.blk (k * 2048 + i.d.block)).erases + 1) : d.Issued (e.setDie k f) k i where
  st := by simp [hst]
  startAt := by simp [hstart]
  queue := by
    have hdie : e.die k = d.die k := congrArg (SMap.get Die.reset · k) h.dies
    simp [hqueue, hdie]
  erasing hkind := by
    obtain ⟨x, hfind, hx⟩ := herase hkind
    rw [Dev.blk_of_find (d := e.setDie k f) hfind]
    exact hx
  opens := h.opens
  zone := h.zone
  host := h.host
  mem := h.mem

/-- The part once the dispatch of an item is counted and its access noted (R71, R116). -/
def Dev.itemTaken (d : Dev) (i : QItem) : Dev := (d.count pSCHD 0x204 1).noteAccess i.d.use

theorem Dev.itemTaken_prepares (d : Dev) (i : QItem) : d.Prepares (d.itemTaken i) := ((Dev.Prepares.refl d).count ..).noteAccess _

theorem Dev.itemTaken_blk (d : Dev) (i : QItem) (b : Nat) : (d.itemTaken i).blk b = d.blk b := Dev.noteAccess_blk ..

section
variable {d : Dev} {k : Nat} {i : QItem} (hepoch : (d.hdr pMEDI).epochApplied = d.sysc.epoch)
include hepoch

theorem Dev.issueItem_read (hkind : i.kind = .read) (hst : (d.die k).st = .idle) : d.Issued (d.issueItem k i) k i := by
  have htaken := d.itemTaken_prepares i
  unfold Dev.issueItem
  simp only [hkind, hst, if_true]
  refine .of_sends (Dev.Prepares.sendDesc (.setBlk (.setBlk ?_ ..) ..) _ hepoch rfl rfl rfl) (by simp [hkind, ItemKind.dieState]) (by simp) (by simp)
    (by simp [hkind])
  split
  · exact htaken.rawIssue ..
  · exact htaken

theorem Dev.issueItem_program (hkind : i.kind = .program) : d.Issued (d.issueItem k i) k i := by
  unfold Dev.issueItem
  simp only [hkind]
  exact .of_sends (((d.itemTaken_prepares i).sendDesc _ hepoch rfl rfl rfl).each_send ..) (by simp [hkind, ItemKind.dieState]) (by simp) (by simp)
    (by simp [hkind])

theorem Dev.issueItem_erase (hkind : i.kind = .erase) : d.Issued (d.issueItem k i) k i := by
  have hintent := (d.itemTaken_prepares i).eraseIntent (k * 2048 + i.d.block) i.d.slc
  have hblocks : (((d.itemTaken i).eraseIntent (k * 2048 + i.d.block) i.d.slc).sendDesc i.d i.deadline).media.blocks
      = ((d.itemTaken i).eraseIntent (k * 2048 + i.d.block) i.d.slc).media.blocks := Dev.sendDesc_blocks _ _ (hintent.applied hepoch)
  unfold Dev.issueItem
  simp only [hkind]
  refine .of_sends ((hintent.sendDesc _ hepoch rfl rfl rfl).modOp _ fun _ => ⟨rfl, rfl, rfl⟩) (by simp [hkind, ItemKind.dieState]) (by simp) (by simp)
    fun _ => ?_
  rw [← Dev.itemTaken_blk d i, Dev.modOp_media]
  exact hblocks ▸ Dev.eraseIntent_blk ..

/-- An item that an idle die issues (R96, R99). -/
theorem Dev.issueItem_issued (hst : (d.die k).st = .idle) : d.Issued (d.issueItem k i) k i := by
  cases hkind : i.kind with
  | read => exact Dev.issueItem_read hepoch hkind hst
  | program => exact Dev.issueItem_program hepoch hkind
  | erase => exact Dev.issueItem_erase hepoch hkind

end

/-- An item leaves its die's queue. -/
def Dev.dequeued (d : Dev) (k : Nat) (i : QItem) : Dev := d.setDie k (fun x => { x with queue := x.queue.filter (fun j => j.seq != i.seq) })

@[simp] theorem Dev.dequeued_die (d : Dev) (k : Nat) (i : QItem) (j : Nat) : (d.dequeued k i).die j
    = if k = j then { d.die k with queue := (d.die k).queue.filter (fun n => n.seq != i.seq) } else d.die j := Dev.die_setDie ..

@[simp] theorem Dev.dequeued_blk (d : Dev) (k : Nat) (i : QItem) (b : Nat) : (d.dequeued k i).blk b = d.blk b := by
  have hbad : ((d.dequeued k i).die (b / 2048)).factoryBad = (d.die (b / 2048)).factoryBad := by
    rw [Dev.dequeued_die]
    split
    case isTrue h => rw [h]
    case isFalse => rfl
  unfold Dev.blk
  rw [hbad]
  rfl

/-- A die in use takes its next item (R96, R140, R160). -/
theorem Dev.dispatchDie_issues {d : Dev} {k : Nat} {i : QItem} (hwait : d.stepWaits k = false) (hnext : d.nextItem k = some i)
    (hepoch : (d.hdr pSCHD).epochApplied = d.sysc.epoch) (hpresent : d.diePresent k = true) (hretired : (d.die k).retired = false)
    (hspent : d.eraseSpent (k * 2048 + i.d.block) i = false) : d.dispatchDie k = (d.dequeued k i).issueItem k i := by
  have hpresent' : (d.dequeued k i).diePresent k = true := by
    unfold Dev.diePresent at hpresent ⊢
    rw [Dev.dequeued_die, if_pos rfl]
    exact hpresent
  have hspent' : (d.dequeued k i).eraseSpent (k * 2048 + i.d.block) i = false := by
    unfold Dev.eraseSpent at hspent ⊢
    rw [Dev.dequeued_blk]
    exact hspent
  have happlied : d.applyEpoch pSCHD = d := if_pos hepoch
  unfold Dev.dispatchDie
  simp only [hwait, Bool.false_eq_true, false_and, if_false, hnext, happlied]
  rw [show d.setDie k _ = d.dequeued k i from rfl, if_neg (by simp [hpresent', hretired]), hspent', if_neg Bool.false_ne_true]

theorem Dev.dieDispatch_up {d : Dev} {sled pos : Nat} (hup : (d.port sled).st = .up) (hvaulted : (d.port sled).vaulted = false)
    (hvalt : d.valt.st = .idle) (hheld : hasBit d.peer.fenceLost sled = false) (hroom : d.ringRoom = true) :
    d.dieDispatch sled pos = d.dispatchDie (dieKey sled pos) := by
  unfold Dev.dieDispatch
  simp [hup, hvaulted, hvalt, hheld, hroom]

theorem Dev.dieDispatch_notUp {d : Dev} {sled pos : Nat} (hup : (d.port sled).st ≠ .up)
    (hwait : (d.port sled).st = .quiescing → d.stepWaits (dieKey sled pos) = false) : d.dieDispatch sled pos = d := by
  unfold Dev.dieDispatch
  dsimp only
  rw [if_neg (c := _ ∧ d.ringRoom = true) fun h => hup h.1,
    if_neg (c := _ ∧ _ ∧ _) fun h => Bool.false_ne_true ((hwait h.1).symm.trans h.2.1), ite_self]

/-- Settles O16: an item issued, an answer to SUSPEND or RESUME, and an expiry each leave one entry of the die. -/
theorem diesMoveThroughTheirStates : Obligations.DiesMoveThroughTheirStates := by
  have hdie : ∀ {sled pos : Nat}, sled < 16 → pos < 256 → (isSlot sled && isPos pos) = true := by
    intro sled pos hsled hpos
    simp [isSlot, isPos, hsled, hpos]
  have htag : ∀ {sled tag : Nat}, sled < 16 → tag < 65536 → (isSlot sled && isTag tag) = true := by
    intro sled tag hsled htag
    simp [isSlot, isTag, hsled, htag]
  refine ⟨?dispatch, ?notUp, ?suspend, ?hold, ?resume, ?timeout⟩
  case dispatch =>
    rintro s sled pos k i hsled hpos rfl hup hvaulted hvalt hheld hroom hschd hmedi hwait hst hnext hpresent hretired hspent hfree
    refine completes_of (·.dieDispatch sled pos) rfl (hdie hsled hpos) ?_
    rw [Dev.dieDispatch_up (d := s.clean) hup hvaulted hvalt hheld hroom,
      Dev.dispatchDie_issues (d := s.clean) hwait hnext hschd hpresent hretired hspent]
    have h := Dev.issueItem_issued (d := s.clean.dequeued (dieKey sled pos) i) (k := dieKey sled pos) (i := i) hmedi (by simpa using hst)
    obtain ⟨o, hopen, ho⟩ := h.opens
    refine ⟨?_, h.startAt, ?_, fun hkind => ?_, ⟨_, o, hopen, hfree, ho⟩, h.zone, h.host, h.mem⟩
    · rw [h.st]
      cases i.kind <;> rfl
    · rw [h.queue]
      simp
    · simpa using h.erasing hkind
  case notUp =>
    intro s sled pos hsled hpos hup hwait
    exact completes_of (·.dieDispatch sled pos) rfl (hdie hsled hpos) (Dev.dieDispatch_notUp (d := s.clean) hup hwait)
  case suspend =>
    rintro s sled tag k key r o p hsled htaglt rfl hopen hcode hphase hk hst hrun hne hop hread
    refine ⟨completes_of (·.suspendResult sled tag 3) rfl (htag hsled htaglt) ?_, completes_of (·.suspendResult sled tag 4) rfl (htag hsled htaglt) ?_⟩
    · obtain ⟨hdie, hclosed⟩ := Dev.suspendResult_suspended (d := s.clean) hopen hphase hk hrun hne hop hcode hst hread
      rw [hdie]
      exact ⟨rfl, rfl, rfl, rfl, hclosed⟩
    · obtain ⟨⟨queue, hdie⟩, hclosed⟩ := Dev.suspendResult_notRunning (d := s.clean) hopen hphase hk hrun hne hop hcode hst
      rw [hdie]
      exact ⟨rfl, hclosed, rfl, rfl⟩
  case hold =>
    rintro s sled pos k hsled hpos rfl
    refine completes_of (·.suspendHoldExpiry sled pos) rfl (hdie hsled hpos) ⟨fun hst hsense hport => ?_, fun hst hwait => ?_, fun hprog herase => ?_⟩
    · rw [Dev.suspendHoldExpiry_resumes (d := s.clean) hst hpos hsense hport]
      refine ⟨?_, rfl⟩
      rw [Dev.sendDesc_die (g := Die.st) fun _ _ _ => rfl]
      simp
    · rcases hwait with hsense | hport
      · exact Dev.suspendHoldExpiry_sensing (d := s.clean) hst hsense
      · exact Dev.suspendHoldExpiry_vaulted (d := s.clean) hst hpos hport
    · exact if_neg fun h => h.elim hprog herase
  case resume =>
    rintro s sled tag k key r o p hsled htaglt rfl hopen hcode hphase hk hst hrun hne hop hread
    refine completes_of (·.resumeResult sled tag 5) rfl (htag hsled htaglt) ?_
    obtain ⟨⟨queue, hdie⟩, hclosed, hrestarted⟩ := Dev.resumeResult_running (d := s.clean) hopen hphase hk hrun hne hop hcode hst hread
    rw [hdie]
    exact ⟨rfl, rfl, hclosed, hrestarted⟩
  case timeout =>
    rintro s sled pos k w hsled hpos rfl hwait hport hst
    refine completes_of (·.suspendTimeout sled pos) rfl (hdie hsled hpos) ?_
    rw [Dev.suspendTimeout_of (d := s.clean) hwait hport hst]
    refine ⟨?_, ?_, rfl⟩
    · rw [Dev.sendDesc_die (g := Die.wait) fun _ _ _ => rfl]
      simp
    · rw [Dev.sendDesc_die (g := Die.st) fun _ _ _ => rfl]
      simp

end Sys2Proof.Machine
end

/-! # Read-around credits (O18; R107 to R110, R112, R114) -/

section
/-! SUPPORT. What paying for a reconstruction and asking its members changes of pools, sub-requests and the wait for pool 65, with the settled statement
after the laws it rests on. -/

namespace Sys2Proof.Machine

/-! ## What asking a member leaves -/

@[simp] theorem Dev.sendDesc_sched (d : Dev) (x : Desc) (deadline : Nat) : (d.sendDesc x deadline).sched = d.sched :=
  d.mediEpoch_mediaOnly.field Dev.sched rfl

@[simp] theorem Dev.suspendDie_sched (d : Dev) (k : Nat) : (d.suspendDie k).sched = d.sched := by
  unfold Dev.suspendDie
  dsimp only
  split
  · exact Dev.sendDesc_sched ..
  · exact Dev.sendDesc_sched ..
  · rfl

/-- Reads that enter a queue take their places in the order of admission, and of SCHD change nothing else. -/
theorem Dev.enqueueReads_sched {α : Type} {g : Sched → α} (hg : ∀ (x : Sched) (n : Nat), g { x with order := n } = g x) (d : Dev) (pages : List Nat)
    (sled pos block wl off count due gen : Nat) (e : Word) (susp : Bool) (use : DieUse) :
    g (d.enqueueReads pages sled pos block wl off count due gen e susp use).sched = g d.sched :=
  Dev.each_keeps _ _ _ (fun x => g x.sched) fun x _ => hg x.sched _

theorem Dev.ite_keeps {α : Type} {g : Dev → α} {P : Prop} [Decidable P] {a b : Dev} {v : α} (ha : g a = v) (hb : g b = v) :
    g (if P then a else b) = v := by
  split
  · exact ha
  · exact hb

/-- The pools, the sub-requests, and whether reconstruction `i` waits for pool 65. -/
def Sched.account (x : Sched) (i : Nat) : SMap Pool × SMap Sub × Option Bool := (x.pools, x.subs, (x.recons.find i).map Recon.waiting)

/-- A reconstruction changed otherwise than in its waiting leaves every account. -/
theorem Dev.modRecon_account (d : Dev) {j : Nat} {f : Recon → Recon} (hf : ∀ r, (f r).waiting = r.waiting) (i : Nat) :
    (d.modRecon j f).sched.account i = d.sched.account i := by
  have hwait : ((d.modRecon j f).sched.recons.find i).map Recon.waiting = (d.sched.recons.find i).map Recon.waiting := by
    rw [Dev.recon_modRecon]
    split
    · rw [Option.map_map]
      exact congrArg (Option.map · _) (funext hf)
    · rfl
  unfold Sched.account
  rw [hwait]
  rfl

theorem Dev.askMember_account (d : Dev) (j m : Nat) (pay : Option Nat) (i : Nat) : (d.askMember j m pay).sched.account i = d.sched.account i := by
  unfold Dev.askMember
  cases hrecon : d.sched.recons.find j with
  | none => rfl
  | some r =>
    cases hgroup : d.groupFor (zoneKey r.nsid r.zone) r.row r.old with
    | none =>
      simp only [hgroup]
    | some g =>
      simp only [hgroup]
      refine Dev.ite_keeps (g := fun x => x.sched.account i) ?_ ?_
      · rw [Dev.suspendDie_sched, Dev.enqueueReads_sched (g := (Sched.account · i)) fun _ _ => rfl]
        exact d.modRecon_account (by exact fun _ => rfl) i
      · rw [Dev.enqueueReads_sched (g := (Sched.account · i)) fun _ _ => rfl]
        exact d.modRecon_account (by exact fun _ => rfl) i

/-- A reconstruction that begins waits no more; beside it neither pools nor sub-requests change (R107, R112). -/
theorem Dev.beginRecon_account {d : Dev} {i : Nat} {r : Recon} (h : d.sched.recons.find i = some r) (set : List Nat) (src : RowSrc) (pay : Option Nat) :
    (d.beginRecon i set src pay).sched.account i = (d.sched.pools, d.sched.subs, some false) := by
  have hbegun : ∀ f : Recon → Recon, (∀ x, (f x).waiting = false) →
      ((d.modRecon i f).count pPRTY 0x140 1).sched.account i = (d.sched.pools, d.sched.subs, some false) := by
    intro f hf
    unfold Sched.account
    rw [show ((d.modRecon i f).count pPRTY 0x140 1).sched = _ from Dev.modRecon_sched ..]
    simp [h, hf]
  have hready : ∀ e : Dev, (e.reconReady i).sched = e.sched := by
    intro e
    unfold Dev.reconReady
    split
    · rfl
    · rfl
  unfold Dev.beginRecon
  simp only [h]
  refine Dev.ite_keeps (g := fun x => x.sched.account i) ?_ ?_
  · rw [hready]
    exact hbegun _ fun _ => rfl
  · exact (Dev.each_keeps _ _ _ (fun x => x.sched.account i) fun x m => x.askMember_account i m pay i).trans (hbegun _ fun _ => rfl)

section
variable {d : Dev} {i : Nat} {r : Recon} (h : d.sched.recons.find i = some r) (set : List Nat) (src : RowSrc) (pay : Option Nat)
include h

theorem Dev.beginRecon_pools : (d.beginRecon i set src pay).sched.pools = d.sched.pools := congrArg Prod.fst (Dev.beginRecon_account h set src pay)

theorem Dev.beginRecon_subs : (d.beginRecon i set src pay).sched.subs = d.sched.subs :=
  congrArg (fun a => a.2.1) (Dev.beginRecon_account h set src pay)

theorem Dev.beginRecon_waiting {y : Recon} (hy : (d.beginRecon i set src pay).sched.recons.find i = some y) : y.waiting = false := by
  have hwait : ((d.beginRecon i set src pay).sched.recons.find i).map Recon.waiting = some false :=
    congrArg (fun a => a.2.2) (Dev.beginRecon_account h set src pay)
  rw [hy] at hwait
  exact Option.some.inj hwait

end

/-! ## Credits taken and refused (R107, R110, R114) -/

theorem Dev.payCredits_pool (d : Dev) (p n q : Nat) : (d.payCredits p n).pool q
    = if p = q then { d.pool p with avail := (d.pool p).avail - n, held := (d.pool p).held + n } else d.pool q := Dev.pool_setPool ..

theorem Dev.pool_of_pools {d e : Dev} (h : d.sched.pools = e.sched.pools) (p : Nat) : d.pool p = e.pool p := congrArg (SMap.get Pool.reset · p) h

theorem Dev.refuseCredits_pool (d : Dev) (p n slice : Nat) : (d.refuseCredits p n slice).pool p = { d.pool p with refused := (d.pool p).refused + 1 } := by
  unfold Dev.refuseCredits
  rw [Dev.pool_of_pools (congrArg Sched.pools (Dev.raise_sched ..)), Dev.pool_setPool, if_pos rfl]

/-- An event sets its flag (R43). -/
theorem Dev.raise_flag (d : Dev) {page num : Nat} (ps : List Nat) (h : evtFlag page num < 32) :
    bitOf ((d.raise page num ps).hdr page).evtStat (evtFlag page num) = true := by
  rw [Dev.raise_hdr, if_pos rfl]
  exact bitOf_setBit_same _ h

theorem Dev.refuseCredits_flag (d : Dev) (p n slice : Nat) : bitOf ((d.refuseCredits p n slice).hdr pSCHD).evtStat 2 = true :=
  Dev.raise_flag _ _ (by decide)

theorem Dev.refuseCredits_recordsOnly (d : Dev) (p n slice : Nat) :
    Dev.RecordsOnly { d with sched := { d.sched with pools := (d.refuseCredits p n slice).sched.pools } } (d.refuseCredits p n slice) := by
  unfold Dev.refuseCredits
  rw [Dev.raise_sched]
  exact Dev.raise_recordsOnly ..

/-! ## HEDGE_START (R114) -/

/-- The bit of HEDGE_CTRL that lets a class be hedged; Class C has none. -/
def Cls.hedgeBit : Cls → Nat
  | .a => 4 | .b => 5 | .c => 31

section
variable {d : Dev} {id : Nat} {x : Sub} (hfind : d.sched.subs.find id = some x)
include hfind

theorem Dev.hedgeStart_excluded (h : x.hedged = true ∨ x.cls = .c) : d.hedgeStart id = d := by
  unfold Dev.hedgeStart
  simp only [hfind]
  rcases h with h | h
  · rw [if_pos (.inr (.inl h))]
  · rw [if_pos (.inl (by simp [h]))]

variable {g : Group} {t : Nat} {set : List Nat} (hcls : x.cls ≠ .c)
  (hon : bitOf (d.cellAt x.epoch pSCHD 0x114 0) x.cls.hedgeBit = true) (hhedged : x.hedged = false)
  (hrecon : x.recon = none) (hpath : x.path = .direct ∨ x.path = .suspend) (hmay : d.mayAround x = true)
  (hgroup : d.groupFor (zoneKey x.nsid x.zone) x.row x.old = some g)
  (haround : d.tAround (d.zns (zoneKey x.nsid x.zone)) g x.row
    (d.rowSrc (d.zns (zoneKey x.nsid x.zone)) (zoneKey x.nsid x.zone) x.row x.unit x.old) (d.probeOf x g) = some (t, set))
include hcls hon hhedged hrecon hpath hmay hgroup haround

theorem Dev.hedgeStart_eq : d.hedgeStart id =
    if d.canPay x.req.pool set.length then
      (((((d.payCredits x.req.pool set.length).count pSCHD 0x1B0 1).newRecon (x.recon_ id x.req.pool)).1.modSub id
        (fun y => { y with hedged := true, recon := some d.sched.nextSub })).beginRecon d.sched.nextSub set
          (d.rowSrc (d.zns (zoneKey x.nsid x.zone)) (zoneKey x.nsid x.zone) x.row x.unit x.old) (some x.req.pool))
    else d.refuseCredits x.req.pool set.length x.req.par := by
  unfold Dev.hedgeStart
  simp only [hfind]
  refine (if_neg ?_).trans ?_
  · have helective : ¬(x.path ≠ .direct ∧ x.path ≠ .suspend) := fun ⟨hdirect, hsuspend⟩ => hpath.elim hdirect hsuspend
    cases hc : x.cls with
    | a => simp [helective, hhedged, hrecon, hmay, show bitOf _ 4 = true from hc ▸ hon]
    | b => simp [helective, hhedged, hrecon, hmay, show bitOf _ 5 = true from hc ▸ hon]
    | c => exact absurd hc hcls
  · rw [hgroup]
    simp only [haround]
    rfl

theorem Dev.hedgeStart_refused (hpay : d.canPay x.req.pool set.length = false) :
    d.hedgeStart id = d.refuseCredits x.req.pool set.length x.req.par := by
  rw [Dev.hedgeStart_eq hfind hcls hon hhedged hrecon hpath hmay hgroup haround, hpay, if_neg Bool.false_ne_true]

/-- A hedge that is paid for: its pool alone pays, and the sub-request has the new reconstruction beside its own read. -/
theorem Dev.hedgeStart_paid (hpay : d.canPay x.req.pool set.length = true) :
    (d.hedgeStart id).sched.pools = (d.payCredits x.req.pool set.length).sched.pools
      ∧ (d.hedgeStart id).sched.subs.find id = some { x with hedged := true, recon := some d.sched.nextSub } := by
  rw [Dev.hedgeStart_eq hfind hcls hon hhedged hrecon hpath hmay hgroup haround, if_pos hpay]
  rw [Dev.beginRecon_pools (SMap.find_set .. |>.trans (if_pos rfl)), Dev.beginRecon_subs (SMap.find_set .. |>.trans (if_pos rfl))]
  refine ⟨rfl, ?_⟩
  rw [Dev.sub_modSub, if_pos rfl]
  exact congrArg (Option.map _) hfind

end

/-! ## FORCED_CREDIT_GRANT (R112) -/

section
variable {d : Dev} {i : Nat} {r : Recon} (hfirst : d.firstWaiting = some (i, r))
include hfirst

theorem Dev.forcedCreditGrant_enough (hbegun : r.begun = true) (h : r.need ≤ r.good.length + r.outstanding) :
    d.forcedCreditGrant = d.modRecon i (fun y => { y with waiting := false }) := by
  unfold Dev.forcedCreditGrant
  simp only [hfirst, hbegun, Bool.true_eq_false, if_false]
  exact if_pos (Nat.sub_eq_zero_of_le h)

variable {src : RowSrc} {set : List Nat} (hbegun : r.begun = false)
  (hsrc : src = d.rowSrc (d.zns (zoneKey r.nsid r.zone)) (zoneKey r.nsid r.zone) r.row r.target r.old) (henough : src.need ≤ src.flash.length + src.ready.length)
  (hset : set = (d.prefer (d.zns (zoneKey r.nsid r.zone)) r.row src.flash).take (src.need - src.ready.length))
include hbegun hsrc henough hset

theorem Dev.forcedCreditGrant_eq :
    d.forcedCreditGrant = if d.canPay 65 set.length then (d.payCredits 65 set.length).beginRecon i set src (some 65) else d := by
  unfold Dev.forcedCreditGrant
  simp only [hfirst, hbegun, if_true]
  rw [← hsrc, ← hset]
  exact if_neg (by simp [RowSrc.enough, henough])

theorem Dev.forcedCreditGrant_begins (hpay : d.canPay 65 set.length = true) :
    d.forcedCreditGrant = (d.payCredits 65 set.length).beginRecon i set src (some 65) :=
  (Dev.forcedCreditGrant_eq hfirst hbegun hsrc henough hset).trans (if_pos hpay)

theorem Dev.forcedCreditGrant_waits (hpay : d.canPay 65 set.length = false) : d.forcedCreditGrant = d := by
  rw [Dev.forcedCreditGrant_eq hfirst hbegun hsrc henough hset, hpay, if_neg Bool.false_ne_true]

end

/-! ## CREDIT_POOL_SPLIT (R109) -/

/-- The same change of each of some pools. -/
def Dev.setPools (d : Dev) (ps : List Nat) (f : Pool → Pool) : Dev := d.each ps (fun x p => x.setPool p f)

theorem Dev.setPools_eq (d : Dev) (ps : List Nat) (f : Pool → Pool) :
    d.setPools ps f = { d with sched := { d.sched with pools := (d.setPools ps f).sched.pools } } := by
  induction ps generalizing d with
  | nil => rfl
  | cons p ps ih => exact ih (d.setPool p f)

theorem Dev.setPools_pool (d : Dev) {ps : List Nat} (f : Pool → Pool) (hps : ps.Nodup) (q : Nat) :
    (d.setPools ps f).pool q = if q ∈ ps then f (d.pool q) else d.pool q := by
  induction ps generalizing d with
  | nil => rfl
  | cons p ps ih =>
    obtain ⟨hp, hps⟩ := List.nodup_cons.mp hps
    rw [show d.setPools (p :: ps) f = (d.setPool p f).setPools ps f from rfl, ih _ hps, Dev.pool_setPool]
    by_cases hq : p = q
    · subst hq
      simp [hp]
    · simp [hq, Ne.symm hq]

/-- The shares of the partitions' pools, 0 to 63. -/
theorem Dev.setPools_partitions (d : Dev) (f : Pool → Pool) (q : Nat) :
    (d.setPools (List.range 64) f).pool q = if q < 64 then f (d.pool q) else d.pool q := by
  rw [Dev.setPools_pool _ _ List.nodup_range]
  simp only [List.mem_range]

/-- A split or a refill that waits no more (R109). -/
def Dev.splitDone (d : Dev) : Dev := { d with sched := { d.sched with splitting := none } }

/-- The credits of the partitions' pools and of the device's own, entering PARTITIONED and leaving it (R108, R109). -/
def Dev.poolsSplit (d : Dev) : Dev :=
  (d.splitDone.setPool 64 (fun x => { x with share := 0, avail := 0 })).setPools (List.range 64) (fun x => { x with share := 1024, avail := 1024 })
def Dev.poolsJoined (d : Dev) : Dev :=
  (d.splitDone.setPools (List.range 64) (fun x => { x with share := 0, avail := 0 })).setPool 64
    (fun x => { x with share := 65536, avail := 65536 - x.held })

theorem Dev.poolsSplit_pool (d : Dev) (q : Nat) : d.poolsSplit.pool q
    = if q < 64 then { d.pool q with share := 1024, avail := 1024 } else if q = 64 then { d.pool 64 with share := 0, avail := 0 } else d.pool q := by
  unfold Dev.poolsSplit
  rw [Dev.setPools_partitions, Dev.pool_setPool]
  by_cases hpart : q < 64
  · rw [if_pos hpart, if_pos hpart, if_neg (by omega)]
    rfl
  · rw [if_neg hpart, if_neg hpart]
    simp only [eq_comm]
    rfl

theorem Dev.poolsJoined_pool (d : Dev) (q : Nat) : d.poolsJoined.pool q
    = if q < 64 then { d.pool q with share := 0, avail := 0 }
      else if q = 64 then { d.pool 64 with share := 65536, avail := 65536 - (d.pool 64).held } else d.pool q := by
  unfold Dev.poolsJoined
  rw [Dev.pool_setPool, Dev.setPools_partitions, Dev.setPools_partitions, if_neg (Nat.lt_irrefl 64)]
  by_cases hpart : q < 64
  · rw [if_pos hpart, if_pos hpart, if_neg (by omega)]
    rfl
  · rw [if_neg hpart, if_neg hpart]
    simp only [eq_comm]
    rfl

theorem Dev.poolsSplit_eq (d : Dev) : d.poolsSplit = { d with sched := { d.sched with splitting := none, pools := d.poolsSplit.sched.pools } } := by
  unfold Dev.poolsSplit
  have h := Dev.setPools_eq (d.splitDone.setPool 64 (fun x => { x with share := 0, avail := 0 })) (List.range 64)
    (fun x => { x with share := 1024, avail := 1024 })
  generalize Dev.setPools _ _ _ = e at h ⊢
  rw [h]
  rfl

theorem Dev.poolsJoined_eq (d : Dev) : d.poolsJoined = { d with sched := { d.sched with splitting := none, pools := d.poolsJoined.sched.pools } } := by
  unfold Dev.poolsJoined
  have h := d.splitDone.setPools_eq (List.range 64) (fun x => { x with share := 0, avail := 0 })
  generalize Dev.setPools _ _ _ = e at h ⊢
  rw [h]
  rfl

section
variable {d : Dev}

theorem Dev.creditPoolSplit_none (h : d.sched.splitting = none) : d.creditPoolSplit = d := by
  unfold Dev.creditPoolSplit
  rw [h]

section
variable (h : d.sched.splitting = some true)
include h

theorem Dev.creditPoolSplit_entering : d.creditPoolSplit = if (d.pool 64).held ≠ 0 then d else d.poolsSplit := by
  unfold Dev.creditPoolSplit
  rw [h]
  rfl

theorem Dev.creditPoolSplit_splits (hfree : (d.pool 64).held = 0) : d.creditPoolSplit = d.poolsSplit :=
  (Dev.creditPoolSplit_entering h).trans (if_neg (not_not_intro hfree))

theorem Dev.creditPoolSplit_held (hheld : (d.pool 64).held ≠ 0) : d.creditPoolSplit = d := (Dev.creditPoolSplit_entering h).trans (if_pos hheld)

end

section
variable (h : d.sched.splitting = some false)
include h

theorem Dev.creditPoolSplit_leaving :
    d.creditPoolSplit = if (List.range 64).any (fun p => (d.pool p).held != 0) then d else d.poolsJoined := by
  unfold Dev.creditPoolSplit
  rw [h]
  rfl

theorem Dev.creditPoolSplit_joins (hfree : ∀ p, p < 64 → (d.pool p).held = 0) : d.creditPoolSplit = d.poolsJoined :=
  (Dev.creditPoolSplit_leaving h).trans (if_neg (by simpa using hfree))

theorem Dev.creditPoolSplit_lent (hheld : ∃ p, p < 64 ∧ (d.pool p).held ≠ 0) : d.creditPoolSplit = d :=
  (Dev.creditPoolSplit_leaving h).trans (if_pos (by simpa using hheld))

end

end

/-- Settles O18: each command is one payment, one refusal or one division, and what it begins leaves the pools alone. -/
theorem creditsAreTakenWholeAndDivided : Obligations.CreditsAreTakenWholeAndDivided := by
  refine ⟨?hedge, ?excluded, ?grant, ?begun, ?split⟩
  case hedge =>
    rintro s id t x g z set hfind rfl hcls hon hhedged hrecon hpath hmay hgroup haround
    have hon' : bitOf (s.clean.cellAt x.epoch pSCHD 0x114 0) x.cls.hedgeBit = true := by
      cases hc : x.cls <;> (rw [hc] at hon; exact hon)
    refine completes_of (·.hedgeStart id) rfl rfl ⟨fun hpay => ?_, fun hpay => ?_⟩
    · obtain ⟨hpools, hsub⟩ := Dev.hedgeStart_paid (d := s.clean) hfind hcls hon' hhedged hrecon hpath hmay hgroup haround hpay
      have hpool : ∀ q, (s.clean.hedgeStart id).pool q = (s.clean.payCredits x.req.pool set.length).pool q := Dev.pool_of_pools hpools
      simp only [hpool, Dev.payCredits_pool, if_true]
      exact ⟨rfl, rfl, rfl, fun q hq => if_neg (Ne.symm hq), hsub⟩
    · rw [Dev.hedgeStart_refused (d := s.clean) hfind hcls hon' hhedged hrecon hpath hmay hgroup haround hpay, Dev.refuseCredits_pool]
      exact ⟨rfl, Dev.refuseCredits_flag .., Dev.refuseCredits_recordsOnly ..⟩
  case excluded =>
    intro s id x hfind h
    exact completes_of (·.hedgeStart id) rfl rfl (Dev.hedgeStart_excluded (d := s.clean) hfind h)
  case grant =>
    rintro s i r z src set hfirst hfind rfl hbegun hsrc henough hset
    refine completes_of Dev.forcedCreditGrant rfl rfl ⟨fun hpay => ?_, Dev.forcedCreditGrant_waits (d := s.clean) hfirst hbegun hsrc henough hset⟩
    rw [Dev.forcedCreditGrant_begins (d := s.clean) hfirst hbegun hsrc henough hset hpay]
    have hpool := Dev.pool_of_pools (Dev.beginRecon_pools (d := s.clean.payCredits 65 set.length) (i := i) hfind set src (some 65)) 65
    rw [hpool, Dev.payCredits_pool, if_pos rfl]
    exact ⟨rfl, rfl, fun y hy => Dev.beginRecon_waiting (d := s.clean.payCredits 65 set.length) hfind set src (some 65) hy⟩
  case begun =>
    intro s i r hfirst hbegun henough
    exact completes_of Dev.forcedCreditGrant rfl rfl (Dev.forcedCreditGrant_enough (d := s.clean) hfirst hbegun henough)
  case split =>
    intro s
    refine completes_of Dev.creditPoolSplit rfl rfl ⟨fun h => ?_, fun h hfree => ?_, fun h hheld => ?_, fun h hfree => ?_, fun h hheld => ?_⟩
    · exact Dev.creditPoolSplit_none (d := s.clean) h
    · rw [Dev.creditPoolSplit_splits (d := s.clean) h hfree]
      have hpool := s.clean.poolsSplit_pool
      exact ⟨fun p hp => by simp [hpool, hp], by simp [hpool], by simp [hpool], by simpa [hpool] using hfree, by simp [hpool], s.clean.poolsSplit_eq⟩
    · exact Dev.creditPoolSplit_held (d := s.clean) h hheld
    · rw [Dev.creditPoolSplit_joins (d := s.clean) h hfree]
      have hpool := s.clean.poolsJoined_pool
      exact ⟨fun p hp => by simp [hpool, hp], by simp [hpool], by simp [hpool], by simp [hpool], s.clean.poolsJoined_eq⟩
    · exact Dev.creditPoolSplit_lent (d := s.clean) h hheld

end Sys2Proof.Machine
end

/-! # Paced streams (O19; R123, R124, R127, R128) -/

section
/-! SUPPORT. What deciding the path of a sub-request leaves unchanged, and each command of a paced stream case by case, with the settled statement after
the laws it rests on. -/

namespace Sys2Proof.Machine

/-! ## What a sub-request's decision leaves (R101) -/

/-- `e` differs from `d` only in what reads that are queued, sent, discarded or failed may change: media and ports, contexts, parity jobs, SCHD but for
the paced streams and their units, and what recording events may change. -/
def Dev.SchedulesOnly (d e : Dev) : Prop :=
  e = { d with regs := e.regs, evnt := e.evnt, fsto := e.fsto, side := e.side, host := e.host, media := e.media, ports := e.ports, prty := e.prty
               sched := { e.sched with streams := d.sched.streams, bufFree := d.sched.bufFree } }

namespace Dev.SchedulesOnly

variable {a d e : Dev}

theorem refl (d : Dev) : d.SchedulesOnly d := rfl

theorem zone (h : d.SchedulesOnly e) : e.zone = d.zone := by rw [h]
theorem mem (h : d.SchedulesOnly e) : e.mem = d.mem := by rw [h]
theorem bufFree (h : d.SchedulesOnly e) : e.sched.bufFree = d.sched.bufFree := by rw [h]

/-- Of such a part, all that may change may change again. -/
theorem frame (h : a.SchedulesOnly d) {regs : Regs} {evnt : Evnt} {fsto : Fsto} {side : Side} {host : HostS} {media : Media} {ports : SMap Port}
    {prty : Prty} {sched : Sched} (hstreams : sched.streams = d.sched.streams := by rfl) (hbuf : sched.bufFree = d.sched.bufFree := by rfl) :
    a.SchedulesOnly { d with
      regs := regs, evnt := evnt, fsto := fsto, side := side, host := host, media := media, ports := ports, prty := prty, sched := sched } := by
  unfold Dev.SchedulesOnly at h ⊢
  rw [h] at hstreams hbuf ⊢
  dsimp only at hstreams hbuf ⊢
  rw [← hstreams, ← hbuf]

theorem of_mediaOnly (h : a.SchedulesOnly d) (g : Dev.MediaOnly d e) : a.SchedulesOnly e := by
  rw [g]
  exact h.frame

theorem ite {p : Prop} [Decidable p] (hd : a.SchedulesOnly d) (he : a.SchedulesOnly e) : a.SchedulesOnly (if p then d else e) := by
  split
  · exact hd
  · exact he

theorem each {α : Type} {l : List α} {f : Dev → α → Dev} (h : a.SchedulesOnly d) (hf : ∀ x b, a.SchedulesOnly x → a.SchedulesOnly (f x b)) :
    a.SchedulesOnly (d.each l f) := by
  induction l generalizing d with
  | nil => exact h
  | cons b l ih => exact ih (hf d b h)

section
variable (h : a.SchedulesOnly d)
include h

theorem raise {page num : Nat} {ps : List Nat} : a.SchedulesOnly (d.raise page num ps) := h.of_mediaOnly (d.raise_mediaOnly ..)

theorem sendDesc {x : Desc} {deadline : Nat} : a.SchedulesOnly (d.sendDesc x deadline) := (h.of_mediaOnly d.mediEpoch_mediaOnly).frame

theorem enqueueReads {pages : List Nat} {sled pos block wl off count due gen : Nat} {w : Word} {susp : Bool} {use : DieUse} :
    a.SchedulesOnly (d.enqueueReads pages sled pos block wl off count due gen w susp use) := h.each fun _ _ hx => hx.frame

theorem suspendDie {k : Nat} : a.SchedulesOnly (d.suspendDie k) := by
  unfold Dev.suspendDie
  dsimp only
  split
  · exact sendDesc h.frame
  · exact sendDesc h.frame
  · exact h

theorem reconReady {i : Nat} : a.SchedulesOnly (d.reconReady i) := by
  unfold Dev.reconReady
  split
  · exact h
  · exact h.frame

theorem askMember {i m : Nat} {pay : Option Nat} : a.SchedulesOnly (d.askMember i m pay) := by
  unfold Dev.askMember
  dsimp only
  split
  · exact h
  · split
    · exact h
    · exact .ite (suspendDie (enqueueReads h.frame)) (enqueueReads h.frame)

theorem beginRecon {i : Nat} {set : List Nat} {src : RowSrc} {pay : Option Nat} : a.SchedulesOnly (d.beginRecon i set src pay) := by
  unfold Dev.beginRecon
  split
  · exact h
  · exact .ite (reconReady h.frame) (each h.frame fun _ _ hx => hx.askMember)

theorem startForced {r : Recon} : a.SchedulesOnly (d.startForced r).1 := by
  unfold Dev.startForced
  dsimp only
  split
  · exact h
  · split
    · exact beginRecon h.frame
    · split
      · exact beginRecon h.frame
      · exact .ite h.frame h.frame

theorem unqueued {u : DieUse} : a.SchedulesOnly (d.unqueued u) := by
  unfold Dev.unqueued
  dsimp only
  split
  · split
    · exact h
    · refine .ite ?_ h.frame
      split
      · exact h.frame
      · exact h.frame
  · exact h

theorem unqueue {p : DieUse → Bool} : a.SchedulesOnly (d.unqueue p) := each h.frame fun _ _ hx => hx.unqueued

theorem reapRecon {i : Nat} : a.SchedulesOnly (d.reapRecon i) := by
  unfold Dev.reapRecon
  split
  · exact h
  · exact .ite h h.frame

theorem endRecon {i : Nat} : a.SchedulesOnly (d.endRecon i) := by
  unfold Dev.endRecon
  split
  · exact h
  · exact reapRecon (unqueue (frame (.ite h.frame h)))

theorem dropSub {id : Nat} : a.SchedulesOnly (d.dropSub id) := by
  unfold Dev.dropSub
  split
  · exact h
  · exact each (frame h.unqueue) fun _ _ hx => hx.endRecon

theorem subFail {id : Nat} : a.SchedulesOnly (d.subFail id) := by
  unfold Dev.subFail
  split
  · exact h
  · split
    · exact h.raise.dropSub
    · exact frame (each h.raise fun _ _ hx => hx.dropSub)

theorem goDirect {id : Nat} {susp : Bool} : a.SchedulesOnly (d.goDirect id susp) := by
  unfold Dev.goDirect
  dsimp only
  split
  · exact h
  · split
    · exact h
    · exact .ite (suspendDie (enqueueReads h.frame)) (enqueueReads h.frame)

theorem goForced {id : Nat} : a.SchedulesOnly (d.goForced id) := by
  unfold Dev.goForced
  split
  · exact h
  · exact .ite h.subFail (frame h.startForced)

theorem goAround {id : Nat} {set : List Nat} {src : RowSrc} : a.SchedulesOnly (d.goAround id set src) := by
  unfold Dev.goAround
  split
  · exact h
  · exact beginRecon h.frame

theorem tryAround {id : Nat} {s : Sub} {set : List Nat} {src : RowSrc} {next : Bool} : a.SchedulesOnly (d.tryAround id s set src next) :=
  .ite (goAround h.frame) (goDirect (raise h.frame))

theorem choosePath {id : Nat} : a.SchedulesOnly (d.choosePath id) := by
  unfold Dev.choosePath
  dsimp only
  split
  · exact h
  · split
    · exact h.subFail
    · split
      · exact h.subFail
      · exact .ite h.goForced (.ite h.goDirect (.ite h.goDirect (.ite h.tryAround (.ite h.goDirect (.ite h.goDirect h.tryAround)))))

theorem addSub {s : Sub} : a.SchedulesOnly (d.addSub s) := choosePath h.frame

end

end Dev.SchedulesOnly

/-! ## READ_AHEAD_ISSUE (R124, R125) -/

/-- The runs of 16 LBAs that a read-ahead of `count` blocks touches and that hold no buffer unit of the stream yet (R122). -/
def Stream.runsLacking (x : Stream) (count : Nat) : List Nat :=
  ((List.range (ceilDiv (x.readPos + count) 16)).drop (x.readPos / 16)).filter (fun r => (x.held.find r).isNone)

/-- A stream's read position moves past what it reads, and units of the pool are taken for it (R122, R124). -/
def Dev.streamMoved (d : Dev) (k : Nat) (runs : List Nat) (count : Nat) : Dev :=
  (d.modStream k (fun y => { y with readPos := y.readPos + count, paused := false })).takeUnits k runs

section
variable (d : Dev) (k : Nat) (runs : List Nat) (count : Nat)

theorem Dev.streamMoved_bufFree : (d.streamMoved k runs count).sched.bufFree = d.sched.bufFree - runs.length := by
  unfold Dev.streamMoved Dev.takeUnits
  dsimp only [Dev.modStream]

theorem Dev.streamMoved_zone : (d.streamMoved k runs count).zone = d.zone := by
  unfold Dev.streamMoved Dev.takeUnits
  dsimp only [Dev.modStream]

theorem Dev.streamMoved_mem : (d.streamMoved k runs count).mem = d.mem := by
  unfold Dev.streamMoved Dev.takeUnits
  dsimp only [Dev.modStream]

end

theorem Dev.readAheadIssue_beyond {d : Dev} {k : Nat} {x : Stream} (hfind : d.sched.streams.find k = some x) (h : x.window ≤ d.streamAhead k x) :
    d.readAheadIssue k = d := by
  unfold Dev.readAheadIssue
  simp only [hfind]
  exact if_pos (.inl h)

/-- Unit `u` of zone `z` is the next that stream `x` may read ahead, with `count` blocks left in it: below the window, wholly below the write pointer,
on flash, and within the buffer units that a stream may hold (R124, R128). -/
structure Dev.ReadsAhead (d : Dev) (k : Nat) (x : Stream) (n : Ns) (z u count : Nat) : Prop where
  find : d.sched.streams.find k = some x
  zone : z = zoneKey x.nsid x.zone
  ns : n = d.zns z
  unit : u = x.readPos / n.lpu
  blocks : count = n.lpu - x.readPos % n.lpu
  window : d.streamAhead k x < x.window
  written : (u + 1) * n.lpu ≤ (d.zn z).wp
  onFlash : ∀ a y, d.areaOf z = some (a, y) → u < y.unit
  units : x.held.length + (x.runsLacking count).length ≤ d.rf pSCHD 0x818 16 9
  whole : d.partitioned = false

/-- A sub-request of stream `k` for `count` blocks of unit `u`, from the stream's read position on. -/
structure Sub.ReadsAhead (sb : Sub) (k : Nat) (x : Stream) (n : Ns) (u count : Nat) : Prop where
  stream : sb.stream = some k
  ctx : sb.ctx = none
  nsid : sb.nsid = x.nsid
  zone : sb.zone = x.zone
  row : sb.row = u / n.d
  unit : sb.unit = u % n.d
  off : sb.off = x.readPos % n.lpu
  blocks : sb.count = count

/-- The stream's next unit is read where the pool has the buffer units that it lacks; else the stream pauses, which is told once. -/
theorem Dev.ReadsAhead.issue {d : Dev} {k : Nat} {x : Stream} {n : Ns} {z u count : Nat} (h : d.ReadsAhead k x n z u count) :
    ∃ sb : Sub, sb.ReadsAhead k x n u count ∧ d.readAheadIssue k =
      if d.sched.bufFree < (x.runsLacking count).length then
        if x.paused then d
        else (d.modStream k (fun y => { y with paused := true })).raise pSCHD 7 [k, x.req.par, x.zone, d.sched.bufFree]
      else (d.streamMoved k (x.runsLacking count) count).addSub sb := by
  obtain ⟨hfind, rfl, rfl, rfl, rfl, hwindow, hwritten, hflash, hunits, hwhole⟩ := h
  -- the sub-request is the one that the equation finds
  apply Exists.intro
  apply And.intro
  case right =>
    unfold Dev.readAheadIssue
    simp only [hfind]
    refine (if_neg ?go).trans ?_
    case go =>
      rintro (hbeyond | hunwritten | hstaged | hmany)
      · omega
      · omega
      · split at hstaged
        case h_1 a y harea => exact absurd (of_decide_eq_true hstaged) (Nat.not_le.mpr (hflash a y harea))
        case h_2 => exact Bool.false_ne_true hstaged
      · exact absurd hunits (Nat.not_le.mpr hmany)
    simp only [hwhole, Bool.false_and, Bool.or_false, decide_eq_true_eq]
    rfl
  case left => exact ⟨rfl, rfl, rfl, rfl, rfl, rfl, rfl, rfl⟩

section
variable {d : Dev} {k : Nat} {x : Stream} {n : Ns} {z u count : Nat} (h : d.ReadsAhead k x n z u count)
include h

/-- With units enough in the pool, the read is queued, and the pool falls by the units taken (R122, R128). -/
theorem Dev.ReadsAhead.issued (hfree : (x.runsLacking count).length ≤ d.sched.bufFree) :
    ∃ sb : Sub, sb.ReadsAhead k x n u count ∧ d.readAheadIssue k =
      (d.streamMoved k (x.runsLacking count) count).addSub sb := by
  obtain ⟨sb, hsb, hissue⟩ := h.issue
  exact ⟨sb, hsb, hissue.trans (if_neg (Nat.not_lt.mpr hfree))⟩

variable (hfree : d.sched.bufFree < (x.runsLacking count).length)
include hfree

theorem Dev.ReadsAhead.pauses (hpaused : x.paused = false) :
    d.readAheadIssue k = (d.modStream k (fun y => { y with paused := true })).raise pSCHD 7 [k, x.req.par, x.zone, d.sched.bufFree] := by
  obtain ⟨_, -, hissue⟩ := h.issue
  rw [hissue, if_pos hfree, hpaused, if_neg Bool.false_ne_true]

theorem Dev.ReadsAhead.stays (hpaused : x.paused = true) : d.readAheadIssue k = d := by
  obtain ⟨_, -, hissue⟩ := h.issue
  rw [hissue, if_pos hfree, if_pos hpaused]

end

/-! ## STREAM_RATE_UPDATE and STREAM_IDLE_EXPIRY (R123, R127) -/

theorem Dev.streamRateUpdate_of {d : Dev} {k : Nat} {x : Stream} (hfind : d.sched.streams.find k = some x) :
    d.streamRateUpdate k = d.modStream k (fun y => { y with
      measured := (x.served.take 10).sum * 10, target := d.streamTarget x.declared ((x.served.take 10).sum * 10), served := 0 :: y.served.take 9
      window := d.streamWindow (d.zns (zoneKey x.nsid x.zone)).plc (d.streamTarget x.declared ((x.served.take 10).sum * 10)) }) := by
  unfold Dev.streamRateUpdate
  rw [hfind]

/-- A stream is gone and its units are free, before that is told (R127, R128). -/
def Dev.streamGone (d : Dev) (k : Nat) (x : Stream) : Dev :=
  { d with sched := { d.sched with streams := d.sched.streams.del k, bufFree := d.sched.bufFree + x.held.length } }

/-- A stream with nothing in flight ends by returning its units. -/
theorem Dev.endStream_of_noSubs {d : Dev} {k : Nat} {x : Stream} (cause : Nat) (hfind : d.sched.streams.find k = some x)
    (hnone : d.sched.subs.all (fun e => e.2.stream != some k) = true) :
    d.endStream k cause = (d.streamGone k x).raise pSCHD 8 [k, x.req.par, x.zone, cause] := by
  have hmine : d.sched.subs.filter (fun e => e.2.stream == some k) = [] := by
    rw [List.filter_eq_nil_iff]
    intro e he
    simpa using List.all_eq_true.mp hnone e he
  unfold Dev.endStream
  simp only [hfind, hmine]
  rfl

/-- Settles O19: each command changes one entry of the streams, and a read-ahead queues one sub-request, which leaves the units alone. -/
theorem pacedStreamsReadAheadAndEnd : Obligations.PacedStreamsReadAheadAndEnd := by
  refine ⟨?issue, ?beyond, ?rate, ?idle⟩
  case issue =>
    intro s k u count runs x z n hfind hz hn hu hcount hruns hwindow hwritten hflash hunits hwhole
    obtain rfl : runs = x.runsLacking count := hruns
    have h : s.clean.ReadsAhead k x n z u count := ⟨hfind, hz, hn, hu, hcount, hwindow, hwritten, hflash, hunits, hwhole⟩
    refine completes_of (·.readAheadIssue k) rfl rfl ⟨fun hfree => ?_, fun hfree hpaused => ?_, h.stays⟩
    · obtain ⟨sb, hsb, hissue⟩ := h.issued hfree
      have honly := (Dev.SchedulesOnly.refl (s.clean.streamMoved k (x.runsLacking count) count)).addSub (s := sb)
      rw [hissue]
      exact ⟨⟨sb, hsb.stream, hsb.ctx, hsb.nsid, hsb.zone, hsb.row, hsb.unit, hsb.off, hsb.blocks, rfl⟩, honly.bufFree.trans (Dev.streamMoved_bufFree ..),
        honly.zone.trans (Dev.streamMoved_zone ..), honly.mem.trans (Dev.streamMoved_mem ..)⟩
    · rw [h.pauses hfree hpaused, Dev.raise_sched, Dev.stream_modStream, if_pos rfl]
      exact ⟨congrArg (Option.map _) hfind, Dev.raise_flag _ _ (by decide), rfl, Dev.raise_recordsOnly ..⟩
  case beyond =>
    intro s k x hfind hwindow
    exact completes_of (·.readAheadIssue k) rfl rfl (Dev.readAheadIssue_beyond (d := s.clean) hfind hwindow)
  case rate =>
    rintro s k m t x hfind rfl rfl
    exact completes_of (·.streamRateUpdate k) rfl rfl (Dev.streamRateUpdate_of (d := s.clean) hfind)
  case idle =>
    intro s k x hfind hnone
    refine completes_of (·.streamIdleExpiry k) rfl rfl ?_
    rw [show s.clean.streamIdleExpiry k = _ from Dev.endStream_of_noSubs 1 hfind hnone, Dev.raise_sched]
    refine ⟨?_, rfl, Dev.raise_flag _ _ (by decide), fun j hj => ?_, Dev.raise_recordsOnly ..⟩
    · exact (SMap.find_del ..).trans (if_pos rfl)
    · exact (SMap.find_del ..).trans (if_neg (Ne.symm hj))

end Sys2Proof.Machine
end

/-! # What the end of a die operation keeps (O17, O20) -/

section
/-! SUPPORT. Programs, erases, copies and zones are settled with no operation opened or closed and no flag cleared; reads are served another way with no
flag cleared.  Each operation has one lemma, named after it, in the order of the model's files, and the lemma of a composition is the composition of
the lemmas. -/

namespace Sys2Proof.Machine

theorem bitOf_setBit_of (w : Word) (i : Nat) {j : Nat} (h : bitOf w j = true) : bitOf (setBit w i) j = true := by
  unfold bitOf setBit at *
  rw [BitVec.getLsbD_or, h, Bool.true_or]

/-- Of a page's header, an epoch that is applied changes EPOCH_APPLIED alone. -/
theorem Dev.applyEpoch_evtStat (d : Dev) (page q : Nat) : ((d.applyEpoch page).hdr q).evtStat = (d.hdr q).evtStat := by
  unfold Dev.applyEpoch
  split
  · rfl
  · extract_lets mine live two older d1
    have hcells : ∀ r, d1.hdr r = d.hdr r := Dev.hdr_of_regs (Dev.each_keeps _ _ _ (fun x => x.regs.hdr) fun _ _ => rfl)
    rw [Dev.setHdr_hdr]
    split
    case isTrue hq =>
      rw [← hq, ← hcells page]
      rfl
    case isFalse =>
      rw [← hcells q]
      rfl

theorem Dev.applyEpoch_media (d : Dev) (page : Nat) : (d.applyEpoch page).media = d.media := by rw [Dev.applyEpoch_eq]

/-! ## What keeps the media, or what `g` reads of them -/

/-- `d` comes from `a` by steps that clear no status flag, and its media hold what `g` reads of them as they did. -/
structure Dev.Keeps {α : Type} (g : Media → α) (a d : Dev) : Prop where
  media : g d.media = g a.media
  flags : ∀ page i, bitOf (a.hdr page).evtStat i = true → bitOf (d.hdr page).evtStat i = true

namespace Dev.Keeps

-- One proof after another: each cites earlier ones, and a waiting thread for each does not fit in the memory of the check.
set_option Elab.async false

variable {α : Type} {g : Media → α} {a d e : Dev}

theorem refl (g : Media → α) (d : Dev) : Keeps g d d := ⟨rfl, fun _ _ hi => hi⟩

theorem trans (h : Keeps g a d) (k : Keeps g d e) : Keeps g a e := ⟨k.media.trans h.media, fun p i hi => k.flags p i (h.flags p i hi)⟩

/-- What is kept of the media as a whole is kept of whatever is read of them. -/
theorem map {β : Type} (h : Keeps g a d) (f : α → β) : Keeps (fun m => f (g m)) a d := ⟨congrArg f h.media, h.flags⟩

/-- Beside the headers of the pages, and what `g` reads of the media, anything may change. -/
theorem frame (h : Keeps g a d) {regs : Regs} {sysc : Sysc} {evnt : Evnt} {ledg : Ledg} {powr : Powr} {clkr : Clkr} {side : Side} {thrm : Thrm}
    {fsto : Fsto} {dgst : Dgst} {cryp : Cryp} {dram : Dram} {host : HostS} {ten : Ten} {zone : ZoneS} {sched : Sched} {media : Media} {prty : Prty}
    {valt : Valt} {peer : Peer} {ports : SMap Port} {mem : Memory} {nor otp : SMap Word} {out : List Out} {free : Nat}
    (hmedia : g media = g d.media := by rfl) (hhdr : regs.hdr = d.regs.hdr := by rfl) :
    Keeps g a { d with
      regs := regs, sysc := sysc, evnt := evnt, ledg := ledg, powr := powr, clkr := clkr, side := side, thrm := thrm, fsto := fsto, dgst := dgst
      cryp := cryp, dram := dram, host := host, ten := ten, zone := zone, sched := sched, media := media, prty := prty, valt := valt, peer := peer
      ports := ports, mem := mem, nor := nor, otp := otp, out := out, free := free } where
  media := hmedia.trans h.media
  flags p i hi := by
    rw [Dev.hdr_of_regs (e := d) hhdr]
    exact h.flags p i hi

theorem ite {p : Prop} [Decidable p] (hd : Keeps g a d) (he : Keeps g a e) : Keeps g a (if p then d else e) := by
  split
  · exact hd
  · exact he

theorem foldl {β : Type} {l : List β} {f : Dev → β → Dev} (h : Keeps g a d) (hf : ∀ x b, Keeps g a x → Keeps g a (f x b)) :
    Keeps g a (l.foldl f d) := by
  induction l generalizing d with
  | nil => exact h
  | cons b l ih => exact ih (hf d b h)

theorem each {β : Type} {l : List β} {f : Dev → β → Dev} (h : Keeps g a d) (hf : ∀ x b, Keeps g a x → Keeps g a (f x b)) :
    Keeps g a (d.each l f) := h.foldl hf

section
variable (h : Keeps g a d)
include h

theorem of_regs (hmedia : e.media = d.media) (hregs : e.regs = d.regs) : Keeps g a e where
  media := (congrArg g hmedia).trans h.media
  flags p i hi := by
    rw [Dev.hdr_of_regs (congrArg Regs.hdr hregs)]
    exact h.flags p i hi

theorem raise {page num : Nat} {ps : List Nat} : Keeps g a (d.raise page num ps) where
  media := (congrArg g (Dev.raise_media ..)).trans h.media
  flags p i hi := by
    rw [Dev.raise_hdr]
    split
    case isTrue hp =>
      subst hp
      exact bitOf_setBit_of _ _ (h.flags page i hi)
    case isFalse => exact h.flags p i hi

theorem applyEpoch {page : Nat} : Keeps g a (d.applyEpoch page) where
  media := (congrArg g (d.applyEpoch_media page)).trans h.media
  flags p i hi := by
    rw [Dev.applyEpoch_evtStat]
    exact h.flags p i hi

theorem count {page off n : Nat} : Keeps g a (d.count page off n) := h.frame

theorem send {l : LinkId} {p : Pkt} : Keeps g a (d.send l p) := by
  cases l with
  | port n => exact h.frame
  | lane n => exact h.frame

theorem psn {p : Pkt} : Keeps g a (d.psn p) := by
  unfold Dev.psn
  dsimp only
  split
  · split
    · exact send h.frame
    · exact h.frame
  · exact h

theorem journal {b : JBody} : Keeps g a (d.journal b) := psn h.frame

theorem aenFn {port fn : Nat} {x : Aen} : Keeps g a (d.aenFn port fn x) :=
  h.of_regs ((d.aenFn_recordsOnly ..).field Dev.media rfl) (Dev.aenFn_regs ..)

theorem warnCheck : Keeps g a d.warnCheck :=
  each h.frame fun _ _ hx => hx.of_regs ((Dev.aen_recordsOnly ..).field Dev.media rfl) (Dev.aen_regs ..)

theorem slowEvent {sled : Nat} : Keeps g a (d.slowEvent sled) := h.frame

theorem opDone : Keeps g a d.opDone := h.count

theorem quiesceCheck {n : Nat} : Keeps g a (d.quiesceCheck n) := .ite (send h.frame) h

/-! ## Machine/ZoneOps.lean -/

theorem budgetWait : Keeps g a d.budgetWait := .ite h.count (raise h.count.frame)

theorem tellZone {z : Nat} : Keeps g a (d.tellZone z) := h.each fun _ _ hx => aenFn hx.frame

theorem setZst {z : Nat} {st : ZoneState} {zfc : Bool} {cause : Nat} : Keeps g a (d.setZst z st zfc cause) := journal h.applyEpoch.frame

theorem rowevt {area : Nat} {v : RowEvent} {unit rs : Nat} : Keeps g a (d.rowevt area v unit rs) := h.psn

theorem areaSt {area : Nat} {st : AreaState} : Keeps g a (d.areaSt area st) := .ite h.frame h.frame

theorem freeArea {area : Nat} : Keeps g a (d.freeArea area) := by
  unfold Dev.freeArea
  extract_lets x n d1 d2 d3 d4
  have hd3 : Keeps g a d3 := .ite h.rowevt.frame h.rowevt.frame
  have hd4 : Keeps g a d4 := by
    unfold d4
    split
    · exact hd3.frame
    · exact hd3
  exact hd4.frame

theorem tryFold {area : Nat} : Keeps g a (d.tryFold area) := by
  unfold Dev.tryFold
  dsimp only
  split
  · exact h
  · split
    · exact h
    · exact .ite h.budgetWait h.frame

theorem padSlot {area : Nat} : Keeps g a (d.padSlot area) := h.frame

theorem failWrites {z status : Nat} : Keeps g a (d.failWrites z status) := each h.frame fun _ _ hx => hx.frame

theorem becomeReadOnly {z : Nat} : Keeps g a (d.becomeReadOnly z) := by
  unfold Dev.becomeReadOnly
  split
  · exact h
  · exact tellZone (raise (failWrites (count (frame (setZst h.frame)))))

theorem drained {area : Nat} : Keeps g a (d.drained area) := .ite h.becomeReadOnly.freeArea h.becomeReadOnly

theorem advance {area : Nat} : Keeps g a (d.advance area) := by
  unfold Dev.advance
  dsimp only
  split
  · exact h
  · exact h.tryFold
  · exact h.tryFold
  · split
    · exact h
    · split
      · exact .ite h.freeArea h
      · split
        · exact .ite h.drained h.padSlot.tryFold
        · exact .ite h h.padSlot.tryFold

theorem rowRelease {area : Nat} : Keeps g a (d.rowRelease area) := by
  unfold Dev.rowRelease
  dsimp only
  split
  · exact h
  · exact .ite (rowevt h.frame) h

theorem settleSlot {area j : Nat} : Keeps g a (d.settleSlot area j) := .ite (.ite (areaSt (frame h.frame)) (frame h.frame)) h.frame

theorem unitConfirmed {z rs j : Nat} : Keeps g a (d.unitConfirmed z rs j) := by
  unfold Dev.unitConfirmed
  split
  · exact h
  · exact h.settleSlot.rowevt.rowRelease.advance

theorem unitDiscarded {z rs j : Nat} : Keeps g a (d.unitDiscarded z rs j) := by
  unfold Dev.unitDiscarded
  split
  · exact h
  · exact advance h.settleSlot.rowevt.frame

theorem unitSkipped {z rs j : Nat} : Keeps g a (d.unitSkipped z rs j) := by
  unfold Dev.unitSkipped
  split
  · exact h.unitDiscarded
  · exact advance (rowRelease h.settleSlot.rowevt.frame)

theorem makeReadOnly {z sled rs : Nat} : Keeps g a (d.makeReadOnly z sled rs) := by
  unfold Dev.makeReadOnly
  dsimp only
  split
  · exact unitSkipped (areaSt h.frame)
  · exact becomeReadOnly h.frame

/-! ## Machine/CopyOps.lean -/

theorem loseRow {z rs sled : Nat} : Keeps g a (d.loseRow z rs sled) := raise (journal h.frame)

theorem missGroup {z gi sled : Nat} : Keeps g a (d.missGroup z gi sled) := h.frame

theorem mapBlock {z gi sled blk : Nat} : Keeps g a (d.mapBlock z gi sled blk) := by
  unfold Dev.mapBlock
  dsimp only
  split
  · exact journal h.frame
  · exact h.frame

theorem rebuildSkip : Keeps g a d.rebuildSkip := by
  unfold Dev.rebuildSkip
  split
  · exact h
  · split
    · exact h
    · exact h.missGroup.frame

end

end Dev.Keeps

/-! ## What keeps the open operations, the blocks, and the dies but for their queues and marks -/

/-- The open operations, the blocks, and of each die its state and its run of faults. -/
def Media.ledger (m : Media) : SMap OpenOp × SMap Block × (Nat → DieState × Nat) :=
  (m.ops, m.blocks, fun k => ((m.dies.get Die.reset k).st, (m.dies.get Die.reset k).faultRun))

/-- What every value listed keeps under a change of all, every value read keeps. -/
theorem SMap.get_mapVals_keeps {α β : Type} {dflt : α} (v : α → β) (m : SMap α) {f : Nat → α → α} (hf : ∀ k x, v (f k x) = v x) (i : Nat) :
    v ((m.mapVals f).get dflt i) = v (m.get dflt i) := by
  induction m with
  | nil => rfl
  | cons e m ih =>
    obtain ⟨k, x⟩ := e
    simp only [SMap.mapVals, List.map_cons, SMap.get]
    split
    · exact hf k x
    · exact ih

namespace Dev.Keeps

-- One proof after another: each cites earlier ones, and a waiting thread for each does not fit in the memory of the check.
set_option Elab.async false

variable {a d e : Dev}

theorem ops (h : Keeps Media.ledger a d) : Keeps Media.ops a d := h.map Prod.fst

theorem op (h : Keeps Media.ops a d) (key : Nat) : d.op key = a.op key := congrArg (SMap.find · key) h.media

theorem blocks (h : Keeps Media.ledger a d) : d.media.blocks = a.media.blocks := congrArg (fun l => l.2.1) h.media

theorem st (h : Keeps Media.ledger a d) (k : Nat) : (d.die k).st = (a.die k).st := congrArg (fun l => (l.2.2 k).1) h.media

theorem faultRun (h : Keeps Media.ledger a d) (k : Nat) : (d.die k).faultRun = (a.die k).faultRun := congrArg (fun l => (l.2.2 k).2) h.media

section
variable (h : Keeps Media.ledger a d)
include h

theorem setDie {k : Nat} {f : Die → Die} (hst : ∀ x, (f x).st = x.st := by exact fun _ => rfl)
    (hrun : ∀ x, (f x).faultRun = x.faultRun := by exact fun _ => rfl) : Keeps Media.ledger a (d.setDie k f) := by
  refine h.frame (Prod.ext rfl (Prod.ext rfl (funext fun j => ?_)))
  show ((SMap.get Die.reset (d.media.dies.upd Die.reset k f) j).st, (SMap.get Die.reset (d.media.dies.upd Die.reset k f) j).faultRun) = _
  rw [SMap.get_upd]
  split
  case isTrue hj =>
    subst hj
    rw [hst, hrun]
    rfl
  case isFalse => rfl

theorem enqueue {kind : ItemKind} {deadline : Nat} {epoch : Word} {urgent suspends : Bool} {x : Desc} :
    Keeps Media.ledger a (d.enqueue kind deadline epoch urgent suspends x) := setDie h.frame

theorem enqueueBg {kind : ItemKind} {x : Desc} : Keeps Media.ledger a (d.enqueueBg kind x) := h.enqueue

theorem enqueueErase {b : Nat} {slc : Bool} : Keeps Media.ledger a (d.enqueueErase b slc) := .ite h h.enqueue

theorem urgeItem {k : Nat} {i : QItem} : Keeps Media.ledger a (d.urgeItem k i) := .ite h (raise h.setDie)

theorem makeRunningUrgent {k : Nat} : Keeps Media.ledger a (d.makeRunningUrgent k) := .ite (raise h.setDie) h

theorem floorCheck {k : Nat} : Keeps Media.ledger a (d.floorCheck k) := .ite (h.makeRunningUrgent.foldl fun _ _ hx => hx.urgeItem) h

theorem reserveCheck {k : Nat} : Keeps Media.ledger a (d.reserveCheck k) := by
  unfold Dev.reserveCheck
  extract_lets left d1 d2
  have h1 : Keeps Media.ledger a d1 := .ite (raise h.setDie) h
  have h2 : Keeps Media.ledger a d2 := .ite (raise h1.setDie) h1
  exact h2.warnCheck

theorem mediEpoch : Keeps Media.ledger a d.mediEpoch := .ite h (h.applyEpoch.each fun _ _ hx => hx.reserveCheck)

theorem unqueued {u : DieUse} : Keeps Media.ledger a (d.unqueued u) := by
  unfold Dev.unqueued
  dsimp only
  split
  · split
    · exact h
    · split
      · split
        · exact frame h.frame
        · exact h.frame
      · exact h.frame
  · exact h

theorem unqueue {p : DieUse → Bool} : Keeps Media.ledger a (d.unqueue p) := by
  refine each (h.frame ?_) fun _ _ hx => hx.unqueued
  exact Prod.ext rfl (Prod.ext rfl (funext fun k => SMap.get_mapVals_keeps (fun x : Die => (x.st, x.faultRun)) d.media.dies
    (f := fun _ x => { x with queue := x.queue.filter (fun i => !p i.d.use) }) (fun _ _ => rfl) k))

theorem reapRecon {i : Nat} : Keeps Media.ledger a (d.reapRecon i) := by
  unfold Dev.reapRecon
  split
  · exact h
  · exact .ite h h.frame

theorem endRecon {i : Nat} : Keeps Media.ledger a (d.endRecon i) := by
  unfold Dev.endRecon
  split
  · exact h
  · exact reapRecon (unqueue (frame (.ite h.count h)))

theorem dropSub {id : Nat} : Keeps Media.ledger a (d.dropSub id) := by
  unfold Dev.dropSub
  split
  · exact h
  · exact each h.unqueue.frame fun _ _ hx => hx.endRecon

theorem dropSubs {c : Nat} : Keeps Media.ledger a (d.dropSubs c) := h.each fun _ _ hx => hx.dropSub

theorem subFail {id : Nat} : Keeps Media.ledger a (d.subFail id) := by
  unfold Dev.subFail
  split
  · exact h
  · split
    · exact h.raise.dropSub
    · exact frame h.raise.dropSubs

theorem putBlock {c nsid lba i : Nat} {cipher : List Byte} : Keeps Media.ledger a (d.putBlock c nsid lba i cipher) := by
  unfold Dev.putBlock
  dsimp only
  split
  · exact h.count.frame
  · exact frame h.count.dropSubs

theorem bufferBlock {k lba : Nat} {cipher : List Byte} : Keeps Media.ledger a (d.bufferBlock k lba cipher) := by
  unfold Dev.bufferBlock
  split
  · exact h
  · split
    · exact h
    · exact .ite h h.frame

theorem satisfy {id : Nat} {p : Path} {data : SMap (List Byte)} : Keeps Media.ledger a (d.satisfy id p data) := by
  unfold Dev.satisfy
  split
  · exact h
  · apply dropSub
    split
    · split
      · exact h.count
      · exact frame (frame (h.count.foldl fun _ _ hx => hx.putBlock))
    · split
      · exact h.count
      · exact h.count.foldl fun _ _ hx => hx.bufferBlock

theorem giveUpCopies {k : Nat} : Keeps Media.ledger a (d.giveUpCopies k) := by
  unfold Dev.giveUpCopies
  split
  · exact h
  · split
    · exact h
    · split
      · exact makeReadOnly h.frame
      · exact missGroup h.frame

end

end Dev.Keeps

/-- Beside the block's own entry, a retirement keeps the ledger (R167). -/
theorem Dev.retireBlk_keeps (d : Dev) (b reason : Nat) : Dev.Keeps Media.ledger (d.setBlk b (fun x => { x with st := .retired })) (d.retireBlk b reason) := by
  unfold Dev.retireBlk
  exact .reserveCheck (.raise (.journal (.setDie (.count (.refl ..)))))

namespace Dev.Keeps

-- One proof after another: each cites earlier ones, and a waiting thread for each does not fit in the memory of the check.
set_option Elab.async false

variable {a d e : Dev}

/-! ## What keeps the open operations -/

/-- What keeps more of the media may follow. -/
theorem andThen (h : Keeps Media.ops a d) (k : Keeps Media.ledger d e) : Keeps Media.ops a e := h.trans k.ops

section
variable (h : Keeps Media.ops a d)
include h

theorem retireBlk {b reason : Nat} : Keeps Media.ops a (d.retireBlk b reason) := andThen h.frame (d.retireBlk_keeps b reason)

theorem releaseBlk {b : Nat} : Keeps Media.ops a (d.releaseBlk b) := .ite (andThen h.frame (floorCheck (enqueueErase (.refl ..)))) h

theorem uncertainBlk {b zeros : Nat} : Keeps Media.ops a (d.uncertainBlk b zeros) :=
  .ite (retireBlk (raise (count h.frame))) (andThen (raise (count h.frame)) (floorCheck (enqueueErase (.refl ..))))

theorem takeBlk {b : Nat} : Keeps Media.ops a (d.takeBlk b) := andThen h.frame (floorCheck (.refl ..))

theorem copyNext {i : Nat} : Keeps Media.ops a (d.copyNext i) := by
  unfold Dev.copyNext
  split
  · exact h
  · exact .ite h (.ite (h.each fun _ _ hx => hx.andThen (enqueueBg (.refl ..))) (h.andThen (enqueueBg (.refl ..))))

theorem retireOrRelease {b : Nat} : Keeps Media.ops a (d.retireOrRelease b) := .ite h.retireBlk h.releaseBlk

theorem copyDone {i : Nat} : Keeps Media.ops a (d.copyDone i) := by
  unfold Dev.copyDone
  split
  · exact h
  · extract_lets k media d1 d2
    have hd1 : Keeps Media.ops a d1 := h.frame
    have hd2 : Keeps Media.ops a d2 := hd1.mapBlock.retireOrRelease
    split
    · exact hd2.count.raise
    · split
      · exact hd2.raise.unitConfirmed
      · exact hd2.raise

theorem beginCopy {c : CopyJob} : Keeps Media.ops a (d.beginCopy c) := .ite (copyDone h.frame) (copyNext h.frame)

theorem replaceMember {z rs j : Nat} {failed : Bool} : Keeps Media.ops a (d.replaceMember z rs j failed) := by
  unfold Dev.replaceMember
  dsimp only
  split
  · exact h
  · split
    · exact beginCopy (takeBlk (.ite h.frame h))
    · exact .ite (beginCopy (.ite h.frame h)) (makeReadOnly (.ite h.frame h))

theorem restartCopy {i : Nat} : Keeps Media.ops a (d.restartCopy i) := by
  unfold Dev.restartCopy
  dsimp only
  split
  · exact h
  · split
    · exact replaceMember h.frame
    · split
      · exact beginCopy (takeBlk h.frame)
      · split
        · exact h.frame
        · exact .ite (beginCopy h.frame) (missGroup h.frame)

theorem dropCopies {p : CopyJob → Bool} : Keeps Media.ops a (d.dropCopies p) := by
  refine h.each fun x i hx => ?_
  unfold Dev.dropCopy
  split
  · exact hx
  · extract_lets mine recons d1
    have hd1 : Keeps Media.ops a d1 := hx.andThen (each (unqueue (.refl ..)) fun _ _ hy => hy.endRecon)
    exact .ite hd1.frame (releaseBlk hd1.frame)

theorem rebuildReplace {z rs : Nat} {failed : Bool} : Keeps Media.ops a (d.rebuildReplace z rs failed) := by
  unfold Dev.rebuildReplace
  split
  · exact h
  · split
    · exact h
    · extract_lets s k old d0
      have hd0 : Keeps Media.ops a d0 := .ite h.frame h
      split
      · exact retireOrRelease (mapBlock hd0.frame)
      · split
        · exact beginCopy (takeBlk hd0.frame)
        · exact .ite (beginCopy hd0.frame) (rebuildSkip hd0.frame)

/-- A program that has failed for good opens no operation (R159). -/
theorem progLost {b : Nat} {u : DieUse} {failed : Bool} : Keeps Media.ops a (d.progLost b u failed) := by
  unfold Dev.progLost
  split
  · exact .ite h.replaceMember h.unitDiscarded
  · exact .ite h (restartCopy (retireOrRelease (.ite h.frame h)))
  · exact .ite h.rebuildReplace (.ite (retireOrRelease h.frame) h)
  · exact h

/-- A die that is retired opens no operation (R171). -/
theorem retireDie {k cause : Nat} : Keeps Media.ops a (d.retireDie k cause) := by
  unfold Dev.retireDie
  exact each (raise (each (each (frame h.dropCopies) fun _ _ hx => hx.retireBlk) fun _ _ hx => hx.missGroup)) fun _ _ hx => hx.makeReadOnly

theorem faultCheck {k : Nat} : Keeps Media.ops a (d.faultCheck k) := .ite h.retireDie h

theorem dieIdle {k : Nat} : Keeps Media.ops a (d.dieIdle k) := .ite h h.frame

end

end Dev.Keeps

/-! ## What clears no flag -/

/-- A status flag of a page is set (R43). -/
def Dev.Flagged (d : Dev) (page i : Nat) : Prop := bitOf (d.hdr page).evtStat i = true

theorem Dev.raise_flagged (d : Dev) {page num : Nat} (ps : List Nat) (h : evtFlag page num < 32) : (d.raise page num ps).Flagged page (evtFlag page num) :=
  Dev.raise_flag d ps h

namespace Dev.Flagged

-- One proof after another: each cites earlier ones, and a waiting thread for each does not fit in the memory of the check.
set_option Elab.async false

variable {d e : Dev} {page i : Nat}

theorem ite {p : Prop} [Decidable p] (hd : d.Flagged page i) (he : e.Flagged page i) : (if p then d else e).Flagged page i := by
  split
  · exact hd
  · exact he

theorem each {α : Type} {l : List α} {f : Dev → α → Dev} (h : d.Flagged page i) (hf : ∀ x b, x.Flagged page i → (f x b).Flagged page i) :
    (d.each l f).Flagged page i := by
  induction l generalizing d with
  | nil => exact h
  | cons b l ih => exact ih (hf d b h)

section
variable (h : d.Flagged page i)
include h

theorem keeps {α : Type} {g : Media → α} (k : Dev.Keeps g d e) : e.Flagged page i := k.flags page i h

theorem of_hdr (heq : e.regs.hdr = d.regs.hdr := by rfl) : e.Flagged page i := by
  unfold Dev.Flagged
  rw [Dev.hdr_of_regs heq]
  exact h

theorem raise {q num : Nat} {ps : List Nat} : (d.raise q num ps).Flagged page i := h.keeps (.raise (.refl Media.ops d))

theorem endRecon {r : Nat} : (d.endRecon r).Flagged page i := h.keeps (.endRecon (.refl _ d))

theorem subFail {id : Nat} : (d.subFail id).Flagged page i := h.keeps (.subFail (.refl _ d))

theorem sendDesc {x : Desc} {deadline : Nat} : (d.sendDesc x deadline).Flagged page i := of_hdr (h.keeps (.mediEpoch (.refl _ d)))

theorem enqueueReads {pages : List Nat} {sled pos block wl off count due gen : Nat} {w : Word} {susp : Bool} {use : DieUse} :
    (d.enqueueReads pages sled pos block wl off count due gen w susp use).Flagged page i :=
  h.keeps (.each (.refl _ d) fun _ _ hx => hx.enqueue)

theorem suspendDie {k : Nat} : (d.suspendDie k).Flagged page i := by
  unfold Dev.suspendDie
  dsimp only
  split
  · exact sendDesc h.of_hdr
  · exact sendDesc h.of_hdr
  · exact h

theorem reconReady {r : Nat} : (d.reconReady r).Flagged page i := by
  unfold Dev.reconReady
  split
  · exact h
  · exact h.of_hdr

theorem askMember {r m : Nat} {pay : Option Nat} : (d.askMember r m pay).Flagged page i := by
  unfold Dev.askMember
  dsimp only
  split
  · exact h
  · split
    · exact h
    · exact .ite (suspendDie (enqueueReads h.of_hdr)) (enqueueReads h.of_hdr)

theorem beginRecon {r : Nat} {set : List Nat} {src : RowSrc} {pay : Option Nat} : (d.beginRecon r set src pay).Flagged page i := by
  unfold Dev.beginRecon
  split
  · exact h
  · exact .ite (reconReady h.of_hdr) (each h.of_hdr fun _ _ hx => hx.askMember)

theorem waitForced {r : Nat} : (d.waitForced r).Flagged page i := .ite h h.of_hdr

theorem startForced {r : Recon} : (d.startForced r).1.Flagged page i := by
  unfold Dev.startForced
  dsimp only
  split
  · exact h
  · split
    · exact beginRecon h.of_hdr
    · split
      · exact beginRecon h.of_hdr
      · exact waitForced h.of_hdr

theorem goForced {id : Nat} : (d.goForced id).Flagged page i := by
  unfold Dev.goForced
  split
  · exact h
  · exact .ite h.subFail h.startForced.of_hdr

theorem goDirect {id : Nat} {susp : Bool} : (d.goDirect id susp).Flagged page i := by
  unfold Dev.goDirect
  dsimp only
  split
  · exact h
  · split
    · exact h
    · exact .ite (suspendDie (enqueueReads h.of_hdr)) (enqueueReads h.of_hdr)

theorem goAround {id : Nat} {set : List Nat} {src : RowSrc} : (d.goAround id set src).Flagged page i := by
  unfold Dev.goAround
  split
  · exact h
  · exact beginRecon h.of_hdr

theorem tryAround {id : Nat} {s : Sub} {set : List Nat} {src : RowSrc} {next : Bool} : (d.tryAround id s set src next).Flagged page i :=
  .ite (goAround h.of_hdr) (goDirect (raise h.of_hdr))

theorem choosePath {id : Nat} : (d.choosePath id).Flagged page i := by
  unfold Dev.choosePath
  dsimp only
  split
  · exact h
  · split
    · exact h.subFail
    · split
      · exact h.subFail
      · exact .ite h.goForced (.ite h.goDirect (.ite h.goDirect (.ite h.tryAround (.ite h.goDirect (.ite h.goDirect h.tryAround)))))

theorem memberCount {r m : Nat} {data : Option (SMap (List Byte))} {x : Recon} : (d.memberCount r m data x).Flagged page i := by
  unfold Dev.memberCount
  dsimp only
  split
  · exact .ite h.of_hdr h.of_hdr
  · exact h.of_hdr

theorem askSpare {r : Nat} {x : Recon} {short : Nat} : (d.askSpare r x short).1.Flagged page i := by
  unfold Dev.askSpare
  dsimp only
  split
  · exact h
  · split
    · exact h.each fun _ _ hx => hx.askMember
    · split
      · exact h.waitForced
      · exact each h.of_hdr fun _ _ hx => hx.askMember

theorem memberEnd {r m : Nat} {data : Option (SMap (List Byte))} : (d.memberEnd r m data).1.Flagged page i := by
  unfold Dev.memberEnd
  dsimp only
  split
  · exact h
  · split
    · exact h.memberCount.keeps (.reapRecon (.refl _ _))
    · split
      · exact h.memberCount
      · split
        · exact h.memberCount.reconReady
        · split
          · exact h.memberCount
          · exact h.memberCount.askSpare

theorem subReconFailed {r id : Nat} : (d.subReconFailed r id).Flagged page i := by
  have hnoAround : ∀ {f : Sub → Sub}, ((d.endRecon r).modSub id f).Flagged page i := h.endRecon.of_hdr
  unfold Dev.subReconFailed
  split
  · exact .ite h.subFail (.ite hnoAround.goForced (.ite hnoAround.choosePath hnoAround))
  · exact h

theorem loseRow {z rs sled : Nat} : (d.loseRow z rs sled).Flagged page i := h.keeps (.loseRow (.refl Media.ops d))

theorem copyGot {c wl : Nat} {data : SMap (List Byte)} : (d.copyGot c wl data).Flagged page i := by
  unfold Dev.copyGot
  split
  · exact h
  · exact .ite h (.ite h.of_hdr h.of_hdr)

theorem copyLost {c wl : Nat} : (d.copyLost c wl).Flagged page i := by
  unfold Dev.copyLost
  split
  · exact h
  · exact copyGot h.loseRow.of_hdr

theorem copyBad {c wl : Nat} : (d.copyBad c wl).Flagged page i := by
  unfold Dev.copyBad
  split
  · exact h
  · exact .ite h (.ite h.copyLost h.startForced)

theorem reconFailed {r : Nat} : (d.reconFailed r).Flagged page i := by
  unfold Dev.reconFailed
  dsimp only
  split
  · exact h
  · split
    · exact h.subReconFailed
    · exact h.endRecon.copyLost
    · split
      · exact h.endRecon
      · split
        · exact h.endRecon.loseRow.of_hdr
        · exact h.endRecon.loseRow.of_hdr

theorem memberDone {r m : Nat} {data : Option (SMap (List Byte))} : (d.memberDone r m data).Flagged page i := by
  unfold Dev.memberDone
  dsimp only
  split
  · exact h.memberEnd
  · exact h.memberEnd.reconFailed

theorem subBad {id : Nat} : (d.subBad id).Flagged page i := by
  unfold Dev.subBad
  split
  · exact h
  · exact .ite h.of_hdr (goForced (keeps h.of_hdr (.unqueue (.refl _ _))))

theorem readBackBad {b : Nat} : (d.readBackPage b false).Flagged page i := by
  unfold Dev.readBackPage
  dsimp only
  split
  · exact h
  · simp only [Bool.and_false, Bool.false_eq_true, if_false]
    exact .ite h.of_hdr (keeps h.of_hdr (.progLost (.count (.refl _ _))))

/-- A read that has not brought its data clears no flag, whatever it was for. -/
theorem readBadUse {u : DieUse} {b result zeros : Nat} : (d.readBadUse u b result zeros).Flagged page i := by
  cases u with
  | sub id => exact h.subBad
  | member r m => exact h.memberDone
  | sample group next => cases next <;> exact h
  | raw => exact h.of_hdr
  | readBack => exact h.readBackBad
  | copyRead c wl => exact h.copyBad
  | _ => exact h

theorem resumeCheck {k : Nat} : (d.resumeCheck k).Flagged page i := .ite h (.ite (sendDesc h.of_hdr) h)

theorem readIdle {k : Nat} : (d.readIdle k).Flagged page i := by
  unfold Dev.readIdle
  split
  · exact h.of_hdr
  · exact h.resumeCheck
  · exact h.resumeCheck
  · exact h

/-- A read that ends badly clears no flag (R112). -/
theorem readBad {key : Nat} {o : OpenOp} {result : Nat} : (d.readBad key o result).Flagged page i := by
  have hclosed : ∀ b, ((d.closeOp key).unpin b).subReturned.Flagged page i := fun _ => h.of_hdr
  unfold Dev.readBad
  dsimp only
  refine readIdle (.ite (of_hdr (hclosed _)) (.ite ?_ (readBadUse (hclosed _))))
  split
  · exact memberDone (of_hdr (hclosed _))
  · exact of_hdr (hclosed _)

end

end Dev.Flagged

end Sys2Proof.Machine
end

/-! # Die operations that run out of their time (O17; R112, R144, R145, R160, R171) -/

section
/-! SUPPORT. What each timeout makes of the part before it is settled, and what its settling leaves, with the settled statement after the laws it rests
on. -/

namespace Sys2Proof.Machine

/-! ## Dies, blocks and open operations after the steps of an end -/

@[simp] theorem Dev.raise_die (d : Dev) (page num : Nat) (ps : List Nat) (k : Nat) : (d.raise page num ps).die k = d.die k :=
  congrArg (fun m => m.dies.get Die.reset k) (d.raise_media page num ps)
@[simp] theorem Dev.raise_op (d : Dev) (page num : Nat) (ps : List Nat) (key : Nat) : (d.raise page num ps).op key = d.op key :=
  congrArg (fun m => m.ops.find key) (d.raise_media page num ps)
@[simp] theorem Dev.raise_blk (d : Dev) (page num : Nat) (ps : List Nat) (b : Nat) : (d.raise page num ps).blk b = d.blk b := by
  unfold Dev.blk
  rw [Dev.raise_media, Dev.raise_die]

@[simp] theorem Dev.closeOp_op (d : Dev) (key : Nat) : (d.closeOp key).op key = none := (SMap.find_del ..).trans (if_pos rfl)

@[simp] theorem Dev.dieFault_blk (d : Dev) (k b : Nat) : (d.dieFault k).blk b = d.blk b := by
  have hbad : ((d.dieFault k).die (b / 2048)).factoryBad = (d.die (b / 2048)).factoryBad := by
    unfold Dev.dieFault
    rw [Dev.die_setDie]
    split
    case isTrue h => rw [h]
    case isFalse => rfl
  unfold Dev.blk
  rw [hbad]
  rfl

/-- A die whose own operation is over is idle, unless its port has left UP (R99). -/
theorem Dev.dieIdle_of_offline {d : Dev} {k : Nat} (h : (d.die k).st = .offline) : d.dieIdle k = d := if_pos h

theorem Dev.dieIdle_die {d : Dev} {k : Nat} (h : (d.die k).st ≠ .offline) : (d.dieIdle k).die k =
    { d.die k with st := .idle, psusp := 0, esusp := 0, running := none, urgent := false, holdUp := false, wait := .none } := by
  unfold Dev.dieIdle
  rw [if_neg h, Dev.die_setDie, if_pos rfl]

@[simp] theorem Dev.dieIdle_faultRun (d : Dev) (k : Nat) : ((d.dieIdle k).die k).faultRun = (d.die k).faultRun := by
  by_cases h : (d.die k).st = .offline
  · rw [Dev.dieIdle_of_offline h]
  · rw [Dev.dieIdle_die h]

theorem satAt_eight_succ {n : Nat} (h : n < 7) : satAt 8 (n + 1) = n + 1 := if_pos (by omega)

@[simp] theorem Dev.quiesceCheck_sched (d : Dev) (n : Nat) : (d.quiesceCheck n).sched = d.sched := by
  unfold Dev.quiesceCheck
  split
  · rfl
  · rfl

@[simp] theorem Dev.quiesceCheck_zone (d : Dev) (n : Nat) : (d.quiesceCheck n).zone = d.zone := by
  unfold Dev.quiesceCheck
  split
  · rfl
  · rfl

@[simp] theorem Dev.quiesceCheck_mem (d : Dev) (n : Nat) : (d.quiesceCheck n).mem = d.mem := by
  unfold Dev.quiesceCheck
  split
  · rfl
  · rfl

/-! ## STATUS_TIMEOUT (R144) -/

/-- A STATUS that has not ended is over: the die counts a fault, event 0x220B is recorded, and nothing is awaited of the die. -/
def Dev.statusLost (d : Dev) (k key : Nat) (ps : List Nat) : Dev :=
  (((d.dieFault k).raise pMEDI 11 ps).closeOp key).opDone.setDie k (fun x => { x with wait := .none })

@[simp] theorem Dev.statusLost_die (d : Dev) (k key : Nat) (ps : List Nat) :
    (d.statusLost k key ps).die k = { d.die k with faultRun := satAt 8 ((d.die k).faultRun + 1), wait := .none } := by
  unfold Dev.statusLost Dev.dieFault
  rw [Dev.die_setDie, if_pos rfl]
  show ({ (Dev.raise _ pMEDI 11 ps).die k with wait := .none } : Die) = _
  rw [Dev.raise_die, Dev.die_setDie, if_pos rfl]

theorem Dev.statusLost_flagged (d : Dev) (k key : Nat) (ps : List Nat) : (d.statusLost k key ps).Flagged pMEDI 10 :=
  .of_hdr (Dev.raise_flagged (num := 11) _ ps (by decide))

theorem Dev.statusTimeout_of {d : Dev} {sled pos key : Nat} {o : OpenOp} (hop : o.d.op = 0x40) (hwait : (d.die (dieKey sled pos)).wait ≠ .poll)
    (hopen : d.media.ops.filter (fun e => dieKey e.2.d.sled e.2.d.pos == dieKey sled pos && e.2.phase == .sent) = [(key, o)]) :
    ∃ ps, d.statusTimeout sled pos
      = (((d.statusLost (dieKey sled pos) key ps).dieIdle (dieKey sled pos)).faultCheck (dieKey sled pos)).quiesceCheck sled := by
  refine ⟨?params, ?eq⟩
  case eq =>
    unfold Dev.statusTimeout
    dsimp only
    rw [hopen, if_neg (by simp [hop]), if_neg hwait]
    unfold Dev.each
    rw [List.foldl_cons, List.foldl_nil, if_pos (by rw [hop]; decide)]
    rfl

/-! ## PROGRAM_TIMEOUT and ERASE_TIMEOUT (R145) -/

/-- A program or an erase has run out of its time: event 0x220B, a slow event of its sled and a fault of its die (R145, R171). -/
def Dev.opLate (d : Dev) (o : OpenOp) : Dev :=
  (((d.raise pMEDI 11 [dieKey o.d.sled o.d.pos, o.d.block, o.d.op, o.ranNs d.now / 1000]).slowEvent o.d.sled).dieFault (dieKey o.d.sled o.d.pos)).opDone

theorem Dev.opLate_flagged (d : Dev) (o : OpenOp) : (d.opLate o).Flagged pMEDI 10 := .of_hdr (Dev.raise_flagged (num := 11) d _ (by decide))

theorem Dev.opLate_faultRun (d : Dev) (o : OpenOp) :
    ((d.opLate o).die (dieKey o.d.sled o.d.pos)).faultRun = satAt 8 ((d.die (dieKey o.d.sled o.d.pos)).faultRun + 1) := by
  unfold Dev.opLate Dev.dieFault
  show (Dev.die (Dev.setDie _ _ _) _).faultRun = _
  rw [Dev.die_setDie, if_pos rfl]
  show satAt 8 (((Dev.raise d _ _ _).die _).faultRun + 1) = _
  rw [Dev.raise_die]

theorem Dev.opLate_blk (d : Dev) (o : OpenOp) (b : Nat) : (d.opLate o).blk b = d.blk b :=
  (Dev.dieFault_blk ..).trans (Dev.raise_blk ..)

theorem Dev.opLate_rf (d : Dev) (o : OpenOp) (lo n : Nat) : (d.opLate o).rf pMEDI 0x808 lo n = d.rf pMEDI 0x808 lo n := by
  have hcell : (d.opLate o).cellI pMEDI 0x808 0 = d.cellI pMEDI 0x808 0 :=
    (Dev.setCellI_ne _ _ (cellKey_ne (by decide) (by decide) _ _ (.inr (by decide)))).trans (Dev.raise_cellI _ _ _ _ _ _ _ (by decide) (by decide))
  exact congrArg (fld · lo n) hcell

theorem Dev.opTimeout_eq (d : Dev) (key : Nat) (o : OpenOp) (result : Nat) : d.opTimeout key o result
    = (((d.opLate o).endWith key o result 0 false).faultCheck (dieKey o.d.sled o.d.pos)).quiesceCheck o.d.sled := rfl

/-- A program that has failed: beside its own it opens and closes no operation, and event 0x2203 is recorded (R158, R159). -/
theorem Dev.progEnd_failed (d : Dev) (key : Nat) (o : OpenOp) (loose : Bool) :
    Dev.Keeps Media.ops (d.closeOp key) (d.progEnd key o 1 loose) ∧ (d.progEnd key o 1 loose).Flagged pMEDI 2 := by
  unfold Dev.progEnd
  extract_lets b k d0 d1
  have h0 : Dev.Keeps Media.ops (d.closeOp key) d0 := by
    unfold d0
    split
    · exact .refl ..
    · exact .count (.refl ..)
  have h1 : Dev.Keeps Media.ops (d.closeOp key) d1 := h0.dieIdle
  rw [if_neg (by decide), if_pos rfl]
  exact ⟨h1.count.raise.progLost, (Dev.raise_flagged (num := 3) _ _ (by decide)).keeps (.progLost (.refl ..))⟩

theorem Dev.programTimeout_of {d : Dev} {port tag : Nat} {o : OpenOp} (hopen : d.op (port * 65536 + tag) = some o) (hop : o.d.op = 0x10) :
    d.programTimeout port tag = (((d.opLate o).progEnd (port * 65536 + tag) o 1 false).faultCheck (dieKey o.d.sled o.d.pos)).quiesceCheck o.d.sled := by
  unfold Dev.programTimeout
  rw [hopen]
  dsimp only
  rw [if_pos hop, Dev.opTimeout_eq]
  unfold Dev.endWith
  rw [if_pos hop]

/-- An UNCERTAIN block, and one that is retired because its attempts have run out, keep their wear; no die counts a fault (R160). -/
theorem Dev.uncertainBlk_of (d : Dev) (b zeros : Nat) :
    (∃ x, (d.uncertainBlk b zeros).media.blocks.find b = some x
      ∧ x.st = (if d.rf pMEDI 0x808 16 8 ≤ (d.blk b).attempts then .retired else .uncertain) ∧ x.erases = (d.blk b).erases)
    ∧ ∀ k, ((d.uncertainBlk b zeros).die k).faultRun = (d.die k).faultRun := by
  unfold Dev.uncertainBlk
  extract_lets x k d1
  have hblk : d1.blk b = { d.blk b with st := .uncertain } := by
    unfold d1
    rw [Dev.raise_blk]
    exact (Dev.blk_setBlk d b (fun y => { y with st := .uncertain }) b).trans (if_pos rfl)
  have hdie : ∀ j, d1.die j = d.die j := fun j => Dev.raise_die ..
  split
  case isTrue hspent =>
    have hkeeps := d1.retireBlk_keeps b 2
    refine ⟨⟨{ d1.blk b with st := .retired }, ?_, rfl, (by rw [hblk])⟩, fun j => ?_⟩
    · rw [hkeeps.blocks, Dev.setBlk_media]
      exact (SMap.find_set ..).trans (if_pos rfl)
    · rw [hkeeps.faultRun, Dev.die_setBlk, hdie]
  case isFalse hleft =>
    have hkeeps : Dev.Keeps Media.ledger d1 ((d1.enqueueErase b x.slc).floorCheck k) := .floorCheck (.enqueueErase (.refl ..))
    refine ⟨⟨{ d.blk b with st := .uncertain }, ?_, rfl, rfl⟩, fun j => ?_⟩
    · rw [hkeeps.blocks, show d1.media = _ from Dev.raise_media ..]
      exact (SMap.find_set ..).trans (if_pos rfl)
    · rw [hkeeps.faultRun, hdie]

theorem Dev.journal_regs (d : Dev) (b : JBody) : (d.journal b).regs = d.regs := by
  unfold Dev.journal Dev.psn
  dsimp only
  split
  · split
    · rfl
    · rfl
  · rfl

theorem Dev.rf_of_regs {d e : Dev} (h : d.regs = e.regs) (page off lo n : Nat) : d.rf page off lo n = e.rf page off lo n := by
  unfold Dev.rf Dev.cell Dev.cellI
  rw [h]

section
variable (d : Dev) (key : Nat) (o : OpenOp)

/-- An erase that has run out of its time leaves its block uncertain (R145). -/
theorem Dev.eraseEnd_late : d.eraseEnd key o 9
    = (((((d.closeOp key).edone (blkKey o.d.sled o.d.pos o.d.block) 1 0xFFFF).uncertainBlk (blkKey o.d.sled o.d.pos o.d.block) 0xFFFF).giveUpCopies
        (dieKey o.d.sled o.d.pos)).subReturned).dieIdle (dieKey o.d.sled o.d.pos) := rfl

/-- Beside its own, its end opens and closes no operation. -/
theorem Dev.eraseEnd_late_keeps : Dev.Keeps Media.ops (d.closeOp key) (d.eraseEnd key o 9) :=
  .dieIdle (.count (.andThen (.uncertainBlk (.journal (.refl ..))) (.giveUpCopies (.refl ..))))

theorem Dev.dieIdle_blocks (k : Nat) : (d.dieIdle k).media.blocks = d.media.blocks := by
  unfold Dev.dieIdle
  split
  · rfl
  · rfl

/-- Its block is settled with its wear as it was, and the die's run of faults stays. -/
theorem Dev.eraseEnd_late_blk {b : Nat} (hb : b = blkKey o.d.sled o.d.pos o.d.block) :
    (∃ x, (d.eraseEnd key o 9).media.blocks.find b = some x
      ∧ x.st = (if d.rf pMEDI 0x808 16 8 ≤ (d.blk b).attempts then .retired else .uncertain) ∧ x.erases = (d.blk b).erases)
    ∧ ((d.eraseEnd key o 9).die (dieKey o.d.sled o.d.pos)).faultRun = (d.die (dieKey o.d.sled o.d.pos)).faultRun := by
  rw [Dev.eraseEnd_late, ← hb]
  obtain ⟨x0, hx0⟩ : ∃ x, x = (d.closeOp key).edone b 1 0xFFFF := ⟨_, rfl⟩
  have hmedia : x0.media = (d.closeOp key).media := by
    rw [hx0]
    exact Dev.journal_media ..
  have hregs : x0.regs = d.regs := by
    rw [hx0]
    exact Dev.journal_regs ..
  have hdie : ∀ k, x0.die k = d.die k := fun k => congrArg (fun m => m.dies.get Die.reset k) hmedia
  have hblock : x0.blk b = d.blk b := by
    unfold Dev.blk
    rw [hdie, hmedia]
    rfl
  obtain ⟨hblk, hrun⟩ := x0.uncertainBlk_of b 0xFFFF
  have hkeeps : Dev.Keeps Media.ledger (x0.uncertainBlk b 0xFFFF) (((x0.uncertainBlk b 0xFFFF).giveUpCopies (dieKey o.d.sled o.d.pos)).subReturned) :=
    .count (.giveUpCopies (.refl ..))
  rw [← hx0, Dev.dieIdle_blocks, hkeeps.blocks, Dev.dieIdle_faultRun, hkeeps.faultRun, ← hblock, ← hdie, ← Dev.rf_of_regs hregs]
  exact ⟨hblk, hrun _⟩

end

theorem Dev.eraseTimeout_of {d : Dev} {port tag : Nat} {o : OpenOp} (hopen : d.op (port * 65536 + tag) = some o) (hop : o.d.op = 0x20) :
    d.eraseTimeout port tag = (((d.opLate o).eraseEnd (port * 65536 + tag) o 9).faultCheck (dieKey o.d.sled o.d.pos)).quiesceCheck o.d.sled := by
  unfold Dev.eraseTimeout
  rw [hopen]
  dsimp only
  rw [if_pos hop, Dev.opTimeout_eq]
  unfold Dev.endWith
  rw [if_neg (by rw [hop]; decide), if_pos hop]

/-! ## MEMBER_TIMEOUT (R112) -/

/-- An open read has run out of its time: event 0x2104, a slow event of its sled, a fault of its die, and its result is discarded. -/
def Dev.readLate (d : Dev) (key : Nat) (o : OpenOp) : Dev :=
  (((d.raise pSCHD 4 [o.d.sled, o.d.pos, (d.now - o.issued) / 1000, 0]).slowEvent o.d.sled).dieFault (dieKey o.d.sled o.d.pos)).modOp key
    (fun y => { y with timedOut := true })

theorem Dev.readLate_flagged (d : Dev) (key : Nat) (o : OpenOp) : (d.readLate key o).Flagged pSCHD 3 :=
  .of_hdr (Dev.raise_flagged (num := 4) d _ (by decide))

theorem Dev.readLate_sched (d : Dev) (key : Nat) (o : OpenOp) : (d.readLate key o).sched = d.sched := by
  have hkept : ∀ (x : Dev) (f : OpenOp → OpenOp), (((x.slowEvent o.d.sled).dieFault (dieKey o.d.sled o.d.pos)).modOp key f).sched = x.sched :=
    fun _ _ => rfl
  exact (hkept ..).trans (Dev.raise_sched ..)

theorem Dev.readLate_op {d : Dev} {key : Nat} {o : OpenOp} (hopen : d.op key = some o) : (d.readLate key o).op key = some { o with timedOut := true } := by
  unfold Dev.readLate
  rw [Dev.op_modOp, if_pos rfl]
  show Option.map _ ((Dev.raise d _ _ _).op key) = _
  rw [Dev.raise_op, hopen]
  rfl

theorem Dev.readLate_faultRun (d : Dev) (key : Nat) (o : OpenOp) :
    ((d.readLate key o).die (dieKey o.d.sled o.d.pos)).faultRun = satAt 8 ((d.die (dieKey o.d.sled o.d.pos)).faultRun + 1) := by
  unfold Dev.readLate Dev.dieFault
  rw [Dev.die_modOp, Dev.die_setDie, if_pos rfl]
  show satAt 8 (((Dev.raise d _ _ _).die _).faultRun + 1) = _
  rw [Dev.raise_die]

/-- Whether a read is still wanted is a matter of SCHD's own state (R111). -/
theorem Dev.stale_of_sched {d e : Dev} (h : d.sched = e.sched) (u : DieUse) (gen : Nat) : d.stale u gen = e.stale u gen := by
  unfold Dev.stale
  rw [h]

section
variable {d : Dev} {port tag : Nat} {o : OpenOp} (hopen : d.op (port * 65536 + tag) = some o) (hread : o.d.op = 1 ∨ o.d.op = 2)
  (htimed : o.timedOut = false)
include hopen hread htimed

/-- The read is given up, by what it was for, and then the die's faults and its port's quiescing are looked at. -/
theorem Dev.memberTimeout_flagged : (d.memberTimeout port tag).Flagged pSCHD 3 := by
  have hlate := d.readLate_flagged (port * 65536 + tag) o
  unfold Dev.memberTimeout
  dsimp only
  rw [hopen]
  dsimp only
  rw [if_neg (by rcases hread with h | h <;> simp [h, htimed])]
  refine .keeps ?_ (.quiesceCheck (.faultCheck (.refl ..)))
  split
  · exact hlate.memberDone
  · exact .ite hlate hlate.readBadUse
  · exact hlate.readBadUse

variable {id : Nat} (huse : o.d.use = .sub id)
include huse

theorem Dev.memberTimeout_sub : d.memberTimeout port tag =
    ((if d.stale o.d.use o.d.gen then d.readLate (port * 65536 + tag) o else (d.readLate (port * 65536 + tag) o).subBad id).faultCheck
      (dieKey o.d.sled o.d.pos)).quiesceCheck o.d.sled := by
  unfold Dev.memberTimeout
  dsimp only
  rw [hopen]
  dsimp only
  rw [if_neg (by rcases hread with h | h <;> simp [h, htimed]), ← Dev.stale_of_sched (d.readLate_sched (port * 65536 + tag) o)]
  simp only [huse]
  rfl

end

/-- With no reconstruction under way for it, a sub-request of which a read has failed is forced to one (R112). -/
theorem Dev.subBad_of_noRecon {d : Dev} {id : Nat} {x : Sub} (hfind : d.sched.subs.find id = some x) (hrecon : x.recon = none) :
    d.subBad id = ((d.modSub id (fun y => { y with ownBad := true })).unqueue (fun u => decide (u = .sub id))).goForced id := by
  unfold Dev.subBad
  rw [hfind]
  simp only [hrecon, Option.any_none, Bool.false_eq_true, false_and, if_false]

theorem Dev.stale_of_wanted {d : Dev} {id gen : Nat} {x : Sub} (hfind : d.sched.subs.find id = some x) (hgen : x.gen = gen) :
    d.stale (.sub id) gen = false := by
  unfold Dev.stale
  simp [hfind, hgen]

/-- Settles O17: each timeout is one fault and one event, the end of its operation beside which none is opened or closed, and no flag is cleared after. -/
theorem dieOperationsTimeOut : Obligations.DieOperationsTimeOut := by
  have htag : ∀ {sled tag : Nat}, sled < 16 → tag < 65536 → (isSlot sled && isTag tag) = true := by
    intro sled tag hsled htag
    simp [isSlot, isTag, hsled, htag]
  refine ⟨?status, ?program, ?erase, ?member⟩
  case status =>
    rintro s sled pos k key o hsled hpos rfl hopen hop - hwait hrun
    refine completes_of (·.statusTimeout sled pos) rfl (by simp [Instr.wf, isSlot, isPos, hsled, hpos]) ?_
    obtain ⟨ps, hlost⟩ := Dev.statusTimeout_of (d := s.clean) hop hwait hopen
    have hdie := s.clean.statusLost_die (dieKey sled pos) key ps
    rw [State.clean_die_, satAt_eight_succ hrun] at hdie
    rw [hlost, Dev.faultCheck_of_ne (by rw [Dev.dieIdle_faultRun, hdie]; show (s.dev.die _).faultRun + 1 ≠ 8; omega), Dev.quiesceCheck_op,
      Dev.quiesceCheck_die]
    have hkeeps : Dev.Keeps Media.ops (s.clean.statusLost (dieKey sled pos) key ps)
      (((s.clean.statusLost (dieKey sled pos) key ps).dieIdle (dieKey sled pos)).quiesceCheck sled) := .quiesceCheck (.dieIdle (.refl ..))
    refine ⟨?_, ?_, ?_, (s.clean.statusLost_flagged ..).keeps hkeeps, fun hst => ?_⟩
    · exact ((Dev.Keeps.dieIdle (.refl ..)).op key).trans (Dev.closeOp_op ..)
    · by_cases hst : ((s.clean.statusLost (dieKey sled pos) key ps).die (dieKey sled pos)).st = .offline
      · rw [Dev.dieIdle_of_offline hst, hdie]
      · rw [Dev.dieIdle_die hst]
    · rw [Dev.dieIdle_faultRun, hdie]
    · rw [Dev.dieIdle_die (by rw [hdie]; exact hst)]
  case program =>
    rintro s sled tag key o hsled htaglt rfl hopen hop
    refine completes_of (·.programTimeout sled tag) rfl (htag hsled htaglt) ?_
    rw [Dev.programTimeout_of (d := s.clean) hopen hop]
    obtain ⟨hend, hfailed⟩ := (s.clean.opLate o).progEnd_failed (sled * 65536 + tag) o false
    refine ⟨(Dev.Keeps.op hend.faultCheck.quiesceCheck _).trans (Dev.closeOp_op ..), ?_, hfailed.keeps (.quiesceCheck (.faultCheck (.refl ..)))⟩
    exact Dev.Flagged.keeps (d := (s.clean.opLate o).closeOp _) (s.clean.opLate_flagged o) hend.faultCheck.quiesceCheck
  case erase =>
    rintro s sled tag key b o hsled htaglt rfl hopen hop - hb hrun
    refine completes_of (·.eraseTimeout sled tag) rfl (htag hsled htaglt) ?_
    obtain ⟨⟨x, hfind, hst, herases⟩, hfault⟩ := (s.clean.opLate o).eraseEnd_late_blk (sled * 65536 + tag) o hb
    have hend := (s.clean.opLate o).eraseEnd_late_keeps (sled * 65536 + tag) o
    rw [Dev.opLate_blk, Dev.opLate_rf] at hst
    rw [Dev.opLate_blk] at herases
    rw [Dev.opLate_faultRun, State.clean_die_, satAt_eight_succ hrun] at hfault
    rw [Dev.eraseTimeout_of (d := s.clean) hopen hop, Dev.faultCheck_of_ne (by rw [hfault]; omega)]
    have hblk := Dev.blk_of_find (d := ((s.clean.opLate o).eraseEnd (sled * 65536 + tag) o 9).quiesceCheck o.d.sled)
      (by rw [Dev.quiesceCheck_media]; exact hfind)
    refine ⟨(Dev.Keeps.op hend.quiesceCheck _).trans (Dev.closeOp_op ..), ?_, by rw [hblk]; exact hst, by rw [hblk]; exact herases⟩
    exact Dev.Flagged.keeps (d := (s.clean.opLate o).closeOp _) (s.clean.opLate_flagged o) hend.quiesceCheck
  case member =>
    rintro s sled tag key o hsled htaglt rfl hopen hread htimed
    refine completes_of (·.memberTimeout sled tag) rfl (htag hsled htaglt) ⟨?_, fun id huse hstale hrun => ?_, fun id x huse hfind hgen hrecon => ?_⟩
    · exact Dev.memberTimeout_flagged (d := s.clean) hopen hread htimed
    · have hstale' : s.clean.stale o.d.use o.d.gen = true := hstale
      have hfault := s.clean.readLate_faultRun (sled * 65536 + tag) o
      rw [State.clean_die_, satAt_eight_succ hrun] at hfault
      rw [Dev.memberTimeout_sub (d := s.clean) hopen hread htimed huse, if_pos hstale', Dev.faultCheck_of_ne (by rw [hfault]; omega)]
      refine ⟨?_, ?_⟩
      · rw [Dev.quiesceCheck_op]
        exact Dev.readLate_op (d := s.clean) hopen
      · rw [Dev.quiesceCheck_sched]
        exact Dev.readLate_sched s.clean ..
    · have hwanted : s.clean.stale o.d.use o.d.gen = false := by
        rw [huse]
        exact Dev.stale_of_wanted (d := s.clean) hfind hgen
      rw [Dev.memberTimeout_sub (d := s.clean) hopen hread htimed huse, if_neg (by simp [hwanted]),
        Dev.subBad_of_noRecon (by rw [Dev.readLate_sched]; exact hfind) hrecon]
      rfl

end Sys2Proof.Machine
end

/-! # Decodes and the raw read (O20; R148 to R150, R154, R155, R175, R176) -/

section
/-! SUPPORT. What a decode notes, how a read ends good, goes up the ladder or fails, by what it was for, and the raw read port, with the settled statement
after the laws it rests on. -/

namespace Sys2Proof.Machine

/-! ## What a decode notes (R148, R152) -/

/-- The part once a decode is counted and its good codewords are kept with their read. -/
def Dev.decodeNoted (d : Dev) (key : Nat) (o : OpenOp) (soft : Bool) (rs : List (Nat × CwRes)) : Dev :=
  ((d.count pMEDI (if soft then 0x184 else 0x180) o.wanted.length).modOp key (fun _ => o.decoded rs)).count pMEDI (0x188 + 4 * o.step)
    (o.wanted.filter (fun c => cwGood rs c && !(d.badStamps o rs).contains c)).length

/-- The part once a decode that was good throughout is told of where it was soft, and the tracker has learnt from it (R149, R152). -/
def Dev.decodeGood (d : Dev) (key : Nat) (o : OpenOp) (soft : Bool) (rs : List (Nat × CwRes)) : Dev :=
  let noted := d.decodeNoted key o soft rs
  let told := if soft then noted.raise pMEDI 1 [dieKey o.d.sled o.d.pos, o.d.block, o.d.wl, o.step] else noted
  if d.stale o.d.use o.d.gen || o.timedOut || decide (o.d.use = .raw) then told else told.track o (o.worst rs)

section
variable {d : Dev} {o : OpenOp} {rs : List (Nat × CwRes)} (key : Nat) (soft : Bool) (hstamps : d.badStamps o rs = [])
include hstamps

theorem Dev.decodeDone_good (hgood : o.wanted.all (cwGood rs) = true) :
    d.decodeDone key o soft rs = (d.decodeGood key o soft rs).readGood key (o.decoded rs) (o.worst rs) := by
  unfold Dev.decodeDone Dev.decodeGood Dev.decodeNoted
  simp only [hstamps, hgood, if_true]

theorem Dev.decodeDone_bad (hbad : o.wanted.all (cwGood rs) = false) :
    d.decodeDone key o soft rs = (d.decodeNoted key o soft rs).climb key (o.decoded rs) := by
  unfold Dev.decodeDone Dev.decodeNoted
  simp only [hstamps, hbad, Bool.false_eq_true, if_false]

end

/-- `e` has the dies, the raw read port and SCHD of `d`, and its zones and memory: what a decode notes and tells changes none of them. -/
structure Dev.Decodes (d e : Dev) : Prop where
  dies : e.media.dies = d.media.dies
  raw : e.media.raw = d.media.raw
  sched : e.sched = d.sched
  zone : e.zone = d.zone
  mem : e.mem = d.mem

namespace Dev.Decodes

variable {d e : Dev}

theorem die (h : d.Decodes e) (k : Nat) : e.die k = d.die k := congrArg (SMap.get Die.reset · k) h.dies

theorem noted (d : Dev) (key : Nat) (o : OpenOp) (soft : Bool) (rs : List (Nat × CwRes)) : d.Decodes (d.decodeNoted key o soft rs) :=
  ⟨rfl, rfl, rfl, rfl, rfl⟩

theorem raise (h : d.Decodes e) (page num : Nat) (ps : List Nat) : d.Decodes (e.raise page num ps) where
  dies := by rw [Dev.raise_media, h.dies]
  raw := by rw [Dev.raise_media, h.raw]
  sched := by rw [Dev.raise_sched, h.sched]
  zone := by rw [Dev.raise_zone, h.zone]
  mem := by rw [Dev.raise_mem, h.mem]

theorem track (h : d.Decodes e) (o : OpenOp) (worst : Nat) : d.Decodes (e.track o worst) := by
  unfold Dev.track
  dsimp only
  split
  · exact { h with }
  · split
    · exact { h with }
    · exact h

theorem good (d : Dev) (key : Nat) (o : OpenOp) (soft : Bool) (rs : List (Nat × CwRes)) : d.Decodes (d.decodeGood key o soft rs) := by
  unfold Dev.decodeGood
  extract_lets n told
  have htold : d.Decodes told := by
    unfold told
    split
    · exact (noted d key o soft rs).raise ..
    · exact noted d key o soft rs
  split
  · exact htold
  · exact htold.track ..

end Dev.Decodes

/-- A soft decode that is good records event 0x2201 (R149). -/
theorem Dev.decodeGood_flagged (d : Dev) (key : Nat) (o : OpenOp) (rs : List (Nat × CwRes)) : (d.decodeGood key o true rs).Flagged pMEDI 0 := by
  unfold Dev.decodeGood
  extract_lets n told
  have htold : told.Flagged pMEDI 0 := Dev.raise_flagged (num := 1) _ _ (by decide)
  split
  · exact htold
  · unfold Dev.track
    dsimp only
    exact .ite htold.of_hdr (.ite htold.of_hdr htold)

/-! ## The end of a read (R99, R116, R150) -/

/-- A read's operation is closed, its pin released, and its return counted (R116, R162). -/
def Dev.readClosed (d : Dev) (key b : Nat) : Dev := ((d.closeOp key).unpin b).subReturned

@[simp] theorem Dev.readClosed_op (d : Dev) (key b : Nat) : (d.readClosed key b).op key = none := d.closeOp_op key

/-- A die whose read is over is idle. -/
theorem Dev.readIdle_reading {d : Dev} {k : Nat} (h : (d.die k).st = .reading) : d.readIdle k = d.setDie k (fun x => { x with st := .idle }) := by
  unfold Dev.readIdle
  rw [h]

theorem Dev.readIdle_reading_st {d : Dev} {k : Nat} (h : (d.die k).st = .reading) : ((d.readIdle k).die k).st = .idle := by
  rw [Dev.readIdle_reading h, Dev.die_setDie, if_pos rfl]

section
variable {d : Dev} {o : OpenOp} (key worst : Nat) (htimed : o.timedOut = false)
include htimed

theorem Dev.readGood_raw (huse : o.d.use = .raw) :
    d.readGood key o worst = ((d.readClosed key (blkKey o.d.sled o.d.pos o.d.block)).rawGood o).readIdle (dieKey o.d.sled o.d.pos) := by
  unfold Dev.readGood
  simp only [huse, htimed]
  rfl

theorem Dev.readGood_sample {g : Nat} {next : Bool} (huse : o.d.use = .sample g next) :
    d.readGood key o worst = ((d.readClosed key (blkKey o.d.sled o.d.pos o.d.block)).sampleEnd (blkKey o.d.sled o.d.pos o.d.block) g next
      (some worst)).readIdle (dieKey o.d.sled o.d.pos) := by
  unfold Dev.readGood
  simp only [huse, htimed]
  rfl

theorem Dev.readGood_sub {id : Nat} (huse : o.d.use = .sub id) (hwanted : d.stale o.d.use o.d.gen = false) :
    d.readGood key o worst
      = ((d.readClosed key (blkKey o.d.sled o.d.pos o.d.block)).subGot id o.d.page o.data).readIdle (dieKey o.d.sled o.d.pos) := by
  have hclosed : ∀ b, (((d.closeOp key).unpin b).subReturned).stale o.d.use o.d.gen = false := fun _ => hwanted
  unfold Dev.readGood
  dsimp only
  rw [htimed, hclosed]
  simp only [huse]
  rfl

theorem Dev.readBad_raw (result : Nat) (huse : o.d.use = .raw) :
    d.readBad key o result
      = ((d.readClosed key (blkKey o.d.sled o.d.pos o.d.block)).rawEnd result true o.zeros).readIdle (dieKey o.d.sled o.d.pos) := by
  unfold Dev.readBad
  simp only [huse, htimed]
  rfl

end

/-- A raw read with DECODE ends with the data of its codewords (R175, R176). -/
theorem Dev.rawGood_decode {d : Dev} (o : OpenOp) (h : d.media.raw.decode = true) : d.rawGood o = { d with media := { d.media with
    raw := { d.media.raw with busy := false, done := true, fail := false, result := 0, data := o.data.flatMap (fun e => e.2.take 4096)
                              zeros := satAt 65535 (zerosOf (o.data.flatMap (fun e => e.2.take 4096))) } } } := by
  unfold Dev.rawGood
  rw [if_neg (by simp [h])]
  rfl

/-- A sampling read changes its block's tracking and what its group's reads have found (R153). -/
theorem Dev.sampleEnd_of (d : Dev) (b g : Nat) (next : Bool) (worst : Nat) : ∃ blocks samples,
    d.sampleEnd b g next (some worst) = { d with media := { d.media with blocks := blocks, samples := samples } } := by
  cases next with
  | false => exact ⟨_, _, rfl⟩
  | true => exact ⟨_, _, rfl⟩

/-! ## A sub-request that is satisfied (R94, R111) -/

theorem Dev.unqueue_subs (d : Dev) (p : DieUse → Bool) : (d.unqueue p).sched.subs = d.sched.subs := by
  refine Dev.each_keeps _ _ _ (fun x => x.sched.subs) fun x u => ?_
  unfold Dev.unqueued
  dsimp only
  split
  · split
    · rfl
    · split
      · split <;> rfl
      · rfl
  · rfl

theorem Dev.endRecon_subs (d : Dev) (i : Nat) : (d.endRecon i).sched.subs = d.sched.subs := by
  have hreap : ∀ x : Dev, (x.reapRecon i).sched.subs = x.sched.subs := by
    intro x
    unfold Dev.reapRecon
    split
    · rfl
    · dsimp only
      split <;> rfl
  unfold Dev.endRecon
  split
  · rfl
  · dsimp only
    rw [hreap, Dev.unqueue_subs]
    split <;> rfl

theorem Dev.dropSub_find (d : Dev) (id : Nat) : (d.dropSub id).sched.subs.find id = none := by
  unfold Dev.dropSub
  split
  case h_1 hnone => exact hnone
  case h_2 =>
    dsimp only
    rw [Dev.each_keeps _ _ _ (fun x => x.sched.subs) Dev.endRecon_subs]
    exact (SMap.find_del ..).trans (if_pos rfl)

theorem Dev.satisfy_find (d : Dev) (id : Nat) (p : Path) (data : SMap (List Byte)) : (d.satisfy id p data).sched.subs.find id = none := by
  unfold Dev.satisfy
  split
  case h_1 hnone => exact hnone
  case h_2 => exact Dev.dropSub_find ..

/-- What a sub-request has once a read of `page` has brought `data`: the codewords of its range beside those it had. -/
def Sub.gathered (x : Sub) (page : Nat) (data : SMap (List Byte)) : SMap (List Byte) :=
  (inRange x.off page data).foldl (fun m e => m.set e.1 e.2) x.got

/-- With its last codeword a sub-request is satisfied. -/
theorem Dev.subGot_last {d : Dev} {id page : Nat} {x : Sub} {data : SMap (List Byte)} (hfind : d.sched.subs.find id = some x)
    (hlast : x.count ≤ (x.gathered page data).length) : d.subGot id page data = d.satisfy id x.path (x.gathered page data) := by
  unfold Dev.subGot
  simp only [hfind]
  exact if_pos hlast

/-- A read that brings its sub-request the last codeword is over, and so is that; its die goes idle. -/
theorem Dev.subGot_ends {e : Dev} {id page k : Nat} {x : Sub} {data : SMap (List Byte)} (key b : Nat) (hfind : e.sched.subs.find id = some x)
    (hlast : x.count ≤ (x.gathered page data).length) (hst : (e.die k).st = .reading) :
    (((e.readClosed key b).subGot id page data).readIdle k).op key = none
      ∧ (((e.readClosed key b).subGot id page data).readIdle k).sched.subs.find id = none
      ∧ ((((e.readClosed key b).subGot id page data).readIdle k).die k).st = .idle
      ∧ (e.Flagged pMEDI 0 → (((e.readClosed key b).subGot id page data).readIdle k).Flagged pMEDI 0) := by
  rw [Dev.subGot_last (d := e.readClosed key b) hfind hlast]
  have hkeeps : Dev.Keeps Media.ledger (e.readClosed key b) ((e.readClosed key b).satisfy id x.path (x.gathered page data)) := .satisfy (.refl ..)
  have hreading := (hkeeps.st k).trans hst
  have hflag : e.Flagged pMEDI 0 → Dev.Flagged _ pMEDI 0 := fun h => h.of_hdr.keeps hkeeps
  have hgone := (e.readClosed key b).satisfy_find id x.path (x.gathered page data)
  refine ⟨?_, ?_, Dev.readIdle_reading_st hreading, ?_⟩ <;> rw [Dev.readIdle_reading hreading]
  · exact (hkeeps.ops.op key).trans (Dev.readClosed_op ..)
  · exact hgone
  · exact hflag

/-! ## The ladder (R154) -/

/-- The ladder goes by MEDI's RETRY_CTRL and by what the sled's bridge can do. -/
theorem Dev.ladderNext_congr {d e : Dev} {o : OpenOp} (hcell : d.cellI pMEDI 0x128 0 = e.cellI pMEDI 0x128 0) (hsleds : d.media.sleds = e.media.sleds) :
    d.ladderNext o = e.ladderNext o := by
  have hctrl : ∀ x : Dev, x.cellAt (x.hdr pMEDI).epochApplied pMEDI 0x128 0 = x.cellI pMEDI 0x128 0 := fun _ => if_pos rfl
  unfold Dev.ladderNext
  rw [hctrl, hctrl, hcell, hsleds]

theorem Dev.ladderNext_decodeNoted (d : Dev) (key : Nat) (o : OpenOp) (soft : Bool) (rs : List (Nat × CwRes)) (p : OpenOp) :
    (d.decodeNoted key o soft rs).ladderNext p = d.ladderNext p := by
  refine Dev.ladderNext_congr ?_ rfl
  unfold Dev.decodeNoted Dev.count
  refine (Dev.setCellI_ne _ _ (by unfold cellKey; omega)).trans ((Dev.setCellI_ne _ _ ?_).trans rfl)
  cases soft <;> decide

theorem Dev.climb_steps {d : Dev} {o : OpenOp} {step vec : Nat} (key : Nat) (hclimbs : o.d.use.climbs = true)
    (hladder : d.ladderNext o = some (step, vec)) (hwanted : d.stale o.d.use o.d.gen = false) (htimed : o.timedOut = false)
    (hup : (d.port o.d.sled).st = .up) (hst : (d.die (dieKey o.d.sled o.d.pos)).st = .reading)
    (hvaulted : (d.port (dieKey o.d.sled o.d.pos / 256)).vaulted = false) : d.climb key o = d.sendStep key o step vec := by
  have htakes : d.takesStep (dieKey o.d.sled o.d.pos) = true := by
    unfold Dev.takesStep
    rw [hst, hvaulted]
    rfl
  unfold Dev.climb
  simp [hclimbs, hladder, hwanted, htimed, hup, htakes]

/-- A ladder step is sent at its vector, and the die goes on reading (R154). -/
theorem Dev.sendStep_of {d : Dev} {key : Nat} {o : OpenOp} (step vec : Nat) (hopen : d.op key = some o)
    (hst : (d.die (dieKey o.d.sled o.d.pos)).st = .reading) :
    (∃ p, (d.sendStep key o step vec).op key = some p ∧ p.phase = .sent ∧ p.step = step ∧ p.d.shift = vec ∧ p.data = o.data)
      ∧ ((d.sendStep key o step vec).die (dieKey o.d.sled o.d.pos)).st = .reading ∧ (d.sendStep key o step vec).sched = d.sched := by
  unfold Dev.sendStep Dev.resendDesc
  extract_lets k left mask src x e d1
  have hkeeps : Dev.Keeps Media.ledger (d.modOp key (fun y => { y with step := step })) e := .mediEpoch (.refl ..)
  have hop : e.op key = some { o with step := step } := by
    rw [hkeeps.ops.op, Dev.op_modOp, if_pos rfl, hopen]
    rfl
  have hdie : (e.die k).st = .reading := (hkeeps.st k).trans hst
  refine ⟨⟨{ o with step := step, d := x, phase := .sent, cwGot := 0, naks := 0 }, ?_, rfl, rfl, rfl, rfl⟩, ?_, ?_⟩
  · show (e.modOp key (fun o => { o with d := x, phase := .sent, cwGot := 0, naks := 0 })).op key = _
    rw [Dev.op_modOp, if_pos rfl, hop]
    rfl
  · rw [Dev.die_setDie, if_pos rfl]
    show (if (e.die k).st = .idle then _ else (e.die k) : Die).st = _
    rw [if_neg (by rw [hdie]; decide)]
    exact hdie
  · exact (Dev.mediEpoch_mediaOnly _).field Dev.sched rfl

theorem Dev.climb_end {d : Dev} {o : OpenOp} (key : Nat) (hclimbs : o.d.use.climbs = true) (hladder : d.ladderNext o = none) :
    (d.climb key o).Flagged pMEDI 1 := by
  have hend : d.climb key o = d.readUncorrectable key o := by
    unfold Dev.climb
    rw [if_neg (by simp [hclimbs]), hladder]
  rw [hend]
  exact (Dev.raise_flagged (num := 2) _ _ (by decide)).readBad

/-! ## The end of a decode, by what its read was for -/

section
variable {d : Dev} {o : OpenOp} {rs : List (Nat × CwRes)} (key : Nat) (soft : Bool) (hstamps : d.badStamps o rs = [])
include hstamps

/-- At the ladder's end the read is uncorrectable: event 0x2202 (R154). -/
theorem Dev.decodeDone_uncorrectable {id : Nat} (hbad : o.wanted.all (cwGood rs) = false) (huse : o.d.use = .sub id)
    (hladder : d.ladderNext (o.decoded rs) = none) : (d.decodeDone key o soft rs).Flagged pMEDI 1 := by
  rw [Dev.decodeDone_bad key soft hstamps hbad]
  exact Dev.climb_end key (congrArg DieUse.climbs huse) ((Dev.ladderNext_decodeNoted ..).trans hladder)

variable (htimed : o.timedOut = false) (hst : (d.die (dieKey o.d.sled o.d.pos)).st = .reading)
include htimed hst

theorem Dev.decodeDone_raw (hgood : o.wanted.all (cwGood rs) = true) (huse : o.d.use = .raw) (hdecode : d.media.raw.decode = true) :
    (d.decodeDone key o soft rs).op key = none ∧ ((d.decodeDone key o soft rs).die (dieKey o.d.sled o.d.pos)).st = .idle
      ∧ (d.decodeDone key o soft rs).media.raw = { d.media.raw with
          busy := false, done := true, fail := false, result := 0, data := (o.decoded rs).data.flatMap (fun e => e.2.take 4096)
          zeros := satAt 65535 (zerosOf ((o.decoded rs).data.flatMap (fun e => e.2.take 4096))) }
      ∧ (d.decodeDone key o soft rs).mem = d.mem := by
  have hnoted := Dev.Decodes.good d key o soft rs
  have hreading := (congrArg Die.st (hnoted.die (dieKey o.d.sled o.d.pos))).trans hst
  rw [Dev.decodeDone_good key soft hstamps hgood, Dev.readGood_raw (o := o.decoded rs) key _ htimed huse]
  generalize d.decodeGood key o soft rs = e at hnoted hreading ⊢
  have hport : e.media.raw.decode = true := (congrArg RawRead.decode hnoted.raw).trans hdecode
  rw [Dev.rawGood_decode (d := e.readClosed key _) _ hport, Dev.readIdle_reading (by exact hreading)]
  refine ⟨e.closeOp_op key, ?_, ?_, hnoted.mem⟩
  · exact congrArg Die.st ((Dev.die_setDie ..).trans (if_pos rfl))
  · rw [← hnoted.raw]
    rfl

theorem Dev.decodeDone_sample {g : Nat} {next : Bool} (hgood : o.wanted.all (cwGood rs) = true) (huse : o.d.use = .sample g next) :
    (d.decodeDone key o soft rs).op key = none ∧ ((d.decodeDone key o soft rs).die (dieKey o.d.sled o.d.pos)).st = .idle
      ∧ (d.decodeDone key o soft rs).mem = d.mem ∧ (d.decodeDone key o soft rs).zone = d.zone := by
  have hnoted := Dev.Decodes.good d key o soft rs
  have hreading := (congrArg Die.st (hnoted.die (dieKey o.d.sled o.d.pos))).trans hst
  rw [Dev.decodeDone_good key soft hstamps hgood, Dev.readGood_sample (o := o.decoded rs) key _ htimed huse]
  generalize d.decodeGood key o soft rs = e at hnoted hreading ⊢
  generalize blkKey (o.decoded rs).d.sled (o.decoded rs).d.pos (o.decoded rs).d.block = b
  obtain ⟨blocks, samples, hsample⟩ := (e.readClosed key b).sampleEnd_of b g next (o.worst rs)
  rw [hsample, Dev.readIdle_reading (by exact hreading)]
  exact ⟨e.closeOp_op key, congrArg Die.st ((Dev.die_setDie ..).trans (if_pos rfl)), hnoted.mem, hnoted.zone⟩

theorem Dev.decodeDone_sub {id : Nat} {x : Sub} (hgood : o.wanted.all (cwGood rs) = true) (huse : o.d.use = .sub id)
    (hfind : d.sched.subs.find id = some x) (hgen : x.gen = o.d.gen)
    (hlast : x.count ≤ (x.gathered o.d.page (o.decoded rs).data).length) :
    (d.decodeDone key o soft rs).op key = none ∧ (d.decodeDone key o soft rs).sched.subs.find id = none
      ∧ ((d.decodeDone key o soft rs).die (dieKey o.d.sled o.d.pos)).st = .idle
      ∧ (soft = true → (d.decodeDone key o soft rs).Flagged pMEDI 0) := by
  have hnoted := Dev.Decodes.good d key o soft rs
  have hreading := (congrArg Die.st (hnoted.die (dieKey o.d.sled o.d.pos))).trans hst
  have htold : soft = true → (d.decodeGood key o soft rs).Flagged pMEDI 0 := by
    rintro rfl
    exact d.decodeGood_flagged key o rs
  have hwanted : (d.decodeGood key o soft rs).stale (o.decoded rs).d.use (o.decoded rs).d.gen = false := by
    rw [Dev.stale_of_sched hnoted.sched]
    exact (congrArg (d.stale · o.d.gen) huse).trans (Dev.stale_of_wanted hfind hgen)
  rw [Dev.decodeDone_good key soft hstamps hgood, Dev.readGood_sub (o := o.decoded rs) key _ htimed huse hwanted]
  generalize d.decodeGood key o soft rs = e at hnoted hreading htold ⊢
  obtain ⟨hop, hgone, hidle, hflag⟩ := Dev.subGot_ends (e := e) key (blkKey o.d.sled o.d.pos o.d.block)
    ((congrArg (fun v => v.subs.find id) hnoted.sched).trans hfind) hlast hreading
  exact ⟨hop, hgone, hidle, fun hsoft => hflag (htold hsoft)⟩

theorem Dev.decodeDone_step {id step vec : Nat} (hopen : d.op key = some o) (hbad : o.wanted.all (cwGood rs) = false) (huse : o.d.use = .sub id)
    (hwanted : d.stale o.d.use o.d.gen = false) (hladder : d.ladderNext (o.decoded rs) = some (step, vec)) (hup : (d.port o.d.sled).st = .up)
    (hvaulted : (d.port (dieKey o.d.sled o.d.pos / 256)).vaulted = false) :
    (∃ p, (d.decodeDone key o soft rs).op key = some p ∧ p.phase = .sent ∧ p.step = step ∧ p.d.shift = vec ∧ p.data = (o.decoded rs).data)
      ∧ ((d.decodeDone key o soft rs).die (dieKey o.d.sled o.d.pos)).st = .reading ∧ (d.decodeDone key o soft rs).sched.subs = d.sched.subs := by
  have hopened : (d.decodeNoted key o soft rs).op key = some (o.decoded rs) := by
    show (Dev.modOp _ key fun _ => o.decoded rs).op key = _
    rw [Dev.op_modOp, if_pos rfl]
    exact congrArg (Option.map _) hopen
  have hclimb := Dev.climb_steps (d := d.decodeNoted key o soft rs) (o := o.decoded rs) key (congrArg DieUse.climbs huse)
    ((Dev.ladderNext_decodeNoted ..).trans hladder) hwanted htimed hup hst hvaulted
  obtain ⟨hsent, hreading, hsched⟩ := Dev.sendStep_of (d := d.decodeNoted key o soft rs) step vec hopened hst
  rw [Dev.decodeDone_bad key soft hstamps hbad, hclimb]
  exact ⟨hsent, hreading, congrArg Sched.subs hsched⟩

theorem Dev.decodeDone_rawBad (hbad : o.wanted.all (cwGood rs) = false) (huse : o.d.use = .raw) :
    (d.decodeDone key o soft rs).op key = none ∧ ((d.decodeDone key o soft rs).die (dieKey o.d.sled o.d.pos)).st = .idle
      ∧ (d.decodeDone key o soft rs).media.raw.busy = false ∧ (d.decodeDone key o soft rs).media.raw.done = false
      ∧ (d.decodeDone key o soft rs).media.raw.fail = true ∧ (d.decodeDone key o soft rs).media.raw.result = 0 := by
  have hclimb : (d.decodeNoted key o soft rs).climb key (o.decoded rs) = (d.decodeNoted key o soft rs).readBad key (o.decoded rs) 0 :=
    if_pos (congrArg DieUse.climbs huse)
  rw [Dev.decodeDone_bad key soft hstamps hbad, hclimb, Dev.readBad_raw (o := o.decoded rs) key htimed 0 huse, Dev.readIdle_reading (by exact hst)]
  exact ⟨Dev.closeOp_op .., congrArg Die.st ((Dev.die_setDie ..).trans (if_pos rfl)), rfl, rfl, rfl, rfl⟩

end

/-! ## The commands (R149, R154, R176) -/

/-- DECODE_END ends the decode that its read waits for, hard or soft. -/
theorem Dev.decodeEnd_of {d : Dev} {port tag : Nat} {o : OpenOp} (rs : List (Nat × CwRes)) (hopen : d.op (port * 65536 + tag) = some o)
    (hphase : o.phase = .decoding ∨ o.phase = .softDecoding) :
    d.decodeEnd port tag rs = (d.decodeDone (port * 65536 + tag) o (decide (o.phase = .softDecoding)) rs).quiesceCheck port := by
  unfold Dev.decodeEnd
  dsimp only
  rw [hopen]
  rcases hphase with h | h
  · simp [h]
  · simp [h]

theorem Dev.softDecodeStart_of {d : Dev} {port tag : Nat} {o : OpenOp} (hopen : d.op (port * 65536 + tag) = some o) (hphase : o.phase = .softWait) :
    d.softDecodeStart port tag = if d.media.ops.count (fun _ x => x.phase == .softDecoding) < d.rf pMEDI 0x800 24 4 then
      d.modOp (port * 65536 + tag) (fun x => { x with phase := .softDecoding }) else d := by
  unfold Dev.softDecodeStart
  dsimp only
  rw [hopen]
  simp only [hphase, true_and]

theorem Dev.enqueue_queue (d : Dev) (kind : ItemKind) (deadline : Nat) (epoch : Word) (urgent suspends : Bool) (x : Desc) :
    ((d.enqueue kind deadline epoch urgent suspends x).die (dieKey x.sled x.pos)).queue = (d.die (dieKey x.sled x.pos)).queue
      ++ [{ kind := kind, deadline := deadline, seq := d.sched.order, queuedAt := d.now, epoch := epoch, urgent := urgent, d := x, suspends := suspends }] :=
  congrArg Die.queue ((Dev.die_setDie ..).trans (if_pos rfl))

/-- The raw read port is taken by a master, with DECODE as it stands (R176). -/
def Dev.rawBegun (d : Dev) (master : Nat) : Dev :=
  { d with media := { d.media with raw := { RawRead.reset with busy := true, decode := bitOf (d.cell pMEDI 0x840) 28, master := master } } }

/-- The READ that it asks for (R176). -/
def Dev.rawDesc (d : Dev) : Desc :=
  Desc.read (d.rf pMEDI 0x820 24 4) (d.rf pMEDI 0x820 16 8) (d.rf pMEDI 0x820 0 13) (d.rf pMEDI 0x840 0 10) (d.rf pMEDI 0x840 20 3)
    (15 * 2 ^ (4 * d.rf pMEDI 0x840 16 2)) 0 (bitOf (d.cell pMEDI 0x840) 24) .raw

section
variable {d : Dev} {master : Nat} (hwrite : d.takesWrite pMEDI 0x844)
include hwrite

theorem Dev.rawRead_busy (h : d.media.raw.busy = true) : d.rawRead master = d.deny pMEDI := by
  unfold Dev.rawRead
  rw [Dev.onWrite_of hwrite]
  exact if_pos h

variable (hfree : d.media.raw.busy = false) {k : Nat} (hk : k = dieKey (d.rf pMEDI 0x820 24 4) (d.rf pMEDI 0x820 16 8))
include hfree hk

theorem Dev.rawRead_absent (h : d.diePresent k = false ∨ (d.die k).retired = true) : d.rawRead master = (d.rawBegun master).rawEnd 7 true 0 := by
  subst hk
  unfold Dev.rawRead
  rw [Dev.onWrite_of hwrite, if_neg (by simp [hfree])]
  exact if_pos h

variable (hpresent : d.diePresent k = true) (hretired : (d.die k).retired = false)
include hpresent hretired

theorem Dev.rawRead_offline (h : (d.die k).st = .offline) : d.rawRead master = (d.rawBegun master).rawEnd 9 true 0 := by
  subst hk
  unfold Dev.rawRead
  rw [Dev.onWrite_of hwrite, if_neg (by simp [hfree])]
  exact (if_neg (by simp [hpresent, hretired])).trans (if_pos h)

/-- A raw read that can be had waits in its die's queue, behind what waits there. -/
theorem Dev.rawRead_queued (h : (d.die k).st ≠ .offline) : d.rawRead master = (d.rawBegun master).enqueue .read
    (d.readDeadline d.sysc.epoch .c (d.sledPlc (d.rf pMEDI 0x820 24 4)) d.now 16384) d.sysc.epoch false false d.rawDesc := by
  subst hk
  unfold Dev.rawRead
  rw [Dev.onWrite_of hwrite, if_neg (by simp [hfree])]
  exact (if_neg (by simp [hpresent, hretired])).trans (if_neg h)

end

/-- Settles O20: a good decode ends its read by what that was for, any other goes on up the ladder or fails, and the raw read takes the port. -/
theorem decodesEndTheirReads : Obligations.DecodesEndTheirReads := by
  refine ⟨?decode, ?soft, ?raw⟩
  case decode =>
    rintro s sled tag key k o rs hsled htaglt rfl hopen hphase rfl hst htimed hstamps
    have hcomplete : ∀ {P : Dev → Prop}, P ((s.clean.decodeDone (sled * 65536 + tag) o (decide (o.phase = .softDecoding)) rs).quiesceCheck sled) →
        Completes (.decodeEnd sled tag rs) s P := by
      intro P hP
      refine completes_of (·.decodeEnd sled tag rs) rfl (by simp [Instr.wf, isSlot, isTag, hsled, htaglt]) ?_
      rw [Dev.decodeEnd_of (d := s.clean) rs hopen hphase]
      exact hP
    refine ⟨fun hgood huse hdecode => hcomplete ?_, fun hgood ⟨g, next, huse⟩ => hcomplete ?_, fun id x hgood huse hfind hgen hlast => hcomplete ?_,
      fun id step vec hbad huse hwanted hladder hup hvaulted => hcomplete ?_, fun id hbad huse hladder => hcomplete ?_,
      fun hbad huse => hcomplete ?_⟩
    · rw [Dev.quiesceCheck_op, Dev.quiesceCheck_die, Dev.quiesceCheck_media, Dev.quiesceCheck_mem]
      exact Dev.decodeDone_raw (d := s.clean) _ _ hstamps htimed hst hgood huse hdecode
    · rw [Dev.quiesceCheck_op, Dev.quiesceCheck_die, Dev.quiesceCheck_mem, Dev.quiesceCheck_zone]
      exact Dev.decodeDone_sample (d := s.clean) _ _ hstamps htimed hst hgood huse
    · rw [Dev.quiesceCheck_op, Dev.quiesceCheck_die, Dev.quiesceCheck_sched]
      obtain ⟨hop, hgone, hidle, htold⟩ := Dev.decodeDone_sub (d := s.clean) _ _ hstamps htimed hst hgood huse hfind hgen hlast
      exact ⟨hop, hgone, hidle, fun hsoft => (htold (decide_eq_true hsoft)).keeps (g := Media.ledger) (.quiesceCheck (.refl ..))⟩
    · rw [Dev.quiesceCheck_op, Dev.quiesceCheck_die, Dev.quiesceCheck_sched]
      exact Dev.decodeDone_step (d := s.clean) _ _ hstamps htimed hst hopen hbad huse hwanted hladder hup hvaulted
    · exact (Dev.decodeDone_uncorrectable (d := s.clean) _ _ hstamps hbad huse hladder).keeps (g := Media.ledger) (.quiesceCheck (.refl ..))
    · rw [Dev.quiesceCheck_op, Dev.quiesceCheck_die, Dev.quiesceCheck_media]
      exact Dev.decodeDone_rawBad (d := s.clean) _ _ hstamps htimed hst hbad huse
  case soft =>
    rintro s sled tag key o hsled htaglt rfl hopen hphase
    have hwf : Instr.wf (.softDecodeStart sled tag) = true := by simp [Instr.wf, isSlot, isTag, hsled, htaglt]
    have hstart := Dev.softDecodeStart_of (d := s.clean) hopen hphase
    refine ⟨fun hslot => completes_of (·.softDecodeStart sled tag) rfl hwf ?_, fun hfull => completes_of (·.softDecodeStart sled tag) rfl hwf ?_⟩
    · rw [hstart.trans (if_pos hslot)]
      refine ⟨?_, rfl⟩
      rw [Dev.op_modOp, if_pos rfl, State.clean_op_, hopen]
      rfl
    · exact hstart.trans (if_neg (Nat.not_lt.mpr hfull))
  case raw =>
    intro s master k hmaster hwrite hk
    have hcomplete : ∀ {P : Dev → Prop}, P (s.clean.rawRead master) → Completes (.rawRead master) s P :=
      completes_of (·.rawRead master) rfl (decide_eq_true hmaster)
    refine ⟨fun hbusy => hcomplete ?_, fun hfree habsent => hcomplete ?_, fun hfree hpresent hretired hoff => hcomplete ?_,
      fun hfree hpresent hretired hon => hcomplete ?_⟩
    · exact Dev.rawRead_busy (d := s.clean) hwrite hbusy
    · exact Dev.rawRead_absent (d := s.clean) hwrite hfree hk habsent
    · exact Dev.rawRead_offline (d := s.clean) hwrite hfree hk hpresent hretired hoff
    · rw [Dev.rawRead_queued (d := s.clean) hwrite hfree hk hpresent hretired hon]
      subst hk
      exact ⟨rfl, ⟨_, Dev.enqueue_queue (s.clean.rawBegun master) .read _ s.dev.sysc.epoch false false s.clean.rawDesc, rfl, rfl, rfl, rfl, rfl⟩,
        rfl, rfl, rfl⟩

end Sys2Proof.Machine
end

/-! # The journal's pages and a pending epoch (O31; R38, R39, R173, R281) -/

section
/-! SUPPORT. A page's PROGRAMs are counted by MEDI, which first applies its pending epoch: where the snapshot names the counter itself, the count goes
on from the value staged.  The settled statement asks for it to go on from the live value in every state. -/

namespace Sys2Proof.Machine

/-- What a completed command says of its next state, it says of what the command's meaning makes of the part. -/
theorem Completes.run {c : Instr} {s : State} {P : Dev → Prop} (h : Completes c s P) {f : Dev → Dev}
    (hrun : exec c s = s.run (Instr.wf c) f) (hwf : Instr.wf c = true) : P (f s.clean) := by
  obtain ⟨t, hexec, -, hP⟩ := h
  rw [hrun, run_next, if_pos hwf] at hexec
  injection hexec with ht
  rw [← ht] at hP
  exact hP

/-- A page is due in an open triple on sleds 0 to 2, and the snapshot that MEDI has not applied yet holds 100 for its counter of descriptors sent. -/
def stagedDescriptorCount : State where
  pending := []
  dev := { Dev.reset with
    regs := { Dev.reset.regs with snap := [(cellKey pMEDI 0x1B8 0, 100)] }
    sysc := { Sysc.reset with cur := .standalone, epoch := 1, time := 1000000 }
    host := { Dev.reset.host with recovered := true }
    valt := { Valt.reset with triples := [([blkKey 0 0 7, blkKey 1 0 7, blkKey 2 0 7], 0)], nextSeq := 1, ring := [⟨0, 0, .ckptBegin 1⟩] } }

/-- The oldest record has waited FLUSH_US. -/
theorem stagedDescriptorCount_due : ∃ r, stagedDescriptorCount.dev.valt.ring.head? = some r
    ∧ r.at_ + stagedDescriptorCount.dev.rf pVALT 0x800 0 16 * 1000 ≤ stagedDescriptorCount.dev.now :=
  ⟨_, rfl, by decide⟩

/-- Three descriptors more than the value staged, where the live counter stood at 0. -/
theorem stagedDescriptorCount_counted : stagedDescriptorCount.dev.cell pMEDI 0x1B8 = 0
    ∧ (stagedDescriptorCount.clean.journalPageWrite []).cell pMEDI 0x1B8 = 103 := by
  decide

/-- Refutes O31: a page is written where MEDI has a pending epoch whose snapshot names its counter of descriptors sent (0x1B8).  The epoch is applied
before the first PROGRAM, so that the counter stands at 103, and not at 3.  The statement has no premise that nothing is staged. -/
theorem not_journalAndCheckpoints : ¬ Obligations.JournalAndCheckpoints := by
  unfold Obligations.JournalAndCheckpoints
  rintro ⟨hpage, -⟩
  obtain ⟨hwrite, -⟩ := hpage stagedDescriptorCount [blkKey 0 0 7, blkKey 1 0 7, blkKey 2 0 7] 0 (by decide) rfl rfl (by decide) (by decide)
  obtain ⟨-, hdue⟩ := hwrite.run (f := (·.journalPageWrite [])) rfl rfl
  obtain ⟨n, pads, -, -, -, -, -, -, -, -, -, -, hcount, -⟩ := hdue (.inr stagedDescriptorCount_due)
  obtain ⟨hlive, hcounted⟩ := stagedDescriptorCount_counted
  rw [hlive, hcounted] at hcount
  exact absurd hcount (by decide)

end Sys2Proof.Machine
end
